-- ==== Sys2Proof/Word.lean ====
section
/-! DEFINITION. The words of the part: 32-bit registers (R457, R485), octets of the exchange RAM, and their plainest
arithmetic. -/

namespace Sys2Proof

/-- A register, a table word or a log word: 32 bits (R457, R478, R485). -/
abbrev Word := BitVec 32

/-- One octet of an addressed RAM. -/
abbrev Byte := BitVec 8

/-- The 64-bit value of a HI and LO pair (R463). -/
def Word.pair (hi lo : Word) : BitVec 64 := hi ++ lo

end Sys2Proof
end

