-- ==== Sys2Proof/Syntax.lean ====
section
/-! DEFINITION. The commands of the block: one constructor of `Instr` for each row of the command table, with what the
row's rule says the command carries. What a command brings from outside the part (a measurement, a frame, a
descriptor, a verdict of the signature check) is an operand of it. -/

namespace Sys2Proof

/-- A host port: A or B (R399, R462). -/
inductive Port where
  | a | b
deriving DecidableEq, Repr

/-- Who makes a register access: port A, port B or the management cores (R461). DESIGN CHOICE (assumption 199). -/
inductive Agent where
  | portA | portB | mgmt
deriving DecidableEq, Repr

/-- What the PTP stack sends (R56, R57): its Sync, Announce or Delay_Req messages, and under the peer delay of 802.1AS its
Pdelay_Req and Pdelay_Resp. -/
inductive PtpKind where
  | sync | announce | delayReq | pdelayReq | pdelayResp
deriving DecidableEq, Repr

/-- One measurement of the PTP servo (R59, R60): the offset from the master in ns (local minus master), the mean path
delay, the portStates the stack has reached (IEEE 1588-2019), the port that the measurement came by and the better of the slave
ports (R56), and the log2 Sync interval that the master announces (R66). -/
structure PtpMeas where
  offset : Int
  mpd : Nat
  stateA : BitVec 4
  stateB : BitVec 4
  stateL : BitVec 4
  port : Port
  best : Port
  logSync : Int
deriving DecidableEq, Repr

/-- What a whole second brings to the reference selector (R46, R72, R84, R90): for REF0 to REF2, which no timestamp unit for
edges measures, the mean frequency offset over the second in 0.1 ppb units, where it was measured; for REF3 to REF7 the
measured edges of the second, where there were any: how many, and the system counter at the last of them in quarter
nanoseconds; each reference's phase against the loop output in ps; the frequency in 0.1 ppb units to which the loop filter would
steer the output; the oscillator temperature in °C; and of the active reference the phase in ps at each measurement within the
second, the oldest first, with how many nanoseconds ago it was (R87). DESIGN CHOICE (assumptions 226, 244). -/
structure RefEval where
  y1 : List (Option Int)
  edges : List (Option (Nat × Nat))
  phase : List Int
  loopFreq : Int
  theta : Int
  errors : List (Nat × Int)
deriving DecidableEq, Repr

/-- What loses lock (R112): a core PLL or one output PLL. -/
inductive LossSource where
  | coreM
  | coreN
  | output (n : Fin 6)
deriving DecidableEq, Repr

/-- A frame on a network port or at the local port, with the fields the part looks at: addresses, the priority and VLAN
of an IEEE 802.1Q tag, the EtherType behind it, the first two octets of the body (VERSION and TYPE under EtherType
0x88B5, R141), the length from DA to FCS, the sequence number of an HSR tag, the sequence number and LAN identifier of a PRP
trailer (R145), the sequence number of an R-TAG, the IP source, IP destination and UDP destination port of a UDP datagram, the
correctionField of a Sync or Delay_Req message (R164), the rest of the frame, and of a datagram whether it comes over IPv6 and
its UDP checksum. -/
structure Frame where
  dst : Nat
  src : Nat
  vlan : Option (Nat × Nat)
  etype : Nat
  sub : Nat
  len : Nat
  hsr : Option Nat
  prp : Option (Nat × Nat)
  rtag : Option Nat
  udp : Option (Nat × Nat × Nat)
  corr : Option Int
  body : List (BitVec 32)
  csum : Option (Bool × BitVec 16) := none
deriving DecidableEq, Repr

/-- How a frame arrived (R154, R156, R160): its FCS; whether it was poisoned; whether the link failed under it; and its
SecTAG's association number, packet number and whether its ICV passes. DESIGN CHOICE (assumption 51). -/
structure RxMark where
  fcsOk : Bool
  poisoned : Bool
  linkLost : Bool
  sec : Option (Nat × Nat × Bool)
deriving DecidableEq, Repr

/-- One descriptor of a host ring, as read from host memory (R411), and the words of its buffer. DESIGN CHOICE (assumption 159). -/
structure Desc where
  addr : BitVec 64
  len : Nat
  spec : Nat
  flags : Nat
  cookie : BitVec 32
  time : Nat
  done : Nat
  status : Nat
  dw7 : BitVec 32
  data : List (BitVec 32)
deriving DecidableEq, Repr

/-- The body of a node announcement (R141). -/
structure Announce where
  node : BitVec 12
  mac : Nat
  retrain : Bool
  conflict : Bool
  alarm : Bool
  octets : BitVec 24
  count : BitVec 32
deriving DecidableEq, Repr

/-- What a received MKPDU brings, as MKA on the management cores reads it (R158, R159, R161, R387): a live peer; whether MKA has
elected the part key server; a SAK distributed under an AN, wrapped; the peer's confirmation that it holds an AN's SAK; and the
frame's octets from DA to the ICV. -/
structure Mkpdu where
  live : Bool
  server : Bool
  install : Option (Fin 4 × BitVec 320)
  confirm : Option (Fin 4)
  octets : List (BitVec 8)
deriving DecidableEq, Repr

/-- An RTP packet that the ring switch delivers (R174, R188): IPv4 source, destination and UDP destination port, VLAN (0
for an untagged or priority-tagged frame), its R-TAG sequence number, and its octets from the RTP header on. -/
structure RtpPacket where
  src : Nat
  dst : Nat
  port : Nat
  vid : Nat
  rtag : Option Nat
  octets : List (BitVec 8)
deriving DecidableEq, Repr

/-- One block instance of a graph image (R216): its type code, its job, where its parameters begin and how many words they
are, its state identifier, its output binding and its input pins, both as encoded. -/
structure GInst where
  ty : Nat
  job : Nat
  base : Nat
  size : Nat
  stateId : Nat
  bind : Nat
  pins : List Nat
deriving DecidableEq, Repr

/-- One job of a graph image (R216): whether it is alarm-tagged, and its core. -/
structure GJob where
  alarm : Bool
  core : Nat
deriving DecidableEq, Repr

/-- An output that relocks while it coasts (R114), and its phase in ps against the steered one, which it absorbs. -/
structure Relock where
  n : Fin 6
  ps : Int
deriving DecidableEq, Repr

/-- What the far end of a link does about EEE (R134, R135): whether it negotiates EEE, and whether the receive path is in LPI. -/
structure PartnerEee where
  on : Bool
  lpi : Bool
deriving DecidableEq, Repr

/-- A copy of a ring check that comes back (R151): the port on which it does, and its octets 16 to 19 (R141). -/
structure CheckCopy where
  p : Port
  count : BitVec 32
deriving DecidableEq, Repr

/-- A graph image (R216): whether its header is well formed, its rate (0 is 48 kHz, 1 is 96 kHz), its jobs and instances
in image order, and its parameter words. -/
structure GImage where
  header : Bool
  rate : Nat
  jobs : List GJob
  insts : List GInst
  params : List (BitVec 32)
deriving DecidableEq, Repr


/-- A frame of a TDM port (R237, R239, R250): how many quarter nanoseconds after the start of its tick its FS edge came, its length in
BCLK periods, and the 24 bits that DIN carried in each slot. -/
structure TdmFrame where
  came : Nat
  bits : Nat
  data : List (BitVec 24)
deriving DecidableEq, Repr

/-- What a TDM port brings to a tick (R239 to R241): the frames whose FS came in the tick that ends, and whether its FIFO ran empty
or full. DESIGN CHOICE (assumption 62). -/
structure TdmIn where
  frames : List TdmFrame
  xrun : Bool
deriving DecidableEq, Repr

/-- A frame of an AES3 receiver (R247, R248): how many quarter nanoseconds after the start of its tick it began, and for each
subframe the audio of time slots 4 to 27, whether its parity fails, and its validity bit. -/
structure AesFrame where
  came : Nat
  data : List (BitVec 24)
  bad : List Bool
  invalid : List Bool
deriving DecidableEq, Repr

/-- What an AES3 receiver brings to a tick (R247): the frames that began in the tick that ends, and whether its FIFO ran empty or
full. DESIGN CHOICE (assumption 62). -/
structure AesIn where
  frames : List AesFrame
  xrun : Bool
deriving DecidableEq, Repr

/-- A block of an AES3 receiver (R249): the six words of channel status and of user data of subframes A and B, and whether
the CRCC passes. -/
structure AesBlock where
  csA : List (BitVec 32)
  csB : List (BitVec 32)
  userA : List (BitVec 32)
  userB : List (BitVec 32)
  crcOk : Bool
deriving DecidableEq, Repr


/-- What a power-stage channel measures in a tick (R259, R262, R274, R275): the junction temperature in °C; the samples at fs of its
post-filter differential voltage in µV and of its bridge current in mA; and the peak bridge current in 10 mA. DESIGN CHOICE
(assumption 73). -/
structure AmpIn where
  tj : Int
  volts : List Int
  amps : List Int
  iPk : Nat
deriving DecidableEq, Repr

/-- A period in which a bridge has met its limit (R268): the channel, and the peak of its instantaneous switch current in mA. -/
structure SwitchCurrent where
  c : Fin 8
  mA : Nat
deriving DecidableEq, Repr

/-- What a channel shows of one switching period (R268, R269): whether the limit acted on either half-bridge, the peak of the
instantaneous switch current in mA, and whether every switch node reached its rail or PGND within 100 ns of its command. -/
structure SwitchPeriod where
  limited : Bool
  mA : Nat
  followed : Bool
deriving DecidableEq, Repr

/-- A rail out of range (R276): its voltage in 10 mV, and for how long in ns it has been there. -/
structure RailOut where
  v : BitVec 16
  ns : Nat
deriving DecidableEq, Repr

/-- A line impedance that a test or probe computes (R292): its real and imaginary parts in millionths of an ohm. -/
structure LineZ where
  re : Int
  im : Int
deriving DecidableEq, Repr

/-- The reference of a line as a calibration makes it (R302): the means of the eight magnitudes, in µΩ, and of the eight phases; the
impedance that has both; and the phase as its register gives it, in 0.01°. -/
structure LineRef where
  mag : Nat
  z : LineZ
  ph : Int
deriving DecidableEq, Repr

/-- What a test or a probe demodulates at the pilot frequency over its integration time (R292): the post-filter voltage in µV, the
bridge current in µA and, for a pair, that of its odd channel (R295), each by its real and imaginary parts. -/
structure Demod where
  vRe : Int
  vIm : Int
  iRe : Int
  iIm : Int
  oddRe : Int
  oddIm : Int
deriving DecidableEq, Repr

/-- What a test slot found (R292, R293): the demodulated voltage and current, whether there was content near the pilot, and whether the
load is of 8 Ω or above, for which the clip level of R257 is the higher one. DESIGN CHOICE (assumption 82). -/
structure LineTest where
  m : Demod
  content : Bool
  eightOhms : Bool
deriving DecidableEq, Repr

/-- How a probe of a latched channel ends (R270): with a measurement, after 200 ms without one, or on an excursion of a switch
current, given in mA. -/
inductive ProbeEnd where
  | measured (m : Demod)
  | timeout
  | excursion (mA : Nat)
deriving DecidableEq, Repr



/-- A lane's copy of what the lanes of the Crown exchange at a cycle's end, and of what is voted (R308, R309): the alarm state and the
active entries; the gate selections; the field outputs; the role, the CUFF drive and the PAIRCLK direction; the fallback multiplexer;
the part and the position in ms of each channel's content; and PNL_DE. -/
structure LaneCopy where
  alarm : Bool
  entries : BitVec 16
  gates : BitVec 16
  zsel : BitVec 16
  rly : BitVec 4
  alarmN : Bool
  faultN : Bool
  role : BitVec 3
  cuff : Bool
  pairclk : Bool
  mux : Bool
  pos : List (Bool × Nat)
  pnlDe : Bool
deriving DecidableEq, Repr

/-- What the lanes of the Crown show in a cycle (R308 to R312): for each lane, its copy where that is not what its inputs lead to; the
level that CUFF reads while this module does not drive it; the triggers that any remaining lane reads as ACTIVE; and the entries whose
message's block cannot be read from the flash. -/
structure LaneIn where
  shown : List (Option LaneCopy)
  cuff : Bool
  active : BitVec 8
  failed : List (Fin 16)
deriving DecidableEq, Repr

/-- A frame on the panel link (R338, R344): its octets, and how many of them came with a parity or framing error. -/
structure MbFrame where
  octets : List (BitVec 8)
  errs : Nat
deriving DecidableEq, Repr

/-- Octets 36 to 227 of the active record (R332): for each channel the gate selection, the deciding entry and the content
code, and the part of the sequence (B where true) and the position within it in ms; the ZSEL and RLY outputs; the spare's
ACTIVE and COVERS and its ZSEL bits; and the zones' gains and MUTE bits. -/
structure PairActive where
  gates : List (Nat × Nat × Nat)
  pos : List (Bool × Nat)
  zsel : BitVec 16
  rly : BitVec 4
  spare : Option (Fin 8)
  spareZsel : BitVec 16
  gains : List (BitVec 16)
  mutes : BitVec 64
deriving DecidableEq, Repr

/-- A record of the liner (R332): octet 21, the fault summary, the tick, the entries, the mode, octet 31, the CRC-32 of the
alarm table, and what an active record adds. DESIGN CHOICE (assumption 113). -/
structure PairRec where
  ready : Bool
  yielding : Bool
  proof : Bool
  proofEnd : Bool
  result : BitVec 2
  faults : BitVec 16
  tick : BitVec 32
  entries : BitVec 16
  mode : BitVec 8
  cause : BitVec 8
  crc : BitVec 32
  act : Option PairActive
deriving DecidableEq, Repr

/-- What secure boot and self-test found (R370 to R372): the BOOTSEL level; for each firmware bank whether the flash gives its image back
as it was written; whether the MAC of the parameter area passes, and the self-test; whether the flash gives the last active graph
image back; and the words of the band table that the firmware fills in (R103, R104). DEDUCED (assumption 144), DESIGN CHOICE (assumption 51). -/
structure AttestIn where
  bootsel : Bool
  bank0 : Bool
  bank1 : Bool
  mac : Bool
  selfTest : Bool
  graph : Bool
  bands : List (BitVec 32)
deriving DecidableEq, Repr



/-- A source of tamper (R392): TAMPER_N, Cerkeha's supply, its clock, or the die's temperature. -/
inductive TamperSource where
  | pin | supply | clock | temp
deriving DecidableEq, Repr

/-- How an access comes (R457): a request of one or two words, one that is longer, or an AtomicOp or locked request. -/
inductive ReqKind where
  | plain | long | atomic
deriving DecidableEq, Repr

/-- What the outside brings to a tick (R11): the TDM and AES3 receivers' samples; which AES3 transmitters' FIFOs ran empty
or full; the power stage's measurements by channel and its rails; the cycles of each DSP core; and whether TAMPER_N is low (R397).
DESIGN CHOICE (assumption 200). -/
structure TickIn where
  tdm : List TdmIn
  aes : List AesIn
  aesTx : List Bool
  amp : List AmpIn
  rails : List (BitVec 16)
  cycles : List Nat
  tamperLow : Bool
deriving DecidableEq, Repr

/-- What the outside brings to a brim (R16): the jobs still running and those not started at the take point (R223), the
newest record of the partner (R333), and the phase of each reference in ps, should the loop switch (R84), behind the eight that of the
other oscillator (R95). DESIGN CHOICE (assumptions 113, 194). -/
structure BrimIn where
  overrun : List Nat
  skipped : List Nat
  liner : Option PairRec
  phase : List Int
deriving DecidableEq, Repr

/-- A master of the exchange RAM (R439): the host ports on side X; the management cores and the Crown on side Y. -/
inductive ExMaster where
  | hostA | hostB | mgmt0 | mgmt1 | crown
deriving DecidableEq, Repr

/-- What the check bits of a word read show (R436, R437). -/
inductive EccState where
  | ok | corrected | uncorrectable
deriving DecidableEq, Repr

/-- An item that holds a cell (R444): one of the pool by its number, or an item of the panel's receive or transmit queue by its
place. -/
inductive EccItem where
  | pool (x : Nat)
  | panelRx (i : Nat)
  | panelTx (i : Nat)
deriving DecidableEq, Repr

/-- One error that the scrubber meets (R436, R437, R444): in the word that it reads of a bank (0 to 63, or 64 and 65 for the spares),
with the item that holds the cell; or in the link table, with the queue. -/
inductive EccFind where
  | bank (b : Fin 66) (uncorrectable : Bool) (item : Option EccItem)
  | link (q : Fin 26)
deriving DecidableEq, Repr


/-- The commands: one constructor for each row of the table, in the table's order. DESIGN CHOICE (assumption 200). -/
inductive Instr where
  /-- TICK_START (R11). -/
  | tickStart (t : TickIn)
  /-- BRIM_START (R16). -/
  | brimStart (b : BrimIn)
  /-- SCHED_LOST (R20). -/
  | schedLost
  /-- APPLY_HOLD (R25): the value written to HOLD. -/
  | applyHold (g : Agent) (hold : Bool)
  /-- APPLY_HOLD_LIMIT (R32): the value written to HOLD_LIMIT. -/
  | applyHoldLimit (g : Agent) (limit : BitVec 8)
  /-- APPLY_ARM (R29). -/
  | applyArm (g : Agent)
  /-- APPLY_DISARM (R25). -/
  | applyDisarm (g : Agent)
  /-- APPLY_TICK_WRITE (R26): the value written to BRIM_TICK. -/
  | applyTickWrite (g : Agent) (tick : Word)
  /-- HOLD_LIMIT_EXPIRE (R32). -/
  | holdLimitExpire
  /-- TIME_SYS_LO_READ (R41). -/
  | timeSysLoRead (g : Agent)
  /-- SYNC_MEASUREMENT (R60). -/
  | syncMeasurement (m : PtpMeas)
  /-- PTP_STEP (R61). -/
  | ptpStep
  /-- REF_ACTIVITY_LOSS (R70): the reference, and the phase of each reference in ps, should the loop switch. -/
  | refActivityLoss (n : Fin 8) (phase : List Int)
  /-- REF_GLITCH (R71): an edge of the reference is rejected. -/
  | refGlitch (n : Fin 8) (phase : List Int)
  /-- REF_EVALUATION (R79). -/
  | refEvaluation (e : RefEval)
  /-- REF_QUALIFY (R74). -/
  | refQualify (n : Fin 8)
  /-- WAIT_TO_RESTORE_EXPIRE (R82). -/
  | waitToRestoreExpire (n : Fin 8) (phase : List Int)
  /-- REF_LOCK (R86). -/
  | refLock
  /-- REF_LOCK_LOSS (R86). -/
  | refLockLoss
  /-- BANDWIDTH_STEP (R88). -/
  | bandwidthStep
  /-- HOLDOVER_VALIDITY_EXPIRE (R93). -/
  | holdoverValidityExpire
  /-- HOLDOVER_LEARN_SAMPLE (R90). -/
  | holdoverLearnSample
  /-- HOLDOVER_MODEL_SAVE (R91). -/
  | holdoverModelSave
  /-- HOLDOVER_MODEL_RESET (R94). -/
  | holdoverModelReset (g : Agent)
  /-- XO_IN_FAIL (R95): the phase absorbed in ps. -/
  | xoInFail (phase : Int)
  /-- CORE_PLL_LOCK (R102): CPLL_N where `n` is true, CPLL_M otherwise. -/
  | corePllLock (n : Bool)
  /-- SYN_OUTPUT_START (R107): the output, and the band in which it has locked. -/
  | synOutputStart (n : Fin 6) (band : BitVec 4)
  /-- SYN_LOCK_LOSS (R112). -/
  | synLockLoss (src : LossSource)
  /-- SYN_RELOCK (R114). -/
  | synRelock (x : Relock)
  /-- SYN_STUCK (R114). -/
  | synStuck (n : Fin 6)
  /-- SYN_RELOCK_CMD (R111): the bits written to RELOCK. -/
  | synRelockCmd (g : Agent) (mask : BitVec 6)
  /-- SYN_PHASE_STEP (R118): the value written to STEP_PS of SYN_PHASEn. -/
  | synPhaseStep (g : Agent) (n : Fin 6) (ps : BitVec 16)
  /-- SYN_PHASE_STEP_DONE (R118). -/
  | synPhaseStepDone (n : Fin 6)
  /-- PULSE_EMIT (R121): PULSE0, PULSE1 or the tick pulse. -/
  | pulseEmit (k : Fin 3)
  /-- PULSE_REALIGN (R122): the bits written to REALIGN. -/
  | pulseRealign (g : Agent) (mask : BitVec 3)
  /-- LINK_CHANGE (R132): the port, and the speed code of NET_STATUS.SPEED, 0 for a link that goes down;
  what the link partner does about EEE (R134, R135). -/
  | linkChange (p : Port) (speed : BitVec 3) (eee : PartnerEee)
  /-- FRAME_RECEIVE (R144). -/
  | frameReceive (p : Port) (f : Frame) (m : RxMark)
  /-- FRAME_TRANSMIT (R165). -/
  | frameTransmit (p : Port)
  /-- LPI_ENTER (R135). -/
  | lpiEnter (p : Port)
  /-- SPEED_TARGET_EVAL (R137): the port, and the target that the firmware has computed, as a code of NET_STATUS.SPEED. -/
  | speedTargetEval (p : Port) (target : BitVec 3)
  /-- SPEED_PENDING_END (R138). -/
  | speedPendingEnd (p : Port)
  /-- SPEED_RETRAIN_TIMEOUT (R138). -/
  | speedRetrainTimeout (p : Port)
  /-- SPEED_SETTLE_TIMEOUT (R138). -/
  | speedSettleTimeout (p : Port)
  /-- SPEED_SUSPEND_EXPIRE (R138). -/
  | speedSuspendExpire (p : Port)
  /-- NODE_ANNOUNCE_SEND (R141). -/
  | nodeAnnounceSend
  /-- NODE_ANNOUNCE_RECEIVE (R142). -/
  | nodeAnnounceReceive (p : Port) (m : Announce)
  /-- NODE_ENTRY_EXPIRE (R142). -/
  | nodeEntryExpire (n : BitVec 12)
  /-- NODE_CONFLICT_CLEAR (R143). -/
  | nodeConflictClear
  /-- RING_CHECK_SEND (R141). -/
  | ringCheckSend
  /-- RING_CHECK_RECEIVE (R151). -/
  | ringCheckReceive (x : CheckCopy)
  /-- RING_CHECK_TIMEOUT (R151): the copy due on a port did not return within CHK_MS. -/
  | ringCheckTimeout (p : Port)
  /-- DUP_ENTRY_FORGET (R149): table 0 (port A), 1 (port B) or 2 (local), and the source address of the entry. -/
  | dupEntryForget (t : Fin 3) (src : Nat)
  /-- RING_ORIGINATE_RESUME (R149). -/
  | ringOriginateResume
  /-- FRER_RECOVERY_RESET (R146): the receive flow. -/
  | frerRecoveryReset (flow : Fin 128)
  /-- SUPERVISION_SEND (R147). -/
  | supervisionSend
  /-- MKA_HELLO (R158). -/
  | mkaHello (p : Port)
  /-- MKPDU_RECEIVE (R158). -/
  | mkpduReceive (p : Port) (m : Mkpdu)
  /-- OLD_SA_DELETE (R159). -/
  | oldSaDelete (p : Port)
  /-- MKA_PEER_LOSS (R158). -/
  | mkaPeerLoss (p : Port)
  /-- QBV_CYCLE_START (R167). -/
  | qbvCycleStart (p : Port)
  /-- QBV_ENTRY_END (R167). -/
  | qbvEntryEnd (p : Port)
  /-- PAUSE_RECEIVE (R172): the quanta for the priorities a PFC names, or for all of them where `pfc` is none. -/
  | pauseReceive (p : Port) (pfc : Option (BitVec 3)) (quanta : BitVec 16)
  /-- PAUSE_QUANTA_EXPIRE (R172). -/
  | pauseQuantaExpire (p : Port) (c : Fin 7)
  /-- PAUSE_WATCHDOG (R172). -/
  | pauseWatchdog (p : Port) (c : Fin 7)
  /-- PAUSE_HOLDOFF_END (R172). -/
  | pauseHoldoffEnd (p : Port) (c : Fin 7)
  /-- STREAM_PACKET_RECEIVE (R188): the packet, and the network port it came by. -/
  | streamPacketReceive (p : Port) (k : RtpPacket)
  /-- FLOW_LOST (R181): the receive flow. -/
  | flowLost (flow : Fin 128)
  /-- STREAM_PACKET_RELEASE (R184): the transmit flow. -/
  | streamPacketRelease (flow : Fin 128)
  /-- TX_SCHED_MISS (R185): the port and the transmit flow whose packet has not begun. -/
  | txSchedMiss (p : Port) (flow : Fin 128)
  /-- SEAL_EPOCH_ADVANCE (R198): the seal group. -/
  | sealEpochAdvance (g : Fin 16)
  /-- ZC_TIMEOUT (R210): the connection's input and output. -/
  | zcTimeout (inp out : Fin 512)
  /-- COEF_SWAP_CMD (R230): AT_TICK as written with SWAP. -/
  | coefSwapCmd (g : Agent) (atTick : Bool)
  /-- COEF_SWAP_CANCEL (R235). -/
  | coefSwapCancel (g : Agent)
  /-- COEF_TICK_WRITE (R235): the value written to DSP_COEF_TICK. -/
  | coefTickWrite (g : Agent) (tick : Word)
  /-- GRAPH_SWAP_ARM (R232). -/
  | graphSwapArm (g : Agent)
  /-- GRAPH_SWAP_CANCEL (R235). -/
  | graphSwapCancel (g : Agent)
  /-- GRAPH_TICK_WRITE (R235): the value written to DSP_GRAPH_TICK. -/
  | graphTickWrite (g : Agent) (tick : Word)
  /-- JOB_REENABLE (R224): the job. -/
  | jobReenable (g : Agent) (job : BitVec 8)
  /-- ANS_WINDOW_END (R227): the instance. -/
  | ansWindowEnd (inst : Fin 2048)
  /-- TDM_SLAVE_LOCKED (R243): the port and its measured frame rate in mHz. -/
  | tdmSlaveLocked (p : Fin 4) (rate : Nat)
  /-- TDM_PREROLL_END (R243). -/
  | tdmPrerollEnd (p : Fin 4)
  /-- TDM_CLK_LOSS (R243). -/
  | tdmClkLoss (p : Fin 4)
  /-- TDM_CLK_HOLD_END (R243). -/
  | tdmClkHoldEnd (p : Fin 4)
  /-- TDM_CLK_RETURN (R243): the frame rate FS returns at, in mHz. -/
  | tdmClkReturn (p : Fin 4) (rate : Nat)
  /-- TDM_RETRACK (R243): the measured frame rate in mHz. -/
  | tdmRetrack (p : Fin 4) (rate : Nat)
  /-- TDM_STOP_COMPLETE (R245). -/
  | tdmStopComplete (p : Fin 4)
  /-- AES3_LOCK (R247): the receiver and its frame rate in mHz. -/
  | aes3Lock (r : Fin 4) (rate : Nat)
  /-- AES3_UNLOCK (R247). -/
  | aes3Unlock (r : Fin 4)
  /-- AES3_BLOCK_END (R249). -/
  | aes3BlockEnd (r : Fin 4) (b : AesBlock)
  /-- AES3_VALIDITY_MUTE (R248): the receiver and the subframe. -/
  | aes3ValidityMute (r : Fin 4) (c : Fin 2)
  /-- AES3_TX_START (R251): the transmitter. -/
  | aes3TxStart (t : Fin 4)
  /-- AES3_TX_STOP (R251). -/
  | aes3TxStop (t : Fin 4)
  /-- AMP_PRECHARGE_DONE (R267): the channel. -/
  | ampPrechargeDone (c : Fin 8)
  /-- AMP_CURRENT_LIMIT (R268). -/
  | ampCurrentLimit (x : SwitchCurrent)
  /-- AMP_SHORT_LATCH (R269): the channel's last switching periods, oldest first. -/
  | ampShortLatch (c : Fin 8) (periods : List SwitchPeriod)
  /-- AMP_ENERGY_DUMP_END (R269). -/
  | ampEnergyDumpEnd (c : Fin 8)
  /-- AMP_PROBE_START (R270). -/
  | ampProbeStart (c : Fin 8)
  /-- AMP_PROBE_END (R270). -/
  | ampProbeEnd (c : Fin 8) (result : ProbeEnd)
  /-- AMP_RETRY (R271). -/
  | ampRetry (c : Fin 8)
  /-- AMP_RETRY_RESTORE (R271). -/
  | ampRetryRestore (c : Fin 8)
  /-- AMP_DC_FAULT (R274). -/
  | ampDcFault (c : Fin 8)
  /-- AMP_THERMAL_TRIP (R275): the junction temperature in °C. -/
  | ampThermalTrip (c : Fin 8) (tj : Int)
  /-- AMP_RAIL_FAULT (R276): VINP_A or VINP_B, its voltage and how long it has been out of range. -/
  | ampRailFault (rail : Fin 2) (x : RailOut)
  /-- AMP_RAIL_RESTORE (R276): the rail's voltage in 10 mV. -/
  | ampRailRestore (rail : Fin 2) (v : BitVec 16)
  /-- AMP_SPARE_TAKEOVER (R280): the channel that the spare covers. -/
  | ampSpareTakeover (c : Fin 8)
  /-- AMP_SPARE_SETTLED (R280). -/
  | ampSpareSettled
  /-- AMP_SPARE_RELEASE (R281). -/
  | ampSpareRelease (g : Agent)
  /-- AMP_SPARE_RETURN (R281). -/
  | ampSpareReturn
  /-- AMP_CHANNEL_CLEAR (R282): the bits written to AMP_CMD.CLEAR. -/
  | ampChannelClear (g : Agent) (mask : BitVec 8)
  /-- LINE_ROUND_START (R294). -/
  | lineRoundStart
  /-- LINE_TEST_SLOT_END (R292). -/
  | lineTestSlotEnd (t : LineTest)
  /-- LINE_TEST_NOW (R294): the bits written to TEST_NOW. -/
  | lineTestNow (g : Agent) (mask : BitVec 8)
  /-- LINE_STALE (R293): the channel. -/
  | lineStale (c : Fin 8)
  /-- EARTH_FAULT_MEASURE (R300): the half-amplitude A of the EFS voltage over a period, in µV. -/
  | earthFaultMeasure (a : Nat)
  /-- EF_LOCATE (R301). -/
  | efLocate (g : Agent)
  /-- EF_LOCATE_STEP_END (R301): the change of D in the step, and A, in µV. -/
  | efLocateStepEnd (d : Int) (a : Nat)
  /-- LINE_CAL (R302): the bits written to CAL. -/
  | lineCal (g : Agent) (mask : BitVec 8)
  /-- LINE_CAL_STORED (R302): the channel whose calibration the flash has taken. -/
  | lineCalStored (c : Fin 8)
  /-- CROWN_LANE_CYCLE (R308). -/
  | crownLaneCycle (x : LaneIn)
  /-- LANE_REPAIR_DONE (R310): the lane. -/
  | laneRepairDone (lane : Fin 3)
  /-- LANE_OSC_CHECK (R309): the edges that each lane's oscillator made in 10 ms. -/
  | laneOscCheck (edges : List Nat)
  /-- TRIG_SAMPLE (R312): the resistances measured, in mΩ. -/
  | trigSample (mohm : List Nat)
  /-- ALARM_START_CMD (R315): the value written to CROWN_CMD. -/
  | alarmStartCmd (g : Agent) (value : BitVec 32)
  /-- CONTENT_TURN_END (R323): the entry. -/
  | contentTurnEnd (entry : Fin 16)
  /-- LIVE_FALLBACK_RETURN (R320). -/
  | liveFallbackReturn
  /-- FALLBACK_CLOCK_RETURN (R324). -/
  | fallbackClockReturn
  /-- PAIR_STARTUP_DECIDE (R329): the level that CUFF has held. -/
  | pairStartupDecide (high : Bool)
  /-- PAIR_CLAIM (R329). -/
  | pairClaim
  /-- PAIR_LINER_CLAIM (R329). -/
  | pairLinerClaim
  /-- PAIR_SETTLE_DONE (R329). -/
  | pairSettleDone
  /-- PAIR_YIELD_RELEASE (R329). -/
  | pairYieldRelease
  /-- PAIR_YIELD_FAIL (R329). -/
  | pairYieldFail
  /-- STANDBY_RECORD_SEND (R331). -/
  | standbyRecordSend
  /-- STANDBY_RECORD_RECEIVE (R331): the record. -/
  | standbyRecordReceive (x : PairRec)
  /-- LINER_LOSS (R333). -/
  | linerLoss
  /-- STANDBY_RECORD_LOSS (R333). -/
  | standbyRecordLoss
  /-- PROOF_SWAP (R336). -/
  | proofSwap (g : Agent)
  /-- PROOF_END (R336). -/
  | proofEnd (g : Agent)
  /-- PROOF_WINDOW_END (R336). -/
  | proofWindowEnd
  /-- MODBUS_REQUEST (R338). -/
  | modbusRequest (frame : MbFrame)
  /-- PANEL_BYTE_RECEIVE (R340): the byte, and whether it has a parity or framing error. -/
  | panelByteReceive (byte : BitVec 8) (err : Bool)
  /-- PANEL_GAP_CLOSE (R340). -/
  | panelGapClose
  /-- PANEL_RX_POP (R341). -/
  | panelRxPop (g : Agent)
  /-- PANEL_TX_WRITE (R341). -/
  | panelTxWrite (g : Agent) (data : BitVec 32)
  /-- PANEL_RX_FLUSH (R340). -/
  | panelRxFlush (g : Agent)
  /-- PANEL_RX_DISCARD (R344). -/
  | panelRxDiscard (g : Agent)
  /-- PANEL_TX_DISCARD (R344). -/
  | panelTxDiscard (g : Agent)
  /-- POWER_VALID (R348): VIN_CTL in 10 mV units. -/
  | powerValid (v : BitVec 16)
  /-- ATTEST_COMPLETE (R370). -/
  | attestComplete (a : AttestIn)
  /-- MODE_REQUEST (R350): the TARGET that the register holds with GO. -/
  | modeRequest (g : Agent) (target : BitVec 4)
  /-- POWER_DOWN_DONE (R352). -/
  | powerDownDone
  /-- WAKE_REGULATORS_READY (R353). -/
  | wakeRegulatorsReady
  /-- WAKE_BANKS_ZEROED (R353). -/
  | wakeBanksZeroed
  /-- VIN_CTL_WARN (R355): VIN_CTL in 10 mV units, here and below. -/
  | vinCtlWarn (v : BitVec 16)
  /-- VIN_CTL_WARN_RESTORE (R355). -/
  | vinCtlWarnRestore (v : BitVec 16)
  /-- VIN_CTL_UNDERVOLTAGE (R355). -/
  | vinCtlUndervoltage (v : BitVec 16)
  /-- VIN_CTL_OVERVOLTAGE (R355). -/
  | vinCtlOvervoltage (v : BitVec 16)
  /-- VIN_CTL_RESTORE (R349). -/
  | vinCtlRestore (v : BitVec 16)
  /-- VIN_CTL_LOSS (R355). -/
  | vinCtlLoss (v : BitVec 16)
  /-- PFW_ASSERT (R356). -/
  | pfwAssert
  /-- PFW_RELEASE (R356). -/
  | pfwRelease
  /-- PFW_DELAY_EXPIRE (R356). -/
  | pfwDelayExpire
  /-- PFW_SHELTER_RESTORE (R349). -/
  | pfwShelterRestore
  /-- TEMP_SAMPLE (R358): T_DIE and T_BASE in °C. -/
  | tempSample (die base : Int)
  /-- MODULE_THERMAL_SHUTDOWN (R358). -/
  | moduleThermalShutdown
  /-- THERMAL_RESTORE (R358). -/
  | thermalRestore
  /-- DOMAIN_RESTART (R360): the bits written to RESTART. -/
  | domainRestart (g : Agent) (mask : BitVec 9)
  /-- DOMAIN_RESTART_READY (R360). -/
  | domainRestartReady (d : Fin 9)
  /-- WATCHDOG_WARN (R361). -/
  | watchdogWarn
  /-- WATCHDOG_TIMEOUT (R361). -/
  | watchdogTimeout
  /-- LOCKSTEP_MISMATCH (R361). -/
  | lockstepMismatch
  /-- FW_SWITCH (R363). -/
  | fwSwitch (g : Agent)
  /-- FW_SWITCH_CANCEL (R367). -/
  | fwSwitchCancel (g : Agent)
  /-- FW_PRELOAD_DONE (R363). -/
  | fwPreloadDone
  /-- FW_PROBATION_END (R364): whether the new image has reported healthy. -/
  | fwProbationEnd (healthy : Bool)
  /-- REPAIR_REQUEST (R365): BANK as the register holds it with GO. -/
  | repairRequest (g : Agent) (bank : BitVec 6)
  /-- REPAIR_COPY_DONE (R365). -/
  | repairCopyDone
  /-- REPAIR_MAP_STORED (R365). -/
  | repairMapStored
  /-- ORDER (R378): the port, the CMD ring and the cookie of the command, whose buffers hold the order. -/
  | order (p : Port) (ring : Fin 64) (cookie : BitVec 32)
  /-- ORDER_VERIFIED (R383): whether TAMPER_N is held low. -/
  | orderVerified (tamperLow : Bool)
  /-- ORDER_COMPLETE (R384). -/
  | orderComplete
  /-- ALLOW_IMAGE_EXPIRE (R380): the image type and number allowed. -/
  | allowImageExpire (ty num : BitVec 8)
  /-- TAMPER_DETECT (R393). -/
  | tamperDetect (src : TamperSource)
  /-- TAMPER_FLASH_ERASED (R393). -/
  | tamperFlashErased
  /-- PERST_ASSERT (R426). -/
  | perstAssert (p : Port)
  /-- RING_START (R405): the ring and the word written to HIF_Rn_CFG, whose EN is 1. -/
  | ringStart (p : Port) (ring : Fin 64) (cfg : Word)
  /-- RING_STOP (R405). -/
  | ringStop (p : Port) (ring : Fin 64)
  /-- DOORBELL (R406): the index written and the descriptors it gives, oldest first. -/
  | doorbell (p : Port) (ring : Fin 64) (prod : BitVec 16) (descs : List Desc)
  /-- FW_IMAGE (R412): the version in the image's header, where its header is one. -/
  | fwImage (p : Port) (ring : Fin 64) (header : Option (BitVec 16))
  /-- GRAPH_IMAGE (R231): what the image that the descriptors bring holds, and the cookie of the command. -/
  | graphImage (p : Port) (ring : Fin 64) (img : GImage) (cookie : BitVec 32)
  /-- MSG_IMAGE (R322): the port, the CMD ring and the cookie of the command. -/
  | msgImage (p : Port) (ring : Fin 64) (cookie : BitVec 32)
  /-- MSG_DELETE (R412). -/
  | msgDelete (p : Port) (ring : Fin 64)
  /-- NOP (R412). -/
  | nop (p : Port) (ring : Fin 64)
  /-- HOST_FRAME_TRANSMIT (R415): the frame in the buffers of the next chain. -/
  | hostFrameTransmit (p : Port) (ring : Fin 64) (f : Frame)
  /-- NETRX_HOLD_EXPIRE (R417): the port and the ring whose first waiting frame has waited its hold time. -/
  | netrxHoldExpire (p : Port) (ring : Fin 64)
  /-- EVTQ_BUFFER_CLOSE (R420). -/
  | evtqBufferClose (p : Port) (ring : Fin 64)
  /-- MSIX_MODERATION_END (R408). -/
  | msixModerationEnd (p : Port) (ring : Fin 64)
  /-- DMA_ERROR (R409). -/
  | dmaError (p : Port) (ring : Fin 64)
  /-- HEARTBEAT (R425): the value written to HIF_HB. -/
  | heartbeat (p : Port) (value : Word)
  /-- HOST_LOST (R426): whether the PCIe link went down; otherwise the heartbeat timed out. -/
  | hostLost (p : Port) (linkDown : Bool)
  /-- SEMAPHORE_ACQUIRE (R423): the port, the semaphore and the token, and the other port's token where its ACQUIRE
  reaches the semaphore in the same cycle. -/
  | semaphoreAcquire (p : Port) (n : Fin 32) (token : BitVec 16) (tie : Option (BitVec 16))
  /-- SEMAPHORE_RELEASE (R423). -/
  | semaphoreRelease (p : Port) (n : Fin 32) (token : BitVec 16)
  /-- SEMAPHORE_FORCE (R430). -/
  | semaphoreForce (g : Agent) (n : Fin 32)
  /-- HOST_QUOTA_WRITE (R422): the word written to HIF_QUOTA. -/
  | hostQuotaWrite (p : Port) (value : Word)
  /-- MSIX_UNMASK (R475). -/
  | msixUnmask (p : Port) (v : Fin 128)
  /-- SCRUB (R436): the errors met in the words read. -/
  | scrub (found : List EccFind)
  /-- ECC_WINDOW_END (R438). -/
  | eccWindowEnd (b : Fin 66)
  /-- EXCHANGE_WRITE (R440): the word address is `addr` without its low two bits; `met` is the master of the other side
  that reaches the same word in the same cycle, where at least one of the two writes (R443); `ecc` is what a read of the
  word finds. -/
  | exchangeWrite (m : ExMaster) (addr : BitVec 16) (be : BitVec 4) (data : Word) (met : Option (Fin 16)) (ecc : EccState)
  /-- EXCHANGE_SET (R441). -/
  | exchangeSet (m : ExMaster) (addr : BitVec 16) (be : BitVec 4) (data : Word) (met : Option (Fin 16)) (ecc : EccState)
  /-- EXCHANGE_CLEAR (R441). -/
  | exchangeClear (m : ExMaster) (addr : BitVec 16) (be : BitVec 4) (data : Word) (met : Option (Fin 16)) (ecc : EccState)
  /-- QUEUE_FLUSH (R450): the queue written with FLUSH. -/
  | queueFlush (g : Agent) (q : BitVec 5)
  /-- REGISTER_WRITE (R456): the BAR0 offset, the byte enables and the data. -/
  | registerWrite (g : Agent) (off : BitVec 24) (be : BitVec 4) (data : Word) (kind : ReqKind)
  /-- CLEAR_ON_READ (R464): a read of the register at a BAR0 offset. -/
  | clearOnRead (g : Agent) (off : BitVec 24) (be : BitVec 4) (kind : ReqKind)
  /-- BLOCK_RESET (R466): the block by bits [23:16] of its base, and the word written to BLK_CTRL, whose SRST is 1. -/
  | blockReset (g : Agent) (code : BitVec 8) (data : Word)
  /-- IDATA_READ (R471): the block, and the byte enables. -/
  | idataRead (g : Agent) (code : BitVec 8) (be : BitVec 4)
  /-- IDATA_WRITE (R471). -/
  | idataWrite (g : Agent) (code : BitVec 8) (be : BitVec 4) (data : Word)
  /-- IDATA_WRITE_COMPLETE (R472): the agent whose held write is performed. -/
  | idataWriteComplete (g : Agent)
  /-- UNLOCK_KEY (R469): the value written to KEY. -/
  | unlockKey (p : Port) (key : BitVec 16)
  /-- UNLOCK_EXPIRE (R469). -/
  | unlockExpire (p : Port)
  /-- EVT_RAW_CLEAR (R476): EVT_RAW_CLR_HI where `hi`, and the bits written. -/
  | evtRawClear (g : Agent) (hi : Bool) (mask : Word)
  /-- EVENT_TEST (R476). -/
  | eventTest (g : Agent) (src : BitVec 6)
  /-- LOG_ENTRY_WRITE (R480). -/
  | logEntryWrite
  /-- LOG_ARCHIVE_APPEND (R483). -/
  | logArchiveAppend
  /-- LOG_FREEZE (R484). -/
  | logFreeze (g : Agent)
  /-- LOG_UNFREEZE (R484). -/
  | logUnfreeze (g : Agent)
  /-- LOG_CLEAR (R484). -/
  | logClear (g : Agent)
  /-- PTP_MESSAGE_SEND (R57): the message, and the network port it leaves on. -/
  | ptpMessageSend (kind : PtpKind) (p : Port)
  /-- GRANDMASTER_LOSS (R531). -/
  | grandmasterLoss
  /-- TDM_RETRACK_END (R243): the measured frame rate in mHz. -/
  | tdmRetrackEnd (p : Fin 4) (rate : Nat)
  /-- AES3_RETRACK (R247): the frame rate in mHz. -/
  | aes3Retrack (r : Fin 4) (rate : Nat)
  /-- AES3_RETRACK_END (R247): the frame rate in mHz. -/
  | aes3RetrackEnd (r : Fin 4) (rate : Nat)
  /-- AES3_VALIDITY_UNMUTE (R248). -/
  | aes3ValidityUnmute (r : Fin 4) (c : Fin 2)
  /-- PANEL_CHARACTER_SENT (R341). -/
  | panelCharacterSent
  /-- PCIE_CONFIG_WRITE (R409): Bus Master Enable, MSI-X Enable and Function Mask. -/
  | pcieConfigWrite (p : Port) (bme msixEn fmask : Bool)
  /-- PCIE_LINK_UP (R425): Gen1 to Gen3, and whether the width is ×2. -/
  | pcieLinkUp (p : Port) (gen : Fin 3) (wide : Bool)
  /-- PROOF_PERMANENT_JUDGE (R336). -/
  | proofPermanentJudge
deriving DecidableEq, Repr

end Sys2Proof
end

