-- ==== Sys2Proof/Decode.lean ====
section
/-! DEFINITION. The words of the command table: no row of it gives its command any bits, for commands come to the part as
register accesses, as protocol events and as events on its pins, and not as encoded words. -/

namespace Sys2Proof

/-- The command that a word spells by the table's bits: none, for no row gives bits. -/
def decodeTableWord (_ _ : Nat) : Option Instr := none

end Sys2Proof
end

