-- ==== Sys2Proof/Config.lean ====
section
/-! DEFINITION. The free values: what the spec leaves open. Each is a constant without a body, so that nothing can be
proved of its value. -/

namespace Sys2Proof.Config

/-- To which of its neighbours in signed Q16.16 ln(1 + a ÷ 1 d) of R90 is rounded, for an age in seconds. DESIGN CHOICE (assumption 17). -/
opaque lnDays : Nat → Int

/-- The weight that a learning sample keeps over 16 s in the fit of R90, whose forgetting time is 30 d, where it lies within 2^-32 of
e to the power of -16 s ÷ 30 d: the spec gives no rounding of it. DESIGN CHOICE (assumption 17). -/
opaque forgetting : Rat

/-- The variance from which the recursive least squares of R90 begins, the same for each coefficient. The spec names the method
and not its start. DESIGN CHOICE (assumption 17). -/
opaque fitStart : Rat

/-- Whether a band of an output's VCO can reach a frequency (R107): of synthesizer, frequency in Hz and band. The bands' ranges are
the circuit's, and the spec gives none. DESIGN CHOICE (assumption 207). -/
opaque vcoReach : Nat → Nat → Nat → Bool

/-- 48 octets of Cerkeha's entropy source, for the n-th free value drawn (R369). -/
opaque entropy : Nat → BitVec 384

/-- What the read of a read-modify-write finds in an exchange RAM word that is uncorrectable, for the n-th free value
drawn. R437 says what a read returns to its master and not what such a write leaves in the other octets. -/
opaque lostWord : Nat → BitVec 32

/-- Where within the counter's 4 ns edge an event falls, in 250 ps steps modulo 16, for the n-th free value drawn: a timestamp unit
resolves it (R46), and the commands of this model come at edges. DESIGN CHOICE (assumption 208). -/
opaque edgePhase : Nat → Nat

/-- The time in ns that a PHY needs to wake from LPI at a speed code of NET_STATUS (R135): the PHY's own figure, which the spec does
not give. DESIGN CHOICE (assumption 208). -/
opaque wakeNs : Nat → Nat

/-- The residence time of a frame forwarded cut-through, in quarter nanoseconds, for the n-th free value drawn. R153
bounds it and gives no value. DESIGN CHOICE (assumption 41). -/
opaque cutLatency : Nat → Nat

/-- To which of its neighbours in single precision the amplitude of a gain in 0.01 dB (R207) is rounded: 10 to the power of a twentieth
of the decibels, of which the spec gives no rounding. DESIGN CHOICE (assumption 44). -/
opaque dbGain : Int → BitVec 32

/-- The same for a gain in dB given in single precision (R218). DESIGN CHOICE (assumption 44). -/
opaque dbLin : BitVec 32 → BitVec 32

/-- The same for the level in dBFS of an amplitude (R229). DESIGN CHOICE (assumption 44). -/
opaque dbOfAmp : BitVec 32 → BitVec 32

/-- The same for the level in dBFS of a mean square: the sum of squares in units of 2^-298, and the number of samples (R227, R229).
DESIGN CHOICE (assumption 44). -/
opaque dbOfPower : Nat → Nat → BitVec 32

/-- The input envelope of DYNAMICS (R218) after a sample, from its attack and release times in ms, the envelope before it and the
sample. The spec gives the times and not the detector. DESIGN CHOICE (assumption 215). -/
opaque dynEnvelope : BitVec 32 → BitVec 32 → BitVec 32 → BitVec 32 → BitVec 32

/-- The peak envelope of DUCK's key (R226) after a sample, from the envelope before it. The spec names it and gives no decay. -/
opaque duckEnvelope : BitVec 32 → BitVec 32 → BitVec 32

/-- How far DUCK's gain moves in one sample, in units of 2^-149 dB, from the attack or release parameter in ms and the depth in dB
(R226). The spec calls it a rate and gives a time. -/
opaque duckStep : BitVec 32 → BitVec 32 → Nat

/-- The amplitude that ANS applies to a sample of a tick in which it moves from one gain in dB to another (R227), within the two
gains' own amplitudes: the spec asks for no steps and names no curve. DESIGN CHOICE (assumption 229). -/
opaque ansGain : BitVec 32 → BitVec 32 → Nat → BitVec 32

/-- The cause that DW4 of event 63's entry holds (R396): image rejection 0, tamper 1, PARAM 2, SEAL_LOW 3. The spec names
these causes and gives them no number. DESIGN CHOICE (assumption 61). -/
opaque cause63 : Nat → Nat

/-- A sample that a channel of the ASRC puts out (R241, R253), from the samples that went into it lately: how many quarter
nanoseconds each lies behind the instant that is converted, and its 24-bit code. The spec gives the delay and not the filter.
DESIGN CHOICE (assumption 62). -/
opaque asrc : List (Int × Int) → BitVec 32

/-- How far the limiter of R259 lowers a gain in one tick, in millionths of a dB, for the n-th free value drawn. R259 gives
its largest rate. DESIGN CHOICE (assumption 74). -/
opaque limiterFall : Nat → Nat

/-- By how many µV the odd channel of a pair changes its trim in a tick in which the channels' mean currents differ by more than 5 % of
ILIM (R277), for the n-th free value drawn: the spec gives the aim and not the control. DESIGN CHOICE (assumption 247). -/
opaque shareTrim : Nat → Int

/-- The impedance in µΩ of a line through which no current is left (R292), as its parts: of the demodulated voltage. The spec states no
quotient there. DESIGN CHOICE (assumption 217). -/
opaque openLine : Int → Int → Int × Int

/-- To which whole number of 0.01° the phase of an impedance, from its real and imaginary parts, is rounded (R306), of its two
neighbours; and the phase of an impedance of 0. DESIGN CHOICE (assumption 82). -/
opaque phaseOf : Int → Int → Int

/-- To which of its neighbours in single precision the sine of 2π times a number of cycles is rounded: of the pilot (R291), of the
graph's TONE (R218) and of the Crown's tones (R321). DESIGN CHOICE (assumption 82). -/
opaque sine : Rat → BitVec 32

/-- How far the Crown's tones lie from their frequencies, which hold to ±100 ppm (R321). DESIGN CHOICE (assumption 96). -/
opaque toneError : Rat

/-- DUTY of the partner (R329): what decides which module gives way where both hold the role, and no record carries it. DESIGN CHOICE
(assumption 107). -/
opaque peerDuty : Bool

/-- How long before note i of ATTENTION the silences add up to, in ns (R321): the spec gives three notes of 0.4 s and 1.5 s in all.
DESIGN CHOICE (assumption 96). -/
opaque noteGap : Nat → Nat

/-- A message's sample interpolated (R323): its samples at 16 kHz and the time in ns since it began. The spec does not name
the interpolation. DESIGN CHOICE (assumption 97). -/
opaque interpolate : List (BitVec 16) → Nat → BitVec 32

/-- The key under which the flash's keys are wrapped (R368, R387), from the KEK seed. The spec names the derivation and does not give
it. DESIGN CHOICE (assumption 251). -/
opaque flashKey : Nat → Nat

/-- The master that the log names for a word which the scrubber finds uncorrectable: R437 asks for it, and the scrubber is none
of the masters that R443 numbers. DESIGN CHOICE (assumption 192). -/
opaque scrubMaster : Nat

end Sys2Proof.Config
end

