-- ==== Sys2Proof/Machine/RegMap.lean ====
section
/-! DEFINITION. The register map of BAR0: every register of R490 to R500 with its reset word, its fields and their
access codes (R7, R456), the common block registers of R466 and the indirect spaces of R501, R502; and a name for every
field, spelled as the spec spells it. -/

namespace Sys2Proof.Machine

/-- The access codes of R7, in the order of the table of R456. -/
inductive Acc where
  | rw | ro | rc | w1p | ew | kw | wo1 | so | sh | ix
deriving DecidableEq, Repr

/-- The position of an access code in the table of R456, from 1 to 10, as DW7 of R459 gives it. -/
def Acc.position : Acc → Nat
  | .rw => 1 | .ro => 2 | .rc => 3 | .w1p => 4 | .ew => 5 | .kw => 6 | .wo1 => 7 | .so => 8 | .sh => 9 | .ix => 10

/-- The bits of one field of a register and its access code; reserved bits (R8) have no entry. -/
structure FieldSpec where
  hi : Nat
  lo : Nat
  acc : Acc
deriving DecidableEq, Repr

/-- One row of the register map: `count` registers at `off + i * stride` of their block, one reset word for each
(the last one repeats), whether a copy is kept per port (R462), and the fields. -/
structure RegSpec where
  off : Nat
  count : Nat
  stride : Nat
  resets : List Nat
  perPort : Bool
  fields : List FieldSpec
deriving DecidableEq, Repr

/-- Where a field stands: the key of its register or table word, and its bits. -/
structure Fld where
  addr : Nat
  hi : Nat
  lo : Nat
deriving DecidableEq, Repr

/-- The mask of a field, before shifting. -/
def Fld.max (f : Fld) : Nat := 2 ^ (f.hi + 1 - f.lo) - 1

/-- The registers of one kind in a block, from R490 to R500. -/
def RegSpec.mk1 (off reset : Nat) (fields : List FieldSpec) : RegSpec := ⟨off, 1, 4, [reset], false, fields⟩

/-- The registers of TOP (R490 to R500), without the common ones. -/
def regsTop : List RegSpec :=
  [
    ⟨0x010, 1, 0x4, [0x00000101], false, [⟨15, 8, .ro⟩, ⟨7, 0, .ro⟩]⟩,
    ⟨0x020, 1, 0x4, [0x00000031], false, [⟨31, 31, .rc⟩, ⟨27, 27, .ro⟩, ⟨26, 26, .ro⟩, ⟨25, 25, .ro⟩, ⟨24, 24, .ro⟩, ⟨23, 23, .ro⟩, ⟨22, 22, .ro⟩, ⟨21, 21, .ro⟩, ⟨20, 20, .ro⟩, ⟨19, 19, .ro⟩, ⟨18, 18, .ro⟩, ⟨17, 17, .ro⟩, ⟨16, 16, .ro⟩, ⟨15, 15, .ro⟩, ⟨14, 14, .ro⟩, ⟨11, 8, .ro⟩, ⟨7, 4, .ro⟩, ⟨3, 0, .ro⟩]⟩,
    ⟨0x024, 1, 0x4, [0x00000003], false, [⟨31, 31, .w1p⟩, ⟨3, 0, .rw⟩]⟩,
    ⟨0x028, 1, 0x4, [0x00000000], false, [⟨5, 0, .ro⟩]⟩,
    ⟨0x030, 1, 0x4, [0x00000000], true, [⟨16, 16, .ro⟩, ⟨15, 0, .rw⟩]⟩,
    ⟨0x040, 1, 0x4, [0x64000000], false, [⟨31, 24, .rw⟩, ⟨9, 9, .ro⟩, ⟨8, 8, .ro⟩, ⟨2, 2, .w1p⟩, ⟨1, 1, .w1p⟩, ⟨0, 0, .rw⟩]⟩,
    ⟨0x044, 1, 0x4, [0x00000000], false, [⟨31, 0, .rw⟩]⟩,
    ⟨0x048, 1, 0x4, [0x00000000], false, [⟨9, 9, .rc⟩, ⟨8, 8, .rc⟩, ⟨2, 2, .ro⟩, ⟨1, 1, .ro⟩, ⟨0, 0, .ro⟩]⟩,
    ⟨0x04C, 1, 0x4, [0x00000000], false, [⟨31, 0, .ro⟩]⟩]

/-- The registers of EVT (R490 to R500), without the common ones. -/
def regsEvt : List RegSpec :=
  [
    ⟨0x010, 1, 0x4, [0x00000000], false, [⟨31, 0, .ro⟩]⟩,
    ⟨0x014, 1, 0x4, [0x00000000], false, [⟨31, 0, .ro⟩]⟩,
    ⟨0x018, 1, 0x4, [0x00000000], false, [⟨31, 0, .w1p⟩]⟩,
    ⟨0x01C, 1, 0x4, [0x00000000], false, [⟨31, 0, .w1p⟩]⟩,
    ⟨0x020, 1, 0x4, [0x00000000], true, [⟨31, 0, .rc⟩]⟩,
    ⟨0x024, 1, 0x4, [0x00000000], true, [⟨31, 0, .rc⟩]⟩,
    ⟨0x028, 1, 0x4, [0x00000000], true, [⟨31, 0, .rw⟩]⟩,
    ⟨0x02C, 1, 0x4, [0x00000000], true, [⟨31, 0, .rw⟩]⟩,
    ⟨0x030, 1, 0x4, [0xFFFFFFFF], false, [⟨31, 0, .rw⟩]⟩,
    ⟨0x034, 1, 0x4, [0xFFFFFFFF], false, [⟨31, 0, .rw⟩]⟩,
    ⟨0x038, 1, 0x4, [0xFFFFFFFF], false, [⟨31, 0, .rw⟩]⟩,
    ⟨0x03C, 1, 0x4, [0xFFFFFFFF], false, [⟨31, 0, .rw⟩]⟩,
    ⟨0x040, 1, 0x4, [0x00000000], false, [⟨31, 31, .kw⟩, ⟨5, 0, .rw⟩]⟩,
    ⟨0x044, 1, 0x4, [0x00000000], false, [⟨7, 0, .ro⟩]⟩]

/-- The registers of LOG (R490 to R500), without the common ones. -/
def regsLog : List RegSpec :=
  [
    ⟨0x010, 1, 0x4, [0x2F000400], false, [⟨31, 28, .rw⟩, ⟨27, 24, .rw⟩, ⟨11, 0, .rw⟩]⟩,
    ⟨0x014, 1, 0x4, [0x00000000], false, [⟨31, 31, .ro⟩, ⟨30, 30, .ro⟩, ⟨27, 16, .ro⟩, ⟨0, 0, .ro⟩]⟩,
    ⟨0x018, 1, 0x4, [0x00000000], false, [⟨31, 0, .ro⟩]⟩,
    ⟨0x01C, 1, 0x4, [0x00000000], false, [⟨31, 16, .rc⟩, ⟨15, 0, .rc⟩]⟩,
    ⟨0x020, 1, 0x4, [0x00000000], false, [⟨2, 2, .kw⟩, ⟨1, 1, .w1p⟩, ⟨0, 0, .w1p⟩]⟩,
    ⟨0x024, 1, 0x4, [0x00000000], false, [⟨31, 0, .ro⟩]⟩]

/-- The registers of SEM (R490 to R500), without the common ones. -/
def regsSem : List RegSpec :=
  [
    ⟨0x010, 1, 0x4, [0x00000000], false, [⟨31, 0, .ro⟩]⟩,
    ⟨0x014, 1, 0x4, [0x00000000], false, [⟨31, 31, .kw⟩, ⟨4, 0, .kw⟩]⟩,
    ⟨0x018, 1, 0x4, [0x00000000], true, [⟨31, 0, .rc⟩]⟩,
    ⟨0x01C, 1, 0x4, [0x00000000], false, [⟨31, 16, .rc⟩, ⟨15, 0, .rc⟩]⟩,
    ⟨0x100, 32, 0x4, [0x00000000], false, [⟨31, 31, .ro⟩, ⟨30, 30, .ro⟩, ⟨29, 29, .ro⟩, ⟨27, 26, .ro⟩, ⟨25, 24, .w1p⟩, ⟨15, 0, .rw⟩]⟩]

/-- The registers of HIF (R490 to R500), without the common ones. -/
def regsHif : List RegSpec :=
  [
    ⟨0x010, 1, 0x4, [0x00000000], false, [⟨31, 0, .rw⟩]⟩,
    ⟨0x014, 1, 0x4, [0x00030064], false, [⟨31, 31, .rw⟩, ⟨19, 16, .rw⟩, ⟨9, 0, .rw⟩]⟩,
    ⟨0x018, 1, 0x4, [0x00000000], false, [⟨31, 16, .rc⟩, ⟨9, 8, .ro⟩, ⟨5, 4, .ro⟩, ⟨3, 3, .ro⟩, ⟨2, 2, .ro⟩, ⟨1, 0, .ro⟩]⟩,
    ⟨0x020, 1, 0x4, [0x08000820], false, [⟨30, 16, .rw⟩, ⟨15, 8, .rw⟩, ⟨7, 0, .rw⟩]⟩,
    ⟨0x024, 1, 0x4, [0x00000000], false, [⟨30, 16, .ro⟩, ⟨15, 15, .ro⟩, ⟨14, 14, .ro⟩, ⟨7, 0, .ro⟩]⟩,
    ⟨0x028, 1, 0x4, [0x00000000], false, [⟨31, 0, .rc⟩]⟩,
    ⟨0x02C, 1, 0x4, [0x00000000], false, [⟨31, 0, .rc⟩]⟩,
    ⟨0x030, 1, 0x4, [0x00000000], false, [⟨31, 31, .rw⟩, ⟨29, 24, .rw⟩]⟩,
    ⟨0x100, 64, 0x20, [0x00000000], false, [⟨31, 0, .rw⟩]⟩,
    ⟨0x104, 64, 0x20, [0x00000000], false, [⟨31, 0, .rw⟩]⟩,
    ⟨0x108, 64, 0x20, [0x00000000], false, [⟨31, 2, .rw⟩]⟩,
    ⟨0x10C, 64, 0x20, [0x00000000], false, [⟨31, 0, .rw⟩]⟩,
    ⟨0x110, 64, 0x20, [0x00060000], false, [⟨31, 31, .rw⟩, ⟨26, 24, .rw⟩, ⟨19, 16, .rw⟩, ⟨13, 8, .rw⟩]⟩,
    ⟨0x114, 64, 0x20, [0x00000000], false, [⟨31, 31, .rw⟩, ⟨21, 16, .rw⟩, ⟨11, 8, .rw⟩, ⟨5, 0, .rw⟩]⟩,
    ⟨0x118, 64, 0x20, [0x00080000], false, [⟨24, 16, .rw⟩, ⟨9, 0, .rw⟩]⟩,
    ⟨0x11C, 64, 0x20, [0x00000000], false, [⟨31, 31, .ro⟩, ⟨27, 24, .ro⟩, ⟨15, 0, .ro⟩]⟩]

/-- The registers of TIME (R490 to R500), without the common ones. -/
def regsTime : List RegSpec :=
  [
    ⟨0x010, 1, 0x4, [0x00000000], false, [⟨31, 0, .ro⟩]⟩,
    ⟨0x014, 1, 0x4, [0x00000000], false, [⟨31, 0, .ro⟩]⟩,
    ⟨0x01C, 1, 0x4, [0x00000000], false, [⟨31, 0, .ro⟩]⟩,
    ⟨0x020, 1, 0x4, [0x00000000], false, [⟨17, 0, .ro⟩]⟩,
    ⟨0x030, 1, 0x4, [0x00000041], false, [⟨7, 4, .sh⟩, ⟨1, 0, .sh⟩]⟩,
    ⟨0x034, 1, 0x4, [0x00002710], false, [⟨29, 0, .sh⟩]⟩,
    ⟨0x038, 1, 0x4, [0x00000000], false, [⟨31, 0, .ro⟩]⟩,
    ⟨0x03C, 1, 0x4, [0x00000000], false, [⟨31, 0, .ro⟩]⟩,
    ⟨0x040, 1, 0x4, [0x00000000], false, [⟨31, 0, .ro⟩]⟩,
    ⟨0x044, 1, 0x4, [0x00000000], false, [⟨7, 0, .ro⟩]⟩,
    ⟨0x048, 1, 0x4, [0x00000000], false, [⟨15, 0, .rc⟩]⟩,
    ⟨0x050, 1, 0x4, [0x00FD0041], false, [⟨23, 16, .sh⟩, ⟨15, 8, .sh⟩, ⟨7, 7, .sh⟩, ⟨6, 6, .sh⟩, ⟨5, 4, .sh⟩, ⟨1, 1, .sh⟩, ⟨0, 0, .sh⟩]⟩,
    ⟨0x054, 1, 0x4, [0x00008080], false, [⟨15, 8, .sh⟩, ⟨7, 0, .sh⟩]⟩,
    ⟨0x058, 1, 0x4, [0x00000111], false, [⟨17, 17, .ro⟩, ⟨16, 16, .ro⟩, ⟨14, 12, .ro⟩, ⟨11, 8, .ro⟩, ⟨7, 4, .ro⟩, ⟨3, 0, .ro⟩]⟩,
    ⟨0x05C, 1, 0x4, [0x00000000], false, [⟨31, 0, .ro⟩]⟩,
    ⟨0x060, 1, 0x4, [0x00000000], false, [⟨31, 0, .ro⟩]⟩,
    ⟨0x018, 1, 0x4, [0x00000000], true, [⟨15, 12, .ro⟩]⟩,
    ⟨0x100, 2, 0x20, [0x00000000], false, [⟨23, 16, .rc⟩, ⟨15, 8, .ro⟩, ⟨7, 0, .ro⟩]⟩,
    ⟨0x104, 2, 0x20, [0x00000000], false, [⟨15, 0, .rc⟩]⟩,
    ⟨0x108, 2, 0x20, [0x00000000], false, [⟨15, 0, .rc⟩]⟩,
    ⟨0x200, 16, 0x4, [0x00000000], false, [⟨23, 0, .sh⟩]⟩]

/-- The registers of REFS (R490 to R500), without the common ones. -/
def regsRefs : List RegSpec :=
  [
    ⟨0x010, 1, 0x4, [0x03C00800], false, [⟨31, 20, .sh⟩, ⟨11, 11, .sh⟩, ⟨10, 8, .sh⟩, ⟨1, 0, .sh⟩]⟩,
    ⟨0x014, 1, 0x4, [0x00000000], false, [⟨31, 24, .ro⟩, ⟨23, 16, .ro⟩, ⟨15, 15, .ro⟩, ⟨10, 8, .ro⟩, ⟨7, 7, .ro⟩, ⟨2, 0, .ro⟩]⟩,
    ⟨0x018, 1, 0x4, [0x000A03E8], false, [⟨29, 16, .sh⟩, ⟨13, 0, .sh⟩]⟩,
    ⟨0x01C, 1, 0x4, [0x0000000A], false, [⟨9, 0, .sh⟩]⟩,
    ⟨0x020, 1, 0x4, [0x03E800C8], false, [⟨31, 16, .sh⟩, ⟨15, 0, .sh⟩]⟩,
    ⟨0x024, 1, 0x4, [0x000000C8], false, [⟨15, 0, .sh⟩]⟩,
    ⟨0x028, 1, 0x4, [0x03E8040A], false, [⟨31, 16, .sh⟩, ⟨15, 8, .sh⟩, ⟨7, 0, .sh⟩]⟩,
    ⟨0x02C, 1, 0x4, [0x000000F0], false, [⟨31, 16, .ro⟩, ⟨13, 0, .sh⟩]⟩,
    ⟨0x030, 1, 0x4, [0x00000000], false, [⟨31, 24, .ro⟩, ⟨23, 16, .ro⟩, ⟨15, 8, .ro⟩, ⟨3, 3, .ro⟩, ⟨2, 2, .ro⟩, ⟨1, 1, .ro⟩, ⟨0, 0, .ro⟩]⟩,
    ⟨0x034, 1, 0x4, [0x00000000], false, [⟨15, 0, .ro⟩]⟩,
    ⟨0x038, 1, 0x4, [0x00000000], false, [⟨0, 0, .kw⟩]⟩,
    ⟨0x03C, 1, 0x4, [0x00000000], false, [⟨1, 1, .ro⟩, ⟨0, 0, .sh⟩]⟩,
    ⟨0x040, 1, 0x4, [0x00000000], false, [⟨31, 0, .ro⟩]⟩,
    ⟨0x100, 8, 0x20, [0x00000001, 0x0000F000, 0x0000F000, 0x0000F000, 0x0000F000, 0x0000F000, 0x0000F000, 0x0000F000], false, [⟨15, 12, .sh⟩, ⟨7, 4, .sh⟩, ⟨0, 0, .sh⟩]⟩,
    ⟨0x104, 8, 0x20, [0x00000000, 0x00007000, 0x00007000, 0x00007000, 0x00007000, 0x00007000, 0x00007000, 0x00007000], false, [⟨15, 12, .ro⟩, ⟨4, 4, .ro⟩, ⟨3, 3, .ro⟩, ⟨2, 2, .ro⟩, ⟨1, 1, .ro⟩, ⟨0, 0, .ro⟩]⟩,
    ⟨0x108, 8, 0x20, [0x00000000], false, [⟨31, 0, .ro⟩]⟩,
    ⟨0x10C, 8, 0x20, [0x00000000], false, [⟨31, 0, .ro⟩]⟩,
    ⟨0x110, 8, 0x20, [0x00000000], false, [⟨31, 0, .ro⟩]⟩,
    ⟨0x114, 8, 0x20, [0x00000000], false, [⟨31, 16, .rc⟩, ⟨15, 0, .rc⟩]⟩]

/-- The registers of SYN (R490 to R500), without the common ones. -/
def regsSyn : List RegSpec :=
  [
    ⟨0x010, 1, 0x4, [0x002D0000], false, [⟨23, 22, .ew⟩, ⟨21, 0, .ew⟩]⟩,
    ⟨0x014, 1, 0x4, [0x002FAF08], false, [⟨23, 22, .ew⟩, ⟨21, 0, .ew⟩]⟩,
    ⟨0x018, 1, 0x4, [0x00000000], false, [⟨25, 21, .ro⟩, ⟨17, 17, .ro⟩, ⟨16, 16, .ro⟩, ⟨9, 5, .ro⟩, ⟨1, 1, .ro⟩, ⟨0, 0, .ro⟩]⟩,
    ⟨0x020, 1, 0x4, [0x00000001], false, [⟨6, 0, .sh⟩]⟩,
    ⟨0x024, 1, 0x4, [0x00000000], false, [⟨5, 0, .w1p⟩]⟩,
    ⟨0x028, 1, 0x4, [0x00000000], false, [⟨4, 4, .sh⟩, ⟨1, 0, .sh⟩]⟩,
    ⟨0x100, 4, 0x20, [0x00000005, 0x00000015, 0x00000006, 0x00000011], false, [⟨4, 4, .ro⟩, ⟨2, 2, .sh⟩, ⟨1, 1, .ro⟩, ⟨0, 0, .ro⟩]⟩,
    ⟨0x180, 2, 0x20, [0x00000004, 0x00000004], false, [⟨4, 4, .sh⟩, ⟨2, 2, .sh⟩, ⟨1, 1, .sh⟩, ⟨0, 0, .sh⟩]⟩,
    ⟨0x104, 4, 0x20, [0x02EE0000, 0x0EE6B280, 0x061A8000, 0x09502F90], false, [⟨27, 0, .ro⟩]⟩,
    ⟨0x184, 2, 0x20, [0x01770000, 0x01770000], false, [⟨27, 0, .sh⟩]⟩,
    ⟨0x108, 6, 0x20, [0x00000000], false, [⟨23, 20, .ro⟩, ⟨5, 5, .ro⟩, ⟨4, 4, .ro⟩, ⟨3, 3, .ro⟩, ⟨2, 2, .ro⟩, ⟨1, 1, .ro⟩, ⟨0, 0, .ro⟩]⟩,
    ⟨0x10C, 1, 0x20, [0x00000000], false, [⟨15, 0, .sh⟩]⟩,
    ⟨0x12C, 3, 0x20, [0x00000000], false, [⟨15, 0, .ro⟩]⟩,
    ⟨0x18C, 2, 0x20, [0x00000000], false, [⟨15, 0, .sh⟩]⟩,
    ⟨0x110, 6, 0x20, [0x00000000], false, [⟨16, 16, .ro⟩, ⟨15, 0, .ro⟩]⟩,
    ⟨0x114, 6, 0x20, [0x00000000], false, [⟨15, 0, .rc⟩]⟩,
    ⟨0x200, 2, 0x10, [0x1F4003E8], false, [⟨31, 31, .sh⟩, ⟨30, 30, .sh⟩, ⟨29, 16, .sh⟩, ⟨15, 0, .sh⟩]⟩,
    ⟨0x204, 2, 0x10, [0x00000000], false, [⟨30, 0, .sh⟩]⟩,
    ⟨0x208, 3, 0x10, [0x00000000], false, [⟨31, 0, .ro⟩]⟩,
    ⟨0x20C, 3, 0x10, [0x00000000], false, [⟨2, 2, .ro⟩, ⟨1, 1, .ro⟩, ⟨0, 0, .ro⟩]⟩,
    ⟨0x240, 1, 0x4, [0x00000000], false, [⟨2, 0, .w1p⟩]⟩]

/-- The registers of NET (R490 to R500), without the common ones. -/
def regsNet : List RegSpec :=
  [
    ⟨0x010, 1, 0x4, [0x00FF040F], false, [⟨23, 16, .rw⟩, ⟨11, 11, .rw⟩, ⟨10, 10, .rw⟩, ⟨9, 8, .ew⟩, ⟨3, 0, .rw⟩]⟩,
    ⟨0x014, 1, 0x4, [0x00000000], false, [⟨31, 24, .ro⟩, ⟨23, 16, .ro⟩, ⟨7, 7, .ro⟩, ⟨6, 6, .ro⟩, ⟨5, 5, .ro⟩, ⟨4, 4, .ro⟩, ⟨3, 3, .ro⟩, ⟨2, 0, .ro⟩]⟩,
    ⟨0x018, 1, 0x4, [0x000007D0], false, [⟨13, 0, .rw⟩]⟩,
    ⟨0x01C, 1, 0x4, [0x00000004], false, [⟨6, 0, .rw⟩]⟩,
    ⟨0x020, 1, 0x4, [0x00000064], false, [⟨31, 31, .rw⟩, ⟨11, 0, .rw⟩]⟩,
    ⟨0x024, 1, 0x4, [0x4628003C], false, [⟨31, 24, .rw⟩, ⟨23, 16, .rw⟩, ⟨11, 0, .rw⟩]⟩]

/-- The registers of RSW (R490 to R500), without the common ones. -/
def regsRsw : List RegSpec :=
  [
    ⟨0x010, 1, 0x4, [0x00000010], false, [⟨4, 4, .rw⟩, ⟨1, 0, .ew⟩]⟩,
    ⟨0x014, 1, 0x4, [0x00000000], false, [⟨31, 31, .so⟩, ⟨11, 0, .so⟩]⟩,
    ⟨0x018, 1, 0x4, [0x00000000], false, [⟨31, 31, .ro⟩, ⟨28, 16, .ro⟩, ⟨15, 0, .rc⟩]⟩,
    ⟨0x01C, 1, 0x4, [0x00000000], false, [⟨15, 0, .ro⟩]⟩,
    ⟨0x020, 1, 0x4, [0x00000000], false, [⟨31, 0, .ro⟩]⟩,
    ⟨0x024, 1, 0x4, [0x00000028], false, [⟨7, 0, .rw⟩]⟩,
    ⟨0x028, 1, 0x4, [0x0000000A], false, [⟨9, 0, .rw⟩]⟩,
    ⟨0x02C, 1, 0x4, [0x00000000], false, [⟨31, 31, .ro⟩, ⟨28, 16, .ro⟩, ⟨12, 0, .ro⟩]⟩,
    ⟨0x030, 1, 0x4, [0x00DAC688], false, [⟨23, 0, .sh⟩]⟩,
    ⟨0x034, 1, 0x4, [0x00000000], false, [⟨11, 11, .sh⟩, ⟨10, 10, .sh⟩, ⟨9, 8, .sh⟩, ⟨3, 3, .sh⟩, ⟨2, 2, .sh⟩, ⟨1, 0, .sh⟩]⟩,
    ⟨0x038, 1, 0x4, [0x00000000], false, [⟨1, 1, .ro⟩, ⟨0, 0, .ro⟩]⟩,
    ⟨0x050, 1, 0x4, [0x07D00020], false, [⟨31, 16, .rw⟩, ⟨8, 0, .rw⟩]⟩,
    ⟨0x054, 1, 0x4, [0x00000000], false, [⟨23, 0, .ro⟩]⟩,
    ⟨0x040, 4, 0x4, [0x00000000], false, [⟨31, 31, .sh⟩, ⟨23, 0, .sh⟩]⟩]

/-- The registers of SECY (R490 to R500), without the common ones. -/
def regsSecy : List RegSpec :=
  [
    ⟨0x100, 2, 0x20, [0x00000022], false, [⟨31, 16, .so⟩, ⟨5, 4, .so⟩, ⟨1, 1, .so⟩, ⟨0, 0, .so⟩]⟩,
    ⟨0x104, 2, 0x20, [0x00000000], false, [⟨23, 20, .ro⟩, ⟨17, 16, .ro⟩, ⟨4, 4, .ro⟩, ⟨3, 3, .ro⟩, ⟨2, 2, .ro⟩, ⟨1, 1, .ro⟩, ⟨0, 0, .ro⟩]⟩,
    ⟨0x108, 2, 0x20, [0x00000000], false, [⟨31, 0, .ro⟩]⟩,
    ⟨0x10C, 2, 0x20, [0x00000000], false, [⟨31, 0, .ro⟩]⟩,
    ⟨0x110, 2, 0x20, [0x00000000], false, [⟨31, 0, .ro⟩]⟩,
    ⟨0x114, 2, 0x20, [0x00000000], false, [⟨31, 0, .ro⟩]⟩]

/-- The registers of STRM (R490 to R500), without the common ones. -/
def regsStrm : List RegSpec :=
  [
    ⟨0x010, 1, 0x4, [0x00701008], false, [⟨23, 20, .sh⟩, ⟨15, 8, .rw⟩, ⟨6, 0, .sh⟩]⟩,
    ⟨0x014, 1, 0x4, [0x00000000], false, [⟨31, 0, .ew⟩]⟩,
    ⟨0x018, 1, 0x4, [0x00000000], false, [⟨24, 16, .ro⟩, ⟨8, 0, .ro⟩]⟩,
    ⟨0x020, 4, 0x4, [0x00000000], false, [⟨31, 0, .ro⟩]⟩,
    ⟨0x030, 4, 0x4, [0x00000000], false, [⟨31, 0, .ro⟩]⟩]

/-- The registers of FAB (R490 to R500), without the common ones. -/
def regsFab : List RegSpec :=
  [
    ⟨0x010, 1, 0x4, [0x003C0500], false, [⟨23, 16, .sh⟩, ⟨13, 8, .sh⟩, ⟨0, 0, .ew⟩]⟩,
    ⟨0x014, 1, 0x4, [0x00000000], false, [⟨30, 16, .ro⟩, ⟨10, 0, .ro⟩]⟩,
    ⟨0x018, 1, 0x4, [0x00000000], false, [⟨31, 16, .rc⟩, ⟨15, 0, .rc⟩]⟩]

/-- The registers of DSP (R490 to R500), without the common ones. -/
def regsDsp : List RegSpec :=
  [
    ⟨0x010, 1, 0x4, [0x00005F5A], false, [⟨15, 8, .rw⟩, ⟨7, 0, .rw⟩]⟩,
    ⟨0x014, 1, 0x4, [0x00000000], false, [⟨23, 16, .ro⟩, ⟨6, 6, .rc⟩, ⟨5, 5, .rc⟩, ⟨4, 4, .rc⟩, ⟨3, 3, .ro⟩, ⟨2, 2, .ro⟩, ⟨1, 1, .ro⟩, ⟨0, 0, .ro⟩]⟩,
    ⟨0x018, 1, 0x4, [0x00000000], false, [⟨1, 1, .w1p⟩, ⟨0, 0, .w1p⟩]⟩,
    ⟨0x01C, 1, 0x4, [0x00000000], false, [⟨31, 0, .rw⟩]⟩,
    ⟨0x020, 1, 0x4, [0x00000000], false, [⟨2, 2, .rw⟩, ⟨1, 1, .w1p⟩, ⟨0, 0, .w1p⟩]⟩,
    ⟨0x024, 1, 0x4, [0x00000000], false, [⟨31, 0, .rw⟩]⟩,
    ⟨0x050, 1, 0x4, [0x00000000], false, [⟨23, 16, .ro⟩, ⟨15, 0, .rc⟩]⟩,
    ⟨0x054, 1, 0x4, [0x00000000], false, [⟨31, 31, .w1p⟩, ⟨7, 0, .rw⟩]⟩,
    ⟨0x030, 4, 0x8, [0x00000000], false, [⟨16, 0, .ro⟩]⟩,
    ⟨0x034, 4, 0x8, [0x00000000], false, [⟨16, 0, .rc⟩]⟩]

/-- The registers of LAP (R490 to R500), without the common ones. -/
def regsLap : List RegSpec :=
  [
    ⟨0x010, 1, 0x4, [0x00000000], false, [⟨5, 4, .sh⟩, ⟨1, 0, .sh⟩]⟩,
    ⟨0x014, 1, 0x4, [0x00000000], false, [⟨22, 22, .rc⟩, ⟨21, 16, .ro⟩, ⟨11, 8, .ro⟩, ⟨3, 0, .ro⟩]⟩,
    ⟨0x100, 4, 0x20, [0x08AFC040], false, [⟨31, 31, .sh⟩, ⟨30, 30, .rw⟩, ⟨29, 28, .rw⟩, ⟨27, 27, .rw⟩, ⟨26, 26, .rw⟩, ⟨25, 25, .rw⟩, ⟨24, 24, .rw⟩, ⟨23, 23, .rw⟩, ⟨21, 20, .rw⟩, ⟨19, 16, .rw⟩, ⟨15, 14, .rw⟩, ⟨9, 0, .rw⟩]⟩,
    ⟨0x104, 4, 0x20, [0x00000000], false, [⟨15, 0, .sh⟩]⟩,
    ⟨0x108, 4, 0x20, [0x00000000], false, [⟨15, 0, .sh⟩]⟩,
    ⟨0x10C, 4, 0x20, [0x00000000], false, [⟨31, 28, .ro⟩, ⟨27, 26, .ro⟩, ⟨25, 8, .ro⟩, ⟨7, 4, .ro⟩, ⟨2, 0, .ro⟩]⟩,
    ⟨0x110, 4, 0x20, [0x00000000], false, [⟨31, 0, .ro⟩]⟩,
    ⟨0x114, 4, 0x20, [0x00000000], false, [⟨31, 0, .ro⟩]⟩,
    ⟨0x118, 4, 0x20, [0x00000000], false, [⟨31, 0, .ro⟩]⟩,
    ⟨0x11C, 4, 0x20, [0x00000000], false, [⟨31, 16, .rc⟩, ⟨15, 0, .rc⟩]⟩,
    ⟨0x200, 4, 0x20, [0x20000000], false, [⟨31, 31, .sh⟩, ⟨30, 30, .rw⟩, ⟨29, 29, .rw⟩]⟩,
    ⟨0x204, 4, 0x20, [0x00000000], false, [⟨31, 28, .ro⟩, ⟨17, 16, .ro⟩, ⟨13, 13, .ro⟩, ⟨12, 12, .ro⟩, ⟨11, 10, .ro⟩, ⟨9, 9, .ro⟩, ⟨8, 8, .ro⟩, ⟨7, 4, .ro⟩, ⟨0, 0, .ro⟩]⟩,
    ⟨0x208, 4, 0x20, [0x00000000], false, [⟨31, 0, .ro⟩]⟩,
    ⟨0x20C, 4, 0x20, [0x00000000], false, [⟨31, 0, .ro⟩]⟩,
    ⟨0x210, 4, 0x20, [0x00000000], false, [⟨31, 0, .ro⟩]⟩,
    ⟨0x214, 4, 0x20, [0x00000000], false, [⟨31, 16, .rc⟩, ⟨15, 0, .rc⟩]⟩,
    ⟨0x300, 4, 0x10, [0x60000000], false, [⟨31, 31, .sh⟩, ⟨30, 30, .rw⟩, ⟨29, 29, .rw⟩, ⟨28, 28, .rw⟩, ⟨27, 27, .rw⟩]⟩,
    ⟨0x304, 4, 0x10, [0x00000000], false, [⟨0, 0, .ro⟩]⟩]

/-- The registers of AMP (R490 to R500), without the common ones. -/
def regsAmp : List RegSpec :=
  [
    ⟨0x010, 1, 0x4, [0x14000007], false, [⟨31, 24, .ew⟩, ⟨19, 16, .ew⟩, ⟨8, 8, .ew⟩, ⟨2, 0, .ew⟩]⟩,
    ⟨0x014, 1, 0x4, [0x00000190], false, [⟨31, 31, .ew⟩, ⟨9, 0, .ew⟩]⟩,
    ⟨0x018, 1, 0x4, [0x00000000], false, [⟨25, 16, .ro⟩, ⟨15, 8, .ro⟩, ⟨2, 2, .ro⟩, ⟨1, 1, .ro⟩]⟩,
    ⟨0x01C, 1, 0x4, [0x00000000], false, [⟨31, 16, .ro⟩, ⟨15, 0, .ro⟩]⟩,
    ⟨0x020, 1, 0x4, [0x00000000], false, [⟨31, 24, .ro⟩, ⟨23, 16, .ro⟩, ⟨15, 8, .ro⟩, ⟨7, 0, .ro⟩]⟩,
    ⟨0x024, 1, 0x4, [0x00000000], false, [⟨9, 9, .ro⟩, ⟨8, 8, .ro⟩, ⟨2, 0, .ro⟩]⟩,
    ⟨0x028, 1, 0x4, [0x00000073], false, [⟨7, 0, .sh⟩]⟩,
    ⟨0x02C, 1, 0x4, [0x00000000], false, [⟨16, 16, .w1p⟩, ⟨7, 0, .w1p⟩]⟩,
    ⟨0x100, 8, 0x20, [0x05028010], false, [⟨31, 31, .sh⟩, ⟨30, 30, .sh⟩, ⟨27, 24, .rw⟩, ⟨23, 14, .rw⟩, ⟨13, 13, .ew⟩, ⟨12, 9, .ew⟩, ⟨4, 0, .rw⟩]⟩,
    ⟨0x104, 8, 0x20, [0x00C80FA0], false, [⟨24, 16, .sh⟩, ⟨15, 0, .sh⟩]⟩,
    ⟨0x108, 8, 0x20, [0x0000001E], false, [⟨7, 0, .rw⟩]⟩,
    ⟨0x10C, 8, 0x20, [0x00000000], false, [⟨31, 24, .ro⟩, ⟨18, 18, .ro⟩, ⟨17, 17, .ro⟩, ⟨16, 16, .ro⟩, ⟨15, 15, .ro⟩, ⟨13, 12, .ro⟩, ⟨11, 8, .ro⟩, ⟨7, 4, .ro⟩, ⟨2, 0, .ro⟩]⟩,
    ⟨0x110, 8, 0x20, [0x00000000], false, [⟨31, 16, .ro⟩, ⟨15, 0, .ro⟩]⟩,
    ⟨0x114, 8, 0x20, [0x00000000], false, [⟨31, 16, .rc⟩, ⟨15, 8, .rc⟩, ⟨7, 0, .rc⟩]⟩]

/-- The registers of LINE (R490 to R500), without the common ones. -/
def regsLine : List RegSpec :=
  [
    ⟨0x010, 1, 0x4, [0x01E2C81E], false, [⟨29, 20, .sh⟩, ⟨19, 16, .rw⟩, ⟨15, 8, .sh⟩, ⟨7, 0, .sh⟩]⟩,
    ⟨0x014, 1, 0x4, [0x0A180064], false, [⟨31, 24, .sh⟩, ⟨23, 16, .rw⟩, ⟨8, 0, .sh⟩]⟩,
    ⟨0x018, 1, 0x4, [0x80000032], false, [⟨31, 31, .rw⟩, ⟨7, 0, .rw⟩]⟩,
    ⟨0x01C, 1, 0x4, [0xFFFF0000], false, [⟨31, 16, .ro⟩, ⟨15, 15, .ro⟩, ⟨14, 14, .ro⟩, ⟨13, 13, .ro⟩, ⟨12, 12, .ro⟩, ⟨10, 8, .ro⟩]⟩,
    ⟨0x020, 1, 0x4, [0x00000000], false, [⟨31, 24, .ro⟩, ⟨23, 16, .ro⟩, ⟨15, 8, .ro⟩, ⟨7, 7, .ro⟩, ⟨6, 6, .ro⟩, ⟨5, 5, .ro⟩, ⟨4, 4, .rc⟩, ⟨3, 3, .ro⟩, ⟨2, 0, .ro⟩]⟩,
    ⟨0x024, 1, 0x4, [0x00000000], false, [⟨17, 17, .w1p⟩, ⟨15, 8, .w1p⟩, ⟨7, 0, .w1p⟩]⟩,
    ⟨0x100, 8, 0x20, [0x8096320F], false, [⟨31, 31, .sh⟩, ⟨30, 30, .rw⟩, ⟨23, 16, .rw⟩, ⟨15, 8, .rw⟩, ⟨7, 0, .rw⟩]⟩,
    ⟨0x104, 8, 0x20, [0x03E80000], false, [⟨31, 16, .rw⟩, ⟨15, 0, .rw⟩]⟩,
    ⟨0x108, 8, 0x20, [0x00000000], false, [⟨23, 0, .ro⟩]⟩,
    ⟨0x10C, 8, 0x20, [0x00000000], false, [⟨31, 16, .ro⟩, ⟨15, 0, .ro⟩]⟩,
    ⟨0x110, 8, 0x20, [0x00000000], false, [⟨23, 0, .ro⟩]⟩,
    ⟨0x114, 8, 0x20, [0x00000000], false, [⟨23, 0, .ro⟩]⟩,
    ⟨0x118, 8, 0x20, [0x00000000], false, [⟨11, 9, .ro⟩, ⟨8, 8, .ro⟩, ⟨7, 7, .ro⟩, ⟨6, 6, .ro⟩, ⟨5, 5, .ro⟩, ⟨1, 0, .ro⟩]⟩,
    ⟨0x11C, 8, 0x20, [0x00000000], false, [⟨31, 16, .rc⟩, ⟨15, 8, .rc⟩, ⟨7, 0, .rc⟩]⟩]

/-- The registers of CROWN (R490 to R500), without the common ones. -/
def regsCrown : List RegSpec :=
  [
    ⟨0x010, 1, 0x4, [0x00000000], false, [⟨31, 16, .ro⟩, ⟨11, 11, .ro⟩, ⟨10, 10, .ro⟩, ⟨9, 9, .ro⟩, ⟨8, 8, .ro⟩, ⟨0, 0, .ro⟩]⟩,
    ⟨0x014, 1, 0x4, [0x00000000], false, [⟨23, 0, .ro⟩]⟩,
    ⟨0x018, 1, 0x4, [0x00000000], false, [⟨31, 16, .ro⟩, ⟨15, 0, .ro⟩]⟩,
    ⟨0x01C, 1, 0x4, [0x00000000], false, [⟨15, 0, .ro⟩]⟩,
    ⟨0x020, 1, 0x4, [0x00000000], false, [⟨15, 0, .ro⟩]⟩,
    ⟨0x024, 1, 0x4, [0x00000003], false, [⟨31, 16, .ro⟩, ⟨11, 8, .ro⟩, ⟨1, 1, .ro⟩, ⟨0, 0, .ro⟩]⟩,
    ⟨0x028, 1, 0x4, [0x00000000], false, [⟨31, 16, .rw⟩, ⟨11, 8, .rw⟩]⟩,
    ⟨0x02C, 1, 0x4, [0x00000000], false, [⟨8, 8, .w1p⟩, ⟨3, 0, .rw⟩]⟩,
    ⟨0x030, 1, 0x4, [0x00000000], false, [⟨2, 2, .so⟩, ⟨1, 1, .so⟩, ⟨0, 0, .so⟩]⟩,
    ⟨0x040, 1, 0x4, [0x00000000], false, [⟨31, 16, .rc⟩, ⟨15, 8, .rc⟩, ⟨7, 0, .rc⟩]⟩,
    ⟨0x100, 8, 0x4, [0x00000014], false, [⟨31, 31, .so⟩, ⟨5, 0, .so⟩]⟩]

/-- The registers of PAIR (R490 to R500), without the common ones. -/
def regsPair' : List RegSpec :=
  [
    ⟨0x010, 1, 0x4, [0x05000000], false, [⟨31, 31, .so⟩, ⟨30, 30, .so⟩, ⟨27, 24, .so⟩, ⟨20, 20, .so⟩, ⟨17, 16, .so⟩, ⟨11, 0, .so⟩]⟩,
    ⟨0x014, 1, 0x4, [0x0000009F], false, [⟨7, 0, .so⟩]⟩,
    ⟨0x018, 1, 0x4, [0x1000FF00], false, [⟨31, 29, .ro⟩, ⟨28, 28, .ro⟩, ⟨27, 27, .ro⟩, ⟨26, 26, .ro⟩, ⟨25, 25, .ro⟩, ⟨24, 24, .ro⟩, ⟨23, 23, .ro⟩, ⟨22, 22, .ro⟩, ⟨15, 8, .ro⟩, ⟨7, 0, .ro⟩]⟩,
    ⟨0x01C, 1, 0x4, [0x0000003C], false, [⟨31, 30, .ro⟩, ⟨15, 0, .rw⟩]⟩,
    ⟨0x020, 1, 0x4, [0x00000000], false, [⟨1, 1, .w1p⟩, ⟨0, 0, .w1p⟩]⟩,
    ⟨0x024, 1, 0x4, [0x00000000], false, [⟨31, 24, .ro⟩, ⟨15, 0, .ro⟩]⟩,
    ⟨0x028, 1, 0x4, [0x00000000], false, [⟨31, 16, .rc⟩, ⟨15, 0, .rc⟩]⟩]

/-- The registers of PNL (R490 to R500), without the common ones. -/
def regsPnl : List RegSpec :=
  [
    ⟨0x010, 1, 0x4, [0x01400401], false, [⟨29, 28, .ew⟩, ⟨26, 24, .ew⟩, ⟨23, 22, .ew⟩, ⟨21, 21, .ew⟩, ⟨15, 8, .ew⟩, ⟨7, 0, .ew⟩]⟩,
    ⟨0x014, 1, 0x4, [0x00000000], false, [⟨31, 21, .ro⟩, ⟨20, 10, .ro⟩, ⟨2, 2, .ro⟩]⟩,
    ⟨0x018, 1, 0x4, [0x00000000], false, [⟨31, 0, .ro⟩]⟩,
    ⟨0x01C, 1, 0x4, [0x00000000], true, [⟨15, 12, .ro⟩, ⟨8, 8, .ro⟩, ⟨7, 7, .ro⟩, ⟨6, 6, .ro⟩, ⟨3, 0, .ro⟩]⟩,
    ⟨0x020, 1, 0x4, [0x0000000F], true, [⟨4, 4, .rw⟩, ⟨3, 0, .rw⟩]⟩,
    ⟨0x024, 1, 0x4, [0x00000000], false, [⟨31, 0, .rw⟩]⟩,
    ⟨0x028, 1, 0x4, [0x00000000], false, [⟨2, 2, .w1p⟩, ⟨1, 1, .w1p⟩, ⟨0, 0, .w1p⟩]⟩,
    ⟨0x02C, 1, 0x4, [0x00000000], false, [⟨31, 24, .rc⟩, ⟨23, 16, .rc⟩, ⟨15, 8, .rc⟩, ⟨7, 0, .rc⟩]⟩]

/-- The registers of CERK (R490 to R500), without the common ones. -/
def regsCerk : List RegSpec :=
  [
    ⟨0x010, 1, 0x4, [0x00000000], false, [⟨11, 8, .ro⟩, ⟨7, 7, .ro⟩, ⟨6, 4, .ro⟩, ⟨3, 3, .ro⟩, ⟨2, 0, .ro⟩]⟩,
    ⟨0x014, 1, 0x4, [0x00000000], false, [⟨31, 0, .ro⟩]⟩,
    ⟨0x018, 1, 0x4, [0x00000000], false, [⟨31, 0, .ro⟩]⟩,
    ⟨0x020, 1, 0x4, [0x00000000], false, [⟨31, 24, .ro⟩, ⟨15, 12, .ro⟩, ⟨7, 4, .ro⟩, ⟨0, 0, .ro⟩]⟩,
    ⟨0x024, 1, 0x4, [0x00000000], false, [⟨31, 0, .ro⟩]⟩,
    ⟨0x028, 1, 0x4, [0x00000000], false, [⟨31, 0, .ro⟩]⟩,
    ⟨0x02C, 1, 0x4, [0x00000000], false, [⟨31, 16, .ro⟩, ⟨1, 1, .ro⟩, ⟨0, 0, .ro⟩]⟩,
    ⟨0x030, 1, 0x4, [0x00000000], false, [⟨0, 0, .so⟩]⟩,
    ⟨0x034, 1, 0x4, [0x00000000], false, [⟨31, 16, .rc⟩, ⟨5, 5, .ro⟩, ⟨4, 4, .rc⟩, ⟨3, 3, .rc⟩, ⟨2, 2, .rc⟩, ⟨1, 1, .rc⟩, ⟨0, 0, .ro⟩]⟩,
    ⟨0x038, 1, 0x4, [0x00000000], false, [⟨15, 0, .so⟩]⟩,
    ⟨0x03C, 1, 0x4, [0x00000000], false, [⟨31, 16, .rc⟩, ⟨15, 0, .rc⟩]⟩,
    ⟨0x040, 1, 0x4, [0x00000000], false, [⟨15, 0, .ro⟩]⟩]

/-- The registers of MEM (R490 to R500), without the common ones. -/
def regsMem : List RegSpec :=
  [
    ⟨0x010, 1, 0x4, [0x40004000], false, [⟨30, 16, .ro⟩, ⟨14, 0, .rc⟩]⟩,
    ⟨0x014, 1, 0x4, [0x000003E0], false, [⟨29, 16, .ro⟩, ⟨13, 0, .ro⟩]⟩,
    ⟨0x018, 1, 0x4, [0x00000000], false, [⟨3, 3, .rw⟩, ⟨2, 2, .rw⟩, ⟨1, 1, .rw⟩, ⟨0, 0, .rw⟩]⟩,
    ⟨0x01C, 1, 0x4, [0x00000000], false, [⟨31, 0, .rw⟩]⟩,
    ⟨0x020, 1, 0x4, [0x00000000], false, [⟨31, 0, .rw⟩]⟩,
    ⟨0x024, 1, 0x4, [0x00000000], false, [⟨31, 0, .ro⟩]⟩,
    ⟨0x028, 1, 0x4, [0x00000000], false, [⟨31, 0, .rc⟩]⟩,
    ⟨0x02C, 1, 0x4, [0x00000000], false, [⟨31, 31, .w1p⟩, ⟨4, 0, .rw⟩]⟩,
    ⟨0x030, 1, 0x4, [0x00000000], false, [⟨31, 0, .ro⟩]⟩,
    ⟨0x034, 1, 0x4, [0x20000800], false, [⟨30, 16, .rw⟩, ⟨15, 8, .rw⟩]⟩,
    ⟨0x038, 1, 0x4, [0x00000000], false, [⟨31, 31, .ro⟩, ⟨30, 16, .ro⟩]⟩,
    ⟨0x040, 1, 0x4, [0x00000000], false, [⟨31, 31, .rc⟩, ⟨30, 24, .ro⟩, ⟨23, 16, .rc⟩, ⟨15, 0, .rc⟩]⟩]

/-- The registers of PLAT (R490 to R500), without the common ones. -/
def regsPlat : List RegSpec :=
  [
    ⟨0x010, 1, 0x4, [0x00000000], false, [⟨31, 16, .ro⟩, ⟨2, 2, .ro⟩, ⟨1, 1, .ro⟩, ⟨0, 0, .ro⟩]⟩,
    ⟨0x014, 1, 0x4, [0x00000A00], false, [⟨15, 8, .rw⟩, ⟨1, 0, .rw⟩]⟩,
    ⟨0x018, 1, 0x4, [0x00000000], false, [⟨31, 24, .ro⟩, ⟨23, 16, .ro⟩, ⟨15, 8, .rc⟩]⟩,
    ⟨0x020, 1, 0x4, [0x00000000], false, [⟨8, 0, .kw⟩]⟩,
    ⟨0x024, 1, 0x4, [0x00000000], false, [⟨31, 16, .rc⟩, ⟨8, 0, .ro⟩]⟩,
    ⟨0x028, 1, 0x4, [0x000003E8], false, [⟨13, 0, .kw⟩]⟩,
    ⟨0x030, 1, 0x4, [0x00000000], false, [⟨1, 1, .w1p⟩, ⟨0, 0, .kw⟩]⟩,
    ⟨0x034, 1, 0x4, [0x00000000], false, [⟨31, 0, .rw⟩]⟩,
    ⟨0x038, 1, 0x4, [0x00000000], false, [⟨7, 7, .rc⟩, ⟨6, 6, .rc⟩, ⟨5, 5, .rc⟩, ⟨4, 4, .ro⟩, ⟨3, 3, .ro⟩, ⟨2, 2, .ro⟩, ⟨1, 1, .ro⟩, ⟨0, 0, .ro⟩]⟩,
    ⟨0x03C, 1, 0x4, [0x00000000], false, [⟨31, 16, .ro⟩, ⟨15, 0, .ro⟩]⟩,
    ⟨0x040, 1, 0x4, [0x10000018], false, [⟨31, 24, .rw⟩, ⟨7, 0, .rw⟩]⟩,
    ⟨0x044, 1, 0x4, [0x00000000], false, [⟨31, 31, .kw⟩, ⟨5, 0, .rw⟩]⟩,
    ⟨0x048, 1, 0x4, [0x00000000], false, [⟨31, 31, .ro⟩, ⟨29, 24, .ro⟩, ⟨15, 15, .ro⟩, ⟨13, 8, .ro⟩, ⟨7, 7, .ro⟩, ⟨5, 0, .ro⟩]⟩]

/-- BLK_ID, BLK_CTRL and BLK_STATUS, which begin every block (R466); BLK_STATUS is kept per port (R462). TOP_ID stands
in TOP's BLK_ID place and reads 0x4758_7460. -/
def regsCommon (code en : Nat) : List RegSpec :=
  [⟨0x000, 1, 4, [if code = 0 then 0x47587460 else 0x47580001 + code * 0x100], false, [⟨31, 0, .ro⟩]⟩,
   ⟨0x004, 1, 4, [en], false, [⟨2, 2, .rw⟩, ⟨1, 1, .w1p⟩, ⟨0, 0, .sh⟩]⟩,
   ⟨0x008, 1, 4, [0], true, [⟨2, 2, .rc⟩, ⟨1, 1, .rc⟩, ⟨0, 0, .rc⟩]⟩]

/-- IADDR, kept per port, and IDATA (R471). -/
def regsPair : List RegSpec :=
  [⟨0xFF0, 1, 4, [0], true, [⟨31, 31, .rw⟩, ⟨23, 0, .rw⟩]⟩, ⟨0xFF4, 1, 4, [0], true, [⟨31, 0, .rw⟩]⟩]

/-- The blocks of R486: code, reset value of BLK_CTRL, whether EN always reads 1, whether the block has the indirect
pair, and its own registers. -/
def blockTable : List (Nat × Nat × Bool × Bool × List RegSpec) :=
  [(0x00, 1, true, false, regsTop), (0x01, 1, true, true, regsEvt), (0x02, 1, true, true, regsLog),
   (0x03, 1, true, false, regsSem), (0x04, 1, false, true, regsHif), (0x05, 1, false, true, regsHif),
   (0x08, 1, false, false, regsTime), (0x09, 1, false, true, regsRefs), (0x0A, 0, false, true, regsSyn),
   (0x10, 1, false, true, regsNet), (0x11, 1, false, true, regsNet), (0x12, 1, false, true, regsRsw),
   (0x13, 1, false, true, regsSecy), (0x18, 1, false, true, regsStrm), (0x20, 1, false, true, regsFab),
   (0x21, 1, false, true, regsDsp), (0x28, 1, false, true, regsLap), (0x30, 0, false, true, regsAmp),
   (0x31, 1, false, false, regsLine), (0x38, 1, true, true, regsCrown), (0x39, 1, true, false, regsPair'),
   (0x3A, 1, false, true, regsPnl), (0x40, 1, true, true, regsCerk), (0x48, 1, true, true, regsMem),
   (0x50, 1, true, false, regsPlat)]

/-- The row of a block, by its code. -/
def blockRow (code : Nat) : Option (Nat × Nat × Bool × Bool × List RegSpec) := blockTable.find? (fun b => b.1 = code)

/-- Whether a block's EN always reads 1 (R486). -/
def enFixed (code : Nat) : Bool := match blockRow code with
  | some b => b.2.2.1
  | none => false

/-- Whether a block has IADDR and IDATA (R486). -/
def hasPair (code : Nat) : Bool := match blockRow code with
  | some b => b.2.2.2.1
  | none => false

/-- Every register of a block (R466, R471, R490 to R500). -/
def regsOf (code : Nat) : List RegSpec := match blockRow code with
  | some b => regsCommon code b.2.1 ++ (if b.2.2.2.1 then regsPair else []) ++ b.2.2.2.2
  | none => []

/-- Whether a row of the map holds the offset `o` within the block. -/
def RegSpec.holds (r : RegSpec) (o : Nat) : Bool :=
  r.off ≤ o && (o - r.off) % r.stride = 0 && (o - r.off) / r.stride < r.count

/-- The register at a BAR0 offset, and its number in its row; none where no chapter defines one (R9, R487). -/
def regAt (off : Nat) : Option (RegSpec × Nat) :=
  match (regsOf (off / 0x10000)).find? (fun r => r.holds (off % 0x10000)) with
  | some r => some (r, (off % 0x10000 - r.off) / r.stride)
  | none => none

/-- The reset word of a register of a row: its own, or the last one given. -/
def RegSpec.resetOf (r : RegSpec) (i : Nat) : Word :=
  BitVec.ofNat 32 (match r.resets[i]? with
    | some v => v
    | none => r.resets.getLastD 0)

/-- The first access code, other than RO, that a register's Access column lists (R459, R488). -/
def RegSpec.firstCode (r : RegSpec) : Acc := match r.fields.find? (fun f => f.acc ≠ .ro) with
  | some f => f.acc
  | none => .ro

/-- Where the indirect words of a block stand among the keys of the register store. -/
def indBase (code : Nat) : Nat := 0x100000000 + code * 0x1000000

/-- The key of a block's indirect word, whose address has 24 bits (R471). DESIGN CHOICE (assumption 127). -/
def indKey (code w : Nat) : Nat := indBase code + w % 0x1000000

/-- The reset value of an indirect word (R501, R502): 0 but for the receive flow entries' word +4 and the queue
words of MEM. -/
def indReset (code w : Nat) : Word :=
  if code = 0x18 then (if w < 0x800 && w % 16 = 4 then 0x80000000 else 0)
  else if code = 0x48 && w < 0xD0 then
    (if w % 8 = 2 then 0x08000000
     else if w % 8 = 0 then
       (let q := w / 8
        if q = 5 || q = 13 then 0x08000100
        else if q = 6 || q = 14 then 0x08000040
        else if q = 7 || q = 15 then 0x08000010
        else if q < 16 then 0x08000000
        else if q < 18 then 0x04000080
        else if q < 24 then 0x40000000
        else 0x00200020)
     else 0)
  else 0

/-- The value every key of the register store holds before any write (R485, R501): the reset word of the register,
each port's copy starting alike; the reset value of an indirect word; 0 elsewhere. DESIGN CHOICE (assumption 27). -/
def regReset (k : Nat) : Word :=
  if k < 0x100000000 then
    (match regAt (k % 0x1000000) with
     | some (r, i) => r.resetOf i
     | none => 0)
  else indReset ((k - 0x100000000) / 0x1000000) ((k - 0x100000000) % 0x1000000)


/-! ### Field names: `Fld.<REGISTER>_<FIELD>`, with the register's index first where it has one. An index
past the last names no register of the map. -/

/-- STEP of TOP_VARIANT, [15:8] (R5). -/
def Fld.TOP_VARIANT_STEP : Fld := ⟨0x000010, 15, 8⟩
/-- CODE of TOP_VARIANT, [7:0] (R5). -/
def Fld.TOP_VARIANT_CODE : Fld := ⟨0x000010, 7, 0⟩
/-- REQ_REJECT of TOP_MODE_STATUS, [31:31] (R366). -/
def Fld.TOP_MODE_STATUS_REQ_REJECT : Fld := ⟨0x000020, 31, 31⟩
/-- FW_FALLBACK of TOP_MODE_STATUS, [27:27] (R366). -/
def Fld.TOP_MODE_STATUS_FW_FALLBACK : Fld := ⟨0x000020, 27, 27⟩
/-- RESTARTING of TOP_MODE_STATUS, [26:26] (R366). -/
def Fld.TOP_MODE_STATUS_RESTARTING : Fld := ⟨0x000020, 26, 26⟩
/-- SPARES_USED of TOP_MODE_STATUS, [25:25] (R366). -/
def Fld.TOP_MODE_STATUS_SPARES_USED : Fld := ⟨0x000020, 25, 25⟩
/-- TEMP_WARN of TOP_MODE_STATUS, [24:24] (R366). -/
def Fld.TOP_MODE_STATUS_TEMP_WARN : Fld := ⟨0x000020, 24, 24⟩
/-- SUPPLY of TOP_MODE_STATUS, [23:23] (R366). -/
def Fld.TOP_MODE_STATUS_SUPPLY : Fld := ⟨0x000020, 23, 23⟩
/-- HOSTB_LOST of TOP_MODE_STATUS, [22:22] (R366). -/
def Fld.TOP_MODE_STATUS_HOSTB_LOST : Fld := ⟨0x000020, 22, 22⟩
/-- HOSTA_LOST of TOP_MODE_STATUS, [21:21] (R366). -/
def Fld.TOP_MODE_STATUS_HOSTA_LOST : Fld := ⟨0x000020, 21, 21⟩
/-- PEER of TOP_MODE_STATUS, [20:20] (R366). -/
def Fld.TOP_MODE_STATUS_PEER : Fld := ⟨0x000020, 20, 20⟩
/-- RING_OPEN of TOP_MODE_STATUS, [19:19] (R366). -/
def Fld.TOP_MODE_STATUS_RING_OPEN : Fld := ⟨0x000020, 19, 19⟩
/-- LANE of TOP_MODE_STATUS, [18:18] (R366). -/
def Fld.TOP_MODE_STATUS_LANE : Fld := ⟨0x000020, 18, 18⟩
/-- SCHED_LOST of TOP_MODE_STATUS, [17:17] (R366). -/
def Fld.TOP_MODE_STATUS_SCHED_LOST : Fld := ⟨0x000020, 17, 17⟩
/-- CLOCK_LOST of TOP_MODE_STATUS, [16:16] (R366). -/
def Fld.TOP_MODE_STATUS_CLOCK_LOST : Fld := ⟨0x000020, 16, 16⟩
/-- HOLDOVER of TOP_MODE_STATUS, [15:15] (R366). -/
def Fld.TOP_MODE_STATUS_HOLDOVER : Fld := ⟨0x000020, 15, 15⟩
/-- SYN_COAST of TOP_MODE_STATUS, [14:14] (R366). -/
def Fld.TOP_MODE_STATUS_SYN_COAST : Fld := ⟨0x000020, 14, 14⟩
/-- SHELTER_CAUSE of TOP_MODE_STATUS, [11:8] (R366). -/
def Fld.TOP_MODE_STATUS_SHELTER_CAUSE : Fld := ⟨0x000020, 11, 8⟩
/-- RETURN of TOP_MODE_STATUS, [7:4] (R366). -/
def Fld.TOP_MODE_STATUS_RETURN : Fld := ⟨0x000020, 7, 4⟩
/-- MODE of TOP_MODE_STATUS, [3:0] (R366). -/
def Fld.TOP_MODE_STATUS_MODE : Fld := ⟨0x000020, 3, 0⟩
/-- GO of TOP_MODE_CMD, [31:31] (R366). -/
def Fld.TOP_MODE_CMD_GO : Fld := ⟨0x000024, 31, 31⟩
/-- TARGET of TOP_MODE_CMD, [3:0] (R366). -/
def Fld.TOP_MODE_CMD_TARGET : Fld := ⟨0x000024, 3, 0⟩
/-- CAUSES of TOP_SHELTER, [5:0] (R366). -/
def Fld.TOP_SHELTER_CAUSES : Fld := ⟨0x000028, 5, 0⟩
/-- OPEN of TOP_UNLOCK, [16:16] (R468). -/
def Fld.TOP_UNLOCK_OPEN (p : Nat) : Fld := ⟨0x000030 + p * 0x1000000, 16, 16⟩
/-- KEY of TOP_UNLOCK, [15:0] (R468). -/
def Fld.TOP_UNLOCK_KEY (p : Nat) : Fld := ⟨0x000030 + p * 0x1000000, 15, 0⟩
/-- HOLD_LIMIT of TOP_APPLY_CTRL, [31:24] (R25). -/
def Fld.TOP_APPLY_CTRL_HOLD_LIMIT : Fld := ⟨0x000040, 31, 24⟩
/-- HOLD_B of TOP_APPLY_CTRL, [9:9] (R25). -/
def Fld.TOP_APPLY_CTRL_HOLD_B : Fld := ⟨0x000040, 9, 9⟩
/-- HOLD_A of TOP_APPLY_CTRL, [8:8] (R25). -/
def Fld.TOP_APPLY_CTRL_HOLD_A : Fld := ⟨0x000040, 8, 8⟩
/-- DISARM of TOP_APPLY_CTRL, [2:2] (R25). -/
def Fld.TOP_APPLY_CTRL_DISARM : Fld := ⟨0x000040, 2, 2⟩
/-- ARM of TOP_APPLY_CTRL, [1:1] (R25). -/
def Fld.TOP_APPLY_CTRL_ARM : Fld := ⟨0x000040, 1, 1⟩
/-- HOLD of TOP_APPLY_CTRL, [0:0] (R25). -/
def Fld.TOP_APPLY_CTRL_HOLD : Fld := ⟨0x000040, 0, 0⟩
/-- BRIM_TICK of TOP_APPLY_TICK, [31:0] (R26). -/
def Fld.TOP_APPLY_TICK_BRIM_TICK : Fld := ⟨0x000044, 31, 0⟩
/-- HOLD_EXPIRED of TOP_APPLY_STATUS, [9:9] (R27). -/
def Fld.TOP_APPLY_STATUS_HOLD_EXPIRED : Fld := ⟨0x000048, 9, 9⟩
/-- MISSED of TOP_APPLY_STATUS, [8:8] (R27). -/
def Fld.TOP_APPLY_STATUS_MISSED : Fld := ⟨0x000048, 8, 8⟩
/-- HELD of TOP_APPLY_STATUS, [2:2] (R27). -/
def Fld.TOP_APPLY_STATUS_HELD : Fld := ⟨0x000048, 2, 2⟩
/-- ARMED of TOP_APPLY_STATUS, [1:1] (R27). -/
def Fld.TOP_APPLY_STATUS_ARMED : Fld := ⟨0x000048, 1, 1⟩
/-- PENDING of TOP_APPLY_STATUS, [0:0] (R27). -/
def Fld.TOP_APPLY_STATUS_PENDING : Fld := ⟨0x000048, 0, 0⟩
/-- LAST_BRIM of TOP_APPLY_LAST, [31:0] (R28). -/
def Fld.TOP_APPLY_LAST_LAST_BRIM : Fld := ⟨0x00004C, 31, 0⟩
/-- RAW of EVT_RAW_LO, [31:0] (R476). -/
def Fld.EVT_RAW_LO_RAW : Fld := ⟨0x010010, 31, 0⟩
/-- RAW of EVT_RAW_HI, [31:0] (R476). -/
def Fld.EVT_RAW_HI_RAW : Fld := ⟨0x010014, 31, 0⟩
/-- CLR of EVT_RAW_CLR_LO, [31:0] (R476). -/
def Fld.EVT_RAW_CLR_LO_CLR : Fld := ⟨0x010018, 31, 0⟩
/-- CLR of EVT_RAW_CLR_HI, [31:0] (R476). -/
def Fld.EVT_RAW_CLR_HI_CLR : Fld := ⟨0x01001C, 31, 0⟩
/-- LAT of EVT_LAT_LO, [31:0] (R476). -/
def Fld.EVT_LAT_LO_LAT (p : Nat) : Fld := ⟨0x010020 + p * 0x1000000, 31, 0⟩
/-- LAT of EVT_LAT_HI, [31:0] (R476). -/
def Fld.EVT_LAT_HI_LAT (p : Nat) : Fld := ⟨0x010024 + p * 0x1000000, 31, 0⟩
/-- MASK of EVT_MASK_LO, [31:0] (R476). -/
def Fld.EVT_MASK_LO_MASK (p : Nat) : Fld := ⟨0x010028 + p * 0x1000000, 31, 0⟩
/-- MASK of EVT_MASK_HI, [31:0] (R476). -/
def Fld.EVT_MASK_HI_MASK (p : Nat) : Fld := ⟨0x01002C + p * 0x1000000, 31, 0⟩
/-- ROUTE of EVT_ROUTE_A_LO, [31:0] (R476). -/
def Fld.EVT_ROUTE_A_LO_ROUTE : Fld := ⟨0x010030, 31, 0⟩
/-- ROUTE of EVT_ROUTE_A_HI, [31:0] (R476). -/
def Fld.EVT_ROUTE_A_HI_ROUTE : Fld := ⟨0x010034, 31, 0⟩
/-- ROUTE of EVT_ROUTE_B_LO, [31:0] (R476). -/
def Fld.EVT_ROUTE_B_LO_ROUTE : Fld := ⟨0x010038, 31, 0⟩
/-- ROUTE of EVT_ROUTE_B_HI, [31:0] (R476). -/
def Fld.EVT_ROUTE_B_HI_ROUTE : Fld := ⟨0x01003C, 31, 0⟩
/-- GO of EVT_TEST, [31:31] (R476). -/
def Fld.EVT_TEST_GO : Fld := ⟨0x010040, 31, 31⟩
/-- SRC of EVT_TEST, [5:0] (R476). -/
def Fld.EVT_TEST_SRC : Fld := ⟨0x010040, 5, 0⟩
/-- SEQ of EVT_LAST, [7:0] (R476). -/
def Fld.EVT_LAST_SEQ : Fld := ⟨0x010044, 7, 0⟩
/-- ARCH_SEV of LOG_CFG, [31:28] (R484). -/
def Fld.LOG_CFG_ARCH_SEV : Fld := ⟨0x020010, 31, 28⟩
/-- FREEZE_SEV of LOG_CFG, [27:24] (R484). -/
def Fld.LOG_CFG_FREEZE_SEV : Fld := ⟨0x020010, 27, 24⟩
/-- POST of LOG_CFG, [11:0] (R484). -/
def Fld.LOG_CFG_POST : Fld := ⟨0x020010, 11, 0⟩
/-- FROZEN of LOG_ST, [31:31] (R484). -/
def Fld.LOG_ST_FROZEN : Fld := ⟨0x020014, 31, 31⟩
/-- TRIG of LOG_ST, [30:30] (R484). -/
def Fld.LOG_ST_TRIG : Fld := ⟨0x020014, 30, 30⟩
/-- NEXT of LOG_ST, [27:16] (R484). -/
def Fld.LOG_ST_NEXT : Fld := ⟨0x020014, 27, 16⟩
/-- WRAPPED of LOG_ST, [0:0] (R484). -/
def Fld.LOG_ST_WRAPPED : Fld := ⟨0x020014, 0, 0⟩
/-- COUNT of LOG_COUNT, [31:0] (R484). -/
def Fld.LOG_COUNT_COUNT : Fld := ⟨0x020018, 31, 0⟩
/-- DROPPED of LOG_CNT, [31:16] (R484). -/
def Fld.LOG_CNT_DROPPED : Fld := ⟨0x02001C, 31, 16⟩
/-- ARCH_SKIP of LOG_CNT, [15:0] (R484). -/
def Fld.LOG_CNT_ARCH_SKIP : Fld := ⟨0x02001C, 15, 0⟩
/-- CLEAR of LOG_CMD, [2:2] (R484). -/
def Fld.LOG_CMD_CLEAR : Fld := ⟨0x020020, 2, 2⟩
/-- UNFREEZE of LOG_CMD, [1:1] (R484). -/
def Fld.LOG_CMD_UNFREEZE : Fld := ⟨0x020020, 1, 1⟩
/-- FREEZE of LOG_CMD, [0:0] (R484). -/
def Fld.LOG_CMD_FREEZE : Fld := ⟨0x020020, 0, 0⟩
/-- COUNT of LOG_FROZEN_AT, [31:0] (R484). -/
def Fld.LOG_FROZEN_AT_COUNT : Fld := ⟨0x020024, 31, 0⟩
/-- HELD of SEM_HELD, [31:0] (R430). -/
def Fld.SEM_HELD_HELD : Fld := ⟨0x030010, 31, 0⟩
/-- GO of SEM_FORCE, [31:31] (R430). -/
def Fld.SEM_FORCE_GO : Fld := ⟨0x030014, 31, 31⟩
/-- NUM of SEM_FORCE, [4:0] (R430). -/
def Fld.SEM_FORCE_NUM : Fld := ⟨0x030014, 4, 0⟩
/-- FREED of SEM_FREED, [31:0] (R430). -/
def Fld.SEM_FREED_FREED (p : Nat) : Fld := ⟨0x030018 + p * 0x1000000, 31, 0⟩
/-- FORCED of SEM_CNT, [31:16] (R430). -/
def Fld.SEM_CNT_FORCED : Fld := ⟨0x03001C, 31, 16⟩
/-- CONTENDED of SEM_CNT, [15:0] (R430). -/
def Fld.SEM_CNT_CONTENDED : Fld := ⟨0x03001C, 15, 0⟩
/-- HELD of SEMn, [31:31] (R430). -/
def Fld.SEM_HELD (n : Nat) : Fld := ⟨0x030100 + min n 32 * 0x4, 31, 31⟩
/-- WAIT_B of SEMn, [30:30] (R430). -/
def Fld.SEM_WAIT_B (n : Nat) : Fld := ⟨0x030100 + min n 32 * 0x4, 30, 30⟩
/-- WAIT_A of SEMn, [29:29] (R430). -/
def Fld.SEM_WAIT_A (n : Nat) : Fld := ⟨0x030100 + min n 32 * 0x4, 29, 29⟩
/-- OWNER of SEMn, [27:26] (R430). -/
def Fld.SEM_OWNER (n : Nat) : Fld := ⟨0x030100 + min n 32 * 0x4, 27, 26⟩
/-- OP of SEMn, [25:24] (R430). -/
def Fld.SEM_OP (n : Nat) : Fld := ⟨0x030100 + min n 32 * 0x4, 25, 24⟩
/-- TOKEN of SEMn, [15:0] (R430). -/
def Fld.SEM_TOKEN (n : Nat) : Fld := ⟨0x030100 + min n 32 * 0x4, 15, 0⟩
/-- VALUE of HIF_HB, [31:0] (R427). -/
def Fld.HIF_HB_VALUE (p : Nat) : Fld := ⟨0x040010 + p * 0x10000, 31, 0⟩
/-- HB_EN of HIF_HB_CFG, [31:31] (R427). -/
def Fld.HIF_HB_CFG_HB_EN (p : Nat) : Fld := ⟨0x040014 + p * 0x10000, 31, 31⟩
/-- MISS of HIF_HB_CFG, [19:16] (R427). -/
def Fld.HIF_HB_CFG_MISS (p : Nat) : Fld := ⟨0x040014 + p * 0x10000, 19, 16⟩
/-- PERIOD_MS of HIF_HB_CFG, [9:0] (R427). -/
def Fld.HIF_HB_CFG_PERIOD_MS (p : Nat) : Fld := ⟨0x040014 + p * 0x10000, 9, 0⟩
/-- LOSSES of HIF_PORT_ST, [31:16] (R427). -/
def Fld.HIF_PORT_ST_LOSSES (p : Nat) : Fld := ⟨0x040018 + p * 0x10000, 31, 16⟩
/-- WIDTH of HIF_PORT_ST, [9:8] (R427). -/
def Fld.HIF_PORT_ST_WIDTH (p : Nat) : Fld := ⟨0x040018 + p * 0x10000, 9, 8⟩
/-- GEN of HIF_PORT_ST, [5:4] (R427). -/
def Fld.HIF_PORT_ST_GEN (p : Nat) : Fld := ⟨0x040018 + p * 0x10000, 5, 4⟩
/-- BME of HIF_PORT_ST, [3:3] (R427). -/
def Fld.HIF_PORT_ST_BME (p : Nat) : Fld := ⟨0x040018 + p * 0x10000, 3, 3⟩
/-- LINK of HIF_PORT_ST, [2:2] (R427). -/
def Fld.HIF_PORT_ST_LINK (p : Nat) : Fld := ⟨0x040018 + p * 0x10000, 2, 2⟩
/-- STATE of HIF_PORT_ST, [1:0] (R427). -/
def Fld.HIF_PORT_ST_STATE (p : Nat) : Fld := ⟨0x040018 + p * 0x10000, 1, 0⟩
/-- CELLS of HIF_QUOTA, [30:16] (R427). -/
def Fld.HIF_QUOTA_CELLS (p : Nat) : Fld := ⟨0x040020 + p * 0x10000, 30, 16⟩
/-- HYST of HIF_QUOTA, [15:8] (R427). -/
def Fld.HIF_QUOTA_HYST (p : Nat) : Fld := ⟨0x040020 + p * 0x10000, 15, 8⟩
/-- DMA of HIF_QUOTA, [7:0] (R427). -/
def Fld.HIF_QUOTA_DMA (p : Nat) : Fld := ⟨0x040020 + p * 0x10000, 7, 0⟩
/-- CELLS_USED of HIF_USE, [30:16] (R427). -/
def Fld.HIF_USE_CELLS_USED (p : Nat) : Fld := ⟨0x040024 + p * 0x10000, 30, 16⟩
/-- OVER_CELLS of HIF_USE, [15:15] (R427). -/
def Fld.HIF_USE_OVER_CELLS (p : Nat) : Fld := ⟨0x040024 + p * 0x10000, 15, 15⟩
/-- OVER_DMA of HIF_USE, [14:14] (R427). -/
def Fld.HIF_USE_OVER_DMA (p : Nat) : Fld := ⟨0x040024 + p * 0x10000, 14, 14⟩
/-- DMA_USED of HIF_USE, [7:0] (R427). -/
def Fld.HIF_USE_DMA_USED (p : Nat) : Fld := ⟨0x040024 + p * 0x10000, 7, 0⟩
/-- RINGS of HIF_RING_ERR_LO, [31:0] (R427). -/
def Fld.HIF_RING_ERR_LO_RINGS (p : Nat) : Fld := ⟨0x040028 + p * 0x10000, 31, 0⟩
/-- RINGS of HIF_RING_ERR_HI, [31:0] (R427). -/
def Fld.HIF_RING_ERR_HI_RINGS (p : Nat) : Fld := ⟨0x04002C + p * 0x10000, 31, 0⟩
/-- DEFAULT_EN of HIF_RXCLS, [31:31] (R427). -/
def Fld.HIF_RXCLS_DEFAULT_EN (p : Nat) : Fld := ⟨0x040030 + p * 0x10000, 31, 31⟩
/-- DEFAULT_RING of HIF_RXCLS, [29:24] (R427). -/
def Fld.HIF_RXCLS_DEFAULT_RING (p : Nat) : Fld := ⟨0x040030 + p * 0x10000, 29, 24⟩
/-- BASE_LO of HIF_Rn_BASE_LO, [31:0] (R428). -/
def Fld.HIF_R_BASE_LO_BASE_LO (p n : Nat) : Fld := ⟨0x040100 + p * 0x10000 + min n 64 * 0x20, 31, 0⟩
/-- BASE_HI of HIF_Rn_BASE_HI, [31:0] (R428). -/
def Fld.HIF_R_BASE_HI_BASE_HI (p n : Nat) : Fld := ⟨0x040104 + p * 0x10000 + min n 64 * 0x20, 31, 0⟩
/-- WB_LO of HIF_Rn_WB_LO, [31:2] (R428). -/
def Fld.HIF_R_WB_LO_WB_LO (p n : Nat) : Fld := ⟨0x040108 + p * 0x10000 + min n 64 * 0x20, 31, 2⟩
/-- WB_HI of HIF_Rn_WB_HI, [31:0] (R428). -/
def Fld.HIF_R_WB_HI_WB_HI (p n : Nat) : Fld := ⟨0x04010C + p * 0x10000 + min n 64 * 0x20, 31, 0⟩
/-- EN of HIF_Rn_CFG, [31:31] (R428). -/
def Fld.HIF_R_CFG_EN (p n : Nat) : Fld := ⟨0x040110 + p * 0x10000 + min n 64 * 0x20, 31, 31⟩
/-- TYPE of HIF_Rn_CFG, [26:24] (R428). -/
def Fld.HIF_R_CFG_TYPE (p n : Nat) : Fld := ⟨0x040110 + p * 0x10000 + min n 64 * 0x20, 26, 24⟩
/-- SIZE_LOG2 of HIF_Rn_CFG, [19:16] (R428). -/
def Fld.HIF_R_CFG_SIZE_LOG2 (p n : Nat) : Fld := ⟨0x040110 + p * 0x10000 + min n 64 * 0x20, 19, 16⟩
/-- CPL of HIF_Rn_CFG, [13:8] (R428). -/
def Fld.HIF_R_CFG_CPL (p n : Nat) : Fld := ⟨0x040110 + p * 0x10000 + min n 64 * 0x20, 13, 8⟩
/-- FMT of HIF_Rn_TCFG, [31:31] (R428). -/
def Fld.HIF_R_TCFG_FMT (p n : Nat) : Fld := ⟨0x040114 + p * 0x10000 + min n 64 * 0x20, 31, 31⟩
/-- B of HIF_Rn_TCFG, [21:16] (R428). -/
def Fld.HIF_R_TCFG_B (p n : Nat) : Fld := ⟨0x040114 + p * 0x10000 + min n 64 * 0x20, 21, 16⟩
/-- C of HIF_Rn_TCFG, [11:8] (R428). -/
def Fld.HIF_R_TCFG_C (p n : Nat) : Fld := ⟨0x040114 + p * 0x10000 + min n 64 * 0x20, 11, 8⟩
/-- T of HIF_Rn_TCFG, [5:0] (R428). -/
def Fld.HIF_R_TCFG_T (p n : Nat) : Fld := ⟨0x040114 + p * 0x10000 + min n 64 * 0x20, 5, 0⟩
/-- HOLD of HIF_Rn_TIME, [24:16] (R428). -/
def Fld.HIF_R_TIME_HOLD (p n : Nat) : Fld := ⟨0x040118 + p * 0x10000 + min n 64 * 0x20, 24, 16⟩
/-- MOD_US of HIF_Rn_TIME, [9:0] (R428). -/
def Fld.HIF_R_TIME_MOD_US (p n : Nat) : Fld := ⟨0x040118 + p * 0x10000 + min n 64 * 0x20, 9, 0⟩
/-- RUN of HIF_Rn_ST, [31:31] (R428). -/
def Fld.HIF_R_ST_RUN (p n : Nat) : Fld := ⟨0x04011C + p * 0x10000 + min n 64 * 0x20, 31, 31⟩
/-- CAUSE of HIF_Rn_ST, [27:24] (R428). -/
def Fld.HIF_R_ST_CAUSE (p n : Nat) : Fld := ⟨0x04011C + p * 0x10000 + min n 64 * 0x20, 27, 24⟩
/-- CONS of HIF_Rn_ST, [15:0] (R428). -/
def Fld.HIF_R_ST_CONS (p n : Nat) : Fld := ⟨0x04011C + p * 0x10000 + min n 64 * 0x20, 15, 0⟩
/-- NS_HI of TIME_SYS_HI, [31:0] (R40). -/
def Fld.TIME_SYS_HI_NS_HI : Fld := ⟨0x080010, 31, 0⟩
/-- NS_LO of TIME_SYS_LO, [31:0] (R40). -/
def Fld.TIME_SYS_LO_NS_LO : Fld := ⟨0x080014, 31, 0⟩
/-- TICK of TIME_TICK, [31:0] (R43). -/
def Fld.TIME_TICK_TICK : Fld := ⟨0x08001C, 31, 0⟩
/-- PHASE_NS of TIME_TICK_PHASE, [17:0] (R43). -/
def Fld.TIME_TICK_PHASE_PHASE_NS : Fld := ⟨0x080020, 17, 0⟩
/-- CONFIRM of TIME_STEP_CFG, [7:4] (R60). -/
def Fld.TIME_STEP_CFG_CONFIRM : Fld := ⟨0x080030, 7, 4⟩
/-- MODE of TIME_STEP_CFG, [1:0] (R60). -/
def Fld.TIME_STEP_CFG_MODE : Fld := ⟨0x080030, 1, 0⟩
/-- THRESH_NS of TIME_STEP_THRESH, [29:0] (R60). -/
def Fld.TIME_STEP_THRESH_THRESH_NS : Fld := ⟨0x080034, 29, 0⟩
/-- DELTA_HI of TIME_STEP_LAST_HI, [31:0] (R64). -/
def Fld.TIME_STEP_LAST_HI_DELTA_HI : Fld := ⟨0x080038, 31, 0⟩
/-- DELTA_LO of TIME_STEP_LAST_LO, [31:0] (R64). -/
def Fld.TIME_STEP_LAST_LO_DELTA_LO : Fld := ⟨0x08003C, 31, 0⟩
/-- LONG_TICK of TIME_STEP_TICK, [31:0] (R64). -/
def Fld.TIME_STEP_TICK_LONG_TICK : Fld := ⟨0x080040, 31, 0⟩
/-- SEQ of TIME_STEP_SEQ, [7:0] (R64). -/
def Fld.TIME_STEP_SEQ_SEQ : Fld := ⟨0x080044, 7, 0⟩
/-- COUNT of TIME_STEP_COUNT, [15:0] (R64). -/
def Fld.TIME_STEP_COUNT_COUNT : Fld := ⟨0x080048, 15, 0⟩
/-- LOG_SYNC of TIME_PTP_CFG, [23:16] (R57). -/
def Fld.TIME_PTP_CFG_LOG_SYNC : Fld := ⟨0x080050, 23, 16⟩
/-- DOMAIN of TIME_PTP_CFG, [15:8] (R57). -/
def Fld.TIME_PTP_CFG_DOMAIN : Fld := ⟨0x080050, 15, 8⟩
/-- ONE_STEP of TIME_PTP_CFG, [7:7] (R57). -/
def Fld.TIME_PTP_CFG_ONE_STEP : Fld := ⟨0x080050, 7, 7⟩
/-- SLAVE_ONLY of TIME_PTP_CFG, [6:6] (R57). -/
def Fld.TIME_PTP_CFG_SLAVE_ONLY : Fld := ⟨0x080050, 6, 6⟩
/-- ROLE of TIME_PTP_CFG, [5:4] (R57). -/
def Fld.TIME_PTP_CFG_ROLE : Fld := ⟨0x080050, 5, 4⟩
/-- PROFILE of TIME_PTP_CFG, [1:1] (R57). -/
def Fld.TIME_PTP_CFG_PROFILE : Fld := ⟨0x080050, 1, 1⟩
/-- EN of TIME_PTP_CFG, [0:0] (R57). -/
def Fld.TIME_PTP_CFG_EN : Fld := ⟨0x080050, 0, 0⟩
/-- PRIORITY2 of TIME_PTP_PRIO, [15:8] (R57). -/
def Fld.TIME_PTP_PRIO_PRIORITY2 : Fld := ⟨0x080054, 15, 8⟩
/-- PRIORITY1 of TIME_PTP_PRIO, [7:0] (R57). -/
def Fld.TIME_PTP_PRIO_PRIORITY1 : Fld := ⟨0x080054, 7, 0⟩
/-- GM_PRESENT of TIME_PTP_STATUS, [17:17] (R59). -/
def Fld.TIME_PTP_STATUS_GM_PRESENT : Fld := ⟨0x080058, 17, 17⟩
/-- CFG_INVALID of TIME_PTP_STATUS, [16:16] (R59). -/
def Fld.TIME_PTP_STATUS_CFG_INVALID : Fld := ⟨0x080058, 16, 16⟩
/-- SERVO of TIME_PTP_STATUS, [14:12] (R59). -/
def Fld.TIME_PTP_STATUS_SERVO : Fld := ⟨0x080058, 14, 12⟩
/-- PSTATE_L of TIME_PTP_STATUS, [11:8] (R59). -/
def Fld.TIME_PTP_STATUS_PSTATE_L : Fld := ⟨0x080058, 11, 8⟩
/-- PSTATE_B of TIME_PTP_STATUS, [7:4] (R59). -/
def Fld.TIME_PTP_STATUS_PSTATE_B : Fld := ⟨0x080058, 7, 4⟩
/-- PSTATE_A of TIME_PTP_STATUS, [3:0] (R59). -/
def Fld.TIME_PTP_STATUS_PSTATE_A : Fld := ⟨0x080058, 3, 0⟩
/-- OFFSET_NS of TIME_PTP_OFFSET, [31:0] (R59). -/
def Fld.TIME_PTP_OFFSET_OFFSET_NS : Fld := ⟨0x08005C, 31, 0⟩
/-- MPD_NS of TIME_PTP_MPD, [31:0] (R59). -/
def Fld.TIME_PTP_MPD_MPD_NS : Fld := ⟨0x080060, 31, 0⟩
/-- QNS of TIME_SYS_FRAC, [15:12] (R40). -/
def Fld.TIME_SYS_FRAC_QNS (p : Nat) : Fld := ⟨0x080018 + p * 0x1000000, 15, 12⟩
/-- HWM of TIME_TSQ_STATUS, [23:16] (R55). -/
def Fld.TIME_TSQ_STATUS_HWM (n : Nat) : Fld := ⟨0x080100 + min n 2 * 0x20, 23, 16⟩
/-- HOST_LEVEL of TIME_TSQ_STATUS, [15:8] (R55). -/
def Fld.TIME_TSQ_STATUS_HOST_LEVEL (n : Nat) : Fld := ⟨0x080100 + min n 2 * 0x20, 15, 8⟩
/-- LEVEL of TIME_TSQ_STATUS, [7:0] (R55). -/
def Fld.TIME_TSQ_STATUS_LEVEL (n : Nat) : Fld := ⟨0x080100 + min n 2 * 0x20, 7, 0⟩
/-- OVF of TIME_TSQ_OVF, [15:0] (R55). -/
def Fld.TIME_TSQ_OVF_OVF (n : Nat) : Fld := ⟨0x080104 + min n 2 * 0x20, 15, 0⟩
/-- ABORT of TIME_TSQ_ABORT, [15:0] (R55). -/
def Fld.TIME_TSQ_ABORT_ABORT (n : Nat) : Fld := ⟨0x080108 + min n 2 * 0x20, 15, 0⟩
/-- LAT_PS of TIME_LAT, [23:0] (R48). -/
def Fld.TIME_LAT_LAT_PS (n : Nat) : Fld := ⟨0x080200 + min n 16 * 0x4, 23, 0⟩
/-- WTR_S of REFS_SEL_CTRL, [31:20] (R81). -/
def Fld.REFS_SEL_CTRL_WTR_S : Fld := ⟨0x090010, 31, 20⟩
/-- REVERTIVE of REFS_SEL_CTRL, [11:11] (R81). -/
def Fld.REFS_SEL_CTRL_REVERTIVE : Fld := ⟨0x090010, 11, 11⟩
/-- MAN_REF of REFS_SEL_CTRL, [10:8] (R81). -/
def Fld.REFS_SEL_CTRL_MAN_REF : Fld := ⟨0x090010, 10, 8⟩
/-- POLICY of REFS_SEL_CTRL, [1:0] (R81). -/
def Fld.REFS_SEL_CTRL_POLICY : Fld := ⟨0x090010, 1, 0⟩
/-- DISAGREE of REFS_SEL_STATUS, [31:24] (R81). -/
def Fld.REFS_SEL_STATUS_DISAGREE : Fld := ⟨0x090014, 31, 24⟩
/-- QUAL of REFS_SEL_STATUS, [23:16] (R81). -/
def Fld.REFS_SEL_STATUS_QUAL : Fld := ⟨0x090014, 23, 16⟩
/-- HOLD_OFF of REFS_SEL_STATUS, [15:15] (R81). -/
def Fld.REFS_SEL_STATUS_HOLD_OFF : Fld := ⟨0x090014, 15, 15⟩
/-- ACTIVE of REFS_SEL_STATUS, [10:8] (R81). -/
def Fld.REFS_SEL_STATUS_ACTIVE : Fld := ⟨0x090014, 10, 8⟩
/-- ACT_VALID of REFS_SEL_STATUS, [7:7] (R81). -/
def Fld.REFS_SEL_STATUS_ACT_VALID : Fld := ⟨0x090014, 7, 7⟩
/-- STATE of REFS_SEL_STATUS, [2:0] (R81). -/
def Fld.REFS_SEL_STATUS_STATE : Fld := ⟨0x090014, 2, 0⟩
/-- BW_TRK of REFS_LOOP, [29:16] (R81). -/
def Fld.REFS_LOOP_BW_TRK : Fld := ⟨0x090018, 29, 16⟩
/-- BW_ACQ of REFS_LOOP, [13:0] (R81). -/
def Fld.REFS_LOOP_BW_ACQ : Fld := ⟨0x090018, 13, 0⟩
/-- SLEW of REFS_SLEW, [9:0] (R81). -/
def Fld.REFS_SLEW_SLEW : Fld := ⟨0x09001C, 9, 0⟩
/-- HARD of REFS_LIMITS, [31:16] (R81). -/
def Fld.REFS_LIMITS_HARD : Fld := ⟨0x090020, 31, 16⟩
/-- SOFT of REFS_LIMITS, [15:0] (R81). -/
def Fld.REFS_LIMITS_SOFT : Fld := ⟨0x090020, 15, 0⟩
/-- TOL of REFS_DISAGREE, [15:0] (R81). -/
def Fld.REFS_DISAGREE_TOL : Fld := ⟨0x090024, 15, 0⟩
/-- LOCK_PHASE of REFS_QUAL, [31:16] (R81). -/
def Fld.REFS_QUAL_LOCK_PHASE : Fld := ⟨0x090028, 31, 16⟩
/-- LOCK_HOLD of REFS_QUAL, [15:8] (R81). -/
def Fld.REFS_QUAL_LOCK_HOLD : Fld := ⟨0x090028, 15, 8⟩
/-- QWIN of REFS_QUAL, [7:0] (R81). -/
def Fld.REFS_QUAL_QWIN : Fld := ⟨0x090028, 7, 0⟩
/-- ELAPSED of REFS_HOLDOVER, [31:16] (R94). -/
def Fld.REFS_HOLDOVER_ELAPSED : Fld := ⟨0x09002C, 31, 16⟩
/-- VALID_MIN of REFS_HOLDOVER, [13:0] (R94). -/
def Fld.REFS_HOLDOVER_VALID_MIN : Fld := ⟨0x09002C, 13, 0⟩
/-- T_NOW of REFS_HM_STATUS, [31:24] (R94). -/
def Fld.REFS_HM_STATUS_T_NOW : Fld := ⟨0x090030, 31, 24⟩
/-- T_HI of REFS_HM_STATUS, [23:16] (R94). -/
def Fld.REFS_HM_STATUS_T_HI : Fld := ⟨0x090030, 23, 16⟩
/-- T_LO of REFS_HM_STATUS, [15:8] (R94). -/
def Fld.REFS_HM_STATUS_T_LO : Fld := ⟨0x090030, 15, 8⟩
/-- SUSPECT of REFS_HM_STATUS, [3:3] (R94). -/
def Fld.REFS_HM_STATUS_SUSPECT : Fld := ⟨0x090030, 3, 3⟩
/-- EXTRAP of REFS_HM_STATUS, [2:2] (R94). -/
def Fld.REFS_HM_STATUS_EXTRAP : Fld := ⟨0x090030, 2, 2⟩
/-- READY of REFS_HM_STATUS, [1:1] (R94). -/
def Fld.REFS_HM_STATUS_READY : Fld := ⟨0x090030, 1, 1⟩
/-- USABLE of REFS_HM_STATUS, [0:0] (R94). -/
def Fld.REFS_HM_STATUS_USABLE : Fld := ⟨0x090030, 0, 0⟩
/-- LEARN_H of REFS_HM_LEARN, [15:0] (R94). -/
def Fld.REFS_HM_LEARN_LEARN_H : Fld := ⟨0x090034, 15, 0⟩
/-- RESET of REFS_HM_CMD, [0:0] (R94). -/
def Fld.REFS_HM_CMD_RESET : Fld := ⟨0x090038, 0, 0⟩
/-- XO_RUN of REFS_OSC, [1:1] (R95). -/
def Fld.REFS_OSC_XO_RUN : Fld := ⟨0x09003C, 1, 1⟩
/-- XO_SEL of REFS_OSC, [0:0] (R95). -/
def Fld.REFS_OSC_XO_SEL : Fld := ⟨0x09003C, 0, 0⟩
/-- ABSORBED of REFS_PHASE, [31:0] (R81). -/
def Fld.REFS_PHASE_ABSORBED : Fld := ⟨0x090040, 31, 0⟩
/-- RANK of REFS_CFGn, [15:12] (R69). -/
def Fld.REFS_CFG_RANK (n : Nat) : Fld := ⟨0x090100 + min n 8 * 0x20, 15, 12⟩
/-- RATE of REFS_CFGn, [7:4] (R69). -/
def Fld.REFS_CFG_RATE (n : Nat) : Fld := ⟨0x090100 + min n 8 * 0x20, 7, 4⟩
/-- EN of REFS_CFGn, [0:0] (R69). -/
def Fld.REFS_CFG_EN (n : Nat) : Fld := ⟨0x090100 + min n 8 * 0x20, 0, 0⟩
/-- CAUSE of REFS_STn, [15:12] (R69). -/
def Fld.REFS_ST_CAUSE (n : Nat) : Fld := ⟨0x090104 + min n 8 * 0x20, 15, 12⟩
/-- QUALIFYING of REFS_STn, [4:4] (R69). -/
def Fld.REFS_ST_QUALIFYING (n : Nat) : Fld := ⟨0x090104 + min n 8 * 0x20, 4, 4⟩
/-- DISAGREE of REFS_STn, [3:3] (R69). -/
def Fld.REFS_ST_DISAGREE (n : Nat) : Fld := ⟨0x090104 + min n 8 * 0x20, 3, 3⟩
/-- SOFT of REFS_STn, [2:2] (R69). -/
def Fld.REFS_ST_SOFT (n : Nat) : Fld := ⟨0x090104 + min n 8 * 0x20, 2, 2⟩
/-- ACTIVE of REFS_STn, [1:1] (R69). -/
def Fld.REFS_ST_ACTIVE (n : Nat) : Fld := ⟨0x090104 + min n 8 * 0x20, 1, 1⟩
/-- QUAL of REFS_STn, [0:0] (R69). -/
def Fld.REFS_ST_QUAL (n : Nat) : Fld := ⟨0x090104 + min n 8 * 0x20, 0, 0⟩
/-- Y1 of REFS_Y1n, [31:0] (R69). -/
def Fld.REFS_Y1_Y1 (n : Nat) : Fld := ⟨0x090108 + min n 8 * 0x20, 31, 0⟩
/-- Y16 of REFS_Y16n, [31:0] (R69). -/
def Fld.REFS_Y16_Y16 (n : Nat) : Fld := ⟨0x09010C + min n 8 * 0x20, 31, 0⟩
/-- Y256 of REFS_Y256n, [31:0] (R69). -/
def Fld.REFS_Y256_Y256 (n : Nat) : Fld := ⟨0x090110 + min n 8 * 0x20, 31, 0⟩
/-- DQ of REFS_CNTn, [31:16] (R69). -/
def Fld.REFS_CNT_DQ (n : Nat) : Fld := ⟨0x090114 + min n 8 * 0x20, 31, 16⟩
/-- GLITCH of REFS_CNTn, [15:0] (R69). -/
def Fld.REFS_CNT_GLITCH (n : Nat) : Fld := ⟨0x090114 + min n 8 * 0x20, 15, 0⟩
/-- PRESCALE of SYN_CPLLM_CFG, [23:22] (R106). -/
def Fld.SYN_CPLLM_CFG_PRESCALE : Fld := ⟨0x0A0010, 23, 22⟩
/-- VCO_KHZ of SYN_CPLLM_CFG, [21:0] (R106). -/
def Fld.SYN_CPLLM_CFG_VCO_KHZ : Fld := ⟨0x0A0010, 21, 0⟩
/-- PRESCALE of SYN_CPLLN_CFG, [23:22] (R106). -/
def Fld.SYN_CPLLN_CFG_PRESCALE : Fld := ⟨0x0A0014, 23, 22⟩
/-- VCO_KHZ of SYN_CPLLN_CFG, [21:0] (R106). -/
def Fld.SYN_CPLLN_CFG_VCO_KHZ : Fld := ⟨0x0A0014, 21, 0⟩
/-- ENTRY_N of SYN_CPLL_STATUS, [25:21] (R106). -/
def Fld.SYN_CPLL_STATUS_ENTRY_N : Fld := ⟨0x0A0018, 25, 21⟩
/-- NO_BAND_N of SYN_CPLL_STATUS, [17:17] (R106). -/
def Fld.SYN_CPLL_STATUS_NO_BAND_N : Fld := ⟨0x0A0018, 17, 17⟩
/-- LOCK_N of SYN_CPLL_STATUS, [16:16] (R106). -/
def Fld.SYN_CPLL_STATUS_LOCK_N : Fld := ⟨0x0A0018, 16, 16⟩
/-- ENTRY_M of SYN_CPLL_STATUS, [9:5] (R106). -/
def Fld.SYN_CPLL_STATUS_ENTRY_M : Fld := ⟨0x0A0018, 9, 5⟩
/-- NO_BAND_M of SYN_CPLL_STATUS, [1:1] (R106). -/
def Fld.SYN_CPLL_STATUS_NO_BAND_M : Fld := ⟨0x0A0018, 1, 1⟩
/-- LOCK_M of SYN_CPLL_STATUS, [0:0] (R106). -/
def Fld.SYN_CPLL_STATUS_LOCK_M : Fld := ⟨0x0A0018, 0, 0⟩
/-- RATE of SYN_PRATE, [6:0] (R111). -/
def Fld.SYN_PRATE_RATE : Fld := ⟨0x0A0020, 6, 0⟩
/-- RELOCK of SYN_CMD, [5:0] (R111). -/
def Fld.SYN_CMD_RELOCK : Fld := ⟨0x0A0024, 5, 0⟩
/-- EN of SYN_MCLK, [4:4] (R111). -/
def Fld.SYN_MCLK_EN : Fld := ⟨0x0A0028, 4, 4⟩
/-- DIV of SYN_MCLK, [1:0] (R111). -/
def Fld.SYN_MCLK_DIV : Fld := ⟨0x0A0028, 1, 0⟩
/-- SRC of SYN_CFGn, [4:4] (R110). -/
def Fld.SYN_CFG_SRC (n : Nat) : Fld := ⟨0x0A0100 + min n 6 * 0x20, 4, 4⟩
/-- STEER of SYN_CFGn, [2:2] (R110). -/
def Fld.SYN_CFG_STEER (n : Nat) : Fld := ⟨0x0A0100 + min n 6 * 0x20, 2, 2⟩
/-- CLASS of SYN_CFGn, [1:1] (R110). -/
def Fld.SYN_CFG_CLASS (n : Nat) : Fld := ⟨0x0A0100 + min n 6 * 0x20, 1, 1⟩
/-- EN of SYN_CFGn, [0:0] (R110). -/
def Fld.SYN_CFG_EN (n : Nat) : Fld := ⟨0x0A0100 + min n 6 * 0x20, 0, 0⟩
/-- FREQ_HZ of SYN_FREQn, [27:0] (R110). -/
def Fld.SYN_FREQ_FREQ_HZ (n : Nat) : Fld := ⟨0x0A0104 + min n 6 * 0x20, 27, 0⟩
/-- BAND of SYN_STn, [23:20] (R110). -/
def Fld.SYN_ST_BAND (n : Nat) : Fld := ⟨0x0A0108 + min n 6 * 0x20, 23, 20⟩
/-- CLAMP of SYN_STn, [5:5] (R110). -/
def Fld.SYN_ST_CLAMP (n : Nat) : Fld := ⟨0x0A0108 + min n 6 * 0x20, 5, 5⟩
/-- STUCK of SYN_STn, [4:4] (R110). -/
def Fld.SYN_ST_STUCK (n : Nat) : Fld := ⟨0x0A0108 + min n 6 * 0x20, 4, 4⟩
/-- SEARCH of SYN_STn, [3:3] (R110). -/
def Fld.SYN_ST_SEARCH (n : Nat) : Fld := ⟨0x0A0108 + min n 6 * 0x20, 3, 3⟩
/-- GATED of SYN_STn, [2:2] (R110). -/
def Fld.SYN_ST_GATED (n : Nat) : Fld := ⟨0x0A0108 + min n 6 * 0x20, 2, 2⟩
/-- COASTING of SYN_STn, [1:1] (R110). -/
def Fld.SYN_ST_COASTING (n : Nat) : Fld := ⟨0x0A0108 + min n 6 * 0x20, 1, 1⟩
/-- LOCK of SYN_STn, [0:0] (R110). -/
def Fld.SYN_ST_LOCK (n : Nat) : Fld := ⟨0x0A0108 + min n 6 * 0x20, 0, 0⟩
/-- STEP_PS of SYN_PHASEn, [15:0] (R110). -/
def Fld.SYN_PHASE_STEP_PS (n : Nat) : Fld := ⟨0x0A010C + min n 6 * 0x20, 15, 0⟩
/-- BUSY of SYN_PHSTn, [16:16] (R110). -/
def Fld.SYN_PHST_BUSY (n : Nat) : Fld := ⟨0x0A0110 + min n 6 * 0x20, 16, 16⟩
/-- LEFT_PS of SYN_PHSTn, [15:0] (R110). -/
def Fld.SYN_PHST_LEFT_PS (n : Nat) : Fld := ⟨0x0A0110 + min n 6 * 0x20, 15, 0⟩
/-- LOSS of SYN_CNTn, [15:0] (R110). -/
def Fld.SYN_CNT_LOSS (n : Nat) : Fld := ⟨0x0A0114 + min n 6 * 0x20, 15, 0⟩
/-- EN of PULSE_CFG, [31:31] (R124). -/
def Fld.PULSE_CFG_EN (n : Nat) : Fld := ⟨0x0A0200 + min n 2 * 0x10, 31, 31⟩
/-- POL of PULSE_CFG, [30:30] (R124). -/
def Fld.PULSE_CFG_POL (n : Nat) : Fld := ⟨0x0A0200 + min n 2 * 0x10, 30, 30⟩
/-- PERIOD of PULSE_CFG, [29:16] (R124). -/
def Fld.PULSE_CFG_PERIOD (n : Nat) : Fld := ⟨0x0A0200 + min n 2 * 0x10, 29, 16⟩
/-- WIDTH_US of PULSE_CFG, [15:0] (R124). -/
def Fld.PULSE_CFG_WIDTH_US (n : Nat) : Fld := ⟨0x0A0200 + min n 2 * 0x10, 15, 0⟩
/-- OFFSET_NS of PULSE_OFF, [30:0] (R124). -/
def Fld.PULSE_OFF_OFFSET_NS (n : Nat) : Fld := ⟨0x0A0204 + min n 2 * 0x10, 30, 0⟩
/-- ERR_NS of PULSE_ERR, [31:0] (R124). -/
def Fld.PULSE_ERR_ERR_NS (n : Nat) : Fld := ⟨0x0A0208 + min n 3 * 0x10, 31, 0⟩
/-- CFG_WAIT of PULSE_ST, [2:2] (R124). -/
def Fld.PULSE_ST_CFG_WAIT (n : Nat) : Fld := ⟨0x0A020C + min n 3 * 0x10, 2, 2⟩
/-- MISALIGNED of PULSE_ST, [1:1] (R124). -/
def Fld.PULSE_ST_MISALIGNED (n : Nat) : Fld := ⟨0x0A020C + min n 3 * 0x10, 1, 1⟩
/-- REALIGN_PEND of PULSE_ST, [0:0] (R124). -/
def Fld.PULSE_ST_REALIGN_PEND (n : Nat) : Fld := ⟨0x0A020C + min n 3 * 0x10, 0, 0⟩
/-- REALIGN of SYN_PULSE_CMD, [2:0] (R124). -/
def Fld.SYN_PULSE_CMD_REALIGN : Fld := ⟨0x0A0240, 2, 0⟩
/-- PFC_EN of NET_CFG, [23:16] (R134). -/
def Fld.NET_CFG_PFC_EN (p : Nat) : Fld := ⟨0x100010 + p * 0x10000, 23, 16⟩
/-- AUTO_SPEED of NET_CFG, [11:11] (R134). -/
def Fld.NET_CFG_AUTO_SPEED (p : Nat) : Fld := ⟨0x100010 + p * 0x10000, 11, 11⟩
/-- PAUSE_EN of NET_CFG, [10:10] (R134). -/
def Fld.NET_CFG_PAUSE_EN (p : Nat) : Fld := ⟨0x100010 + p * 0x10000, 10, 10⟩
/-- SERDES of NET_CFG, [9:8] (R134). -/
def Fld.NET_CFG_SERDES (p : Nat) : Fld := ⟨0x100010 + p * 0x10000, 9, 8⟩
/-- SPEED_ALLOW of NET_CFG, [3:0] (R134). -/
def Fld.NET_CFG_SPEED_ALLOW (p : Nat) : Fld := ⟨0x100010 + p * 0x10000, 3, 0⟩
/-- HOLDOFF of NET_STATUS, [31:24] (R134). -/
def Fld.NET_STATUS_HOLDOFF (p : Nat) : Fld := ⟨0x100014 + p * 0x10000, 31, 24⟩
/-- PAUSED of NET_STATUS, [23:16] (R134). -/
def Fld.NET_STATUS_PAUSED (p : Nat) : Fld := ⟨0x100014 + p * 0x10000, 23, 16⟩
/-- LPI_RX of NET_STATUS, [7:7] (R134). -/
def Fld.NET_STATUS_LPI_RX (p : Nat) : Fld := ⟨0x100014 + p * 0x10000, 7, 7⟩
/-- LPI_TX of NET_STATUS, [6:6] (R134). -/
def Fld.NET_STATUS_LPI_TX (p : Nat) : Fld := ⟨0x100014 + p * 0x10000, 6, 6⟩
/-- EEE_ACTIVE of NET_STATUS, [5:5] (R134). -/
def Fld.NET_STATUS_EEE_ACTIVE (p : Nat) : Fld := ⟨0x100014 + p * 0x10000, 5, 5⟩
/-- RETRAIN of NET_STATUS, [4:4] (R134). -/
def Fld.NET_STATUS_RETRAIN (p : Nat) : Fld := ⟨0x100014 + p * 0x10000, 4, 4⟩
/-- LINK of NET_STATUS, [3:3] (R134). -/
def Fld.NET_STATUS_LINK (p : Nat) : Fld := ⟨0x100014 + p * 0x10000, 3, 3⟩
/-- SPEED of NET_STATUS, [2:0] (R134). -/
def Fld.NET_STATUS_SPEED (p : Nat) : Fld := ⟨0x100014 + p * 0x10000, 2, 0⟩
/-- MAX of NET_MAXFRAME, [13:0] (R134). -/
def Fld.NET_MAXFRAME_MAX (p : Nat) : Fld := ⟨0x100018 + p * 0x10000, 13, 0⟩
/-- WD of NET_PWD, [6:0] (R134). -/
def Fld.NET_PWD_WD (p : Nat) : Fld := ⟨0x10001C + p * 0x10000, 6, 0⟩
/-- EN of NET_EEE, [31:31] (R134). -/
def Fld.NET_EEE_EN (p : Nat) : Fld := ⟨0x100020 + p * 0x10000, 31, 31⟩
/-- IDLE_US of NET_EEE, [11:0] (R134). -/
def Fld.NET_EEE_IDLE_US (p : Nat) : Fld := ⟨0x100020 + p * 0x10000, 11, 0⟩
/-- UP_PCT of NET_SPD, [31:24] (R134). -/
def Fld.NET_SPD_UP_PCT (p : Nat) : Fld := ⟨0x100024 + p * 0x10000, 31, 24⟩
/-- DOWN_PCT of NET_SPD, [23:16] (R134). -/
def Fld.NET_SPD_DOWN_PCT (p : Nat) : Fld := ⟨0x100024 + p * 0x10000, 23, 16⟩
/-- QUIET_S of NET_SPD, [11:0] (R134). -/
def Fld.NET_SPD_QUIET_S (p : Nat) : Fld := ⟨0x100024 + p * 0x10000, 11, 0⟩
/-- CUT of RSW_CFG, [4:4] (R169). -/
def Fld.RSW_CFG_CUT : Fld := ⟨0x120010, 4, 4⟩
/-- TOPO of RSW_CFG, [1:0] (R169). -/
def Fld.RSW_CFG_TOPO : Fld := ⟨0x120010, 1, 0⟩
/-- VALID of RSW_NODE, [31:31] (R169). -/
def Fld.RSW_NODE_VALID : Fld := ⟨0x120014, 31, 31⟩
/-- NODE of RSW_NODE, [11:0] (R169). -/
def Fld.RSW_NODE_NODE : Fld := ⟨0x120014, 11, 0⟩
/-- CONFLICT of RSW_NODE_ST, [31:31] (R169). -/
def Fld.RSW_NODE_ST_CONFLICT : Fld := ⟨0x120018, 31, 31⟩
/-- KNOWN of RSW_NODE_ST, [28:16] (R169). -/
def Fld.RSW_NODE_ST_KNOWN : Fld := ⟨0x120018, 28, 16⟩
/-- CONFLICTS of RSW_NODE_ST, [15:0] (R169). -/
def Fld.RSW_NODE_ST_CONFLICTS : Fld := ⟨0x120018, 15, 0⟩
/-- MAC_HI of RSW_MAC_HI, [15:0] (R169). -/
def Fld.RSW_MAC_HI_MAC_HI : Fld := ⟨0x12001C, 15, 0⟩
/-- MAC_LO of RSW_MAC_LO, [31:0] (R169). -/
def Fld.RSW_MAC_LO_MAC_LO : Fld := ⟨0x120020, 31, 0⟩
/-- FORGET of RSW_DUP_CFG, [7:0] (R169). -/
def Fld.RSW_DUP_CFG_FORGET : Fld := ⟨0x120024, 7, 0⟩
/-- CHK_MS of RSW_RING_CFG, [9:0] (R169). -/
def Fld.RSW_RING_CFG_CHK_MS : Fld := ⟨0x120028, 9, 0⟩
/-- CLOSED of RSW_RING_ST, [31:31] (R169). -/
def Fld.RSW_RING_ST_CLOSED : Fld := ⟨0x12002C, 31, 31⟩
/-- NODES_A of RSW_RING_ST, [28:16] (R169). -/
def Fld.RSW_RING_ST_NODES_A : Fld := ⟨0x12002C, 28, 16⟩
/-- NODES_B of RSW_RING_ST, [12:0] (R169). -/
def Fld.RSW_RING_ST_NODES_B : Fld := ⟨0x12002C, 12, 0⟩
/-- MAP of RSW_PCP_MAP, [23:0] (R169). -/
def Fld.RSW_PCP_MAP_MAP : Fld := ⟨0x120030, 23, 0⟩
/-- EN_B of RSW_QBV_CFG, [11:11] (R169). -/
def Fld.RSW_QBV_CFG_EN_B : Fld := ⟨0x120034, 11, 11⟩
/-- BANK_B of RSW_QBV_CFG, [10:10] (R169). -/
def Fld.RSW_QBV_CFG_BANK_B : Fld := ⟨0x120034, 10, 10⟩
/-- CYC_B of RSW_QBV_CFG, [9:8] (R169). -/
def Fld.RSW_QBV_CFG_CYC_B : Fld := ⟨0x120034, 9, 8⟩
/-- EN_A of RSW_QBV_CFG, [3:3] (R169). -/
def Fld.RSW_QBV_CFG_EN_A : Fld := ⟨0x120034, 3, 3⟩
/-- BANK_A of RSW_QBV_CFG, [2:2] (R169). -/
def Fld.RSW_QBV_CFG_BANK_A : Fld := ⟨0x120034, 2, 2⟩
/-- CYC_A of RSW_QBV_CFG, [1:0] (R169). -/
def Fld.RSW_QBV_CFG_CYC_A : Fld := ⟨0x120034, 1, 0⟩
/-- ACT_B of RSW_QBV_ST, [1:1] (R169). -/
def Fld.RSW_QBV_ST_ACT_B : Fld := ⟨0x120038, 1, 1⟩
/-- ACT_A of RSW_QBV_ST, [0:0] (R169). -/
def Fld.RSW_QBV_ST_ACT_A : Fld := ⟨0x120038, 0, 0⟩
/-- RESET_MS of RSW_FRER_CFG, [31:16] (R169). -/
def Fld.RSW_FRER_CFG_RESET_MS : Fld := ⟨0x120050, 31, 16⟩
/-- HIST of RSW_FRER_CFG, [8:0] (R169). -/
def Fld.RSW_FRER_CFG_HIST : Fld := ⟨0x120050, 8, 0⟩
/-- SUM of RSW_SCHED_SUM, [23:0] (R169). -/
def Fld.RSW_SCHED_SUM_SUM : Fld := ⟨0x120054, 23, 0⟩
/-- EN of RSW_QAV, [31:31] (R169). -/
def Fld.RSW_QAV_EN (n : Nat) : Fld := ⟨0x120040 + min n 4 * 0x4, 31, 31⟩
/-- SLOPE_KBPS of RSW_QAV, [23:0] (R169). -/
def Fld.RSW_QAV_SLOPE_KBPS (n : Nat) : Fld := ⟨0x120040 + min n 4 * 0x4, 23, 0⟩
/-- REPLAY_WIN of SECY_CFGp, [31:16] (R163). -/
def Fld.SECY_CFG_REPLAY_WIN (n : Nat) : Fld := ⟨0x130100 + min n 2 * 0x20, 31, 16⟩
/-- VALIDATE of SECY_CFGp, [5:4] (R163). -/
def Fld.SECY_CFG_VALIDATE (n : Nat) : Fld := ⟨0x130100 + min n 2 * 0x20, 5, 4⟩
/-- XPN of SECY_CFGp, [1:1] (R163). -/
def Fld.SECY_CFG_XPN (n : Nat) : Fld := ⟨0x130100 + min n 2 * 0x20, 1, 1⟩
/-- EN of SECY_CFGp, [0:0] (R163). -/
def Fld.SECY_CFG_EN (n : Nat) : Fld := ⟨0x130100 + min n 2 * 0x20, 0, 0⟩
/-- RX_AN_VALID of SECY_STp, [23:20] (R163). -/
def Fld.SECY_ST_RX_AN_VALID (n : Nat) : Fld := ⟨0x130104 + min n 2 * 0x20, 23, 20⟩
/-- TX_AN of SECY_STp, [17:16] (R163). -/
def Fld.SECY_ST_TX_AN (n : Nat) : Fld := ⟨0x130104 + min n 2 * 0x20, 17, 16⟩
/-- TX_STOPPED of SECY_STp, [4:4] (R163). -/
def Fld.SECY_ST_TX_STOPPED (n : Nat) : Fld := ⟨0x130104 + min n 2 * 0x20, 4, 4⟩
/-- PN_WARN of SECY_STp, [3:3] (R163). -/
def Fld.SECY_ST_PN_WARN (n : Nat) : Fld := ⟨0x130104 + min n 2 * 0x20, 3, 3⟩
/-- RX_KEYED of SECY_STp, [2:2] (R163). -/
def Fld.SECY_ST_RX_KEYED (n : Nat) : Fld := ⟨0x130104 + min n 2 * 0x20, 2, 2⟩
/-- TX_KEYED of SECY_STp, [1:1] (R163). -/
def Fld.SECY_ST_TX_KEYED (n : Nat) : Fld := ⟨0x130104 + min n 2 * 0x20, 1, 1⟩
/-- LIVE of SECY_STp, [0:0] (R163). -/
def Fld.SECY_ST_LIVE (n : Nat) : Fld := ⟨0x130104 + min n 2 * 0x20, 0, 0⟩
/-- TXPN_HI of SECY_TXPN_HIp, [31:0] (R163). -/
def Fld.SECY_TXPN_HI_TXPN_HI (n : Nat) : Fld := ⟨0x130108 + min n 2 * 0x20, 31, 0⟩
/-- TXPN_LO of SECY_TXPN_LOp, [31:0] (R163). -/
def Fld.SECY_TXPN_LO_TXPN_LO (n : Nat) : Fld := ⟨0x13010C + min n 2 * 0x20, 31, 0⟩
/-- RXPN_HI of SECY_RXPN_HIp, [31:0] (R163). -/
def Fld.SECY_RXPN_HI_RXPN_HI (n : Nat) : Fld := ⟨0x130110 + min n 2 * 0x20, 31, 0⟩
/-- RXPN_LO of SECY_RXPN_LOp, [31:0] (R163). -/
def Fld.SECY_RXPN_LO_RXPN_LO (n : Nat) : Fld := ⟨0x130114 + min n 2 * 0x20, 31, 0⟩
/-- EXT_ID of STRM_CFG, [23:20] (R180). -/
def Fld.STRM_CFG_EXT_ID : Fld := ⟨0x180010, 23, 20⟩
/-- LOST_TICKS of STRM_CFG, [15:8] (R180). -/
def Fld.STRM_CFG_LOST_TICKS : Fld := ⟨0x180010, 15, 8⟩
/-- LINK_OFF of STRM_CFG, [6:0] (R180). -/
def Fld.STRM_CFG_LINK_OFF : Fld := ⟨0x180010, 6, 0⟩
/-- ADDR of STRM_IPV4, [31:0] (R180). -/
def Fld.STRM_IPV4_ADDR : Fld := ⟨0x180014, 31, 0⟩
/-- RX_CH of STRM_STATUS, [24:16] (R180). -/
def Fld.STRM_STATUS_RX_CH : Fld := ⟨0x180018, 24, 16⟩
/-- TX_CH of STRM_STATUS, [8:0] (R180). -/
def Fld.STRM_STATUS_TX_CH : Fld := ⟨0x180018, 8, 0⟩
/-- RUN of STRM_RXRUN, [31:0] (R180). -/
def Fld.STRM_RXRUN_RUN (n : Nat) : Fld := ⟨0x180020 + min n 4 * 0x4, 31, 0⟩
/-- RUN of STRM_TXRUN, [31:0] (R180). -/
def Fld.STRM_TXRUN_RUN (n : Nat) : Fld := ⟨0x180030 + min n 4 * 0x4, 31, 0⟩
/-- ZC_THRESH of FAB_CFG, [23:16] (R214). -/
def Fld.FAB_CFG_ZC_THRESH : Fld := ⟨0x200010, 23, 16⟩
/-- ZC_TIMEOUT of FAB_CFG, [13:8] (R214). -/
def Fld.FAB_CFG_ZC_TIMEOUT : Fld := ⟨0x200010, 13, 8⟩
/-- RATE of FAB_CFG, [0:0] (R214). -/
def Fld.FAB_CFG_RATE : Fld := ⟨0x200010, 0, 0⟩
/-- XP_OPEN of FAB_STATUS, [30:16] (R214). -/
def Fld.FAB_STATUS_XP_OPEN : Fld := ⟨0x200014, 30, 16⟩
/-- CLOSING of FAB_STATUS, [10:0] (R214). -/
def Fld.FAB_STATUS_CLOSING : Fld := ⟨0x200014, 10, 0⟩
/-- FORCED of FAB_ZCCNT, [31:16] (R214). -/
def Fld.FAB_ZCCNT_FORCED : Fld := ⟨0x200018, 31, 16⟩
/-- TIMEOUTS of FAB_ZCCNT, [15:0] (R214). -/
def Fld.FAB_ZCCNT_TIMEOUTS : Fld := ⟨0x200018, 15, 0⟩
/-- WARN_PCT of DSP_CFG, [15:8] (R235). -/
def Fld.DSP_CFG_WARN_PCT : Fld := ⟨0x210010, 15, 8⟩
/-- ADMIT_PCT of DSP_CFG, [7:0] (R235). -/
def Fld.DSP_CFG_ADMIT_PCT : Fld := ⟨0x210010, 7, 0⟩
/-- LOAD_RESULT of DSP_STATUS, [23:16] (R235). -/
def Fld.DSP_STATUS_LOAD_RESULT : Fld := ⟨0x210014, 23, 16⟩
/-- COEF_BAD of DSP_STATUS, [6:6] (R235). -/
def Fld.DSP_STATUS_COEF_BAD : Fld := ⟨0x210014, 6, 6⟩
/-- GRAPH_MISSED of DSP_STATUS, [5:5] (R235). -/
def Fld.DSP_STATUS_GRAPH_MISSED : Fld := ⟨0x210014, 5, 5⟩
/-- COEF_MISSED of DSP_STATUS, [4:4] (R235). -/
def Fld.DSP_STATUS_COEF_MISSED : Fld := ⟨0x210014, 4, 4⟩
/-- COEF_ARMED of DSP_STATUS, [3:3] (R235). -/
def Fld.DSP_STATUS_COEF_ARMED : Fld := ⟨0x210014, 3, 3⟩
/-- GRAPH_ARMED of DSP_STATUS, [2:2] (R235). -/
def Fld.DSP_STATUS_GRAPH_ARMED : Fld := ⟨0x210014, 2, 2⟩
/-- IDLE_VALID of DSP_STATUS, [1:1] (R235). -/
def Fld.DSP_STATUS_IDLE_VALID : Fld := ⟨0x210014, 1, 1⟩
/-- ACT_BANK of DSP_STATUS, [0:0] (R235). -/
def Fld.DSP_STATUS_ACT_BANK : Fld := ⟨0x210014, 0, 0⟩
/-- CANCEL of DSP_GRAPH_CMD, [1:1] (R235). -/
def Fld.DSP_GRAPH_CMD_CANCEL : Fld := ⟨0x210018, 1, 1⟩
/-- SWAP of DSP_GRAPH_CMD, [0:0] (R235). -/
def Fld.DSP_GRAPH_CMD_SWAP : Fld := ⟨0x210018, 0, 0⟩
/-- BRIM_TICK of DSP_GRAPH_TICK, [31:0] (R235). -/
def Fld.DSP_GRAPH_TICK_BRIM_TICK : Fld := ⟨0x21001C, 31, 0⟩
/-- AT_TICK of DSP_COEF_CMD, [2:2] (R235). -/
def Fld.DSP_COEF_CMD_AT_TICK : Fld := ⟨0x210020, 2, 2⟩
/-- CANCEL of DSP_COEF_CMD, [1:1] (R235). -/
def Fld.DSP_COEF_CMD_CANCEL : Fld := ⟨0x210020, 1, 1⟩
/-- SWAP of DSP_COEF_CMD, [0:0] (R235). -/
def Fld.DSP_COEF_CMD_SWAP : Fld := ⟨0x210020, 0, 0⟩
/-- BRIM_TICK of DSP_COEF_TICK, [31:0] (R235). -/
def Fld.DSP_COEF_TICK_BRIM_TICK : Fld := ⟨0x210024, 31, 0⟩
/-- DISABLED of DSP_OVR, [23:16] (R235). -/
def Fld.DSP_OVR_DISABLED : Fld := ⟨0x210050, 23, 16⟩
/-- OVERRUNS of DSP_OVR, [15:0] (R235). -/
def Fld.DSP_OVR_OVERRUNS : Fld := ⟨0x210050, 15, 0⟩
/-- REENABLE of DSP_JOB_CMD, [31:31] (R235). -/
def Fld.DSP_JOB_CMD_REENABLE : Fld := ⟨0x210054, 31, 31⟩
/-- JOB of DSP_JOB_CMD, [7:0] (R235). -/
def Fld.DSP_JOB_CMD_JOB : Fld := ⟨0x210054, 7, 0⟩
/-- LAST of DSP_COREn_LAST, [16:0] (R235). -/
def Fld.DSP_CORE_LAST_LAST (n : Nat) : Fld := ⟨0x210030 + min n 4 * 0x8, 16, 0⟩
/-- PEAK of DSP_COREn_PEAK, [16:0] (R235). -/
def Fld.DSP_CORE_PEAK_PEAK (n : Nat) : Fld := ⟨0x210034 + min n 4 * 0x8, 16, 0⟩
/-- REF5_SEL of LAP_CFG, [5:4] (R254). -/
def Fld.LAP_CFG_REF5_SEL : Fld := ⟨0x280010, 5, 4⟩
/-- REF6_SEL of LAP_CFG, [1:0] (R254). -/
def Fld.LAP_CFG_REF6_SEL : Fld := ⟨0x280010, 1, 0⟩
/-- ASRC_SHORT of LAP_STATUS, [22:22] (R254). -/
def Fld.LAP_STATUS_ASRC_SHORT : Fld := ⟨0x280014, 22, 22⟩
/-- ASRC_USED of LAP_STATUS, [21:16] (R254). -/
def Fld.LAP_STATUS_ASRC_USED : Fld := ⟨0x280014, 21, 16⟩
/-- AES_LOCK of LAP_STATUS, [11:8] (R254). -/
def Fld.LAP_STATUS_AES_LOCK : Fld := ⟨0x280014, 11, 8⟩
/-- TDM_RUN of LAP_STATUS, [3:0] (R254). -/
def Fld.LAP_STATUS_TDM_RUN : Fld := ⟨0x280014, 3, 0⟩
/-- EN of LAP_TDMp_CFG, [31:31] (R254). -/
def Fld.LAP_TDM_CFG_EN (n : Nat) : Fld := ⟨0x280100 + min n 4 * 0x20, 31, 31⟩
/-- COMPAT of LAP_TDMp_CFG, [30:30] (R254). -/
def Fld.LAP_TDM_CFG_COMPAT (n : Nat) : Fld := ⟨0x280100 + min n 4 * 0x20, 30, 30⟩
/-- FMT of LAP_TDMp_CFG, [29:28] (R254). -/
def Fld.LAP_TDM_CFG_FMT (n : Nat) : Fld := ⟨0x280100 + min n 4 * 0x20, 29, 28⟩
/-- MASTER of LAP_TDMp_CFG, [27:27] (R254). -/
def Fld.LAP_TDM_CFG_MASTER (n : Nat) : Fld := ⟨0x280100 + min n 4 * 0x20, 27, 27⟩
/-- ASYNC of LAP_TDMp_CFG, [26:26] (R254). -/
def Fld.LAP_TDM_CFG_ASYNC (n : Nat) : Fld := ⟨0x280100 + min n 4 * 0x20, 26, 26⟩
/-- FS_POL of LAP_TDMp_CFG, [25:25] (R254). -/
def Fld.LAP_TDM_CFG_FS_POL (n : Nat) : Fld := ⟨0x280100 + min n 4 * 0x20, 25, 25⟩
/-- BCLK_EDGE of LAP_TDMp_CFG, [24:24] (R254). -/
def Fld.LAP_TDM_CFG_BCLK_EDGE (n : Nat) : Fld := ⟨0x280100 + min n 4 * 0x20, 24, 24⟩
/-- DELAY1 of LAP_TDMp_CFG, [23:23] (R254). -/
def Fld.LAP_TDM_CFG_DELAY1 (n : Nat) : Fld := ⟨0x280100 + min n 4 * 0x20, 23, 23⟩
/-- SLOT_W of LAP_TDMp_CFG, [21:20] (R254). -/
def Fld.LAP_TDM_CFG_SLOT_W (n : Nat) : Fld := ⟨0x280100 + min n 4 * 0x20, 21, 20⟩
/-- SLOTS of LAP_TDMp_CFG, [19:16] (R254). -/
def Fld.LAP_TDM_CFG_SLOTS (n : Nat) : Fld := ⟨0x280100 + min n 4 * 0x20, 19, 16⟩
/-- BPF of LAP_TDMp_CFG, [15:14] (R254). -/
def Fld.LAP_TDM_CFG_BPF (n : Nat) : Fld := ⟨0x280100 + min n 4 * 0x20, 15, 14⟩
/-- PREROLL of LAP_TDMp_CFG, [9:0] (R254). -/
def Fld.LAP_TDM_CFG_PREROLL (n : Nat) : Fld := ⟨0x280100 + min n 4 * 0x20, 9, 0⟩
/-- MASK of LAP_TDMp_RXMASK, [15:0] (R254). -/
def Fld.LAP_TDM_RXMASK_MASK (n : Nat) : Fld := ⟨0x280104 + min n 4 * 0x20, 15, 0⟩
/-- MASK of LAP_TDMp_TXMASK, [15:0] (R254). -/
def Fld.LAP_TDM_TXMASK_MASK (n : Nat) : Fld := ⟨0x280108 + min n 4 * 0x20, 15, 0⟩
/-- TS_SEQ of LAP_TDMp_ST, [31:28] (R254). -/
def Fld.LAP_TDM_ST_TS_SEQ (n : Nat) : Fld := ⟨0x28010C + min n 4 * 0x20, 31, 28⟩
/-- QNS of LAP_TDMp_ST, [27:26] (R254). -/
def Fld.LAP_TDM_ST_QNS (n : Nat) : Fld := ⟨0x28010C + min n 4 * 0x20, 27, 26⟩
/-- RATE_HZ of LAP_TDMp_ST, [25:8] (R254). -/
def Fld.LAP_TDM_ST_RATE_HZ (n : Nat) : Fld := ⟨0x28010C + min n 4 * 0x20, 25, 8⟩
/-- CAUSE of LAP_TDMp_ST, [7:4] (R254). -/
def Fld.LAP_TDM_ST_CAUSE (n : Nat) : Fld := ⟨0x28010C + min n 4 * 0x20, 7, 4⟩
/-- STATE of LAP_TDMp_ST, [2:0] (R254). -/
def Fld.LAP_TDM_ST_STATE (n : Nat) : Fld := ⟨0x28010C + min n 4 * 0x20, 2, 0⟩
/-- NS_HI of LAP_TDMp_TS_HI, [31:0] (R254). -/
def Fld.LAP_TDM_TS_HI_NS_HI (n : Nat) : Fld := ⟨0x280110 + min n 4 * 0x20, 31, 0⟩
/-- NS_LO of LAP_TDMp_TS_LO, [31:0] (R254). -/
def Fld.LAP_TDM_TS_LO_NS_LO (n : Nat) : Fld := ⟨0x280114 + min n 4 * 0x20, 31, 0⟩
/-- TICK of LAP_TDMp_TS_TICK, [31:0] (R254). -/
def Fld.LAP_TDM_TS_TICK_TICK (n : Nat) : Fld := ⟨0x280118 + min n 4 * 0x20, 31, 0⟩
/-- FRAME_ERR of LAP_TDMp_CNT, [31:16] (R254). -/
def Fld.LAP_TDM_CNT_FRAME_ERR (n : Nat) : Fld := ⟨0x28011C + min n 4 * 0x20, 31, 16⟩
/-- XRUN of LAP_TDMp_CNT, [15:0] (R254). -/
def Fld.LAP_TDM_CNT_XRUN (n : Nat) : Fld := ⟨0x28011C + min n 4 * 0x20, 15, 0⟩
/-- EN of LAP_AESRr_CFG, [31:31] (R254). -/
def Fld.LAP_AESR_CFG_EN (n : Nat) : Fld := ⟨0x280200 + min n 4 * 0x20, 31, 31⟩
/-- SYNC of LAP_AESRr_CFG, [30:30] (R254). -/
def Fld.LAP_AESR_CFG_SYNC (n : Nat) : Fld := ⟨0x280200 + min n 4 * 0x20, 30, 30⟩
/-- VMUTE of LAP_AESRr_CFG, [29:29] (R254). -/
def Fld.LAP_AESR_CFG_VMUTE (n : Nat) : Fld := ⟨0x280200 + min n 4 * 0x20, 29, 29⟩
/-- BLK_SEQ of LAP_AESRr_ST, [31:28] (R254). -/
def Fld.LAP_AESR_ST_BLK_SEQ (n : Nat) : Fld := ⟨0x280204 + min n 4 * 0x20, 31, 28⟩
/-- QNS of LAP_AESRr_ST, [17:16] (R254). -/
def Fld.LAP_AESR_ST_QNS (n : Nat) : Fld := ⟨0x280204 + min n 4 * 0x20, 17, 16⟩
/-- RETRACK of LAP_AESRr_ST, [13:13] (R254). -/
def Fld.LAP_AESR_ST_RETRACK (n : Nat) : Fld := ⟨0x280204 + min n 4 * 0x20, 13, 13⟩
/-- CRC_ERR of LAP_AESRr_ST, [12:12] (R254). -/
def Fld.LAP_AESR_ST_CRC_ERR (n : Nat) : Fld := ⟨0x280204 + min n 4 * 0x20, 12, 12⟩
/-- VMUTED of LAP_AESRr_ST, [11:10] (R254). -/
def Fld.LAP_AESR_ST_VMUTED (n : Nat) : Fld := ⟨0x280204 + min n 4 * 0x20, 11, 10⟩
/-- NONAUDIO of LAP_AESRr_ST, [9:9] (R254). -/
def Fld.LAP_AESR_ST_NONAUDIO (n : Nat) : Fld := ⟨0x280204 + min n 4 * 0x20, 9, 9⟩
/-- PRO of LAP_AESRr_ST, [8:8] (R254). -/
def Fld.LAP_AESR_ST_PRO (n : Nat) : Fld := ⟨0x280204 + min n 4 * 0x20, 8, 8⟩
/-- RATE of LAP_AESRr_ST, [7:4] (R254). -/
def Fld.LAP_AESR_ST_RATE (n : Nat) : Fld := ⟨0x280204 + min n 4 * 0x20, 7, 4⟩
/-- LOCK of LAP_AESRr_ST, [0:0] (R254). -/
def Fld.LAP_AESR_ST_LOCK (n : Nat) : Fld := ⟨0x280204 + min n 4 * 0x20, 0, 0⟩
/-- NS_HI of LAP_AESRr_TS_HI, [31:0] (R254). -/
def Fld.LAP_AESR_TS_HI_NS_HI (n : Nat) : Fld := ⟨0x280208 + min n 4 * 0x20, 31, 0⟩
/-- NS_LO of LAP_AESRr_TS_LO, [31:0] (R254). -/
def Fld.LAP_AESR_TS_LO_NS_LO (n : Nat) : Fld := ⟨0x28020C + min n 4 * 0x20, 31, 0⟩
/-- TICK of LAP_AESRr_TICK, [31:0] (R254). -/
def Fld.LAP_AESR_TICK_TICK (n : Nat) : Fld := ⟨0x280210 + min n 4 * 0x20, 31, 0⟩
/-- PARITY of LAP_AESRr_CNT, [31:16] (R254). -/
def Fld.LAP_AESR_CNT_PARITY (n : Nat) : Fld := ⟨0x280214 + min n 4 * 0x20, 31, 16⟩
/-- UNLOCKS of LAP_AESRr_CNT, [15:0] (R254). -/
def Fld.LAP_AESR_CNT_UNLOCKS (n : Nat) : Fld := ⟨0x280214 + min n 4 * 0x20, 15, 0⟩
/-- EN of LAP_AESTt_CFG, [31:31] (R254). -/
def Fld.LAP_AEST_CFG_EN (n : Nat) : Fld := ⟨0x280300 + min n 4 * 0x10, 31, 31⟩
/-- PRO of LAP_AESTt_CFG, [30:30] (R254). -/
def Fld.LAP_AEST_CFG_PRO (n : Nat) : Fld := ⟨0x280300 + min n 4 * 0x10, 30, 30⟩
/-- CS_AUTO of LAP_AESTt_CFG, [29:29] (R254). -/
def Fld.LAP_AEST_CFG_CS_AUTO (n : Nat) : Fld := ⟨0x280300 + min n 4 * 0x10, 29, 29⟩
/-- VFORCE of LAP_AESTt_CFG, [28:28] (R254). -/
def Fld.LAP_AEST_CFG_VFORCE (n : Nat) : Fld := ⟨0x280300 + min n 4 * 0x10, 28, 28⟩
/-- USER of LAP_AESTt_CFG, [27:27] (R254). -/
def Fld.LAP_AEST_CFG_USER (n : Nat) : Fld := ⟨0x280300 + min n 4 * 0x10, 27, 27⟩
/-- RUN of LAP_AESTt_ST, [0:0] (R254). -/
def Fld.LAP_AEST_ST_RUN (n : Nat) : Fld := ⟨0x280304 + min n 4 * 0x10, 0, 0⟩
/-- XFER_MS of AMP_CFG, [31:24] (R286). -/
def Fld.AMP_CFG_XFER_MS : Fld := ⟨0x300010, 31, 24⟩
/-- PAR of AMP_CFG, [19:16] (R286). -/
def Fld.AMP_CFG_PAR : Fld := ⟨0x300010, 19, 16⟩
/-- SPARE_EN of AMP_CFG, [8:8] (R286). -/
def Fld.AMP_CFG_SPARE_EN : Fld := ⟨0x300010, 8, 8⟩
/-- SPARE_CH of AMP_CFG, [2:0] (R286). -/
def Fld.AMP_CFG_SPARE_CH : Fld := ⟨0x300010, 2, 0⟩
/-- MODE of AMP_PLAN, [31:31] (R286). -/
def Fld.AMP_PLAN_MODE : Fld := ⟨0x300014, 31, 31⟩
/-- PREF_KHZ of AMP_PLAN, [9:0] (R286). -/
def Fld.AMP_PLAN_PREF_KHZ : Fld := ⟨0x300014, 9, 0⟩
/-- FSW_KHZ of AMP_FSW_ST, [25:16] (R286). -/
def Fld.AMP_FSW_ST_FSW_KHZ : Fld := ⟨0x300018, 25, 16⟩
/-- MIN_DIST of AMP_FSW_ST, [15:8] (R286). -/
def Fld.AMP_FSW_ST_MIN_DIST : Fld := ⟨0x300018, 15, 8⟩
/-- FALLBACK of AMP_FSW_ST, [2:2] (R286). -/
def Fld.AMP_FSW_ST_FALLBACK : Fld := ⟨0x300018, 2, 2⟩
/-- PLAN_FAIL of AMP_FSW_ST, [1:1] (R286). -/
def Fld.AMP_FSW_ST_PLAN_FAIL : Fld := ⟨0x300018, 1, 1⟩
/-- VINP_B of AMP_RAIL, [31:16] (R286). -/
def Fld.AMP_RAIL_VINP_B : Fld := ⟨0x30001C, 31, 16⟩
/-- VINP_A of AMP_RAIL, [15:0] (R286). -/
def Fld.AMP_RAIL_VINP_A : Fld := ⟨0x30001C, 15, 0⟩
/-- FAULTED of AMP_STATUS, [31:24] (R286). -/
def Fld.AMP_STATUS_FAULTED : Fld := ⟨0x300020, 31, 24⟩
/-- THERM_WARN of AMP_STATUS, [23:16] (R286). -/
def Fld.AMP_STATUS_THERM_WARN : Fld := ⟨0x300020, 23, 16⟩
/-- PLAYING of AMP_STATUS, [15:8] (R286). -/
def Fld.AMP_STATUS_PLAYING : Fld := ⟨0x300020, 15, 8⟩
/-- SWITCHING of AMP_STATUS, [7:0] (R286). -/
def Fld.AMP_STATUS_SWITCHING : Fld := ⟨0x300020, 7, 0⟩
/-- SPARE_BAD of AMP_SPARE_ST, [9:9] (R286). -/
def Fld.AMP_SPARE_ST_SPARE_BAD : Fld := ⟨0x300024, 9, 9⟩
/-- ACTIVE of AMP_SPARE_ST, [8:8] (R286). -/
def Fld.AMP_SPARE_ST_ACTIVE : Fld := ⟨0x300024, 8, 8⟩
/-- COVERS of AMP_SPARE_ST, [2:0] (R286). -/
def Fld.AMP_SPARE_ST_COVERS : Fld := ⟨0x300024, 2, 0⟩
/-- T_WARN of AMP_THERM, [7:0] (R286). -/
def Fld.AMP_THERM_T_WARN : Fld := ⟨0x300028, 7, 0⟩
/-- SPARE_RELEASE of AMP_CMD, [16:16] (R286). -/
def Fld.AMP_CMD_SPARE_RELEASE : Fld := ⟨0x30002C, 16, 16⟩
/-- CLEAR of AMP_CMD, [7:0] (R286). -/
def Fld.AMP_CMD_CLEAR : Fld := ⟨0x30002C, 7, 0⟩
/-- EN of AMP_CHc_CFG, [31:31] (R287). -/
def Fld.AMP_CH_CFG_EN (n : Nat) : Fld := ⟨0x300100 + min n 8 * 0x20, 31, 31⟩
/-- MUTE of AMP_CHc_CFG, [30:30] (R287). -/
def Fld.AMP_CH_CFG_MUTE (n : Nat) : Fld := ⟨0x300100 + min n 8 * 0x20, 30, 30⟩
/-- RETRY_N of AMP_CHc_CFG, [27:24] (R287). -/
def Fld.AMP_CH_CFG_RETRY_N (n : Nat) : Fld := ⟨0x300100 + min n 8 * 0x20, 27, 24⟩
/-- RETRY_S of AMP_CHc_CFG, [23:14] (R287). -/
def Fld.AMP_CH_CFG_RETRY_S (n : Nat) : Fld := ⟨0x300100 + min n 8 * 0x20, 23, 14⟩
/-- XFER_EN of AMP_CHc_CFG, [13:13] (R287). -/
def Fld.AMP_CH_CFG_XFER_EN (n : Nat) : Fld := ⟨0x300100 + min n 8 * 0x20, 13, 13⟩
/-- XFER_ZSEL of AMP_CHc_CFG, [12:9] (R287). -/
def Fld.AMP_CH_CFG_XFER_ZSEL (n : Nat) : Fld := ⟨0x300100 + min n 8 * 0x20, 12, 9⟩
/-- ILIM of AMP_CHc_CFG, [4:0] (R287). -/
def Fld.AMP_CH_CFG_ILIM (n : Nat) : Fld := ⟨0x300100 + min n 8 * 0x20, 4, 0⟩
/-- P_CONT of AMP_CHc_LEVEL, [24:16] (R287). -/
def Fld.AMP_CH_LEVEL_P_CONT (n : Nat) : Fld := ⟨0x300104 + min n 8 * 0x20, 24, 16⟩
/-- FS_VPK of AMP_CHc_LEVEL, [15:0] (R287). -/
def Fld.AMP_CH_LEVEL_FS_VPK (n : Nat) : Fld := ⟨0x300104 + min n 8 * 0x20, 15, 0⟩
/-- DC_THRESH of AMP_CHc_PROT, [7:0] (R287). -/
def Fld.AMP_CH_PROT_DC_THRESH (n : Nat) : Fld := ⟨0x300108 + min n 8 * 0x20, 7, 0⟩
/-- TJ of AMP_CHc_ST, [31:24] (R287). -/
def Fld.AMP_CH_ST_TJ (n : Nat) : Fld := ⟨0x30010C + min n 8 * 0x20, 31, 24⟩
/-- FALLBACK of AMP_CHc_ST, [18:18] (R287). -/
def Fld.AMP_CH_ST_FALLBACK (n : Nat) : Fld := ⟨0x30010C + min n 8 * 0x20, 18, 18⟩
/-- THERM_WARN of AMP_CHc_ST, [17:17] (R287). -/
def Fld.AMP_CH_ST_THERM_WARN (n : Nat) : Fld := ⟨0x30010C + min n 8 * 0x20, 17, 17⟩
/-- LIMITING of AMP_CHc_ST, [16:16] (R287). -/
def Fld.AMP_CH_ST_LIMITING (n : Nat) : Fld := ⟨0x30010C + min n 8 * 0x20, 16, 16⟩
/-- SPARED of AMP_CHc_ST, [15:15] (R287). -/
def Fld.AMP_CH_ST_SPARED (n : Nat) : Fld := ⟨0x30010C + min n 8 * 0x20, 15, 15⟩
/-- PROBE of AMP_CHc_ST, [13:12] (R287). -/
def Fld.AMP_CH_ST_PROBE (n : Nat) : Fld := ⟨0x30010C + min n 8 * 0x20, 13, 12⟩
/-- RETRIES of AMP_CHc_ST, [11:8] (R287). -/
def Fld.AMP_CH_ST_RETRIES (n : Nat) : Fld := ⟨0x30010C + min n 8 * 0x20, 11, 8⟩
/-- CAUSE of AMP_CHc_ST, [7:4] (R287). -/
def Fld.AMP_CH_ST_CAUSE (n : Nat) : Fld := ⟨0x30010C + min n 8 * 0x20, 7, 4⟩
/-- STATE of AMP_CHc_ST, [2:0] (R287). -/
def Fld.AMP_CH_ST_STATE (n : Nat) : Fld := ⟨0x30010C + min n 8 * 0x20, 2, 0⟩
/-- P_AVG of AMP_CHc_MEAS, [31:16] (R287). -/
def Fld.AMP_CH_MEAS_P_AVG (n : Nat) : Fld := ⟨0x300110 + min n 8 * 0x20, 31, 16⟩
/-- I_PK of AMP_CHc_MEAS, [15:0] (R287). -/
def Fld.AMP_CH_MEAS_I_PK (n : Nat) : Fld := ⟨0x300110 + min n 8 * 0x20, 15, 0⟩
/-- LIMIT_RUNS of AMP_CHc_CNT, [31:16] (R287). -/
def Fld.AMP_CH_CNT_LIMIT_RUNS (n : Nat) : Fld := ⟨0x300114 + min n 8 * 0x20, 31, 16⟩
/-- LATCHES of AMP_CHc_CNT, [15:8] (R287). -/
def Fld.AMP_CH_CNT_LATCHES (n : Nat) : Fld := ⟨0x300114 + min n 8 * 0x20, 15, 8⟩
/-- RETRIES of AMP_CHc_CNT, [7:0] (R287). -/
def Fld.AMP_CH_CNT_RETRIES (n : Nat) : Fld := ⟨0x300114 + min n 8 * 0x20, 7, 0⟩
/-- TEST_S of LINE_CFG, [29:20] (R305). -/
def Fld.LINE_CFG_TEST_S : Fld := ⟨0x310010, 29, 20⟩
/-- CONFIRM of LINE_CFG, [19:16] (R305). -/
def Fld.LINE_CFG_CONFIRM : Fld := ⟨0x310010, 19, 16⟩
/-- PILOT_HHZ of LINE_CFG, [15:8] (R305). -/
def Fld.LINE_CFG_PILOT_HHZ : Fld := ⟨0x310010, 15, 8⟩
/-- LEVEL of LINE_CFG, [7:0] (R305). -/
def Fld.LINE_CFG_LEVEL : Fld := ⟨0x310010, 7, 0⟩
/-- ALARM_S of LINE_TIME, [31:24] (R305). -/
def Fld.LINE_TIME_ALARM_S : Fld := ⟨0x310014, 31, 24⟩
/-- TRACK_H of LINE_TIME, [23:16] (R305). -/
def Fld.LINE_TIME_TRACK_H : Fld := ⟨0x310014, 23, 16⟩
/-- INT_MS of LINE_TIME, [8:0] (R305). -/
def Fld.LINE_TIME_INT_MS : Fld := ⟨0x310014, 8, 0⟩
/-- EN of LINE_EF, [31:31] (R305). -/
def Fld.LINE_EF_EN : Fld := ⟨0x310018, 31, 31⟩
/-- EF_KOHM of LINE_EF, [7:0] (R305). -/
def Fld.LINE_EF_EF_KOHM : Fld := ⟨0x310018, 7, 0⟩
/-- RISO of LINE_EF_ST, [31:16] (R305). -/
def Fld.LINE_EF_ST_RISO : Fld := ⟨0x31001C, 31, 16⟩
/-- EARTH_FAULT of LINE_EF_ST, [15:15] (R305). -/
def Fld.LINE_EF_ST_EARTH_FAULT : Fld := ⟨0x31001C, 15, 15⟩
/-- LOCATING of LINE_EF_ST, [14:14] (R305). -/
def Fld.LINE_EF_ST_LOCATING : Fld := ⟨0x31001C, 14, 14⟩
/-- MODULE_WIDE of LINE_EF_ST, [13:13] (R305). -/
def Fld.LINE_EF_ST_MODULE_WIDE : Fld := ⟨0x31001C, 13, 13⟩
/-- LOC_VALID of LINE_EF_ST, [12:12] (R305). -/
def Fld.LINE_EF_ST_LOC_VALID : Fld := ⟨0x31001C, 12, 12⟩
/-- LOC of LINE_EF_ST, [10:8] (R305). -/
def Fld.LINE_EF_ST_LOC : Fld := ⟨0x31001C, 10, 8⟩
/-- OPEN of LINE_STATUS, [31:24] (R305). -/
def Fld.LINE_STATUS_OPEN : Fld := ⟨0x310020, 31, 24⟩
/-- SHORT of LINE_STATUS, [23:16] (R305). -/
def Fld.LINE_STATUS_SHORT : Fld := ⟨0x310020, 23, 16⟩
/-- DRIFT of LINE_STATUS, [15:8] (R305). -/
def Fld.LINE_STATUS_DRIFT : Fld := ⟨0x310020, 15, 8⟩
/-- PAUSED of LINE_STATUS, [7:7] (R305). -/
def Fld.LINE_STATUS_PAUSED : Fld := ⟨0x310020, 7, 7⟩
/-- WAKE_SWEEP of LINE_STATUS, [6:6] (R305). -/
def Fld.LINE_STATUS_WAKE_SWEEP : Fld := ⟨0x310020, 6, 6⟩
/-- CAL_BUSY of LINE_STATUS, [5:5] (R305). -/
def Fld.LINE_STATUS_CAL_BUSY : Fld := ⟨0x310020, 5, 5⟩
/-- CAL_REJECT of LINE_STATUS, [4:4] (R305). -/
def Fld.LINE_STATUS_CAL_REJECT : Fld := ⟨0x310020, 4, 4⟩
/-- SLOT_BUSY of LINE_STATUS, [3:3] (R305). -/
def Fld.LINE_STATUS_SLOT_BUSY : Fld := ⟨0x310020, 3, 3⟩
/-- SLOT_CH of LINE_STATUS, [2:0] (R305). -/
def Fld.LINE_STATUS_SLOT_CH : Fld := ⟨0x310020, 2, 0⟩
/-- EF_LOCATE of LINE_CMD, [17:17] (R305). -/
def Fld.LINE_CMD_EF_LOCATE : Fld := ⟨0x310024, 17, 17⟩
/-- CAL of LINE_CMD, [15:8] (R305). -/
def Fld.LINE_CMD_CAL : Fld := ⟨0x310024, 15, 8⟩
/-- TEST_NOW of LINE_CMD, [7:0] (R305). -/
def Fld.LINE_CMD_TEST_NOW : Fld := ⟨0x310024, 7, 0⟩
/-- SUP_EN of LINE_CHc_CFG, [31:31] (R306). -/
def Fld.LINE_CH_CFG_SUP_EN (n : Nat) : Fld := ⟨0x310100 + min n 8 * 0x20, 31, 31⟩
/-- EOL of LINE_CHc_CFG, [30:30] (R306). -/
def Fld.LINE_CH_CFG_EOL (n : Nat) : Fld := ⟨0x310100 + min n 8 * 0x20, 30, 30⟩
/-- OPEN_PCT of LINE_CHc_CFG, [23:16] (R306). -/
def Fld.LINE_CH_CFG_OPEN_PCT (n : Nat) : Fld := ⟨0x310100 + min n 8 * 0x20, 23, 16⟩
/-- SHORT_PCT of LINE_CHc_CFG, [15:8] (R306). -/
def Fld.LINE_CH_CFG_SHORT_PCT (n : Nat) : Fld := ⟨0x310100 + min n 8 * 0x20, 15, 8⟩
/-- DRIFT_PCT of LINE_CHc_CFG, [7:0] (R306). -/
def Fld.LINE_CH_CFG_DRIFT_PCT (n : Nat) : Fld := ⟨0x310100 + min n 8 * 0x20, 7, 0⟩
/-- FILT_NF of LINE_CHc_NET, [31:16] (R306). -/
def Fld.LINE_CH_NET_FILT_NF (n : Nat) : Fld := ⟨0x310104 + min n 8 * 0x20, 31, 16⟩
/-- EOL_OHM of LINE_CHc_NET, [15:0] (R306). -/
def Fld.LINE_CH_NET_EOL_OHM (n : Nat) : Fld := ⟨0x310104 + min n 8 * 0x20, 15, 0⟩
/-- MAG of LINE_CHc_ZREF, [23:0] (R306). -/
def Fld.LINE_CH_ZREF_MAG (n : Nat) : Fld := ⟨0x310108 + min n 8 * 0x20, 23, 0⟩
/-- REF_PH of LINE_CHc_ZPH, [31:16] (R306). -/
def Fld.LINE_CH_ZPH_REF_PH (n : Nat) : Fld := ⟨0x31010C + min n 8 * 0x20, 31, 16⟩
/-- MEAS_PH of LINE_CHc_ZPH, [15:0] (R306). -/
def Fld.LINE_CH_ZPH_MEAS_PH (n : Nat) : Fld := ⟨0x31010C + min n 8 * 0x20, 15, 0⟩
/-- MAG of LINE_CHc_ZMEAS, [23:0] (R306). -/
def Fld.LINE_CH_ZMEAS_MAG (n : Nat) : Fld := ⟨0x310110 + min n 8 * 0x20, 23, 0⟩
/-- MAG of LINE_CHc_ZTRK, [23:0] (R306). -/
def Fld.LINE_CH_ZTRK_MAG (n : Nat) : Fld := ⟨0x310114 + min n 8 * 0x20, 23, 0⟩
/-- CAL_FAIL of LINE_CHc_ST, [11:9] (R306). -/
def Fld.LINE_CH_ST_CAL_FAIL (n : Nat) : Fld := ⟨0x310118 + min n 8 * 0x20, 11, 9⟩
/-- EOL_WEAK of LINE_CHc_ST, [8:8] (R306). -/
def Fld.LINE_CH_ST_EOL_WEAK (n : Nat) : Fld := ⟨0x310118 + min n 8 * 0x20, 8, 8⟩
/-- CAL_VALID of LINE_CHc_ST, [7:7] (R306). -/
def Fld.LINE_CH_ST_CAL_VALID (n : Nat) : Fld := ⟨0x310118 + min n 8 * 0x20, 7, 7⟩
/-- STALE of LINE_CHc_ST, [6:6] (R306). -/
def Fld.LINE_CH_ST_STALE (n : Nat) : Fld := ⟨0x310118 + min n 8 * 0x20, 6, 6⟩
/-- DRIFT of LINE_CHc_ST, [5:5] (R306). -/
def Fld.LINE_CH_ST_DRIFT (n : Nat) : Fld := ⟨0x310118 + min n 8 * 0x20, 5, 5⟩
/-- CLASS of LINE_CHc_ST, [1:0] (R306). -/
def Fld.LINE_CH_ST_CLASS (n : Nat) : Fld := ⟨0x310118 + min n 8 * 0x20, 1, 0⟩
/-- TESTS of LINE_CHc_CNT, [31:16] (R306). -/
def Fld.LINE_CH_CNT_TESTS (n : Nat) : Fld := ⟨0x31011C + min n 8 * 0x20, 31, 16⟩
/-- INVALID of LINE_CHc_CNT, [15:8] (R306). -/
def Fld.LINE_CH_CNT_INVALID (n : Nat) : Fld := ⟨0x31011C + min n 8 * 0x20, 15, 8⟩
/-- FAULTS of LINE_CHc_CNT, [7:0] (R306). -/
def Fld.LINE_CH_CNT_FAULTS (n : Nat) : Fld := ⟨0x31011C + min n 8 * 0x20, 7, 0⟩
/-- FAULTS of CROWN_STATUS, [31:16] (R342). -/
def Fld.CROWN_STATUS_FAULTS : Fld := ⟨0x380010, 31, 16⟩
/-- FALLBACK of CROWN_STATUS, [11:11] (R342). -/
def Fld.CROWN_STATUS_FALLBACK : Fld := ⟨0x380010, 11, 11⟩
/-- SCHED_LOST of CROWN_STATUS, [10:10] (R342). -/
def Fld.CROWN_STATUS_SCHED_LOST : Fld := ⟨0x380010, 10, 10⟩
/-- CROWN_FAIL of CROWN_STATUS, [9:9] (R342). -/
def Fld.CROWN_STATUS_CROWN_FAIL : Fld := ⟨0x380010, 9, 9⟩
/-- LIVE_FALLBACK of CROWN_STATUS, [8:8] (R342). -/
def Fld.CROWN_STATUS_LIVE_FALLBACK : Fld := ⟨0x380010, 8, 8⟩
/-- ALARM of CROWN_STATUS, [0:0] (R342). -/
def Fld.CROWN_STATUS_ALARM : Fld := ⟨0x380010, 0, 0⟩
/-- LANE of CROWN_LANES, [23:0] (R342). -/
def Fld.CROWN_LANES_LANE : Fld := ⟨0x380014, 23, 0⟩
/-- PARTNER of CROWN_ACTIVE, [31:16] (R342). -/
def Fld.CROWN_ACTIVE_PARTNER : Fld := ⟨0x380018, 31, 16⟩
/-- ENTRIES of CROWN_ACTIVE, [15:0] (R342). -/
def Fld.CROWN_ACTIVE_ENTRIES : Fld := ⟨0x380018, 15, 0⟩
/-- SEL of CROWN_GATE, [15:0] (R342). -/
def Fld.CROWN_GATE_SEL : Fld := ⟨0x38001C, 15, 0⟩
/-- STATE of CROWN_TRIG_ST, [15:0] (R342). -/
def Fld.CROWN_TRIG_ST_STATE : Fld := ⟨0x380020, 15, 0⟩
/-- ZSEL of CROWN_FIELD, [31:16] (R342). -/
def Fld.CROWN_FIELD_ZSEL : Fld := ⟨0x380024, 31, 16⟩
/-- RLY of CROWN_FIELD, [11:8] (R342). -/
def Fld.CROWN_FIELD_RLY : Fld := ⟨0x380024, 11, 8⟩
/-- ALARM_N of CROWN_FIELD, [1:1] (R342). -/
def Fld.CROWN_FIELD_ALARM_N : Fld := ⟨0x380024, 1, 1⟩
/-- FAULT_N of CROWN_FIELD, [0:0] (R342). -/
def Fld.CROWN_FIELD_FAULT_N : Fld := ⟨0x380024, 0, 0⟩
/-- ZSEL_HOST of CROWN_HOST_OUT, [31:16] (R342). -/
def Fld.CROWN_HOST_OUT_ZSEL_HOST : Fld := ⟨0x380028, 31, 16⟩
/-- RLY_HOST of CROWN_HOST_OUT, [11:8] (R342). -/
def Fld.CROWN_HOST_OUT_RLY_HOST : Fld := ⟨0x380028, 11, 8⟩
/-- START of CROWN_CMD, [8:8] (R342). -/
def Fld.CROWN_CMD_START : Fld := ⟨0x38002C, 8, 8⟩
/-- ENTRY of CROWN_CMD, [3:0] (R342). -/
def Fld.CROWN_CMD_ENTRY : Fld := ⟨0x38002C, 3, 0⟩
/-- MUTE_OTHERS of CROWN_POLICY, [2:2] (R342). -/
def Fld.CROWN_POLICY_MUTE_OTHERS : Fld := ⟨0x380030, 2, 2⟩
/-- PANEL_START of CROWN_POLICY, [1:1] (R342). -/
def Fld.CROWN_POLICY_PANEL_START : Fld := ⟨0x380030, 1, 1⟩
/-- PANEL_RESET of CROWN_POLICY, [0:0] (R342). -/
def Fld.CROWN_POLICY_PANEL_RESET : Fld := ⟨0x380030, 0, 0⟩
/-- ALARMS of CROWN_CNT, [31:16] (R342). -/
def Fld.CROWN_CNT_ALARMS : Fld := ⟨0x380040, 31, 16⟩
/-- REPAIRS of CROWN_CNT, [15:8] (R342). -/
def Fld.CROWN_CNT_REPAIRS : Fld := ⟨0x380040, 15, 8⟩
/-- MSG_FAULTS of CROWN_CNT, [7:0] (R342). -/
def Fld.CROWN_CNT_MSG_FAULTS : Fld := ⟨0x380040, 7, 0⟩
/-- EN of CROWN_TRIGn, [31:31] (R342). -/
def Fld.CROWN_TRIG_EN (n : Nat) : Fld := ⟨0x380100 + min n 8 * 0x4, 31, 31⟩
/-- DEB_MS of CROWN_TRIGn, [5:0] (R342). -/
def Fld.CROWN_TRIG_DEB_MS (n : Nat) : Fld := ⟨0x380100 + min n 8 * 0x4, 5, 0⟩
/-- EN of PAIR_CFG, [31:31] (R343). -/
def Fld.PAIR_CFG_EN : Fld := ⟨0x390010, 31, 31⟩
/-- DUTY of PAIR_CFG, [30:30] (R343). -/
def Fld.PAIR_CFG_DUTY : Fld := ⟨0x390010, 30, 30⟩
/-- SETTLE_MS of PAIR_CFG, [27:24] (R343). -/
def Fld.PAIR_CFG_SETTLE_MS : Fld := ⟨0x390010, 27, 24⟩
/-- XFER_EN of PAIR_CFG, [20:20] (R343). -/
def Fld.PAIR_CFG_XFER_EN : Fld := ⟨0x390010, 20, 20⟩
/-- XFER_RLY of PAIR_CFG, [17:16] (R343). -/
def Fld.PAIR_CFG_XFER_RLY : Fld := ⟨0x390010, 17, 16⟩
/-- PEER_NODE of PAIR_CFG, [11:0] (R343). -/
def Fld.PAIR_CFG_PEER_NODE : Fld := ⟨0x390010, 11, 0⟩
/-- MASK of PAIR_GIVEUP, [7:0] (R343). -/
def Fld.PAIR_GIVEUP_MASK : Fld := ⟨0x390014, 7, 0⟩
/-- ROLE of PAIR_STATUS, [31:29] (R343). -/
def Fld.PAIR_STATUS_ROLE : Fld := ⟨0x390018, 31, 29⟩
/-- CUFF of PAIR_STATUS, [28:28] (R343). -/
def Fld.PAIR_STATUS_CUFF : Fld := ⟨0x390018, 28, 28⟩
/-- CUFF_DRIVE of PAIR_STATUS, [27:27] (R343). -/
def Fld.PAIR_STATUS_CUFF_DRIVE : Fld := ⟨0x390018, 27, 27⟩
/-- PEER_READY of PAIR_STATUS, [26:26] (R343). -/
def Fld.PAIR_STATUS_PEER_READY : Fld := ⟨0x390018, 26, 26⟩
/-- PEER_LOST of PAIR_STATUS, [25:25] (R343). -/
def Fld.PAIR_STATUS_PEER_LOST : Fld := ⟨0x390018, 25, 25⟩
/-- MISMATCH of PAIR_STATUS, [24:24] (R343). -/
def Fld.PAIR_STATUS_MISMATCH : Fld := ⟨0x390018, 24, 24⟩
/-- CUFF_FAULT of PAIR_STATUS, [23:23] (R343). -/
def Fld.PAIR_STATUS_CUFF_FAULT : Fld := ⟨0x390018, 23, 23⟩
/-- PROOF of PAIR_STATUS, [22:22] (R343). -/
def Fld.PAIR_STATUS_PROOF : Fld := ⟨0x390018, 22, 22⟩
/-- LINER_AGE of PAIR_STATUS, [15:8] (R343). -/
def Fld.PAIR_STATUS_LINER_AGE : Fld := ⟨0x390018, 15, 8⟩
/-- CAUSES of PAIR_STATUS, [7:0] (R343). -/
def Fld.PAIR_STATUS_CAUSES : Fld := ⟨0x390018, 7, 0⟩
/-- RESULT of PAIR_PROOF, [31:30] (R343). -/
def Fld.PAIR_PROOF_RESULT : Fld := ⟨0x39001C, 31, 30⟩
/-- WIN_S of PAIR_PROOF, [15:0] (R343). -/
def Fld.PAIR_PROOF_WIN_S : Fld := ⟨0x39001C, 15, 0⟩
/-- PROOF_END of PAIR_CMD, [1:1] (R343). -/
def Fld.PAIR_CMD_PROOF_END : Fld := ⟨0x390020, 1, 1⟩
/-- PROOF of PAIR_CMD, [0:0] (R343). -/
def Fld.PAIR_CMD_PROOF : Fld := ⟨0x390020, 0, 0⟩
/-- CAUSE of PAIR_LAST, [31:24] (R343). -/
def Fld.PAIR_LAST_CAUSE : Fld := ⟨0x390024, 31, 24⟩
/-- GAP of PAIR_LAST, [15:0] (R343). -/
def Fld.PAIR_LAST_GAP : Fld := ⟨0x390024, 15, 0⟩
/-- SWITCHOVERS of PAIR_CNT, [31:16] (R343). -/
def Fld.PAIR_CNT_SWITCHOVERS : Fld := ⟨0x390028, 31, 16⟩
/-- LINER_MISS of PAIR_CNT, [15:0] (R343). -/
def Fld.PAIR_CNT_LINER_MISS : Fld := ⟨0x390028, 15, 0⟩
/-- MODE of PNL_CFG, [29:28] (R344). -/
def Fld.PNL_CFG_MODE : Fld := ⟨0x3A0010, 29, 28⟩
/-- BAUD of PNL_CFG, [26:24] (R344). -/
def Fld.PNL_CFG_BAUD : Fld := ⟨0x3A0010, 26, 24⟩
/-- PARITY of PNL_CFG, [23:22] (R344). -/
def Fld.PNL_CFG_PARITY : Fld := ⟨0x3A0010, 23, 22⟩
/-- STOP2 of PNL_CFG, [21:21] (R344). -/
def Fld.PNL_CFG_STOP2 : Fld := ⟨0x3A0010, 21, 21⟩
/-- GAP_CH of PNL_CFG, [15:8] (R344). -/
def Fld.PNL_CFG_GAP_CH : Fld := ⟨0x3A0010, 15, 8⟩
/-- ADDR of PNL_CFG, [7:0] (R344). -/
def Fld.PNL_CFG_ADDR : Fld := ⟨0x3A0010, 7, 0⟩
/-- RX_ITEMS of PNL_STATUS, [31:21] (R344). -/
def Fld.PNL_STATUS_RX_ITEMS : Fld := ⟨0x3A0014, 31, 21⟩
/-- TX_ITEMS of PNL_STATUS, [20:10] (R344). -/
def Fld.PNL_STATUS_TX_ITEMS : Fld := ⟨0x3A0014, 20, 10⟩
/-- TX_BUSY of PNL_STATUS, [2:2] (R344). -/
def Fld.PNL_STATUS_TX_BUSY : Fld := ⟨0x3A0014, 2, 2⟩
/-- DATA of PNL_RXDATA, [31:0] (R344). -/
def Fld.PNL_RXDATA_DATA : Fld := ⟨0x3A0018, 31, 0⟩
/-- ERR of PNL_RXTAG, [15:12] (R344). -/
def Fld.PNL_RXTAG_ERR (p : Nat) : Fld := ⟨0x3A001C + p * 0x1000000, 15, 12⟩
/-- IDLE of PNL_RXTAG, [8:8] (R344). -/
def Fld.PNL_RXTAG_IDLE (p : Nat) : Fld := ⟨0x3A001C + p * 0x1000000, 8, 8⟩
/-- GAP of PNL_RXTAG, [7:7] (R344). -/
def Fld.PNL_RXTAG_GAP (p : Nat) : Fld := ⟨0x3A001C + p * 0x1000000, 7, 7⟩
/-- FLUSHED of PNL_RXTAG, [6:6] (R344). -/
def Fld.PNL_RXTAG_FLUSHED (p : Nat) : Fld := ⟨0x3A001C + p * 0x1000000, 6, 6⟩
/-- VALID of PNL_RXTAG, [3:0] (R344). -/
def Fld.PNL_RXTAG_VALID (p : Nat) : Fld := ⟨0x3A001C + p * 0x1000000, 3, 0⟩
/-- END of PNL_TXTAG, [4:4] (R344). -/
def Fld.PNL_TXTAG_END (p : Nat) : Fld := ⟨0x3A0020 + p * 0x1000000, 4, 4⟩
/-- VALID of PNL_TXTAG, [3:0] (R344). -/
def Fld.PNL_TXTAG_VALID (p : Nat) : Fld := ⟨0x3A0020 + p * 0x1000000, 3, 0⟩
/-- DATA of PNL_TXDATA, [31:0] (R344). -/
def Fld.PNL_TXDATA_DATA : Fld := ⟨0x3A0024, 31, 0⟩
/-- TX_DISCARD of PNL_CMD, [2:2] (R344). -/
def Fld.PNL_CMD_TX_DISCARD : Fld := ⟨0x3A0028, 2, 2⟩
/-- RX_DISCARD of PNL_CMD, [1:1] (R344). -/
def Fld.PNL_CMD_RX_DISCARD : Fld := ⟨0x3A0028, 1, 1⟩
/-- RX_FLUSH of PNL_CMD, [0:0] (R344). -/
def Fld.PNL_CMD_RX_FLUSH : Fld := ⟨0x3A0028, 0, 0⟩
/-- PARITY_ERR of PNL_CNT, [31:24] (R344). -/
def Fld.PNL_CNT_PARITY_ERR : Fld := ⟨0x3A002C, 31, 24⟩
/-- CRC_ERR of PNL_CNT, [23:16] (R344). -/
def Fld.PNL_CNT_CRC_ERR : Fld := ⟨0x3A002C, 23, 16⟩
/-- RX_DROP of PNL_CNT, [15:8] (R344). -/
def Fld.PNL_CNT_RX_DROP : Fld := ⟨0x3A002C, 15, 8⟩
/-- MB_EXC of PNL_CNT, [7:0] (R344). -/
def Fld.PNL_CNT_MB_EXC : Fld := ⟨0x3A002C, 7, 0⟩
/-- ROOTS_USED of CERK_LC, [11:8] (R397). -/
def Fld.CERK_LC_ROOTS_USED : Fld := ⟨0x400010, 11, 8⟩
/-- ROOT_VALID of CERK_LC, [7:7] (R397). -/
def Fld.CERK_LC_ROOT_VALID : Fld := ⟨0x400010, 7, 7⟩
/-- ROOT_SLOT of CERK_LC, [6:4] (R397). -/
def Fld.CERK_LC_ROOT_SLOT : Fld := ⟨0x400010, 6, 4⟩
/-- JTAG_OFF of CERK_LC, [3:3] (R397). -/
def Fld.CERK_LC_JTAG_OFF : Fld := ⟨0x400010, 3, 3⟩
/-- STATE of CERK_LC, [2:0] (R397). -/
def Fld.CERK_LC_STATE : Fld := ⟨0x400010, 2, 0⟩
/-- SERIAL_HI of CERK_SERIAL_HI, [31:0] (R397). -/
def Fld.CERK_SERIAL_HI_SERIAL_HI : Fld := ⟨0x400014, 31, 0⟩
/-- SERIAL_LO of CERK_SERIAL_LO, [31:0] (R397). -/
def Fld.CERK_SERIAL_LO_SERIAL_LO : Fld := ⟨0x400018, 31, 0⟩
/-- DISCARDED of CERK_ORD_ST, [31:24] (R397). -/
def Fld.CERK_ORD_ST_DISCARDED : Fld := ⟨0x400020, 31, 24⟩
/-- QUEUE of CERK_ORD_ST, [15:12] (R397). -/
def Fld.CERK_ORD_ST_QUEUE : Fld := ⟨0x400020, 15, 12⟩
/-- RESULT of CERK_ORD_ST, [7:4] (R397). -/
def Fld.CERK_ORD_ST_RESULT : Fld := ⟨0x400020, 7, 4⟩
/-- BUSY of CERK_ORD_ST, [0:0] (R397). -/
def Fld.CERK_ORD_ST_BUSY : Fld := ⟨0x400020, 0, 0⟩
/-- SEQ_HI of CERK_ORD_SEQ_HI, [31:0] (R397). -/
def Fld.CERK_ORD_SEQ_HI_SEQ_HI : Fld := ⟨0x400024, 31, 0⟩
/-- SEQ_LO of CERK_ORD_SEQ_LO, [31:0] (R397). -/
def Fld.CERK_ORD_SEQ_LO_SEQ_LO : Fld := ⟨0x400028, 31, 0⟩
/-- SEAL of CERK_KEYS, [31:16] (R397). -/
def Fld.CERK_KEYS_SEAL : Fld := ⟨0x40002C, 31, 16⟩
/-- CAK_B of CERK_KEYS, [1:1] (R397). -/
def Fld.CERK_KEYS_CAK_B : Fld := ⟨0x40002C, 1, 1⟩
/-- CAK_A of CERK_KEYS, [0:0] (R397). -/
def Fld.CERK_KEYS_CAK_A : Fld := ⟨0x40002C, 0, 0⟩
/-- PIN_EN of CERK_TAMPER_CFG, [0:0] (R397). -/
def Fld.CERK_TAMPER_CFG_PIN_EN : Fld := ⟨0x400030, 0, 0⟩
/-- COUNT of CERK_TAMPER_ST, [31:16] (R397). -/
def Fld.CERK_TAMPER_ST_COUNT : Fld := ⟨0x400034, 31, 16⟩
/-- PIN_LOW of CERK_TAMPER_ST, [5:5] (R397). -/
def Fld.CERK_TAMPER_ST_PIN_LOW : Fld := ⟨0x400034, 5, 5⟩
/-- TEMP of CERK_TAMPER_ST, [4:4] (R397). -/
def Fld.CERK_TAMPER_ST_TEMP : Fld := ⟨0x400034, 4, 4⟩
/-- CLOCK of CERK_TAMPER_ST, [3:3] (R397). -/
def Fld.CERK_TAMPER_ST_CLOCK : Fld := ⟨0x400034, 3, 3⟩
/-- SUPPLY of CERK_TAMPER_ST, [2:2] (R397). -/
def Fld.CERK_TAMPER_ST_SUPPLY : Fld := ⟨0x400034, 2, 2⟩
/-- PIN of CERK_TAMPER_ST, [1:1] (R397). -/
def Fld.CERK_TAMPER_ST_PIN : Fld := ⟨0x400034, 1, 1⟩
/-- TAMPERED of CERK_TAMPER_ST, [0:0] (R397). -/
def Fld.CERK_TAMPER_ST_TAMPERED : Fld := ⟨0x400034, 0, 0⟩
/-- MIN_VER of CERK_FW_MIN, [15:0] (R397). -/
def Fld.CERK_FW_MIN_MIN_VER : Fld := ⟨0x400038, 15, 0⟩
/-- ORD_REJECT of CERK_CNT, [31:16] (R397). -/
def Fld.CERK_CNT_ORD_REJECT : Fld := ⟨0x40003C, 31, 16⟩
/-- IMG_REJECT of CERK_CNT, [15:0] (R397). -/
def Fld.CERK_CNT_IMG_REJECT : Fld := ⟨0x40003C, 15, 0⟩
/-- LEN of CERK_CERT_LEN, [15:0] (R397). -/
def Fld.CERK_CERT_LEN_LEN : Fld := ⟨0x400040, 15, 0⟩
/-- FREE of MEM_POOL_ST, [30:16] (R454). -/
def Fld.MEM_POOL_ST_FREE : Fld := ⟨0x480010, 30, 16⟩
/-- MIN_FREE of MEM_POOL_ST, [14:0] (R454). -/
def Fld.MEM_POOL_ST_MIN_FREE : Fld := ⟨0x480010, 14, 0⟩
/-- LOST_CELLS of MEM_POOL_RSV, [29:16] (R454). -/
def Fld.MEM_POOL_RSV_LOST_CELLS : Fld := ⟨0x480014, 29, 16⟩
/-- RSV_SUM of MEM_POOL_RSV, [13:0] (R454). -/
def Fld.MEM_POOL_RSV_RSV_SUM : Fld := ⟨0x480014, 13, 0⟩
/-- POL1 of MEM_QWM_CFG, [3:3] (R454). -/
def Fld.MEM_QWM_CFG_POL1 : Fld := ⟨0x480018, 3, 3⟩
/-- EN1 of MEM_QWM_CFG, [2:2] (R454). -/
def Fld.MEM_QWM_CFG_EN1 : Fld := ⟨0x480018, 2, 2⟩
/-- POL0 of MEM_QWM_CFG, [1:1] (R454). -/
def Fld.MEM_QWM_CFG_POL0 : Fld := ⟨0x480018, 1, 1⟩
/-- EN0 of MEM_QWM_CFG, [0:0] (R454). -/
def Fld.MEM_QWM_CFG_EN0 : Fld := ⟨0x480018, 0, 0⟩
/-- MASK of MEM_QWM0_MASK, [31:0] (R454). -/
def Fld.MEM_QWM0_MASK_MASK : Fld := ⟨0x48001C, 31, 0⟩
/-- MASK of MEM_QWM1_MASK, [31:0] (R454). -/
def Fld.MEM_QWM1_MASK_MASK : Fld := ⟨0x480020, 31, 0⟩
/-- LEVEL of MEM_QWM_LEVEL, [31:0] (R454). -/
def Fld.MEM_QWM_LEVEL_LEVEL : Fld := ⟨0x480024, 31, 0⟩
/-- STICKY of MEM_QWM_STICKY, [31:0] (R454). -/
def Fld.MEM_QWM_STICKY_STICKY : Fld := ⟨0x480028, 31, 0⟩
/-- FLUSH of MEM_QCMD, [31:31] (R454). -/
def Fld.MEM_QCMD_FLUSH : Fld := ⟨0x48002C, 31, 31⟩
/-- Q of MEM_QCMD, [4:0] (R454). -/
def Fld.MEM_QCMD_Q : Fld := ⟨0x48002C, 4, 0⟩
/-- OVER of MEM_OVERQ, [31:0] (R454). -/
def Fld.MEM_OVERQ_OVER : Fld := ⟨0x480030, 31, 0⟩
/-- CELLS of MEM_RSW_QUOTA, [30:16] (R454). -/
def Fld.MEM_RSW_QUOTA_CELLS : Fld := ⟨0x480034, 30, 16⟩
/-- HYST of MEM_RSW_QUOTA, [15:8] (R454). -/
def Fld.MEM_RSW_QUOTA_HYST : Fld := ⟨0x480034, 15, 8⟩
/-- OVER of MEM_RSW_USE, [31:31] (R454). -/
def Fld.MEM_RSW_USE_OVER : Fld := ⟨0x480038, 31, 31⟩
/-- CELLS_USED of MEM_RSW_USE, [30:16] (R454). -/
def Fld.MEM_RSW_USE_CELLS_USED : Fld := ⟨0x480038, 30, 16⟩
/-- UNCORR of MEM_ECC_ST, [31:31] (R454). -/
def Fld.MEM_ECC_ST_UNCORR : Fld := ⟨0x480040, 31, 31⟩
/-- LAST_BANK of MEM_ECC_ST, [30:24] (R454). -/
def Fld.MEM_ECC_ST_LAST_BANK : Fld := ⟨0x480040, 30, 24⟩
/-- ERR_EXR of MEM_ECC_ST, [23:16] (R454). -/
def Fld.MEM_ECC_ST_ERR_EXR : Fld := ⟨0x480040, 23, 16⟩
/-- CORR_EXR of MEM_ECC_ST, [15:0] (R454). -/
def Fld.MEM_ECC_ST_CORR_EXR : Fld := ⟨0x480040, 15, 0⟩
/-- VIN_CTL of PLAT_SUPPLY, [31:16] (R367). -/
def Fld.PLAT_SUPPLY_VIN_CTL : Fld := ⟨0x500010, 31, 16⟩
/-- PFW of PLAT_SUPPLY, [2:2] (R367). -/
def Fld.PLAT_SUPPLY_PFW : Fld := ⟨0x500010, 2, 2⟩
/-- VIN_OV of PLAT_SUPPLY, [1:1] (R367). -/
def Fld.PLAT_SUPPLY_VIN_OV : Fld := ⟨0x500010, 1, 1⟩
/-- VIN_WARN of PLAT_SUPPLY, [0:0] (R367). -/
def Fld.PLAT_SUPPLY_VIN_WARN : Fld := ⟨0x500010, 0, 0⟩
/-- PFW_DELAY_S of PLAT_SUPPLY_CFG, [15:8] (R367). -/
def Fld.PLAT_SUPPLY_CFG_PFW_DELAY_S : Fld := ⟨0x500014, 15, 8⟩
/-- PFW_ACT of PLAT_SUPPLY_CFG, [1:0] (R367). -/
def Fld.PLAT_SUPPLY_CFG_PFW_ACT : Fld := ⟨0x500014, 1, 0⟩
/-- T_DIE of PLAT_TEMP, [31:24] (R367). -/
def Fld.PLAT_TEMP_T_DIE : Fld := ⟨0x500018, 31, 24⟩
/-- T_BASE of PLAT_TEMP, [23:16] (R367). -/
def Fld.PLAT_TEMP_T_BASE : Fld := ⟨0x500018, 23, 16⟩
/-- T_DIE_PEAK of PLAT_TEMP, [15:8] (R367). -/
def Fld.PLAT_TEMP_T_DIE_PEAK : Fld := ⟨0x500018, 15, 8⟩
/-- RESTART of PLAT_RST_CMD, [8:0] (R367). -/
def Fld.PLAT_RST_CMD_RESTART : Fld := ⟨0x500020, 8, 0⟩
/-- COUNT of PLAT_RST_ST, [31:16] (R367). -/
def Fld.PLAT_RST_ST_COUNT : Fld := ⟨0x500024, 31, 16⟩
/-- BUSY of PLAT_RST_ST, [8:0] (R367). -/
def Fld.PLAT_RST_ST_BUSY : Fld := ⟨0x500024, 8, 0⟩
/-- TIMEOUT_MS of PLAT_WDOG, [13:0] (R367). -/
def Fld.PLAT_WDOG_TIMEOUT_MS : Fld := ⟨0x500028, 13, 0⟩
/-- CANCEL of PLAT_FW_CMD, [1:1] (R367). -/
def Fld.PLAT_FW_CMD_CANCEL : Fld := ⟨0x500030, 1, 1⟩
/-- SWITCH of PLAT_FW_CMD, [0:0] (R367). -/
def Fld.PLAT_FW_CMD_SWITCH : Fld := ⟨0x500030, 0, 0⟩
/-- BRIM_TICK of PLAT_FW_TICK, [31:0] (R367). -/
def Fld.PLAT_FW_TICK_BRIM_TICK : Fld := ⟨0x500034, 31, 0⟩
/-- LATE of PLAT_FW_ST, [7:7] (R367). -/
def Fld.PLAT_FW_ST_LATE : Fld := ⟨0x500038, 7, 7⟩
/-- FALLEN_BACK of PLAT_FW_ST, [6:6] (R367). -/
def Fld.PLAT_FW_ST_FALLEN_BACK : Fld := ⟨0x500038, 6, 6⟩
/-- MISSED of PLAT_FW_ST, [5:5] (R367). -/
def Fld.PLAT_FW_ST_MISSED : Fld := ⟨0x500038, 5, 5⟩
/-- PROBATION of PLAT_FW_ST, [4:4] (R367). -/
def Fld.PLAT_FW_ST_PROBATION : Fld := ⟨0x500038, 4, 4⟩
/-- PRELOADED of PLAT_FW_ST, [3:3] (R367). -/
def Fld.PLAT_FW_ST_PRELOADED : Fld := ⟨0x500038, 3, 3⟩
/-- ARMED of PLAT_FW_ST, [2:2] (R367). -/
def Fld.PLAT_FW_ST_ARMED : Fld := ⟨0x500038, 2, 2⟩
/-- IDLE_VALID of PLAT_FW_ST, [1:1] (R367). -/
def Fld.PLAT_FW_ST_IDLE_VALID : Fld := ⟨0x500038, 1, 1⟩
/-- ACT_BANK of PLAT_FW_ST, [0:0] (R367). -/
def Fld.PLAT_FW_ST_ACT_BANK : Fld := ⟨0x500038, 0, 0⟩
/-- IDLE_VER of PLAT_FW_VER, [31:16] (R367). -/
def Fld.PLAT_FW_VER_IDLE_VER : Fld := ⟨0x50003C, 31, 16⟩
/-- ACT_VER of PLAT_FW_VER, [15:0] (R367). -/
def Fld.PLAT_FW_VER_ACT_VER : Fld := ⟨0x50003C, 15, 0⟩
/-- THRESH of PLAT_REPAIR_CFG, [31:24] (R367). -/
def Fld.PLAT_REPAIR_CFG_THRESH : Fld := ⟨0x500040, 31, 24⟩
/-- WIN_H of PLAT_REPAIR_CFG, [7:0] (R367). -/
def Fld.PLAT_REPAIR_CFG_WIN_H : Fld := ⟨0x500040, 7, 0⟩
/-- GO of PLAT_REPAIR_CMD, [31:31] (R367). -/
def Fld.PLAT_REPAIR_CMD_GO : Fld := ⟨0x500044, 31, 31⟩
/-- BANK of PLAT_REPAIR_CMD, [5:0] (R367). -/
def Fld.PLAT_REPAIR_CMD_BANK : Fld := ⟨0x500044, 5, 0⟩
/-- BUSY of PLAT_REPAIR_ST, [31:31] (R367). -/
def Fld.PLAT_REPAIR_ST_BUSY : Fld := ⟨0x500048, 31, 31⟩
/-- SRC_BANK of PLAT_REPAIR_ST, [29:24] (R367). -/
def Fld.PLAT_REPAIR_ST_SRC_BANK : Fld := ⟨0x500048, 29, 24⟩
/-- S1_USED of PLAT_REPAIR_ST, [15:15] (R367). -/
def Fld.PLAT_REPAIR_ST_S1_USED : Fld := ⟨0x500048, 15, 15⟩
/-- S1_BANK of PLAT_REPAIR_ST, [13:8] (R367). -/
def Fld.PLAT_REPAIR_ST_S1_BANK : Fld := ⟨0x500048, 13, 8⟩
/-- S0_USED of PLAT_REPAIR_ST, [7:7] (R367). -/
def Fld.PLAT_REPAIR_ST_S0_USED : Fld := ⟨0x500048, 7, 7⟩
/-- S0_BANK of PLAT_REPAIR_ST, [5:0] (R367). -/
def Fld.PLAT_REPAIR_ST_S0_BANK : Fld := ⟨0x500048, 5, 0⟩

end Sys2Proof.Machine
end

