-- ==== Sys2Proof/Machine/State.lean ====
section
/-! DEFINITION. The state of the part, as plain data: the registers and table words of BAR0 (by key, as the register
map gives them their reset values), the pending shadow writes, and beside them what each block keeps that no register
shows; the queue of waiting commands; the faults and refusals; and the state after reset. -/

namespace Sys2Proof.Machine

/-! ### The log and the time base -/

/-- One entry of the hatband log (R478): its eight words. -/
structure LogEntry where
  d0 : Word
  d1 : Word
  d2 : Word
  d3 : Word
  d4 : Word
  d5 : Word
  d6 : Word
  d7 : Word
deriving DecidableEq, Repr

/-- The zeroed entry. -/
def LogEntry.zero : LogEntry := ⟨0, 0, 0, 0, 0, 0, 0, 0⟩

/-- The hatband log (R478 to R484) beside its registers: the intake of at most 64 entries, oldest first; the entries
dropped since the last LOG_OVERFLOW entry; bank 62's entries by index; the entries still to be written after a trigger
and the SEQUENCE of the entry that triggered; the archive in flash, oldest first; the entries waiting to be archived;
and the second (in units of `now`) with the number of entries archived in it. -/
structure LogSt where
  intake : List LogEntry
  dropped : Nat
  bank : List (Nat × LogEntry)
  post : Nat
  trigSeq : Nat
  archive : List LogEntry
  archPend : List LogEntry
  archSecond : Nat
  archCount : Nat
deriving DecidableEq, Repr

/-- The time base (R38 to R65) beside its registers. `counter` and `frac` are the system counter, `now` the
nanoseconds counted since the part left OFF, which no step changes (R62); `tickStart`, `tickLen` and `tick` the tick in
progress, `brim` whether its brim has begun, `stepped` whether a step has already begun it; `onSyn1` whether SYN1
drives the counter. `exchanged` and `misses` serve R20, `holdSince` R32, `unlockA` and `unlockB` R469. `confirm`,
`stepDelta`, `tracked`, `handed`, `resend` (the messages owed again, each with the port that lost its timestamp) and `stepNote` (the
words of a step's event, until its brim) are the servo's and the PTP stack's own (R53, R60, R64, R85); `validRole` the topology, role and profile of the last valid combination applied (R58); `measured`
whether a measurement has come since a grandmaster was selected and since the last step, `deferred` whether a step has fallen due
in this ALARM (R531), `offset` the last offset judged and `offsetAt` when it was measured (R60), `syncAt` when the last measurement
came (R70), and `syncLog` the log2 Sync interval that the master announces, once known (R66). -/
structure TimeSt where
  counter : BitVec 64
  frac : BitVec 16
  now : Nat
  tickStart : BitVec 64
  tickLen : Nat
  tick : Word
  brim : Bool
  stepped : Bool
  onSyn1 : Bool
  exchanged : Bool
  misses : Nat
  holdSince : Option Nat
  unlockA : Bool
  unlockB : Bool
  confirm : Nat
  stepDelta : Option Int
  tracked : Bool
  validRole : Option (Nat × Nat × Nat)
  handed : Int
  resend : List (PtpKind × Port)
  stepNote : Option (List Nat)
  measured : Bool
  deferred : Bool
  offset : Int
  offsetAt : Nat
  syncAt : Option Nat
  syncLog : Option Int
deriving DecidableEq, Repr

/-- One entry of an egress timestamp queue (R50): whether a host frame holds it (then its ring and the index of its EOP descriptor),
and the timestamp in ns and quarter nanoseconds once it is filled. -/
structure TsEntry where
  host : Bool
  ring : Nat
  index : Nat
  stamp : Option Nat
deriving DecidableEq, Repr

/-! ### References and synthesizers -/

/-- What the selector keeps of one reference beside its registers: the one-second offsets since it last qualified, newest first; the instants of rejected edges; whether its wait-to-restore time runs; the seconds for which it has
been qualified (R76); since when no condition of its qualification window has failed (R74); the timestamp of its last monitor edge,
in quarter nanoseconds of `now`, where a timestamp unit records its edges (R46); and whether its edges arrive (R70). -/
structure RefOne where
  y1s : List Int
  glitches : List Nat
  wtr : Bool
  secs : Nat
  winAt : Nat
  edgeAt : Option Nat
  alive : Bool
deriving DecidableEq, Repr

/-- One holdover model beside its words (R90, R94): its age in seconds, its learned span in °C, whether it is set aside, and
what the recursive least squares keeps: the six coefficients in ppb and the rows of their covariance. -/
structure HModel where
  ageS : Nat
  tLo : Int
  tHi : Int
  suspect : Bool
  coef : List Rat
  cov : List (List Rat)
deriving DecidableEq, Repr

/-- A saved holdover model (R91): its eight words and what `HModel` holds. -/
structure HSaved where
  words : List Word
  model : HModel
deriving DecidableEq, Repr

/-- The reference selector beside its registers (R66 to R97): the references; the loop bandwidth in units of
0.01 Hz / 16,384, as scheduled and as in force (R88); when LOCKED and HOLDOVER began; whether LOCKED has been reached since FREE_RUN; the loop frequency
at the start of this acquisition, its history in LOCKED (newest first, one value a second) and its last value, in
0.1 ppb; the holdover frequency and the offset term h of R89; the oscillator temperature; the two models; whether a
disagreement stands reported; whether XO_IN has failed since XO_SEL was written; the phase accumulator, and the phase error of
the active reference as last measured, in ps (R84, R87); since when that error has lain within LOCK_PHASE, and beyond four times
LOCK_PHASE (R86); and when the loop's frequency was last brought forward (R80). -/
structure RefsSt where
  refs : List RefOne
  bw : Nat
  lockedSince : Nat
  holdoverSince : Nat
  lockedReached : Bool
  acqFreq : Int
  history : List Int
  loopFreq : Int
  yh : Int
  offset : Int
  theta : Int
  models : List HModel
  disagreeOpen : Bool
  xoFailed : Bool
  bwNow : Nat
  absorbed : Int
  phaseErr : Int
  nearAt : Option Nat
  farAt : Option Nat
  loopAt : Nat
deriving DecidableEq, Repr

/-- One pulse train (R120 to R123): whether it runs; its latched period and offset in ns; the instant, in `now`, of the
pulse it last emitted; the instant of its first aligned pulse where one is due; the width in ns and the polarity in force. -/
structure PulseTrain where
  run : Bool
  period : Nat
  offset : Nat
  last : Option Int
  due : Option Int
  width : Nat
  pol : Bool
deriving DecidableEq, Repr

/-- The synthesizers beside their registers: the classes in which running losses of lock began (R116), true for GATE;
the trains PULSE0, PULSE1 and the tick pulse. For each output: when the lock in progress began, none while no lock is in
progress (R107); the steering word that it applies, in 0.1 ppb, frozen while it coasts, with the word before that and when it
changed (R98, R100, R113); whether the word is on its way back from a freeze (R114); the phase in ps absorbed at its last relock
(R114); and when LEFT_PS last moved (R118). -/
structure SynSt where
  lossClass : List Bool
  trains : List PulseTrain
  start : List (Option Nat)
  word : List Int
  wordWas : List (Int × Nat)
  returning : List Bool
  absorbed : List Int
  stepAt : List Nat
deriving DecidableEq, Repr

/-- The log as the part leaves OFF: empty. -/
def LogSt.reset : LogSt :=
  { intake := [], dropped := 0, bank := [], post := 0, trigSeq := 0, archive := [], archPend := [], archSecond := 0,
    archCount := 0 }

/-- The time base as the part leaves OFF: the counter at 0 (R39), on the bypass clock (R38); no combination of R56 has been
applied yet (R58). -/
def TimeSt.reset : TimeSt :=
  { counter := 0, frac := 0, now := 0, tickStart := 0, tickLen := 125000, tick := 0, brim := false, stepped := false,
    onSyn1 := false, exchanged := true, misses := 0, holdSince := none, unlockA := false, unlockB := false,
    confirm := 0, stepDelta := none, tracked := false, validRole := none, handed := 0, resend := [], stepNote := none,
    measured := false, deferred := false, offset := 0, offsetAt := 0, syncAt := none, syncLog := none }

def RefOne.reset : RefOne := { y1s := [], glitches := [], wtr := false, secs := 0, winAt := 0, edgeAt := none, alive := false }

/-- A cleared model (R94): the fit has not begun. -/
def HModel.reset : HModel := { ageS := 0, tLo := 0, tHi := 0, suspect := false, coef := [], cov := [] }

/-- The selector as the part leaves OFF: FREE_RUN, nothing measured. -/
def RefsSt.reset : RefsSt :=
  { refs := List.replicate 8 RefOne.reset, bw := 1000 * 16384, lockedSince := 0, holdoverSince := 0,
    lockedReached := false, acqFreq := 0, history := [], loopFreq := 0, yh := 0, offset := 0, theta := 0,
    models := [HModel.reset, HModel.reset], disagreeOpen := false, xoFailed := false,
    bwNow := 1000 * 16384, absorbed := 0, phaseErr := 0, nearAt := none, farAt := none, loopAt := 0 }

def PulseTrain.reset : PulseTrain :=
  { run := false, period := 1000000000, offset := 0, last := none, due := none, width := 1000000, pol := false }

/-- The synthesizers as the part leaves OFF: only the tick pulse runs, on the grid (R120, R124). -/
def SynSt.reset : SynSt :=
  { lossClass := List.replicate 6 false
    trains := [PulseTrain.reset, PulseTrain.reset,
      { run := true, period := 125000, offset := 0, last := none, due := some 0, width := 1000, pol := false }],
    start := List.replicate 6 none, word := List.replicate 6 0, wordWas := List.replicate 6 (0, 0),
    returning := List.replicate 6 false, absorbed := List.replicate 6 0, stepAt := List.replicate 6 0 }

/-! ### The network -/

/-- The host chain behind a frame (R415): its port and ring, the index of its SOP descriptor, how many descriptors it has,
whether it asked for a timestamp, and its length without FCS. -/
structure HostTx where
  port : Port
  ring : Nat
  first : Nat
  count : Nat
  stamp : Bool
  octets : Nat
deriving DecidableEq, Repr

/-- A frame waiting for or in transmission (R165, R50): the class, the frame as it will be sent, who asked for a
timestamp of the management cores, the host chain it completes, its item in the cell pool, whether it has been
poisoned, the flow and release instant of a media packet (R185), the ingress timestamp of a forwarded frame on the step-free
count in quarter nanoseconds (R164), and the egress timestamp once it has begun; whether TX_POISONED leaves it out (R154); and
whether it is a one-step Sync of the part (R54). -/
structure TxFrame where
  cls : Nat
  frame : Frame
  mgmtStamp : Bool
  host : Option HostTx
  item : Option Nat
  poison : Bool
  flow : Option (Nat × Nat)
  rx : Option Int
  start : Nat
  quiet : Bool := false
  oneStep : Bool := false
deriving DecidableEq, Repr

/-- One entry of a duplicate table (R148): source address, highest sequence number, the 256-bit window, and when it was
last matched. -/
structure DupEntry where
  src : Nat
  top : Nat
  seen : BitVec 256
  used : Nat
deriving DecidableEq, Repr

/-- The states of automatic speed management (R138). -/
inductive SpeedState where
  | steady | pending | retrain | settle
deriving DecidableEq, Repr

/-- Faults counted since an event that is raised at most once per 10 ms was last raised (R150, R162): when that was,
and the counts by kind. -/
structure RateLimit where
  last : Option Nat
  counts : List Nat
deriving DecidableEq, Repr

/-- One network port beside its registers: its eight transmit queues, oldest frame first; the frame in transmission;
the credit of its shaped classes (TC4 and TC5, in kb/s times ns) and when it was reckoned; the gate-control entry in
force (its number and when it began; none while every gate is open) and when its cycle began; until when the transmit path wakes from
LPI (R135); the speed-management state with its target and
the speed it left; whether it is suspended; whether the part has narrowed the advertisement; what the PHY advertises;
its duplicate table; the next receive PN under each AN; the ANs to be deleted, each with the instant of its change (R159); the next PN of each transmit SA, none where none
is installed under its AN (R157); the limits of events 16 and 17 (R150, R162); the AN under which a frame was last received or a
receive SA installed (R163); the AN of the SAK that MKA distributes (R161); when the transmit path last fell idle (R135); the
on-wire octets of unscheduled frames received and sent since the target speed was last computed and when that was, with the larger
of them over each whole second before, newest first (R137); the SAK under each AN, whether MKA has elected the part key server, and
whether a session of MKA waits for its first SAK (R387). -/
structure NetOne where
  queues : List (List TxFrame)
  inflight : Option TxFrame
  credit4 : Int
  credit5 : Int
  creditAt : Nat
  gate : Option (Nat × Nat)
  cycleAt : Nat
  wakeAt : Nat
  speedState : SpeedState
  target : Nat
  oldSpeed : Nat
  suspended : Bool
  narrowed : Bool
  advert : Nat
  dup : List DupEntry
  rxPn : List Nat
  oldAns : List (Nat × Nat)
  txPn : List (Option Nat)
  macsecLimit : RateLimit
  frerLimit : RateLimit
  rxAn : Nat
  offered : Option Nat
  idleAt : Nat
  octIn : Nat
  octOut : Nat
  loadAt : Nat
  loads : List Nat
  saks : List (Option Nat)
  server : Bool
  session : Bool
deriving DecidableEq, Repr

/-- What has become of one copy of a ring check (R151). -/
inductive CopyState where
  | waiting | returned | missed
deriving DecidableEq, Repr

/-- A ring check sent (R141, R151): its count, when it was sent, and the copies that return on ports A and B. -/
structure RingCheck where
  count : Nat
  sentAt : Nat
  a : CopyState
  b : CopyState
deriving DecidableEq, Repr

/-- What the switch keeps beside its registers: the local port's duplicate table; the part's HSR, PRP sequence numbers;
whether it may originate ring frames (R149); the counts of frames of each TYPE sent (announcements, ring checks,
liners); the last ring checks sent, newest first, and when the ring closed; the octets
and the count of each node's last announcement, by node number; the FRER recovery state of each receive flow (highest sequence and window); the
R-TAG sequence number of each transmit flow. -/
structure RswSt where
  dup : List DupEntry
  hsrSeq : Nat
  prpSeq : Nat
  originate : Bool
  sentCounts : List Nat
  checks : List RingCheck
  closedAt : Nat
  nodeOctets : List (Nat × Nat)
  nodeCounts : List (Nat × Nat)
  frer : List (Nat × DupEntry)
  frerSeq : List (Nat × Nat)
deriving DecidableEq, Repr

/-! ### Host ports -/

/-- One descriptor ring of a port (R405 to R420) beside its registers: the producer index last accepted; the
descriptors given and not completed, oldest first; the words gathered in the current buffer and when it began; the
ticks of the current PLAY or CAP buffer already used, and of a PLAY buffer those played; whether a gap must be reported;
whether completions wait for the end of the moderation window, whether the window is open, and when it opened; whether CAP and PLAY
audio moves yet; the first tick of a CAP buffer; whether EN = 0 has been written while a descriptor is in progress; of a
NETTX ring, how many of the given descriptors have been fetched, and the ones completed that wait for their turn, by
index; of a PLAY ring, by index the first processing tick that each descriptor's data are in time for, the last sample of
each channel, and whether the last processing tick had none. -/
structure Ring where
  prod : Nat
  given : List Desc
  buf : List Word
  bufAt : Option Nat
  used : Nat
  gap : Bool
  modDue : Bool
  modOpen : Bool
  windowAt : Nat
  moving : Bool
  tick : Option Nat
  stopping : Bool
  fetched : Nat
  finished : List (Nat × Desc)
  ready : List (Nat × Nat)
  played : Nat
  last : List Word
  dry : Bool
deriving DecidableEq, Repr

/-- A ring that nothing has been given to. -/
def Ring.empty : Ring :=
  { prod := 0, given := [], buf := [], bufAt := none, used := 0, gap := false, modDue := false,
    modOpen := false, windowAt := 0, moving := false, tick := none, stopping := false, fetched := 0, finished := [],
    ready := [], played := 0, last := [], dry := true }

/-- A completion record waiting for a CPL descriptor (R413, R414): its CPL ring and its words. -/
structure Completion where
  cpl : Nat
  desc : Desc
deriving DecidableEq, Repr

/-- A frame that a NETRX ring holds for want of a descriptor (R417): the ring, the octets of it still to be delivered,
its length, the descriptor last filled (which stands at the head of the ring until more of the frame or its end is
known), its item in the cell pool, its ingress timestamp in quarter nanoseconds with its port, the frame, and since when it waits. -/
structure RxHeld where
  ring : Nat
  left : Nat
  total : Nat
  filled : Option Desc
  item : Nat
  stamp : Option (Nat × Nat)
  frame : Frame
  since : Nat
deriving DecidableEq, Repr

/-- One host port beside its registers: MSI-X Enable, Function Mask, the vectors masked in the MSI-X table and those
with a pending bit (R475); the completions waiting; the frames waiting; when events 54 and, by ring, 55 were last
raised; when the last heartbeat came; and when PERST_N was last asserted (R399). -/
structure PortSt where
  msixEn : Bool
  fmask : Bool
  vmask : List Nat
  vpend : List Nat
  waiting : List Completion
  held : List RxHeld
  ev54 : Option Nat
  ev55 : List (Nat × Nat)
  hbAt : Nat
  perstAt : Option Nat
deriving DecidableEq, Repr

/-- The host complex: the two ports, the rings by global number (R404), and the port that won the last tie for a
semaphore (R423), and the PLAY channels of stopped rings with their last samples (R418). -/
structure HostSt where
  a : PortSt
  b : PortSt
  rings : List (Nat × Ring)
  semTie : Option Port
  fading : List (Nat × Word)
deriving DecidableEq, Repr

/-- The SecTAG of a frame sent (R157): the AN, the packet number and the SCI. -/
structure SecTag where
  an : Nat
  pn : Nat
  sci : Nat
deriving DecidableEq, Repr

/-- What the part sends to the outside (newest first in `State.out`): an MSI-X message; a completed descriptor, an index
write-back, a buffer's words and the octets of a received frame in host memory; an Unsupported Request completion; a frame on a network port; a frame
for the firmware; a character on the panel link. -/
inductive Out where
  | msix (p : Port) (vector : Nat)
  | desc (p : Port) (ring index addr : Nat) (d : Desc)
  | writeBack (p : Port) (ring cons addr : Nat)
  | buffer (p : Port) (ring : Nat) (words : List Word)
  | rxData (p : Port) (ring octets : Nat) (f : Frame)
  | unsupported (p : Port)
  | frame (p : Port) (f : Frame) (poisoned : Bool) (sec : Option SecTag)
  | toFirmware (f : Frame)
  | panel (char : Nat)
  | note (tag : Nat) (words : List Nat)
deriving DecidableEq, Repr

def RateLimit.reset : RateLimit := { last := none, counts := [] }

def NetOne.reset : NetOne :=
  { queues := List.replicate 8 [], inflight := none, credit4 := 0, credit5 := 0, creditAt := 0, gate := none, cycleAt := 0, wakeAt := 0,
    speedState := .steady, target := 0, oldSpeed := 0, suspended := false, narrowed := false, advert := 15, dup := [],
    rxPn := [1, 1, 1, 1], oldAns := [], txPn := [none, none, none, none], macsecLimit := RateLimit.reset,
    frerLimit := RateLimit.reset, rxAn := 0, offered := none, idleAt := 0, octIn := 0, octOut := 0, loadAt := 0, loads := [],
    saks := [none, none, none, none], server := false, session := false }

def RswSt.reset : RswSt :=
  { dup := [], hsrSeq := 0, prpSeq := 0, originate := false, sentCounts := [0, 0, 0], checks := [],
    closedAt := 0, nodeOctets := [], nodeCounts := [], frer := [], frerSeq := [] }

def PortSt.reset : PortSt :=
  { msixEn := false, fmask := false, vmask := List.range 128, vpend := [], waiting := [], held := [],
    ev54 := none, ev55 := [], hbAt := 0, perstAt := none }

def HostSt.reset : HostSt := { a := PortSt.reset, b := PortSt.reset, rings := [], semTie := none, fading := [] }

/-! ### Streams -/

/-- A receive flow beside its status words (R181 to R194): its buffer, by media tick, with the samples of each channel; the
last sample of each channel; the processing ticks without data so far in a row, and how many of the next such ticks R193
sets apart; whether the last processing tick had no data, or none has been fed yet; whether the last tick judged was late,
and early; the highest sequence number taken, and the one that a source which has begun afresh would send next (RFC 3550, A.1). -/
structure RxFlow where
  buf : List (Nat × List (List Word))
  last : List Word
  gap : Nat
  apart : Nat
  dry : Bool
  late : Bool
  early : Bool
  top : Option Nat
  badSeq : Option Nat
deriving DecidableEq, Repr

/-- A transmit flow beside its status words (R183 to R187): the next sequence number; the first tick of the packet being
filled, the ticks of 24-bit codes gathered for it, by channel, and whether a block has stood since it began; and the
closed packets, by first tick, with the tick after their last. -/
structure TxFlow where
  seq : Nat
  first : Option Nat
  got : List (List (List Int))
  blocked : Bool
  closed : List (Nat × Frame)
deriving DecidableEq, Repr

/-- The stream engine beside its registers: the flows; the map entries in force, as (slot, flow, channel) for receive and
(flow, channel, slot) for transmit; receive slots given up that go on being fed (R194); slots and channels to ramp in over
the next tick; when each seal group's epoch came into use; the seal keys by record; the limits of its events; the seal
records already reported as low (R390); the map entries that act as inactive (R175), as (map base, flow, channel); and the groups
whose first epoch has begun (R198). -/
structure StrmSt where
  rx : List (Nat × RxFlow)
  tx : List (Nat × TxFlow)
  rxMap : List (Nat × Nat × Nat)
  txMap : List (Nat × Nat × Nat)
  linger : List (Nat × Nat × Nat)
  fresh : List Nat
  txFresh : List (Nat × Nat)
  sealAt : List (Nat × Nat)
  keys : List (Nat × List Word)
  limits : List (Nat × RateLimit)
  low : List Nat
  conflicts : List (Nat × Nat × Nat)
  begun : List Nat
deriving DecidableEq, Repr

def RxFlow.reset : RxFlow :=
  { buf := [], last := [], gap := 0, apart := 0, dry := true, late := false, early := false, top := none, badSeq := none }

def TxFlow.reset : TxFlow := { seq := 0, first := none, got := [], blocked := false, closed := [] }

def StrmSt.reset : StrmSt :=
  { rx := [], tx := [], rxMap := [], txMap := [], linger := [], fresh := [], txFresh := [], sealAt := [], keys := [],
    limits := [], low := [], conflicts := [], begun := [] }

/-! ### The audio fabric and the processing graph -/

/-- A gain on its way (R207, R209): from `g0` to `g1` over `n` samples, of which `i` have passed. -/
structure Ramp where
  g0 : Word
  g1 : Word
  i : Nat
  n : Nat
deriving DecidableEq, Repr

/-- The phases of a connection at the gate (R210 to R212): open; waiting to open; waiting to close, in the closing set;
ramping to zero after a timeout, in the closing set; ramping to zero because the set was full; waiting to close because
its input loses its feed, ramping for that, and closed until the feed returns. -/
inductive ConnSt where
  | open | opening | closing | fading | forced | parking | parkFading | parked
deriving DecidableEq, Repr

/-- A connection of the fabric: the entry that keeps it (none once released), its input and output, its phase, the gain in
force, the entry's own gain with its code, and the ticks it has waited at the gate (R209, R210). -/
structure Conn where
  owner : Option Nat
  inp : Nat
  out : Nat
  st : ConnSt
  ramp : Ramp
  gain : Word
  code : Nat
  age : Nat
deriving DecidableEq, Repr

/-- The fabric beside its registers: the samples of the inputs in this processing tick (an input not listed is zero), the
last sample of each input in the tick before, the connections, the gains of the zone buses by zone, the mixes, the
sinks' samples latched at the last take point as 24-bit codes, the inputs whose feed is being taken away and those
without a feed, the whole fabric's ramp (0 none, 1 in, 2 out, 3 outputs at zero), and when events 29 and 30 were last
raised by output (R203, R209, R213). -/
structure FabSt where
  inp : List (Nat × List Word)
  last : List (Nat × Word)
  conns : List Conn
  zones : List (Nat × Ramp)
  mix : List (Nat × List Word)
  taken : List (Nat × List Int)
  leaving : List Nat
  unfed : List Nat
  fade : Nat
  ev29 : List (Nat × Nat)
  ev30 : List (Nat × Nat)
deriving DecidableEq, Repr

def FabSt.reset : FabSt :=
  { inp := [], last := [], conns := [], zones := [], mix := [], taken := [], leaving := [], unfed := [], fade := 0,
    ev29 := [], ev30 := [] }

/-- A graph bank: its image, the two coefficient banks, the instances whose DIRTY flag is set (R230), and the octets in which the image
came, with its signature block (R391). -/
structure GBank where
  img : GImage
  act : List Word
  idle : List Word
  dirty : List Nat
  octets : List Nat
deriving DecidableEq, Repr

/-- What an instance keeps between ticks: past samples, numbers, its output in the last tick it ran, and the two result words
of that tick where its type has them (R229). -/
structure InstSt where
  hist : List Word
  nums : List Int
  outp : List Word
  res : Option (Word × Word) := none
deriving DecidableEq, Repr

/-- One job of the active graph: disabled; consecutive overruns; whether its next completion crossfades from repeated
samples; whether it ramps in; whether it ran in this tick (R223, R224). -/
structure JobSt where
  disabled : Bool
  consec : Nat
  cross : Bool
  rampIn : Bool
  ran : Bool
deriving DecidableEq, Repr

/-- The graph beside its registers: its two banks; the instances and jobs of the active image, and the instances as they
stood before this tick; the sinks that crossfade from their last output after a swap, and each sink's output at the last take point; whether the armed coefficient
swap takes place at the next brim whatever its tick, and who armed each swap, none a sealed order; the result words as the
last take point left them; when events 0, 28
and 31 were last raised, by job, core and instance; the images the flash keeps as last active (R224, R230, R232). -/
structure DspSt where
  bank0 : Option GBank
  bank1 : Option GBank
  insts : List InstSt
  before : List InstSt
  jobs : List JobSt
  sinkFade : List (Nat × List Word)
  sinkLast : List (Nat × List Word)
  coefNow : Bool
  coefBy : Option Agent
  graphBy : Option Agent
  shown : List (Option (Word × Word))
  running : Bool
  ev0 : List (Nat × Nat)
  ev28 : List (Nat × Nat)
  ev31 : List (Nat × Nat)
deriving DecidableEq, Repr

def DspSt.reset : DspSt :=
  { bank0 := none, bank1 := none, insts := [], before := [], jobs := [], sinkFade := [], sinkLast := [], coefNow := false,
    coefBy := none, graphBy := none, shown := [], running := false, ev0 := [], ev28 := [], ev31 := [] }

/-! ### The local audio ports -/

/-- A transmit slot of a TDM port at its gate (R246): to come at the next tick, ramping in, carrying its output, waiting for a
crossing to close, or ramping to zero. -/
inductive SlotSt where
  | armed | ramping | on | closing | fading
deriving DecidableEq, Repr

/-- A transmit slot: its number, its phase, the ticks it has waited, its ramp and its last sample (R244). -/
structure TxSlot where
  slot : Nat
  st : SlotSt
  age : Nat
  ramp : Ramp
  last : Word
deriving DecidableEq, Repr

/-- A TDM port beside its registers (R239 to R246): whether its pre-roll has ended or its clock is locked; the frame rate
locked, in mHz; whether the hold of CLK_LOSS runs; the gains of its inputs and outputs; the last sample of each slot; the
receive slots it feeds, those to ramp in, and those given up and not yet released; whether its last tick was concealed; its
transmit slots; the receive and transmit slots that hold an ASRC channel; the instants of recent misframes; when event 32
was last raised. Then the frame length that it holds as measured, and the length and the number of the equal frames that it has seen
in a row; when its pre-roll, its stop or its clock loss began, in step-free ns; the masks last applied; whether the FS of a tick
whose number is a multiple of 8 is still to be captured; the samples its FIFO holds and the frame each repeats where it is
misframed; for the ASRC, the frames and the media samples of late, each with its step-free instant in quarter ns; and whether frames
are missing for a lost clock or a stretched interval, and not for the FIFO (R243, R252). -/
structure TdmPort where
  ready : Bool
  rate : Nat
  hold : Bool
  inR : Ramp
  outR : Ramp
  last : List (Nat × Word)
  rx : List Nat
  fresh : List Nat
  leaving : List Nat
  dry : Bool
  tx : List TxSlot
  asrcRx : List Nat
  asrcTx : List Nat
  errs : List Nat
  ev32 : Option Nat
  bits : Option Nat
  seenBits : Nat
  seen : Nat
  since : Option Nat
  masks : Nat × Nat
  due : Bool
  fifo : List (List (BitVec 24) × Bool)
  heard : List (Nat × List (BitVec 24))
  played : List (Nat × List (Nat × List Int))
  gap : Bool
deriving DecidableEq, Repr

/-- An AES3 receiver beside its registers (R247 to R249): whether it has its EN and its ASRC channels; the frame rate
locked, in mHz; the ticks of hold left; the gain of the receiver and of each subframe's validity; the last samples; whether
its last tick was concealed; the channel status that waits for a block that agrees; when events 33 and 34 were last
raised. Then whether it feeds its inputs still while they are released after EN = 0 (R212); which subframes the channel status marks
as non-audio; how many frames in a row each subframe's validity bit has been 1, and 0; the samples its FIFO holds and which of
them fail parity; and the frames of late for the ASRC, each with its step-free instant in quarter ns. -/
structure AesRx where
  on : Bool
  asrc : Bool
  rate : Nat
  hold : Nat
  inR : Ramp
  valid : List Ramp
  last : List Word
  dry : Bool
  cand : List Word
  ev33 : Option Nat
  ev34 : Option Nat
  going : Bool
  nonAudio : List Bool
  vOne : List Nat
  vZero : List Nat
  fifo : List (List (BitVec 24) × List Bool)
  heard : List (Nat × List (BitVec 24))
deriving DecidableEq, Repr

/-- An AES3 transmitter beside its registers (R251, R252): the step-free instant in ns at which it started; the block in progress,
counted from there, and the number of the block's frames that went before this tick; the words that it sends in the block, none once the last has ended; the last code of each
subframe; and whether its output was concealed in the tick before. -/
structure AesTx where
  since : Option Nat
  block : Nat
  pos : Nat
  words : List Word
  last : List Int
  dry : Bool
deriving DecidableEq, Repr

/-- The local audio ports beside their registers: the TDM ports, the AES3 receivers and transmitters, the output buffers, by fabric
output, as latched at the last take point and as they leave in this tick, and the tick in progress as the ports saw it begin: its
start by the counter, its number and its step-free instant (R238, R240, R250, R253). -/
structure LapSt where
  tdm : List TdmPort
  aes : List AesRx
  tx : List AesTx
  buf : List (Nat × List Int)
  dout : List (Nat × List Int)
  beganAt : Nat
  beganTick : Nat
  beganNow : Nat
deriving DecidableEq, Repr

def Ramp.still (g : Word) : Ramp := { g0 := g, g1 := g, i := 0, n := 0 }

def TdmPort.reset : TdmPort :=
  { ready := false, rate := 0, hold := false, inR := Ramp.still 0x3F800000, outR := Ramp.still 0x3F800000, last := [],
    rx := [], fresh := [], leaving := [], dry := false, tx := [], asrcRx := [], asrcTx := [], errs := [], ev32 := none,
    bits := none, seenBits := 0, seen := 0, since := none, masks := (0, 0), due := false, fifo := [], heard := [], played := [], gap := false }

def AesRx.reset : AesRx :=
  { on := false, asrc := false, rate := 0, hold := 0, inR := Ramp.still 0, valid := [Ramp.still 0x3F800000, Ramp.still 0x3F800000],
    last := [0, 0], dry := false, cand := [], ev33 := none, ev34 := none, going := false, nonAudio := [false, false],
    vOne := [0, 0], vZero := [0, 0], fifo := [], heard := [] }

def AesTx.reset : AesTx := { since := none, block := 0, pos := 0, words := [], last := [0, 0], dry := false }

def LapSt.reset : LapSt :=
  { tdm := List.replicate 4 TdmPort.reset, aes := List.replicate 4 AesRx.reset, tx := List.replicate 4 AesTx.reset,
    buf := [], dout := [], beganAt := 0, beganTick := 0, beganNow := 0 }

/-! ### The power stage -/

/-- A channel of the power stage beside its registers (R259 to R283): its play gain on its way; the limiter's attenuation in
millionths of a dB, and the ticks its power has been below 90 % of the limit; when its bridge last stopped switching, and
the precharge it then takes in ns; when it last latched, when its retry falls due, whether its probe is still to come, and
whether its energy dump runs; since when it has been in MUTED or PLAYING without a latch; its last limited period; when
event 36 was last raised; when its precharge and its probe began; the mean powers in µW of the ticks of the last second, newest first,
and their sum (R259); the sum and the number of the ticks of its DC window in progress, in µV, and the sum of the last
window (R274); and the trim in µV by which the odd channel of a pair shares the current (R277). -/
structure AmpCh where
  gain : Ramp
  lim : Nat
  below : Nat
  stopped : Option Nat
  precharge : Nat
  latchAt : Nat
  due : Option Nat
  probing : Bool
  dump : Bool
  since : Option Nat
  limitAt : Option Nat
  ev36 : Option Nat
  startedAt : Nat
  probeAt : Nat
  powers : List Int
  powSum : Int
  dcSum : Int
  dcTicks : Nat
  dcLast : Int
  trim : Int
deriving DecidableEq, Repr

/-- The power stage beside its registers: the channels; the rails out of range; whether the modulators run on the Crown's
fallback clock and the channels that the Crown then plays; the transfer driver that a takeover has energised; whether the
spare has taken a channel's settings, and whether a release is under way; the modulators' samples, as latched at the last
take point; when the transfer driver last changed; and since when each rail has lain within 9.0 V to 61.0 V (R267, R276, R280,
R281). -/
structure AmpSt where
  ch : List AmpCh
  railBad : List Bool
  fallback : Bool
  crownPlay : Nat
  xfer : Option Nat
  settled : Bool
  releasing : Bool
  mod : List (List Word)
  xferAt : Nat
  railGood : List (Option Nat)
deriving DecidableEq, Repr

def AmpCh.reset : AmpCh :=
  { gain := Ramp.still 0, lim := 0, below := 0, stopped := none, precharge := 0, latchAt := 0, due := none, probing := false,
    dump := false, since := none, limitAt := none, ev36 := none, startedAt := 0, probeAt := 0, powers := [], powSum := 0,
    dcSum := 0, dcTicks := 0, dcLast := 0, trim := 0 }

/-- No rail counts as out of range until one is told. DESIGN CHOICE (assumption 80). -/
def AmpSt.reset : AmpSt :=
  { ch := List.replicate 8 AmpCh.reset, railBad := [false, false], fallback := false, crownPlay := 0, xfer := none,
    settled := false, releasing := false, mod := List.replicate 8 [], xferAt := 0, railGood := [none, none] }

/-! ### The line supervisor -/

/-- What a slot is for (R294, R302, R304): a round, TEST_NOW, a wake sweep or a calibration. -/
inductive SlotKind where
  | round | asked | sweep | cal
deriving DecidableEq, Repr

/-- A line beside its registers (R297, R303): the class of its last valid tests and how many came in a row; when its last
valid test ended; Z_ref and Z_t, and when Z_t last moved. -/
structure LineCh where
  streak : Nat × Nat
  lastValid : Nat
  zref : LineRef
  zt : LineZ
  moved : Nat
deriving DecidableEq, Repr

/-- A pilot whose slot has ended and that runs on to phase zero (R291): its line, when its slot began, and its whole cycles. -/
structure PilotTail where
  line : Nat
  start : Nat
  cycles : Nat
deriving DecidableEq, Repr

/-- The line supervisor beside its registers (R291 to R304): the lines; the slot that runs, what it is for, and whether
something made its test invalid; the channels left in the round, whether a round runs and whether the next is due; the
channels asked for by TEST_NOW; those left in a wake sweep; those to calibrate, the values and the invalid slots of the
calibration in progress, and those whose calibration waits for the flash; the earth-fault periods below and above the
limits in a row; the channels left to step in a location; in step-free ns, when the slot begins, when the last round fell due, and
when the present step of a location began; whether a sample of the slot has passed the clip level for loads below 8 Ω, and that for
loads of 8 Ω and above (R293); the pilot that still runs to phase zero; when the last earth-fault period ended (R300); and whether a
location in ALARM has found no line (R301). -/
structure LineSt where
  ch : List LineCh
  slot : Option (Nat × SlotKind)
  bad : Bool
  left : List Nat
  inRound : Bool
  due : Bool
  asked : List Nat
  sweep : List Nat
  cal : List Nat
  calZ : List LineZ
  calBad : Nat
  store : List Nat
  efLow : Nat
  efHigh : Nat
  steps : List Nat
  slotAt : Nat
  roundAt : Nat
  stepAt : Nat
  clip93 : Bool
  clip94 : Bool
  tail : Option PilotTail
  efAt : Nat
  wideAlarm : Bool
deriving DecidableEq, Repr

def LineCh.reset : LineCh :=
  { streak := (0, 0), lastValid := 0, zref := ⟨0, ⟨0, 0⟩, 0⟩, zt := ⟨0, 0⟩, moved := 0 }

def LineSt.reset : LineSt :=
  { ch := List.replicate 8 LineCh.reset, slot := none, bad := false, left := [], inRound := false, due := false, asked := [],
    sweep := [], cal := [], calZ := [], calBad := 0, store := [], efLow := 0, efHigh := 0, steps := [],
    slotAt := 0, roundAt := 0, stepAt := 0, clip93 := false, clip94 := false, tail := none, efAt := 0, wideAlarm := false }

/-! ### The Crown -/

/-- The sequence of an alarm entry (R323): whether content B has its turn, when the turn began, and, where the content was
abandoned for the FALLBACK tone, when. -/
structure SeqSt where
  partB : Bool
  since : Nat
  fall : Option Nat
deriving DecidableEq, Repr

/-- What a gate played at the last take point: its source (0 NORMAL, 1 CROWN, 2 MUTE), the content code, the tone that plays
in its place where one does, when the content or that tone began, and its level (R319, R321). -/
structure Played where
  src : Nat
  code : Nat
  since : Nat
  level : Int
deriving DecidableEq, Repr

/-- What a channel's gate selects (R319): the selection, the entry that decides, and its turn where its sequence has begun. -/
structure GateSel where
  sel : Nat
  entry : Option Nat
  turn : Option SeqSt
deriving DecidableEq, Repr

/-- The stages of a proof swap at the module that runs it (R336): none; yielding; the partner's window; the window over,
PROOF_END sent; a permanent window judged. -/
inductive ProofStage where
  | none | yielding | window | ended | judged
deriving DecidableEq, Repr

/-- The Crown's voted state beside its registers, which every sound lane holds: for each lane the cycles in a row in which it differed, when its repairs
completed, and whether its oscillator differs; for each trigger the band of its last samples (0 NORMAL, 1 ACTIVE, 2 OPEN,
3 SHORT, 4 a gap) and how many in a row; the entries that this module's own sources hold active; the sequences; when LIVE
went to its fallback; the alarm-tagged overruns of the last second; when SCHED_LOST last cleared; when a rail fault that
counts for cause SUPPLY began; the gates played; the change of the modulators' multiplexer under way: when it was
decided, and whether it goes to the fallback clock; when that last changed; each lane's copy where it was another at the last cycle's
end; whether the vote holds its last values; the gate selections that the last cycle decided, and those in force since the last exchange;
and what the channels play on the fallback clock (R308 to R312, R316, R317, R324). DESIGN CHOICE (assumption 88). -/
structure CrownSt where
  laneBad : List Nat
  laneTimes : List (List Nat)
  laneOsc : Nat
  trig : List (Nat × Nat)
  own : Nat
  seqs : List (Nat × SeqSt)
  liveAt : Nat
  overruns : List Nat
  schedClear : Nat
  railAt : Option Nat
  played : List Played
  mux : Option (Nat × Bool)
  fallAt : Nat
  shown : List (Option LaneCopy)
  held : Bool
  decided : List GateSel
  force : List GateSel
  fall : List Played
deriving DecidableEq, Repr

/-- The pairing beside its registers: the partner's last active record, and its standby record with when it came; the
ZSEL and RLY bits driven for the partner; how many records in a row name the partner active; when this module took ACTIVE;
whether SETTLE_MS has passed; when CUFF rose, where a claim measures its gap; the proof swap, whether cause PROOF stands,
when its yield began and whether the partner took over in time; the record composed last, in the retained bank; how many exchanges in a
row a standby has gone without a record; and the cause of the last record that carried YIELD (R328, R332 to R334, R343). -/
structure PairSt where
  heard : Option PairRec
  stby : Option PairRec
  stbyAt : Nat
  zsel : Nat
  rly : Nat
  named : Nat
  activeAt : Nat
  settled : Bool
  rise : Option Nat
  stage : ProofStage
  proofCause : Bool
  yieldAt : Nat
  inTime : Bool
  liner : Option PairRec
  missed : Nat
  yieldCause : Nat
deriving DecidableEq, Repr

def Played.none : Played := { src := 0, code := 0, since := 0, level := 0 }

def GateSel.normal : GateSel := { sel := 0, entry := Option.none, turn := Option.none }

def CrownSt.reset : CrownSt :=
  { laneBad := [0, 0, 0], laneTimes := [[], [], []], laneOsc := 0, trig := List.replicate 8 (0, 0), own := 0, seqs := [],
    liveAt := 0, overruns := [], schedClear := 0, railAt := Option.none, played := List.replicate 8 Played.none,
    mux := Option.none, fallAt := 0, shown := [Option.none, Option.none, Option.none], held := false,
    decided := List.replicate 8 GateSel.normal, force := List.replicate 8 GateSel.normal, fall := List.replicate 8 Played.none }

def PairSt.reset : PairSt :=
  { heard := Option.none, stby := Option.none, stbyAt := 0, zsel := 0, rly := 0, named := 0, activeAt := 0, settled := false,
    rise := Option.none, stage := .none, proofCause := false, yieldAt := 0, inTime := false, liner := Option.none,
    missed := 0, yieldCause := 0 }

/-! ### The platform -/

/-- A mode request waiting for its brim (R350): the target, the ORIGIN of who made it, and whether a sealed order did. -/
structure ModeReq where
  target : Nat
  origin : Nat
  order : Bool
deriving DecidableEq, Repr

/-- The platform beside its registers. `phase` holds, for each of the nine reset domains (R359, R360), 0 running, 1
restart commanded, 2 entering it since a brim, 3 in reset, 4 ready. `req` is the mode request that waits; `causes` the
set of SHELTER causes, bit n for code n + 1 (R349), with those that wait for the brim that enters SHELTER; `wake` the
stage of a wake (R353): 0 none, 1 soft start, 2 zeroing, 3 zeroed; `wakeTo` the mode it ends in; `crownWas` the Crown's
ALARM at the last brim; `pfwHeld` whether a PFW action is held by ALARM (R356); `down` whether the audio domains are
powered down (R352); `attested` whether ATTEST is complete and waits for its brim; `autos` the times of automatic MGMT
restarts (R361); `fallBack` whether the firmware falls back at the next brim (R364); `peakRead` whether T_DIE_PEAK has
been read since the last sample; `hotAt` and `coolAt` since when the samples have met the shutdown and the restore condition of R358;
`pfwDone` whether PFW_DELAY_S has run out since PFW_N was asserted (R356); `warnAt` when WATCHDOG_WARN was raised, while the
watchdog has not been served since (R361); and `fwUp` whether the management firmware has started (R370, step 6). -/
structure PlatSt where
  phase : List Nat
  req : Option ModeReq
  causes : Nat
  wake : Nat
  wakeTo : Nat
  crownWas : Bool
  pfwHeld : Bool
  down : Bool
  attested : Bool
  autos : List Nat
  fallBack : Bool
  peakRead : Bool
  hotAt : Option Nat
  coolAt : Option Nat
  pfwDone : Bool
  warnAt : Option Nat
  fwUp : Bool
deriving DecidableEq, Repr

def PlatSt.reset : PlatSt :=
  { phase := [0, 0, 0, 0, 0, 0, 0, 0, 0], req := none, causes := 0, wake := 0, wakeTo := 3, crownWas := false,
    pfwHeld := false, down := false, attested := false, autos := [], fallBack := false, peakRead := true,
    hotAt := none, coolAt := none, pfwDone := false, warnAt := none, fwUp := false }
/-! ### Cerkeha and held writes -/

/-- One item of a sealed order (R380): KIND, ADDR, WORD and VALUE. -/
structure OrderItem where
  kind : BitVec 8
  addr : BitVec 24
  word : BitVec 32
  value : BitVec 32
deriving DecidableEq, Repr

/-- One decrypted key record (R381): a CAK of a port with its CKN; a seal record of a group and record slot with FIRST,
COUNT − 1 and the key; a site root for a slot. The keys are words. -/
inductive KeyRec where
  | cak (port : Port) (body : List Word)
  | seal (group : Fin 16) (slot : Fin 2) (first : BitVec 8) (count : BitVec 7) (key : List Word)
  | root (slot : Fin 4) (key : List Word)
deriving DecidableEq, Repr

/-- A sealed order (R379 to R382): its octets, and what they hold: whether MAGIC, VERSION and its lengths are right; SERIAL, SEQ,
NOT_AFTER and SIGNER; its items; and, once its key section has been decrypted, whether that succeeded and its records. -/
structure OrderIn where
  octets : List Nat
  format : Bool
  serial : Nat
  seq : Nat
  notAfter : Nat
  signer : Nat
  items : List OrderItem
  keysOk : Bool
  keys : List KeyRec
deriving DecidableEq, Repr

/-- An order on its way (R378): the port and CMD ring it came from, the index and cookie of its SOP descriptor, the CPL ring
that completes it, and the order. -/
structure OrderJob where
  port : Port
  ring : Nat
  index : Nat
  cookie : Word
  cpl : Nat
  order : OrderIn
deriving DecidableEq, Repr

/-- Cerkeha beside its registers: the orders waiting for verification, oldest first; those accepted and waiting for their
brim; those applied, with their result and discarded items, until they are durable (R384); the images that an
ALLOW_IMAGE item allows (R380); the tamper sources, oldest first, whose erasure of the flash is under way (R393); and the order items that
a register's rule has discarded (R384); the CAK of each port in the key store (R387), a SEAL record's key standing with the
stream engine; in a part whose parameter area has failed its MAC, the highest SEQ it has logged (R372); and the key, V and the requests
so far of the DRBG (R369). DESIGN CHOICE (assumption 158). -/
structure CerkSt where
  queue : List OrderJob
  accepted : List OrderJob
  applied : List (OrderJob × Nat × Nat)
  allow : List (Nat × Nat)
  erasing : List TamperSource
  discards : Nat
  caks : List (Nat × List Word)
  floor : Option Nat
  drbgKey : Nat
  drbgV : Nat
  requests : Nat
deriving DecidableEq, Repr

def CerkSt.reset : CerkSt :=
  { queue := [], accepted := [], applied := [], allow := [], erasing := [], discards := 0, caks := [], floor := none,
    drbgKey := 0, drbgV := 0, requests := 0 }

/-- An access that waits (R460, R472): an IDATA write until its word is ready, or one that its agent has made behind it; whether it
is a write, its BAR0 offset, its byte enables and its data. -/
structure HeldAccess where
  agent : Agent
  write : Bool
  off : Nat
  be : Nat
  data : Word
deriving DecidableEq, Repr

/-! ### The cell pool and the exchange RAM -/

/-- An item of the cell pool (R444, R445): its number, the cells it occupies and the queues that hold it. -/
structure PoolItem where
  id : Nat
  cells : Nat
  holders : List Nat
deriving DecidableEq, Repr

/-- One item of a panel queue (R340, R341): its word, which bytes it holds, and its tags. -/
structure PnlItem where
  data : Word
  valid : BitVec 4
  err : BitVec 4
  gap : Bool
  flushed : Bool
  last : Bool
deriving DecidableEq, Repr

/-- The panel link beside its registers (R338 to R341): the receive queue, oldest first; the part-filled receive item
and how many bytes it holds; the transmit queue; the bytes of the item in transmission still to be sent, whether it has
END, and whether the silence behind an END item is being kept; when event 52 was last raised; whether the bit time before the first
start bit is still to come; until when PNL_DE is held behind the last stop bit; and whether what is sent is a Modbus reply. -/
structure PnlSt where
  rx : List PnlItem
  part : PnlItem
  count : Nat
  tx : List PnlItem
  sending : List Nat
  sendingEnd : Bool
  silence : Bool
  ev52 : Option Nat
  lead : Bool
  deTill : Nat
  reply : Bool
deriving DecidableEq, Repr

/-- An item without bytes. -/
def PnlItem.empty : PnlItem := { data := 0, valid := 0, err := 0, gap := false, flushed := false, last := false }

def PnlSt.reset : PnlSt :=
  { rx := [], part := PnlItem.empty, count := 0, tx := [], sending := [], sendingEnd := false, silence := false,
    ev52 := none, lead := false, deTill := 0, reply := false }

/-- On-die memory beside its registers: the items in the cell pool and the number of the next one; the octets of the
exchange RAM in canonical form (an unlisted octet is 0, R439); the banks whose repair window runs (R438); the repair
candidates waiting in bank order, the banks reported without a spare, and the migration in progress: the bank, the spare
and whether the copy is complete (R365); and the word that the scrubber reads next (R436). DESIGN CHOICE (assumption 196). -/
structure MemSt where
  items : List PoolItem
  nextItem : Nat
  exch : List Host.Cell
  windows : List Nat
  candidates : List Nat
  noSpare : List Nat
  moving : Option (Nat × Nat)
  copied : Bool
  scrub : Nat
deriving DecidableEq, Repr

def MemSt.reset : MemSt :=
  { items := [], nextItem := 0, exch := [], windows := [], candidates := [], noSpare := [], moving := none,
    copied := false, scrub := 0 }

/-! ### The flash and the OTP array -/

/-- A stored message (R322): its number, the CRC-32 of its header, its samples, its block table, and whether a block of it has failed its CRC
since it was stored. -/
structure MsgRec where
  num : Nat
  crc : Word
  samples : List (BitVec 16)
  table : List Word
  bad : Bool
deriving DecidableEq, Repr

/-- A verified firmware image in a bank of the flash (R362, R391): the version in its header, and its octets with the signature blocks
as they arrived; none of the image that the factory delivers, which carries the factory's block alone. DESIGN CHOICE (assumption 138). -/
structure FwStored where
  version : Nat
  octets : Option (List Nat)
deriving DecidableEq, Repr

/-- What the module's flash keeps through OFF: the holdover models (R91), the line calibrations (R302), the messages (R322),
the graph image last active, with the octets it came in (R231, R391), the valid image of each firmware bank and the boot bank (R362,
R364), the banks that the spares replace (R365), the last accepted SEQ (R384), and the seal records, by number, FIRST, COUNT − 1 and
wrapped key, and the wrapped CAKs (R387, R388). DEDUCED (assumption 195). -/
structure FlashSt where
  hmodels : List HSaved
  lines : List (Nat × LineRef)
  msgs : List MsgRec
  graph : Option (GImage × List Nat)
  fw : List (Option FwStored)
  boot : Nat
  spares : List (Option Nat)
  seq : Nat
  seals : List (Nat × Nat × Nat × Nat)
  caks : List (Nat × Nat)
deriving DecidableEq, Repr

/-- The flash of a part from the factory: bank 0 holds an image, nothing else stands in it. DESIGN CHOICE (assumption 138). -/
def FlashSt.reset : FlashSt :=
  { hmodels := [], lines := [], msgs := [], graph := none, fw := [some { version := 0, octets := none }, none], boot := 0, spares := [none, none], seq := 0,
    seals := [], caks := [] }

/-- The OTP array (R368, R373, R398): the serial and the MAC address, the life-cycle code of R380, the site root slots
burned and the current one, whether JTAG is fused off, the public keys of the identity, its private keys and the KEK seed, the
factory root public key of the boot ROM, the public keys of the slots, and, from the factory area of the flash, the certificate chain.
A public key's octet 4w + i stands in bits [8i + 7:8i] of word w (R398). -/
structure OtpSt where
  serial : Nat
  mac : Nat
  cycle : Nat
  burned : List Nat
  root : Option Nat
  jtagOff : Bool
  sigKey : List Word
  kexKey : List Word
  sigPriv : Nat
  kexPriv : Nat
  kekSeed : Nat
  factory : List Word
  roots : List (Nat × List Word)
  chain : List Word
  chainLen : Nat
deriving DecidableEq, Repr

def OtpSt.blank : OtpSt :=
  { serial := 0, mac := 0, cycle := 0, burned := [], root := none, jtagOff := false, sigKey := [], kexKey := [], sigPriv := 0,
    kexPriv := 0, kekSeed := 0, factory := [], roots := [],
    chain := [], chainLen := 0 }

/-! ### Timers -/

/-- The times that rules give in milliseconds, seconds or hours and that no register shows: of references and their model (R82, R88,
R90, R91), of coasting synthesizers (R114), of the ports (R138, R141 to R147, R149, R158, R159, R165, R172), of PTP messages (R57), by
kind and port, of a synthesizer's lock (R324), of CUFF, a claim and a proof window (R329, R336), of the panel's last byte received
and the character sent (R337, R340), of PFW_N asserted and released (R356), of a firmware image's probation (R364), of an
ALLOW_IMAGE item (R380), of the zeroing of the banks (R434), of an unlock (R469), and of the scrubber and the window of a bank (R436,
R438). -/
inductive Timer where
  | wtr (n : Nat) | bandwidth | learn | save | coast (n : Nat)
  | speed (p : Port) | suspend (p : Port) | wire (p : Port) | hello (p : Port) | peer (p : Port)
  | pause (p : Port) (c : Nat) | watch (p : Port) (c : Nat) | holdoff (p : Port) (c : Nat)
  | announce | ringCheck | supervision | conflict | originate | node (n : Nat)
  | ptp (k : PtpKind) (p : Port)
  | synLock (n : Nat) | cuff | claim | record | proof | panelIn | panelOut
  | pfw | pfwOff | probation | allow (ty n : Nat)
  | zeroing | unlock (p : Port) | scrub | ecc (b : Nat)
deriving DecidableEq, Repr

/-! ### The whole state -/

/-- The ordering code of the part (R1). -/
inductive Variant where
  | p8 | l0
deriving DecidableEq, Repr

/-- The state of the part. `regs` holds every register and table word that differs from its reset value, as in force;
`shadow` the words written to SH fields and not yet applied (R21, R22); `resp` the last read completions of port A,
port B and the management cores; `out` what the part has sent to the outside, newest first; `free` counts the free
values drawn; `timers` holds, in step-free ns, when each timer last started; `pending` is the queue of waiting commands, first in first out. -/
structure State where
  variant : Variant
  regs : List (Nat × Word)
  shadow : List (Nat × Word)
  resp : List Word
  out : List Out
  free : Nat
  log : LogSt
  time : TimeSt
  tsqA : List TsEntry
  tsqB : List TsEntry
  refs : RefsSt
  syn : SynSt
  netA : NetOne
  netB : NetOne
  rsw : RswSt
  host : HostSt
  mem : MemSt
  pnl : PnlSt
  fab : FabSt
  dsp : DspSt
  plat : PlatSt
  strm : StrmSt
  lap : LapSt
  amp : AmpSt
  line : LineSt
  crown : CrownSt
  pair : PairSt
  cerk : CerkSt
  heldW : List HeldAccess
  flash : FlashSt
  otp : OtpSt
  timers : List (Timer × Nat)
  pending : List Instr
deriving DecidableEq, Repr

/-- The part as it leaves OFF: every register at its reset value of R485 to R502, mode ATTEST, the counter at 0 (R39),
no command waiting. DESIGN CHOICE (assumptions 6, 27). -/
def State.reset : State :=
  { variant := .p8, regs := [], shadow := [], resp := [0, 0, 0], out := [], free := 0, log := LogSt.reset,
    time := TimeSt.reset, tsqA := [], tsqB := [], refs := RefsSt.reset, syn := SynSt.reset, netA := NetOne.reset,
    netB := NetOne.reset, rsw := RswSt.reset, host := HostSt.reset, mem := MemSt.reset, pnl := PnlSt.reset,
    fab := FabSt.reset, dsp := DspSt.reset, plat := PlatSt.reset,
    strm := StrmSt.reset, lap := LapSt.reset, amp := AmpSt.reset, line := LineSt.reset,
    crown := CrownSt.reset, pair := PairSt.reset, cerk := CerkSt.reset, heldW := [],
    flash := FlashSt.reset, otp := OtpSt.blank, timers := [], pending := [] }

/-- The faults of a step: none. Every command of the block answers a next state. -/
inductive Fault where
  /-- Raised by nothing: the spec gives no command an outcome that stops the block. Safe. -/
  | none
deriving DecidableEq, Repr

/-- The refusals of a step. -/
inductive Refusal where
  /-- Answered by an arm of `exec` for a command without a meaning yet. Safe: nothing can be concluded from it. -/
  | notModelled (mnemonic : String)
deriving DecidableEq, Repr

end Sys2Proof.Machine
end

