-- ==== Sys2Proof/Machine/Store.lean ====
section
/-! DEFINITION. Sparse data by key: a list of (key, value) pairs in one canonical form, keys strictly rising and no
entry equal to what an unlisted key reads as; and the bit fields of a word. -/

namespace Sys2Proof.Machine

/-- What a key reads as: its entry, or the default of an unlisted key. -/
def Store.get {α : Type} (d : Nat → α) : List (Nat × α) → Nat → α
  | [], k => d k
  | (a, v) :: m, k => if a = k then v else Store.get d m k

/-- The list without the entries of a key. -/
def Store.erase {α : Type} (k : Nat) : List (Nat × α) → List (Nat × α)
  | [] => []
  | (a, v) :: m => if a = k then Store.erase k m else (a, v) :: Store.erase k m

/-- The list with an entry put in its place in the rising order of keys. -/
def Store.insert {α : Type} (k : Nat) (v : α) : List (Nat × α) → List (Nat × α)
  | [] => [(k, v)]
  | (a, w) :: m => if k < a then (k, v) :: (a, w) :: m else (a, w) :: Store.insert k v m

/-- Writing a key: its entry is replaced, and removed where the value is what an unlisted key reads as. -/
def Store.set {α : Type} [DecidableEq α] (d : Nat → α) (m : List (Nat × α)) (k : Nat) (v : α) : List (Nat × α) :=
  if v = d k then Store.erase k m else Store.insert k v (Store.erase k m)

/-- Keys strictly rising, no entry at its default. -/
def Store.wf {α : Type} [DecidableEq α] (d : Nat → α) : List (Nat × α) → Bool
  | [] => true
  | [(a, v)] => v ≠ d a
  | (a, v) :: (b, w) :: m => (v ≠ d a) && (a < b) && Store.wf d ((b, w) :: m)

/-- Bits `[hi:lo]` of a word, as a number. -/
def Word.field (w : Word) (hi lo : Nat) : Nat := (w.toNat / 2 ^ lo) % 2 ^ (hi + 1 - lo)

/-- A word with bits `[hi:lo]` replaced by the low bits of a number. -/
def Word.withField (w : Word) (hi lo v : Nat) : Word :=
  BitVec.ofNat 32 (w.toNat / 2 ^ (hi + 1) * 2 ^ (hi + 1) + (v % 2 ^ (hi + 1 - lo)) * 2 ^ lo + w.toNat % 2 ^ lo)

/-- A word with bit `i` set. -/
def Word.setBit (w : Word) (i : Nat) : Word := w ||| BitVec.ofNat 32 (2 ^ i)

/-- A word with bit `i` cleared. -/
def Word.clearBit (w : Word) (i : Nat) : Word := w &&& ~~~(BitVec.ofNat 32 (2 ^ i))

/-- The integer that a `w`-bit field holds in two's complement. -/
def toSigned (w v : Nat) : Int := if v % 2 ^ w < 2 ^ (w - 1) then (v % 2 ^ w : Nat) else ((v % 2 ^ w : Nat) : Int) - (2 ^ w : Nat)

/-- The `w`-bit two's-complement code of an integer. -/
def ofSigned (w : Nat) (z : Int) : Nat := (z % ((2 ^ w : Nat) : Int)).toNat

/-- An integer held within the range of a signed `w`-bit field: it saturates (R69, R59, R118). -/
def satSigned (w : Nat) (z : Int) : Int :=
  if z > (2 ^ (w - 1) : Nat) - 1 then (2 ^ (w - 1) : Nat) - 1
  else if z < -((2 ^ (w - 1) : Nat) : Int) then -((2 ^ (w - 1) : Nat) : Int) else z

/-- A number held between two bounds: a value outside a field's range is clamped (R81). -/
def clampTo (lo hi v : Nat) : Nat := if v < lo then lo else if v > hi then hi else v

/-- The sum of a list of numbers. -/
def sumOf : List Nat → Nat
  | [] => 0
  | a :: l => a + sumOf l

/-- A list with entry `i` changed. -/
def listSet {α : Type} (l : List α) (i : Nat) (v : α) : List α := l.set i v

/-- A list with entry `i` changed by a function. -/
def listMod {α : Type} (l : List α) (i : Nat) (f : α → α) : List α := l.modify i f

end Sys2Proof.Machine
end

