-- ==== Sys2Proof/Machine/Ops.lean ====
section
/-! DEFINITION. The operations every command is written over: reading and writing registers, fields and counters; the
modes; the hatband log's intake (R478 to R480); MSI-X (R475); descriptors (R406, R408, R411); raising an event (R474);
refusing an access (R457, R459, R469, R470). -/

namespace Sys2Proof

/-! ### Ports, agents and descriptors -/

/-- The number of a host port or network port: A 0, B 1. -/
def Port.num : Port → Nat
  | .a => 0 | .b => 1

def Port.other : Port → Port
  | .a => .b | .b => .a

/-- Who makes an access: an agent of R461, or a sealed order in brim step 2 (R384). -/
inductive Who where
  | portA | portB | mgmt | order
deriving DecidableEq, Repr

def Agent.who : Agent → Who
  | .portA => .portA | .portB => .portB | .mgmt => .mgmt

/-- The number of the per-port copies (R462, R471): port A 0, port B 1, the management cores and orders 2. -/
def Who.num : Who → Nat
  | .portA => 0 | .portB => 1 | .mgmt => 2 | .order => 2

/-- The ORIGIN of an access (R478). DEDUCED (assumption 7). -/
def Who.origin : Who → Nat
  | .portA => 1 | .portB => 2 | .order => 3 | .mgmt => 5

def Who.port : Who → Option Port
  | .portA => some .a | .portB => some .b | .mgmt => none | .order => none

/-- The flags of DW2 (R411). -/
def flagOwn : Nat := 0x80
def flagSop : Nat := 0x40
def flagEop : Nat := 0x20
def flagInt : Nat := 0x10
def flagTs : Nat := 0x08
def flagErr : Nat := 0x04
def flagTrunc : Nat := 0x02
def flagTsLost : Nat := 0x01

/-- Whether a flag of DW2 stands. -/
def Desc.has (d : Desc) (f : Nat) : Bool := d.flags / f % 2 = 1

/-- A flag of DW2 set. -/
def Desc.set (d : Desc) (f : Nat) : Desc := if d.has f then d else { d with flags := d.flags + f }

/-- A flag of DW2 cleared. -/
def Desc.clear (d : Desc) (f : Nat) : Desc := if d.has f then { d with flags := d.flags - f } else d

/-- A descriptor completed by the part: OWN cleared, the status of DW6, and ERR set unless it is OK or GAP (R411). -/
def Desc.complete (d : Desc) (status done : Nat) : Desc :=
  let e := { (d.clear flagOwn) with status := status, done := done }
  if status = 0 || status = 7 then e else e.set flagErr

end Sys2Proof

namespace Sys2Proof.Machine

/-! ### Registers and fields -/

/-- The value in force of a register or table word. -/
def State.rd (s : State) (k : Nat) : Word := Store.get regReset s.regs k

/-- A register or table word written. -/
def State.wr (s : State) (k : Nat) (w : Word) : State := { s with regs := Store.set regReset s.regs k w }

/-- The value in force of a field. -/
def State.get (s : State) (f : Fld) : Nat := Word.field (s.rd f.addr) f.hi f.lo

/-- Whether a field is not 0. -/
def State.on (s : State) (f : Fld) : Bool := s.get f ≠ 0

/-- The value in force of a signed field. -/
def State.getS (s : State) (f : Fld) : Int := toSigned (f.hi + 1 - f.lo) (s.get f)

/-- A field written. -/
def State.put (s : State) (f : Fld) (v : Nat) : State := s.wr f.addr (Word.withField (s.rd f.addr) f.hi f.lo v)

/-- A one-bit field written. -/
def State.flag (s : State) (f : Fld) (b : Bool) : State := s.put f (if b then 1 else 0)

/-- A signed field written, saturating. -/
def State.putS (s : State) (f : Fld) (z : Int) : State :=
  s.put f (ofSigned (f.hi + 1 - f.lo) (satSigned (f.hi + 1 - f.lo) z))

/-- The code of the block a key belongs to: bits [23:16] of its base (R466). -/
def keyCode (k : Nat) : Nat :=
  if k < 0x100000000 then (k % 0x1000000) / 0x10000 else (k - 0x100000000) / 0x1000000

/-- BLK_CTRL of a block, EN, FREEZE and the EN in force. -/
def Fld.blkEn (code : Nat) : Fld := ⟨code * 0x10000 + 4, 0, 0⟩
def Fld.blkFreeze (code : Nat) : Fld := ⟨code * 0x10000 + 4, 2, 2⟩

/-- BLK_STATUS bit `i` of a block in port `p`'s copy (R462, R466). -/
def Fld.blkStatus (code p i : Nat) : Fld := ⟨code * 0x10000 + 8 + p * 0x1000000, i, i⟩

/-- Whether a block is enabled, as applied at the last brim. -/
def State.enabled (s : State) (code : Nat) : Bool := s.on (Fld.blkEn code)

/-- A counter advanced by `n`: it saturates at its maximum, and stands still while its block's FREEZE is 1 (R465). -/
def State.bump (s : State) (f : Fld) (n : Nat) : State :=
  if s.on (Fld.blkFreeze (keyCode f.addr)) then s
  else s.put f (if s.get f + n > f.max then f.max else s.get f + n)

/-- A counter word of a block's indirect space. -/
def Fld.ind (code w : Nat) : Fld := ⟨indKey code w, 31, 0⟩

/-- A counter that wraps, advanced by one (R64, R478). -/
def State.wrapInc (s : State) (f : Fld) : State := s.put f (s.get f + 1)

/-- A bit of a 64-bit pair of words (LO at `lo`, HI at `hi`) for source or ring `n`. -/
def pairBit (lo hi n : Nat) : Fld := if n < 32 then ⟨lo, n, n⟩ else ⟨hi, n - 32, n - 32⟩

/-- A condition that sets a per-port status bit sets it in both ports' copies (R462). -/
def State.setBlkStatus (s : State) (code i : Nat) : State :=
  (s.flag (Fld.blkStatus code 0 i) true).flag (Fld.blkStatus code 1 i) true

/-! ### Origins and modes -/

/-- The ORIGIN codes of a hatband entry (R478). -/
def originPart : Nat := 0
def originOrder : Nat := 3
def originCrown : Nat := 4
def originMgmt : Nat := 5
def originPeer : Nat := 6
def originTest : Nat := 7

/-- The mode codes of R347. -/
def modeOff : Nat := 0
def modeAttest : Nat := 1
def modeNightcap : Nat := 2
def modeIdle : Nat := 3
def modeService : Nat := 4
def modeAlarm : Nat := 5
def modeMaintenance : Nat := 6
def modeShelter : Nat := 7

/-- The mode (R347, R366). -/
def State.mode (s : State) : Nat := s.get Fld.TOP_MODE_STATUS_MODE

/-- Whether the part has left OFF: in OFF nothing of it runs. -/
def State.powered (s : State) : Bool := s.mode ≠ modeOff

/-- Whether the part is in ALARM. -/
def State.inAlarm (s : State) : Bool := s.mode = modeAlarm

/-- Whether FAB, DSP, STRM audio, LAP audio, AMP and the line tests are powered: not in OFF, ATTEST, NIGHTCAP and
SHELTER (R347). -/
def State.audioOn (s : State) : Bool :=
  s.mode = modeIdle || s.mode = modeService || s.mode = modeAlarm || s.mode = modeMaintenance

/-- Whether the part is the -P8. -/
def State.isP8 (s : State) : Bool := s.variant = .p8

/-- The octets of the exchange RAM put into a state. -/
def State.withExch (t : State) (m : List Host.Cell) : State := { t with mem := { t.mem with exch := m } }

/-- What stays out of a command's reach: the queue of waiting commands, which `step` keeps, and the ordering code (R1). -/
def State.holdFast (s t : State) : State := { t with variant := s.variant, pending := s.pending }

/-- What only some commands reach, as it was before: the OTP array (R368), which an order's application at a brim alone changes
(R373), and the exchange RAM, which its masters' accesses alone change (R439). -/
def State.holdMost (s t : State) : State := { (s.holdFast t).withExch s.mem.exch with otp := s.otp }

/-- A command's effect while the part is powered; in OFF the command finds nothing to act on. DESIGN CHOICE (assumption 5). -/
def State.run (s : State) (f : State → State) : Host.Outcome State Fault Refusal :=
  .next (if s.powered then s.holdMost (f s) else s)

/-- The effect of a command that reaches the exchange RAM. -/
def State.runExch (s : State) (f : State → State) : Host.Outcome State Fault Refusal :=
  .next (if s.powered then { s.holdFast (f s) with otp := s.otp } else s)

/-- A command's effect under a condition of the rules; where it does not hold the command changes nothing. DESIGN CHOICE (assumption 5). -/
def State.when (s : State) (c : Bool) (f : State → State) : State := if c then f s else s

/-- Whether a reset domain is out of action (R359, R360): from the brim at which its outputs enter the restart until it
resumes. -/
def State.domDown (s : State) (d : Nat) : Bool := s.plat.phase.getD d 0 ≥ 2

/-- Something sent to the outside. DESIGN CHOICE (assumption 198). -/
def State.emit (s : State) (o : Out) : State := { s with out := o :: s.out }

/-- The number of the next free value; a free value is drawn by passing this number to a constant of Config. DESIGN CHOICE (assumption 197). -/
def State.draw (s : State) : State := { s with free := s.free + 1 }

/-! ### Timers -/

/-- When a timer last started, in step-free ns: 0, when the part left OFF, where it has not. -/
def State.since (s : State) (t : Timer) : Nat := (s.timers.lookup t).getD 0

/-- A timer that counts from an instant. -/
def State.startAt (s : State) (t : Timer) (at_ : Nat) : State :=
  { s with timers := (t, at_) :: s.timers.filter (·.1 ≠ t) }

/-- A timer started now. -/
def State.start (s : State) (t : Timer) : State := s.startAt t s.time.now

/-- Whether a timer has run for `ns`: an expiry that comes sooner finds its time not over. DESIGN CHOICE (assumption 218). -/
def State.ran (s : State) (t : Timer) (ns : Nat) : Bool := s.time.now ≥ s.since t + ns

/-! ### The log's intake -/

/-- Word `i` of a detail list, 0 where the chapter gives none (R474). -/
def detail (dw : List Nat) (i : Nat) : Word := BitVec.ofNat 32 (dw.getD i 0)

/-- A hatband entry created now (R478). -/
def State.mkEntry (s : State) (code sub sev org : Nat) (dw : List Nat) : LogEntry :=
  { d0 := s.time.counter.truncate 32
    d1 := (s.time.counter >>> 32).truncate 32
    d2 := BitVec.ofNat 32 (sub % 256 * 0x1000000 + code % 256 * 0x10000 + sev % 16 * 0x1000 + org % 16 * 0x100
            + s.get Fld.LOG_COUNT_COUNT % 256)
    d3 := s.time.tick
    d4 := detail dw 0
    d5 := detail dw 1
    d6 := detail dw 2
    d7 := detail dw 3 }

/-- Whether the 64-entry intake has room (R480). -/
def State.logRoom (s : State) : Bool := s.log.intake.length < 64

/-- An entry put into the intake, or dropped and counted where the intake is full (R480). -/
def State.logPut (s : State) (e : LogEntry) : State :=
  if s.logRoom then
    ({ s with log := { s.log with intake := s.log.intake ++ [e] } }).wrapInc Fld.LOG_COUNT_COUNT
  else
    ({ s with log := { s.log with dropped := s.log.dropped + 1 } }).bump Fld.LOG_CNT_DROPPED 1

/-- The codes of entries made without an event (R478). -/
def codeDiscard : Nat := 0x40
def codeState : Nat := 0x41
def codeCommand : Nat := 0x42
def codeLogControl : Nat := 0x43
def codeOverflow : Nat := 0x44

/-- A discarded item of a sealed order counted (R384). -/
def State.countDiscard (s : State) (org : Nat) : State :=
  if org = originOrder then { s with cerk := { s.cerk with discards := s.cerk.discards + 1 } } else s

/-- An entry without an event: WRITE_DISCARD and LOG_OVERFLOW take WARNING, the others NOTICE (R479). -/
def State.logNote (s : State) (code sub org : Nat) (dw : List Nat) : State :=
  (if code = codeDiscard then s.countDiscard org else s).logPut
    (s.mkEntry code sub (if code = codeDiscard || code = codeOverflow then 2 else 1) org dw)

/-- The severity of an event's entry (R479); event 50 takes FAULT unless its RESULT is PASS, which its raise says. -/
def severityOf (src : Nat) : Nat :=
  if [2, 9, 13, 15, 19, 25, 26, 57].contains src then 0
  else if [7, 10, 11, 31, 47, 52, 54, 62].contains src then 1
  else if [0, 6, 8, 12, 16, 18, 36, 37, 39, 41, 42, 43, 44, 48, 49, 50, 51].contains src then 3
  else if src = 46 then 4
  else if src = 24 || src = 63 then 5
  else 2

/-! ### Host ports: MSI-X and descriptors -/

def State.portSt (s : State) : Port → PortSt
  | .a => s.host.a
  | .b => s.host.b

def State.setPort (s : State) (p : Port) (x : PortSt) : State :=
  match p with
  | .a => { s with host := { s.host with a := x } }
  | .b => { s with host := { s.host with b := x } }

/-- Whether a port is LOST (R425). -/
def State.portLost (s : State) (p : Port) : Bool := s.get (Fld.HIF_PORT_ST_STATE p.num) = 2

/-- The global number of a ring (R404). -/
def ringNo (p : Port) (n : Nat) : Nat := p.num * 64 + n

def State.ring (s : State) (p : Port) (n : Nat) : Ring := Store.get (fun _ => Ring.empty) s.host.rings (ringNo p n)

def State.setRing (s : State) (p : Port) (n : Nat) (r : Ring) : State :=
  { s with host := { s.host with rings := Store.set (fun _ => Ring.empty) s.host.rings (ringNo p n) r } }

def State.ringRuns (s : State) (p : Port) (n : Nat) : Bool := s.on (Fld.HIF_R_ST_RUN p.num n)
def State.ringType (s : State) (p : Port) (n : Nat) : Nat := s.get (Fld.HIF_R_CFG_TYPE p.num n)

/-- A vector becomes due on a port (R475): for an event source a set EVT_MASK bit withholds the message for good; a
LOST port is sent none; with MSI-X enabled, neither the function nor the vector masked, and requests allowed (R409), the message is
sent, and otherwise its pending bit is set. DEDUCED (assumption 11). -/
def State.msixDue (s : State) (p : Port) (v : Nat) : State :=
  let x := s.portSt p
  if s.portLost p then s
  else if v < 64 && s.on (pairBit (0x010028 + p.num * 0x1000000) (0x01002C + p.num * 0x1000000) v) then s
  else if x.msixEn && !x.fmask && s.on (Fld.HIF_PORT_ST_BME p.num) && !x.vmask.contains v then s.emit (.msix p v)
  else if x.vpend.contains v then s
  else s.setPort p { x with vpend := x.vpend ++ [v] }

/-- Ring `n`'s error bit (R410), and whether it was clear. -/
def Fld.ringErr (p n : Nat) : Fld := pairBit (0x040028 + p * 0x10000) (0x04002C + p * 0x10000) n

/-- The completion vector of ring `n` becomes due (R408): at once with MOD_US = 0 or outside the moderation window,
which it opens; inside the window it waits for the window's end. DEDUCED (assumption 12). -/
def State.ringVector (s : State) (p : Port) (n : Nat) : State :=
  if s.get (Fld.HIF_R_TIME_MOD_US p.num n) = 0 then s.msixDue p (64 + n)
  else if (s.ring p n).modOpen then s.setRing p n { s.ring p n with modDue := true }
  else (s.setRing p n { s.ring p n with modOpen := true, windowAt := s.time.now }).msixDue p (64 + n)

/-- The descriptor word counter `w` (0 DONE, 1 to 3 by type) of ring `n` (R429). -/
def Fld.ringCnt (p n w : Nat) : Fld := Fld.ind (4 + p) (4 * n + w)

/-- The address of the descriptor of an index (R406, R411): index i sits in slot i mod 2^SIZE_LOG2 of the ring at BASE. -/
def State.descAddr (s : State) (p : Port) (n i : Nat) : Nat :=
  s.get (Fld.HIF_R_BASE_HI_BASE_HI p.num n) * 2 ^ 32 + s.get (Fld.HIF_R_BASE_LO_BASE_LO p.num n)
    + 32 * (i % 2 ^ s.get (Fld.HIF_R_CFG_SIZE_LOG2 p.num n))

/-- The write-back address of a ring (R406, R428). -/
def State.backAddr (s : State) (p : Port) (n : Nat) : Nat :=
  s.get (Fld.HIF_R_WB_HI_WB_HI p.num n) * 2 ^ 32 + 4 * s.get (Fld.HIF_R_WB_LO_WB_LO p.num n)

/-- The oldest given descriptor of a ring is completed as `d`: it is written, C advances, then the write-back, then the
vector where it was given with INT (R406, R408). -/
def State.finishDesc (s : State) (p : Port) (n : Nat) (d : Desc) : State :=
  let due := ((s.ring p n).given.headD d).has flagInt
  let cons := s.get (Fld.HIF_R_ST_CONS p.num n)
  let s1 := s.setRing p n { s.ring p n with given := (s.ring p n).given.drop 1 }
  let s2 := (s1.emit (.desc p n cons (s.descAddr p n cons) d)).put (Fld.HIF_R_ST_CONS p.num n) ((cons + 1) % 65536)
  let s3 := s2.emit (.writeBack p n ((cons + 1) % 65536) (s.backAddr p n))
  let s4 := s3.bump (Fld.ringCnt p.num n 0) 1
  if due then s4.ringVector p n else s4

/-- The buffer in progress of an EVTQ or LOGQ ring is completed (R420); while the port may issue no request it waits (R409). -/
def State.closeBuffer (s : State) (p : Port) (n : Nat) : State :=
  let r := s.ring p n
  match (if s.on (Fld.HIF_PORT_ST_BME p.num) then r.given else []) with
  | [] => s
  | d :: _ =>
    let s1 := (s.emit (.buffer p n r.buf)).finishDesc p n (d.complete 0 (4 * r.buf.length))
    s1.setRing p n { s1.ring p n with buf := [], bufAt := none }

/-- A buffer in progress that a record of `n2` words does not fit is completed first (R420). -/
def State.makeRoom (s : State) (p : Port) (n n2 : Nat) : State :=
  if (s.ring p n).buf ≠ [] && (match (s.ring p n).given with
      | d :: _ => 4 * ((s.ring p n).buf.length + n2) > d.len
      | [] => false) then s.closeBuffer p n else s

/-- A record of whole words offered to an EVTQ or LOGQ ring (R420): a buffer it does not fit is completed first; one too
small for a record completes with SHORT; with MOD_US = 0 each record completes its buffer; a record without a buffer, or
while the port may issue no request (R409), is dropped and counted, and the answer's second part tells so. -/
def State.pushRecord (s : State) (p : Port) (n : Nat) (rec : List Word) : State × Bool :=
  let s1 := s.makeRoom p n rec.length
  match (if s1.on (Fld.HIF_PORT_ST_BME p.num) then (s1.ring p n).given else []) with
  | [] => (s1.bump (Fld.ringCnt p.num n 1) 1, true)
  | d :: _ =>
    if 4 * rec.length > d.len then ((s1.finishDesc p n (d.complete 6 0)).bump (Fld.ringCnt p.num n 1) 1, true)
    else
      let r := s1.ring p n
      let s2 := s1.setRing p n { r with buf := r.buf ++ rec,
                                        bufAt := if r.buf = [] then some s1.time.now else r.bufAt }
      (if s2.get (Fld.HIF_R_TIME_MOD_US p.num n) = 0 then s2.closeBuffer p n else s2, false)

/-- The running ring of a type of a port, where there is one. -/
def State.findRing (s : State) (p : Port) (ty : Nat) : Option Nat :=
  (List.range 64).find? (fun n => s.ringRuns p n && s.ringType p n = ty)

/-! ### Raising an event -/

/-- The EVT_RAW, EVT_LAT and route bits of source `n` (R476). -/
def Fld.evtRaw (n : Nat) : Fld := pairBit 0x010010 0x010014 n
def Fld.evtLat (p n : Nat) : Fld := pairBit (0x010020 + p * 0x1000000) (0x010024 + p * 0x1000000) n
def Fld.evtRoute (p n : Nat) : Fld := pairBit (0x010030 + p * 8) (0x010034 + p * 8) n

/-- Steps 3 and 4 of R474 for one port: its latch, its EVTQ record, its vector. The answer's second part tells whether
the port's EVTQ ring dropped the record with its error bit clear until then (R410). -/
def State.deliver (s : State) (p : Port) (src seq : Nat) : State × Bool :=
  if s.on (Fld.evtRoute p.num src) then
    let s1 := s.flag (Fld.evtLat p.num src) true
    let r := match s1.findRing p 6 with
      | none => (s1, false)
      | some n =>
        let q := s1.pushRecord p n [s1.time.counter.truncate 32, (s1.time.counter >>> 32).truncate 32,
                   BitVec.ofNat 32 (seq % 256 * 256 + src), s1.time.tick]
        if q.2 then (q.1.flag (Fld.ringErr p.num n) true, !q.1.on (Fld.ringErr p.num n)) else (q.1, false)
    (r.1.msixDue p src, r.2)
  else (s, false)

/-- The four steps of R474, without the summary event of R410: the hatband entry, EVT_RAW and the raise counter, and
for each routed port the latch, the EVTQ record and the vector. An entry that finds the intake full is dropped, and the
record then carries sequence 0 (R480). The answer tells the ports whose ring error bit the raise has set. -/
def State.raiseCore (s : State) (src sub sev org : Nat) (dw : List Nat) : State × Bool × Bool :=
  let e := s.mkEntry src sub sev org dw
  let seq := if s.logRoom then Word.field e.d2 7 0 else 0
  let s1 := s.logPut e
  let s2 := if s.logRoom then s1.put Fld.EVT_LAST_SEQ seq else s1
  let s3 := (s2.flag (Fld.evtRaw src) true).bump (Fld.ind 1 src) 1
  let a := s3.deliver .a src seq
  let b := a.1.deliver .b src seq
  (b.1, a.2, b.2)

/-- Whether an event limited to once per 10 ms may be raised now (R150, R162, R410, R417). -/
def rateOk (last : Option Nat) (now : Nat) : Bool := match last with
  | none => true
  | some t => now ≥ t + 10000000

/-- Event 54 (HOST_RING_SUMMARY) for a port, at most once per 10 ms, with the rings concerned (R410). -/
def State.ringSummary (s : State) (p : Port) : State :=
  if rateOk (s.portSt p).ev54 s.time.now then
    let s1 := s.setPort p { s.portSt p with ev54 := some s.time.now }
    (s1.raiseCore 54 (4 + p.num) (severityOf 54) originPart
      [p.num, (s1.rd (0x040028 + p.num * 0x10000)).toNat, (s1.rd (0x04002C + p.num * 0x10000)).toNat]).1
  else s

/-- Source `src` raises (R474), with the subsystem concerned, the severity, the origin and the detail words of the
entry; a ring error bit that the raise itself sets raises event 54 in turn (R410). -/
def State.raiseAs (s : State) (src sub sev org : Nat) (dw : List Nat) : State :=
  let r := s.raiseCore src sub sev org dw
  let s1 := if r.2.1 then r.1.ringSummary .a else r.1
  if r.2.2 then s1.ringSummary .b else s1

/-- Source `src` raises with its severity of R479 and origin PART. DEDUCED (assumptions 7, 8). -/
def State.raise (s : State) (src sub : Nat) (dw : List Nat) : State :=
  s.raiseAs src sub (severityOf src) originPart dw

/-- Ring `n` has an error: its HIF_RING_ERR bit sets, and a bit that sets raises event 54 (R410). -/
def State.ringError (s : State) (p : Port) (n : Nat) : State :=
  if s.on (Fld.ringErr p.num n) then s else (s.flag (Fld.ringErr p.num n) true).ringSummary p

/-- A change of state recorded without an event. DEDUCED (assumption 9). -/
def State.note (s : State) (sub : Nat) (dw : List Nat) : State := s.logNote codeState sub originPart dw

/-! ### Refusing an access -/

/-- DW6 of a refused access: the byte enables and the reason (R459). -/
def refusalWord (be reason : Nat) : Nat := be % 16 + reason * 0x100

/-- A refused access (R459): event 59 for reasons below 16, event 60 from 16 on, with the address, the data, the byte
enables and reason, and the position of the code that refused it. -/
def State.refuse (s : State) (g : Who) (sub addr data be reason code : Nat) : State :=
  (s.countDiscard g.origin).raiseAs (if reason < 16 then 59 else 60) sub 2 g.origin [addr, data, refusalWord be reason, code]

/-- A refused write of a whole BAR0 word with all byte enables set. -/
def State.refuseReg (s : State) (g : Who) (off data reason : Nat) (code : Acc) : State :=
  s.refuse g (off / 0x10000) off data 15 reason code.position

/-- A command word written to a block that the -L0 does not have (R3): there the write is discarded as one to an undefined offset. -/
def State.onP8 (s : State) (g : Who) (off data : Nat) (f : State → State) : State :=
  if s.isP8 then f s else s.refuse g (off / 0x10000) off data 15 3 0

/-- Whether a KW write is admitted (R469, R384): with the port's unlock open; a sealed order's needs none. DEDUCED (assumption 187). -/
def State.unlocked (s : State) : Who → Bool
  | .portA => s.time.unlockA
  | .portB => s.time.unlockB
  | .mgmt => false
  | .order => true

/-- An agent's unlock opened or closed. -/
def State.setUnlock (s : State) (g : Who) (b : Bool) : State :=
  match g with
  | .portA => { s with time := { s.time with unlockA := b } }
  | .portB => { s with time := { s.time with unlockB := b } }
  | .mgmt => s
  | .order => s

/-- A write of a KW field of the register at `off` (R469): with the unlock open it closes and the field's own rule
`f` runs; otherwise the write is discarded with event 60, reason 17. DEDUCED (assumption 187). -/
def State.keyed (s : State) (g : Who) (off data : Nat) (f : State → State) : State :=
  if s.unlocked g then f (s.setUnlock g false) else s.refuseReg g off data 17 .kw

/-- A command accepted, recorded with its origin: the address and the data (R478). DEDUCED (assumption 9). -/
def State.command (s : State) (g : Who) (off data : Nat) : State :=
  s.logNote codeCommand (off / 0x10000) g.origin [off, data]

/-- A write accepted into the shadow of an SH field (R21, R22): the word waits for a brim. -/
def State.shadowWrite (s : State) (k : Nat) (w : Word) : State :=
  { s with shadow := Store.insert k w (Store.erase k s.shadow) }

/-- The word last written to a register, whether or not it has been applied (R22). -/
def State.lastWritten (s : State) (k : Nat) : Word := match s.shadow.find? (fun x => x.1 = k) with
  | some x => x.2
  | none => s.rd k

/-- A field as last written. -/
def State.getW (s : State) (f : Fld) : Nat := Word.field (s.lastWritten f.addr) f.hi f.lo

/-! ### The condition flags -/

/-- The state of lane `l` in CROWN_LANES (R310, R342): 0 voting, 1 in repair, 2 retired. -/
def Fld.laneState (l : Nat) : Fld := ⟨Fld.CROWN_LANES_LANE.addr, 8 * l + 1, 8 * l⟩

/-- A vote of three values, bit by bit (R309). -/
def maj3 (a b c : Nat) : Nat := (a &&& b) ||| (b &&& c) ||| (a &&& c)

/-- An output as the voting lanes form it (R309, R311): `own` is what a sound lane gives, `f` what another copy gives. -/
def State.voted (s : State) (own : Nat) (f : LaneCopy → Nat) : Nat :=
  match ((List.range 3).filter fun l => s.get (Fld.laneState l) = 0).map fun l => ((s.crown.shown.getD l none).map f).getD own with
  | [a, b, c] => maj3 a b c
  | a :: _ => a
  | [] => own

/-- The condition flags of TOP_MODE_STATUS that follow registers, with what each follows (R351, R366); FW_FALLBACK,
SPARES_USED and TEMP_WARN are set and cleared by their own rules. HSR is in use where the topology is HSR and the ring switch
runs. -/
def State.flagConditions (s : State) : List (Nat × Bool) :=
  [(26, s.on Fld.PLAT_RST_ST_BUSY),
   (23, s.on Fld.PLAT_SUPPLY_VIN_WARN || s.on Fld.PLAT_SUPPLY_PFW),
   (22, s.portLost .b), (21, s.portLost .a),
   (20, s.on Fld.PAIR_STATUS_PEER_LOST || s.on Fld.PAIR_STATUS_MISMATCH || s.on Fld.PAIR_STATUS_CUFF_FAULT),
   (19, s.get Fld.RSW_CFG_TOPO = 0 && s.mode ≠ modeOff && s.mode ≠ modeAttest && !s.on Fld.RSW_RING_ST_CLOSED),
   (18, s.on Fld.CROWN_STATUS_CROWN_FAIL || [0, 1, 2].any (fun n => s.get (Fld.laneState n) = 2)),
   (17, s.on Fld.CROWN_STATUS_SCHED_LOST),
   (16, s.get Fld.REFS_SEL_STATUS_STATE = 4), (15, s.get Fld.REFS_SEL_STATUS_STATE = 3),
   (14, (List.range 6).any fun n => s.on (Fld.SYN_ST_COASTING n) || s.on (Fld.SYN_ST_GATED n))]

/-- Flag `i` of TOP_MODE_STATUS. -/
def Fld.modeFlag (i : Nat) : Fld := ⟨0x000020, i, i⟩

/-- A flag brought to its condition; a change is logged with the flag's bit and its new value (R351). DEDUCED (assumption 125). -/
def State.setFlag (s : State) (i : Nat) (c : Bool) : State :=
  if s.on (Fld.modeFlag i) = c then s else (s.flag (Fld.modeFlag i) c).note 0 [i, if c then 1 else 0]

/-- Every condition flag brought to its condition, from bit 26 downward (R351). DEDUCED (assumptions 125, 142). -/
def State.watchFlags (s : State) : State := s.flagConditions.foldl (fun t c => t.setFlag c.1 c.2) s

/-- The effect of a command that may change a condition flag. -/
def State.runF (s : State) (f : State → State) : Host.Outcome State Fault Refusal := s.run fun s => (f s).watchFlags

/-- The effect of a brim, which applies orders and with them changes of the life cycle (R373). -/
def State.runBrim (s : State) (f : State → State) : Host.Outcome State Fault Refusal :=
  .next (if s.powered then (s.holdFast (f s).watchFlags).withExch s.mem.exch else s)

end Sys2Proof.Machine
end

