-- ==== Sys2Proof/Machine/Float.lean ====
section
/-! DEFINITION. The samples of the fabric and the graph: IEEE 754 single precision (R205), reckoned exactly in units of
2^-149, of which every finite value is a whole number, and rounded once to nearest, ties to even. -/

namespace Sys2Proof.Machine

/-- 1.0 in units of 2^-149. -/
def fUnit : Int := 2 ^ 149

/-- Whether a word is a NaN. -/
def fNan (w : Word) : Bool := Word.field w 30 23 = 255 && Word.field w 22 0 ≠ 0

/-- Whether a word is a NaN or infinite. -/
def fBad (w : Word) : Bool := Word.field w 30 23 = 255

/-- The magnitude of a word in units of 2^-149, for a comparison or a parameter; a NaN acts as 0 there (R219, R418) and an infinity
as 2^128, which is beyond every finite value. DESIGN CHOICE (assumption 43). -/
def fMag (w : Word) : Nat :=
  if fNan w then 0
  else
    let e := Word.field w 30 23
    if e = 0 then Word.field w 22 0 else (Word.field w 22 0 + 2 ^ 23) * 2 ^ (e - 1)

/-- The value of a word in units of 2^-149. -/
def fval (w : Word) : Int := if w.getLsbD 31 then -(fMag w : Int) else (fMag w : Int)

/-- n / d rounded to the nearest whole number, ties to even. -/
def roundEven (n d : Nat) : Nat :=
  let q := n / d
  let r := n % d
  if 2 * r > d then q + 1 else if 2 * r = d then q + q % 2 else q

/-- The magnitude n / d, in units of 2^-149, rounded to single precision. -/
def fRoundMag (n d : Nat) : Nat :=
  let q := n / d
  let s := Nat.log2 q - 23
  min 0x7F800000 (roundEven n (d * 2 ^ s) + s * 2 ^ 23)

/-- The value n / d, in units of 2^-149, rounded to single precision. DESIGN CHOICE (assumption 43). -/
def fround (n : Int) (d : Nat) : Word :=
  BitVec.ofNat 32 (fRoundMag n.natAbs d + (if n < 0 then 2 ^ 31 else 0))

/-- A value of the arithmetic of R205: a NaN, an infinity of a sign, or a number in units of the arithmetic in use. -/
inductive FVal where
  | nan
  | inf (neg : Bool)
  | fin (n : Int)
deriving DecidableEq, Repr

/-- The value of a word, in units of 2^-149. -/
def fread (w : Word) : FVal := if fNan w then .nan else if fBad w then .inf (w.getLsbD 31) else .fin (fval w)

/-- The sum of two values: a NaN stays one, and infinities of opposite signs give one (IEEE 754). -/
def FVal.add : FVal → FVal → FVal
  | .nan, _ => .nan
  | _, .nan => .nan
  | .inf a, .inf b => if a = b then .inf a else .nan
  | .inf a, .fin _ => .inf a
  | .fin _, .inf b => .inf b
  | .fin m, .fin n => .fin (m + n)

/-- An infinity times a number: a NaN where the number is 0 (IEEE 754). -/
def FVal.scaleInf (neg : Bool) (n : Int) : FVal := if n = 0 then .nan else .inf (xor neg (n < 0))

/-- The product of two values: a NaN stays one, and an infinity times 0 gives one (IEEE 754). -/
def FVal.mul : FVal → FVal → FVal
  | .nan, _ => .nan
  | _, .nan => .nan
  | .inf a, .inf b => .inf (xor a b)
  | .inf a, .fin n => FVal.scaleInf a n
  | .fin m, .inf b => FVal.scaleInf b m
  | .fin m, .fin n => .fin (m * n)

/-- The word of a value in units of 2^-149 ÷ d, rounded once. -/
def FVal.out (d : Nat) : FVal → Word
  | .nan => 0x7FC00000
  | .inf neg => if neg then 0xFF800000 else 0x7F800000
  | .fin n => fround n d

/-- The constants 0, 1, −200 (the dBFS of silence, R229). -/
def fOne : Word := 0x3F800000
def fSilence : Word := 0xC3480000

/-- A 24-bit sample as a fabric value: exact (R205). -/
def fromCode24 (z : Int) : Word := fround (z * 2 ^ 126) 1

/-- A signed code in `bits` bits as a fabric value: exact. -/
def fromCode (bits : Nat) (z : Int) : Word := fround (z * 2 ^ (150 - bits)) 1

/-- A sink's code and whether it saturates (R205): rounded to 24 bits, held between −1.0 and +1.0 − 2^-23. -/
def toCode24 (w : Word) : Int × Bool :=
  let m := roundEven (fMag w) (2 ^ 126)
  let z : Int := if w.getLsbD 31 then -(m : Int) else m
  if z > 2 ^ 23 - 1 then (2 ^ 23 - 1, true) else if z < -(2 ^ 23) then (-(2 ^ 23), true) else (z, false)

/-- The product of two values, rounded. -/
def fmul (a b : Word) : Word := ((fread a).mul (fread b)).out (2 ^ 149)

/-- The sum of products of pairs, reckoned exactly and rounded once. DESIGN CHOICE (assumption 43). -/
def fdot (l : List (Word × Word)) : Word :=
  (l.foldl (fun a p => a.add ((fread p.1).mul (fread p.2))) (FVal.fin 0)).out (2 ^ 149)

/-- a·m + b·n over n0, for weights that are whole numbers, reckoned exactly and rounded once. -/
def fblend (a b : Word) (m n n0 : Nat) : Word :=
  (((fread a).mul (.fin m)).add ((fread b).mul (.fin n))).out n0

/-- The negative of a value: its sign bit turned over. -/
def fneg (w : Word) : Word := w ^^^ 0x80000000

/-- Sample `i` of a linear passage from `a` to `b` over `n` samples: a + (b − a)·(i + 1) ÷ n. -/
def flerp (a b : Word) (i n : Nat) : Word :=
  if i + 1 ≥ n then b else fblend a b (n - 1 - i) (i + 1) n

/-- Whether a sample's magnitude is at or below −t dBFS (R210): |x|^20 · 10^t ≤ 1, reckoned exactly. -/
def belowDb (w : Word) (t : Nat) : Bool := fMag w ^ 20 * 10 ^ t ≤ (2 ^ 149) ^ 20

/-- An output held within ±16.0, a NaN replaced by 0 (R219). -/
def fhold16 (w : Word) : Word :=
  if fNan w then 0
  else if fMag w > 16 * 2 ^ 149 then (if w.getLsbD 31 then 0xC1800000 else 0x41800000) else w

/-- A value held within two bounds; a NaN acts as 0. -/
def fclamp (lo hi w : Word) : Word :=
  if fval w < fval lo then lo else if fval w > fval hi then hi else if fNan w then 0 else w

/-- A list of samples read at a place, zero beyond its end. -/
def samp (l : List Word) (j : Nat) : Word := l.getD j 0

/-- Each sample of a tick ramped in by (j + 1) ÷ k (R191). -/
def rampIn (k : Nat) (l : List Word) : List Word := (List.range k).map fun j => flerp 0 (samp l j) j k

/-- A last sample ramped to zero by (k − 1 − j) ÷ k (R191). -/
def rampOutOf (k : Nat) (x : Word) : List Word := (List.range k).map fun j => flerp x 0 j k

/-- Each sample ramped out by (k − 1 − j) ÷ k (R224). -/
def rampOut (k : Nat) (l : List Word) : List Word :=
  (List.range k).map fun j => fblend (samp l j) 0 (k - 1 - j) 0 k

/-- The crossfade of R223: r_j·(k − 1 − j) ÷ k + n_j·(j + 1) ÷ k. -/
def crossfade (k : Nat) (r n : List Word) : List Word :=
  (List.range k).map fun j => fblend (samp r j) (samp n j) (k - 1 - j) (j + 1) k

end Sys2Proof.Machine
end

