-- ==== Sys2Proof/Machine/Real.lean ====
section
/-! DEFINITION. The functions of real numbers that the spec names: exponentials and logarithms for levels in dB (R207, R218, R229),
the sweep (R321) and the holdover model (R90), sines for the tones and the pilot (R218, R291, R321), and angles (R306). Each is reckoned
to about 2^-150, far below any format that a result stands in; what the spec leaves open, to which of the two neighbours in that
format a result is rounded, is a free value (Config). DESIGN CHOICE (assumptions 44, 82). -/

namespace Sys2Proof.Machine

/-! ### Series, in units of 2^-160 -/

/-- 1 in the units of the series. -/
def rOne : Int := 2 ^ 160

/-- A rational in the units of the series. -/
def rOf (q : Rat) : Int := q.num * rOne / q.den

/-- Σ of x^i ÷ i! from a term on: `term` is x^i ÷ i!. -/
def expTerms (x : Int) : Nat → Nat → Int → Int
  | 0, _, _ => 0
  | fuel + 1, i, term => term + expTerms x fuel (i + 1) (term * x / (rOne * (i + 1 : Nat)))

/-- Σ of t^(2j + 1) ÷ (2j + 1) from a power on: the inverse hyperbolic tangent. -/
def atanhTerms (t2 : Int) : Nat → Nat → Int → Int
  | 0, _, _ => 0
  | fuel + 1, j, pow => pow / (2 * j + 1 : Nat) + atanhTerms t2 fuel (j + 1) (pow * t2 / rOne)

/-- Euler's series of the arctangent from a term on, each the one before times r·(2j + 2) ÷ (2j + 3), with r = t² ÷ (1 + t²). -/
def atanTerms (r : Int) : Nat → Nat → Int → Int
  | 0, _, _ => 0
  | fuel + 1, j, term => term + atanTerms r fuel (j + 1) (term * r * (2 * j + 2 : Nat) / (rOne * (2 * j + 3 : Nat)))

/-- The alternating series of the sine (from i = 1) and the cosine (from i = 0). -/
def waveTerms (x2 : Int) : Nat → Nat → Int → Int
  | 0, _, _ => 0
  | fuel + 1, i, term => term + waveTerms x2 fuel (i + 2) (-(term * x2 / (rOne * ((i + 1) * (i + 2) : Nat))))

/-- The inverse hyperbolic tangent of t, a third or less. -/
def rAtanh (t : Int) : Int := atanhTerms (t * t / rOne) 60 0 t

/-- ln 2. -/
def rLn2 : Int := 2 * rAtanh (rOne / 3)

/-- ln of a rational above 0: of its power of two, and of what is left. -/
def rLn (q : Rat) : Int :=
  let k : Int := (Nat.log2 q.num.natAbs : Int) - Nat.log2 q.den
  let m : Rat := if k < 0 then q * 2 ^ k.natAbs else q / 2 ^ k.natAbs
  k * rLn2 + 2 * rAtanh (rOf ((m - 1) / (m + 1)))

/-- e to the power of x. -/
def rExp (x : Int) : Rat :=
  let k := x / rLn2
  let m : Rat := mkRat (expTerms (x - k * rLn2) 60 0 rOne) (2 ^ 160)
  if k < 0 then m / 2 ^ k.natAbs else m * 2 ^ k.natAbs

/-- The arctangent of n ÷ d, from 0 to 1. -/
def rAtan (n d : Nat) : Int :=
  let h : Int := (n * n + d * d : Nat)
  atanTerms ((n * n : Nat) * rOne / h) 170 0 ((n * d : Nat) * rOne / h)

/-- π, by Machin's formula. -/
def rPi : Int := 16 * rAtan 1 5 - 4 * rAtan 1 239

/-- The sine of 2π·u, for u from 0 to a quarter. -/
def rSineQuarter (u : Rat) : Rat :=
  if u ≤ 1 / 8 then
    let x := 2 * rPi * u.num / u.den
    mkRat (waveTerms (x * x / rOne) 30 1 x) (2 ^ 160)
  else
    let v := 1 / 4 - u
    let x := 2 * rPi * v.num / v.den
    mkRat (waveTerms (x * x / rOne) 30 0 rOne) (2 ^ 160)

/-- The sine of 2π times a number of cycles. -/
def rSine (c : Rat) : Rat :=
  let f := c - (c.floor : Rat)
  if f < 1 / 4 then rSineQuarter f
  else if f < 1 / 2 then rSineQuarter (1 / 2 - f)
  else if f < 3 / 4 then -rSineQuarter (f - 1 / 2)
  else -rSineQuarter (1 - f)

/-- The angle of a point other than the origin, in turns from -1/2 to 1/2. -/
def rAngle (re im : Int) : Rat :=
  let a := re.natAbs
  let b := im.natAbs
  let turns := fun (n d : Nat) => mkRat (rAtan n d) (2 * rPi.natAbs)
  let first : Rat := if b ≤ a then turns b a else 1 / 4 - turns a b
  let half := if re < 0 then 1 / 2 - first else first
  if im < 0 then -half else half

/-! ### Rounding -/

/-- A value rounded to single precision, to one of its two neighbours: to the one farther from 0 where the free value says so. -/
def fPick (z : Rat) (free : Word) : Word :=
  let n := z.num.natAbs * 2 ^ 149
  let q := n / z.den
  let s := Nat.log2 q - 23
  let lo := q / 2 ^ s + s * 2 ^ 23
  let sign := if z < 0 then 2 ^ 31 else 0
  let near := BitVec.ofNat 32 (min 0x7F800000 lo + sign)
  let far := BitVec.ofNat 32 (min 0x7F800000 (lo + 1) + sign)
  if q / 2 ^ s * 2 ^ s * z.den = n then near else if free = far then far else near

/-- A value rounded to a whole number, to one of its two neighbours. -/
def intPick (z : Rat) (free : Int) : Int := max z.floor (min z.ceil free)

/-! ### What the spec names -/

/-- 10 to the power of a twentieth of a gain in dB; beyond ±1,000 dB no single-precision amplitude differs. -/
def rDb (db : Rat) : Rat :=
  let d := max (-1000) (min 1000 db)
  rExp (d.num * rLn 10 / (20 * d.den : Nat))

/-- The amplitude of a gain in 0.01 dB (R207). -/
def dbGain (z : Int) : Word := fPick (rDb (mkRat z 100)) (Config.dbGain z)

/-- The amplitude of a gain in dB given in single precision (R218). -/
def dbLin (w : Word) : Word := fPick (rDb (mkRat (fval w) (2 ^ 149))) (Config.dbLin w)

/-- Decibels of a ratio of powers above 0. -/
def rBel (q : Rat) : Rat := mkRat (10 * rLn q) (rLn 10).natAbs

/-- The level in dBFS of an amplitude other than 0 (R229). -/
def dbOfAmp (w : Word) : Word := fPick (2 * rBel (mkRat (fMag w) (2 ^ 149))) (Config.dbOfAmp w)

/-- The level in dBFS of a mean square, the sum of squares in units of 2^-298 over a number of samples (R227, R229). -/
def dbOfPower (sum n : Nat) : Word := fPick (rBel (mkRat sum (2 ^ 298 * n))) (Config.dbOfPower sum n)

/-- The sine of 2π times a number of cycles, in single precision (R218, R291, R321). -/
def sineOf (c : Rat) : Word := fPick (rSine c) (Config.sine c)

/-- The phase in 0.01° of an impedance (R306); of one that is 0 the spec states none. -/
def angleOf (re im : Int) : Int :=
  if re = 0 && im = 0 then Config.phaseOf re im else intPick (36000 * rAngle re im) (Config.phaseOf re im)

/-- ln(1 + a ÷ 1 d) of R90 for an age in seconds, in Q16.16. -/
def lnDays (ageS : Nat) : Int := intPick (mkRat (rLn (1 + mkRat ageS 86400)) (2 ^ 144)) (Config.lnDays ageS)

/-- The weight that a learning sample keeps over 16 s, for a forgetting time of 30 d (R90): e to the power of -16 s ÷ 30 d, to within
2^-32. -/
def forgetting : Rat :=
  let f := rExp (rOf (-(mkRat 16 2592000)))
  max (f - mkRat 1 (2 ^ 32)) (min (f + mkRat 1 (2 ^ 32)) Config.forgetting)

/-- The cycles that EVAC_SWEEP has run through after a time in ns (R321): the integral of 500 Hz × 2.4^(t ÷ 3.5 s). -/
def sweepCycles (ns : Nat) : Rat :=
  let l := rLn (12 / 5)
  (rExp (l * ns / 3500000000) - 1) * mkRat (1750 * 2 ^ 160) l.natAbs

end Sys2Proof.Machine
end

