-- ==== Sys2Proof/Machine/Fabric.lean ====
section
/-! DEFINITION. The audio fabric: crosspoints and their gains (R207 to R209), the zero-crossing gate (R210 to R212) and
the zone buses (R213). -/

namespace Sys2Proof.Machine

/-! ### Rates, gains and ramps -/

/-- The samples of a tick: 6 at 48 kHz, 12 at 96 kHz (R174). -/
def State.k (s : State) : Nat := if s.on Fld.FAB_CFG_RATE then 12 else 6

/-- The samples of a millisecond. -/
def State.msSamples (s : State) : Nat := 8 * s.k

/-- The amplitude of a GAIN code (R207): 0x8000 mutes, 0 is 0 dB. -/
def gainLin (code : Nat) : Word :=
  if code = 0x8000 then 0 else if code = 0 then fOne else dbGain (toSigned 16 code)

/-- A GAIN code as it is stored (R207): above +12.00 dB it is +12.00 dB, below −120.00 dB it mutes. -/
def clampGain (code : Nat) : Nat :=
  let z := toSigned 16 code
  if z > 1200 then 1200 else if z < -12000 then 0x8000 else code

/-- A crosspoint's second word, or a zone word, as it is stored: RAMP_MS and GAIN clamped (R207, R213). -/
def clampGainWord (w : Word) : Word :=
  Word.withField (Word.withField w 25 16 (min 1000 (Word.field w 25 16))) 15 0 (clampGain (Word.field w 15 0))

/-- A gain that stands still. -/
def Ramp.const (g : Word) : Ramp := { g0 := g, g1 := g, i := 0, n := 0 }

/-- The gain of the next sample plus `j`. -/
def Ramp.at (r : Ramp) (j : Nat) : Word := if r.i + j < r.n then flerp r.g0 r.g1 (r.i + j) r.n else r.g1

/-- The gain reached. -/
def Ramp.value (r : Ramp) : Word :=
  if r.i ≥ r.n then r.g1 else if r.i = 0 then r.g0 else flerp r.g0 r.g1 (r.i - 1) r.n

/-- The gains of a tick of `k` samples, and the ramp after it. -/
def Ramp.gains (r : Ramp) (k : Nat) : List Word := (List.range k).map r.at
def Ramp.step (r : Ramp) (k : Nat) : Ramp := if r.i + k ≥ r.n then Ramp.const r.g1 else { r with i := r.i + k }

/-- A ramp from the gain reached to another gain over RAMP_MS; 0 takes the samples of one tick (R207, R209). -/
def State.rampFrom (s : State) (r : Ramp) (g : Word) (ms : Nat) : Ramp :=
  { g0 := r.value, g1 := g, i := 0, n := if ms = 0 then s.k else ms * s.msSamples }

/-- A ramp of 1 ms between two gains (R210). -/
def State.ramp1ms (s : State) (a b : Word) : Ramp := { g0 := a, g1 := b, i := 0, n := s.msSamples }

/-! ### Inputs -/

/-- The samples of an input in this processing tick (R203); an input not listed is zero. -/
def State.input (s : State) (i : Nat) : List Word := match s.fab.inp.find? (·.1 = i) with
  | some x => x.2
  | none => []

/-- An input's samples set. -/
def State.setInput (s : State) (i : Nat) (l : List Word) : State :=
  let rest := s.fab.inp.filter (·.1 ≠ i)
  { s with fab := { s.fab with inp := if l.all (· = 0) then rest else (i, l) :: rest } }

/-- The input's last sample in the tick before. -/
def State.lastSample (s : State) (i : Nat) : Word := match s.fab.last.find? (·.1 = i) with
  | some x => x.2
  | none => 0

/-- A new processing tick: the last samples are kept and every input reads zero until its source delivers. -/
def State.clearInputs (s : State) : State :=
  { s with fab := { s.fab with last := s.fab.inp.map (fun x => (x.1, samp x.2 (s.k - 1))), inp := [] } }

/-! ### The gate -/

/-- The first sample from place `j` on that is a crossing (R210): at or below the level, or of another sign than the
sample before it. -/
def firstCrossing (thr : Nat) (prev : Word) : List Word → Nat → Option Nat
  | [], _ => none
  | x :: l, j => if belowDb x thr || x.getLsbD 31 ≠ prev.getLsbD 31 then some j else firstCrossing thr x l (j + 1)

/-- The samples of an input as a list of exactly `k`. -/
def padTo (k : Nat) (l : List Word) : List Word := (List.range k).map (samp l)

/-- Gains before and after a step at sample `j0`. -/
def stepGains (k j0 : Nat) (before after : Nat → Word) : List Word :=
  (List.range k).map fun j => if j < j0 then before j else after j

/-- One tick of a connection (R209 to R212): the gain of each sample, and the connection after the tick; none once it has
closed for good. -/
def Conn.tick (k thr : Nat) (xs : List Word) (prev : Word) (c : Conn) : List Word × Option Conn :=
  let hit := firstCrossing thr prev (padTo k xs) 0
  let gone := c.ramp.i + k ≥ c.ramp.n
  match c.st with
  | .open => (c.ramp.gains k, some { c with ramp := c.ramp.step k })
  | .opening => match hit with
    | some j0 => (stepGains k j0 (fun _ => 0) (fun _ => c.gain), some { c with st := .open, ramp := Ramp.const c.gain })
    | none => (padTo k [], some { c with age := c.age + 1 })
  | .closing => match hit with
    | some j0 => (stepGains k j0 c.ramp.at (fun _ => 0), none)
    | none => (c.ramp.gains k, some { c with ramp := c.ramp.step k, age := c.age + 1 })
  | .fading => (c.ramp.gains k, if gone then none else some { c with ramp := c.ramp.step k })
  | .forced => (c.ramp.gains k, if gone then none else some { c with ramp := c.ramp.step k })
  | .parking => match hit with
    | some j0 => (stepGains k j0 c.ramp.at (fun _ => 0), some { c with st := .parked })
    | none => (c.ramp.gains k, some { c with ramp := c.ramp.step k, age := c.age + 1 })
  | .parkFading => (c.ramp.gains k, some (if gone then { c with st := .parked } else { c with ramp := c.ramp.step k }))
  | .parked => (padTo k [], some c)

/-- Whether a connection is closing, and so still carries its input (R210 to R212). -/
def Conn.closes (c : Conn) : Bool := match c.st with
  | .closing | .fading | .forced | .parking | .parkFading => true
  | .open | .opening | .parked => false

/-- The zone bus of an output from 448 on (R213). -/
def State.zoneRamp (s : State) (z : Nat) : Ramp := match s.fab.zones.find? (·.1 = z) with
  | some x => x.2
  | none => Ramp.const fOne

/-- The numbers of a list once each. -/
def distinct (l : List Nat) : List Nat := l.foldl (fun a x => if a.contains x then a else a ++ [x]) []

/-- Whether the FAB domain enters its restart in this tick (R359, R360). -/
def State.fabLeaving (s : State) : Bool := s.plat.phase.getD 3 0 = 2

/-- Whether the fabric mixes in this tick (R214, R234, R359): the mode, FAB's EN, and a domain that is not in reset. -/
def State.fabRuns (s : State) : Bool := s.audioOn && s.enabled 0x20 && s.plat.phase.getD 3 0 ≤ 2

/-- The Mix phase (R209, R213): each output is the sum over its connections of the input times the gain, and zone buses
take their zone gain. The fabric's own ramps of R214, R234 and R359 cover every output: in over its first tick, out over the
tick in which its domain enters a restart. DEDUCED (assumption 203). -/
def State.mixPhase (s : State) : State :=
  let k := s.k
  let thr := s.get Fld.FAB_CFG_ZC_THRESH
  let done := s.fab.conns.map fun c => (c, c.tick k thr (s.input c.inp) (s.lastSample c.inp))
  let sum := fun (o : Nat) => (List.range k).map fun j =>
    fdot ((done.filter (·.1.out = o)).map fun x => (samp (s.input x.1.inp) j, samp x.2.1 j))
  let zoned := fun (o : Nat) =>
    if o < 448 then sum o else (List.range k).map fun j => fmul (samp (sum o) j) ((s.zoneRamp (o - 448)).at j)
  let faded := fun (o : Nat) =>
    if s.fabLeaving then rampOut k (zoned o) else if s.fab.fade = 0 then zoned o else rampIn k (zoned o)
  let mix := (distinct (s.fab.conns.map Conn.out)).map fun o => (o, faded o)
  let conns := done.filterMap (·.2.2)
  let still := fun (i : Nat) => conns.any fun c => c.inp = i && c.closes
  { s with fab := { s.fab with
      mix := mix.filter (fun x => x.2.any (· ≠ 0)), conns := conns,
      zones := s.fab.zones.map (fun x => (x.1, x.2.step k)),
      leaving := s.fab.leaving.filter still,
      unfed := s.fab.unfed ++ s.fab.leaving.filter (fun i => !still i),
      fade := 0 } }

/-- A tick in which the fabric stands (R214, R234, R359): every output reads zero, the gate examines nothing, and an input that
waits for its connections to close is released. DEDUCED (assumption 203). -/
def State.mixSilent (s : State) : State :=
  let park := fun (c : Conn) => if c.st = .parking || c.st = .parkFading then { c with st := .parked } else c
  { s with fab := { s.fab with mix := [], conns := s.fab.conns.map park, leaving := [],
                               unfed := s.fab.unfed ++ s.fab.leaving, fade := 1 } }

/-- The Mix phase of a tick (R209, R214). -/
def State.mixTick (s : State) : State := if s.fabRuns then s.mixPhase else s.mixSilent

/-- Whether an event limited by output to once per 10 ms may be raised, and the list with this raise. -/
def limited (l : List (Nat × Nat)) (n now : Nat) : Bool := rateOk ((l.find? (·.1 = n)).map (·.2)) now
def noted (l : List (Nat × Nat)) (n now : Nat) : List (Nat × Nat) := (n, now) :: l.filter (·.1 ≠ n)

/-- Event 29 (ZC_TIMEOUT), at most once per 10 ms per output (R210, R211), with the connection and 0 for a timeout or 1 for
a forced release; an occurrence within the limit is logged alone. DEDUCED (assumption 49). -/
def State.gateEvent (s : State) (c : Conn) (forced : Nat) : State :=
  if limited s.fab.ev29 c.out s.time.now then
    ({ s with fab := { s.fab with ev29 := noted s.fab.ev29 c.out s.time.now } }).raise 29 0x20 [c.out, c.inp, forced]
  else s.note 0x20 [c.out, c.inp, forced]

/-- A connection at the end of its timeout (R210): a linear ramp of 1 ms. -/
def State.expired (s : State) (c : Conn) : Conn := match c.st with
  | .opening => { c with st := .open, ramp := s.ramp1ms 0 c.gain }
  | .closing => { c with st := .fading, ramp := s.ramp1ms c.ramp.value 0 }
  | .parking => { c with st := .parkFading, ramp := s.ramp1ms c.ramp.value 0 }
  | _ => c

/-- Whether a connection waits at the gate and has waited ZC_TIMEOUT. -/
def State.overdue (s : State) (c : Conn) : Bool :=
  (c.st = .opening || c.st = .closing || c.st = .parking) && c.age ≥ 8 * s.get Fld.FAB_CFG_ZC_TIMEOUT

/-- ZC_TIMEOUT (R210): the first connection of the pair that has waited its timeout. -/
def execZcTimeout (inp out : Fin 512) (s : State) : Host.Outcome State Fault Refusal :=
  s.run fun s => match s.fab.conns.find? (fun c => c.inp = inp.val && c.out = out.val && s.overdue c) with
    | none => s
    | some c =>
      let s1 := { s with fab := { s.fab with conns := s.fab.conns.map fun x => if x = c then s.expired c else x } }
      (s1.bump Fld.FAB_ZCCNT_TIMEOUTS 1).gateEvent c 0

/-! ### A brim's crosspoint changes -/

/-- The words of the crosspoint table (R207). -/
def xpKey (x : Nat) : Nat := indKey 0x20 (2 * x)

/-- The ACTIVE entries in order: number, input, output, and the second word. -/
def State.xpActive (s : State) : List (Nat × Nat × Nat × Word) :=
  s.regs.filterMap fun (a, w) =>
    if xpKey 0 ≤ a && a < xpKey 16384 && (a - xpKey 0) % 2 = 0 && w.getLsbD 31 then
      some ((a - xpKey 0) / 2, Word.field w 8 0, Word.field w 24 16, s.rd (a + 1))
    else none

/-- Whether a network input or output exists at the media rate (R175, R214). -/
def State.netExists (s : State) (n : Nat) : Bool := n ≥ 256 || n < 128 || !s.on Fld.FAB_CFG_RATE

/-- The entries that act as active (R208): not reading a reserved input, and the lowest-numbered of those that name their
pair. -/
def State.xpKept (s : State) : List (Nat × Nat × Nat × Word) :=
  (s.xpActive).foldl (fun a e =>
    if e.2.1 < 400 && s.netExists e.2.1 && s.netExists e.2.2.1 && !a.any (fun y => y.2.1 = e.2.1 && y.2.2.1 = e.2.2.1)
    then a ++ [e] else a) []

/-- The number of connections in the closing set (R210). -/
def State.closingCount (s : State) : Nat := s.fab.conns.countP fun c => c.st = .closing || c.st = .fading

/-- A connection of an entry whose gain may have changed, or that passes to another entry (R208, R209, R211). -/
def State.regain (s : State) (e : Nat × Nat × Nat × Word) (c : Conn) : Conn :=
  let code := Word.field e.2.2.2 15 0
  let ms := Word.field e.2.2.2 25 16
  if c.owner = some e.1 && c.code = code then c
  else { c with owner := some e.1, code := code, gain := gainLin code,
                ramp := if c.st = .open || c.st = .parking then s.rampFrom c.ramp (gainLin code) ms else c.ramp }

/-- A connection that no entry keeps any more is released (R210, R211): one that never opened, or is shut, goes; others
enter the closing set, or ramp to zero over 1 ms where the set is full. -/
def State.releaseConn (s : State) (c : Conn) : State :=
  let put := fun (t : State) (d : Conn) => { t with fab := { t.fab with conns := t.fab.conns ++ [d] } }
  if c.st = .opening || c.st = .parked then s
  else if s.closingCount ≥ 1024 then
    ((put s { c with owner := none, st := .forced, ramp := s.ramp1ms c.ramp.value 0 }).bump Fld.FAB_ZCCNT_FORCED 1).gateEvent c 1
  else if c.st = .parkFading then put s { c with owner := none, st := .fading }
  else put s { c with owner := none, st := .closing, age := 0 }

/-- An entry's pair without a connection of its own (R210, R211): a closing one is withdrawn and continues, or, on an input that
loses its feed, goes on closing as the entry's own (R212); any other opens through the gate. -/
def State.openConn (s : State) (e : Nat × Nat × Nat × Word) : State :=
  let code := Word.field e.2.2.2 15 0
  let ms := Word.field e.2.2.2 25 16
  let same := fun (c : Conn) => c.owner = none && c.inp = e.2.1 && c.out = e.2.2.1 && (c.st = .closing || c.st = .fading)
  match s.fab.conns.find? same with
  | some c =>
    let parks := s.fab.leaving.contains c.inp
    let st := if !parks then ConnSt.open else if c.st = .fading then .parkFading else .parking
    let d := { c with owner := some e.1, st := st, code := code, gain := gainLin code,
                      ramp := if st = .parkFading then c.ramp else s.rampFrom c.ramp (gainLin code) ms,
                      age := if parks then c.age else 0 }
    { s with fab := { s.fab with conns := (s.fab.conns.filter (fun x => !same x)) ++ [d] } }
  | none =>
    let d : Conn := { owner := some e.1, inp := e.2.1, out := e.2.2.1,
                      st := if s.fab.unfed.contains e.2.1 || s.fab.leaving.contains e.2.1 then .parked else .opening,
                      ramp := Ramp.const (gainLin code), gain := gainLin code, code := code, age := 0 }
    { s with fab := { s.fab with conns := s.fab.conns ++ [d] } }

/-- The crosspoint table as a brim applies it (R208 to R211): connections kept by an entry stay and take its gain, the
others are released, and new pairs open. Entries that act as inactive are logged where they did not before, or where
their words were applied. -/
def State.applyCrosspoints (s : State) (changed : List Nat) : State :=
  let kept := s.xpKept
  let mine := s.fab.conns.filter (·.owner.isSome)
  let rest := s.fab.conns.filter (·.owner.isNone)
  let entryOf := fun (c : Conn) => kept.find? fun e => e.2.1 = c.inp && e.2.2.1 = c.out
  let stay := mine.filterMap fun c => (entryOf c).map fun e => s.regain e c
  let go := mine.filter fun c => (entryOf c).isNone
  let s1 := go.foldl State.releaseConn { s with fab := { s.fab with conns := stay ++ rest } }
  let s2 := (kept.filter fun e => !mine.any fun c => c.inp = e.2.1 && c.out = e.2.2.1).foldl State.openConn s1
  let idle := s.xpActive.filter fun e => !kept.any (·.1 = e.1)
  let news := idle.filter fun e => changed.contains (xpKey e.1) || mine.any (·.owner = some e.1)
  news.foldl (fun t e => t.note 0x20 [e.1, e.2.1, e.2.2.1]) s2

/-- The state of an entry in the FAB indirect space (R215): 0 idle, 1 open, 2 opening, 3 inactive under R208. -/
def State.xpState (s : State) (x : Nat) : Nat :=
  if !(s.rd (xpKey x)).getLsbD 31 then 0
  else match s.fab.conns.find? (·.owner = some x) with
    | some c => if c.st = .opening then 2 else 1
    | none => 3

/-- Zone words as a brim applies them (R213): MUTE ramps the bus to zero, and 0 ramps it back. -/
def State.applyZones (s : State) (changed : List Nat) : State :=
  (List.range 64).foldl (fun t z =>
    let a := indKey 0x20 (0x8000 + z)
    if changed.contains a then
      let w := t.rd a
      let g := if w.getLsbD 31 then 0 else gainLin (Word.field w 15 0)
      if (t.zoneRamp z).g1 = g then t
      else { t with fab := { t.fab with zones :=
          (z, t.rampFrom (t.zoneRamp z) g (Word.field w 25 16)) :: t.fab.zones.filter (·.1 ≠ z) } }
    else t) s

/-! ### Feeds -/

/-- An input's feed is taken away (R212): its open connections close through the gate, and the input is released once
all that read it have closed, those that their entries have given up among them. -/
def State.unfeed (s : State) (i : Nat) : State :=
  if s.fab.leaving.contains i || s.fab.unfed.contains i then s
  else
    let conns := s.fab.conns.map fun c =>
      if c.inp = i && c.st = .open then { c with st := .parking, age := 0 }
      else if c.inp = i && c.st = .opening then { c with st := .parked } else c
    let waits := conns.any fun c => c.inp = i && c.closes
    { s with fab := { s.fab with conns := conns,
                                 leaving := if waits then i :: s.fab.leaving else s.fab.leaving,
                                 unfed := if waits then s.fab.unfed else i :: s.fab.unfed } }

/-- An input is fed again (R212): its closed connections rejoin at their gains. -/
def State.feed (s : State) (i : Nat) : State :=
  if s.fab.leaving.contains i || s.fab.unfed.contains i then
    { s with fab := { s.fab with
        leaving := s.fab.leaving.filter (· ≠ i), unfed := s.fab.unfed.filter (· ≠ i),
        conns := s.fab.conns.map fun c =>
          if c.inp = i && (c.st = .parking || c.st = .parkFading || c.st = .parked) && c.owner.isSome
          then { c with st := .open, ramp := Ramp.const c.gain } else c } }
  else s

/-- Whether an input has been released (R212). -/
def State.released (s : State) (i : Nat) : Bool := s.fab.unfed.contains i

end Sys2Proof.Machine
end

