-- ==== Sys2Proof/Machine/TimeBase.lean ====
section
/-! DEFINITION. Application control (R20, R25 to R33), reads of the counter (R40, R41) and the PTP servo's
measurements (R59 to R63, R85, R531). -/

namespace Sys2Proof.Machine

/-! ### Holding and arming shadow application -/

/-- The hold bit of an agent; only ports have one (R25, R462). -/
def holdField : Who → Option Fld
  | .portA => some Fld.TOP_APPLY_CTRL_HOLD_A
  | .portB => some Fld.TOP_APPLY_CTRL_HOLD_B
  | .mgmt => none
  | .order => none

/-- Whether any port's hold stands (R27, R31). -/
def State.held (s : State) : Bool := s.on Fld.TOP_APPLY_CTRL_HOLD_A || s.on Fld.TOP_APPLY_CTRL_HOLD_B

/-- The hold-limit timer starts when a hold bit sets while none was set, and stops when both are clear (R32). -/
def State.retimeHold (s : State) : State :=
  { s with time := { s.time with holdSince :=
      if s.held then (match s.time.holdSince with
        | some t => some t
        | none => some s.time.now)
      else none } }

/-- A port's hold bit written (R25). -/
def State.setHold (s : State) (g : Who) (b : Bool) : State := match holdField g with
  | some f => (s.flag f b).retimeHold
  | none => s

/-- The release by HOLD_LIMIT (R32): both hold bits clear, HOLD_EXPIRED sets, event 53. -/
def State.expireHolds (s : State) : State :=
  ((((s.flag Fld.TOP_APPLY_CTRL_HOLD_A false).flag Fld.TOP_APPLY_CTRL_HOLD_B false).retimeHold).flag
    Fld.TOP_APPLY_STATUS_HOLD_EXPIRED true).raise 53 0 []

/-- Whether a standing hold has lasted HOLD_LIMIT (R32); 0 is no limit. DESIGN CHOICE (assumption 4). -/
def State.holdOver (s : State) : Bool := match s.time.holdSince with
  | some t => s.get Fld.TOP_APPLY_CTRL_HOLD_LIMIT ≠ 0
      && s.time.now ≥ t + s.get Fld.TOP_APPLY_CTRL_HOLD_LIMIT * 1000000
  | none => false

/-- HOLD_LIMIT written: a standing hold that has already lasted that long is released at once (R32). -/
def State.writeHoldLimit (s : State) (v : Nat) : State :=
  let s1 := s.put Fld.TOP_APPLY_CTRL_HOLD_LIMIT v
  if s1.holdOver then s1.expireHolds else s1

/-- Whether the brim of tick `b` has begun or passed (R29). -/
def State.brimMissed (s : State) (b : Nat) : Bool :=
  let d := (b + 2 ^ 32 - s.time.tick.toNat) % 2 ^ 32
  d ≥ 2 ^ 31 || (d = 0 && s.time.brim)

/-- ARM written (R29, R30): an armed application stands, and the write is logged; otherwise a missed brim sets MISSED
and any other brim arms. -/
def State.writeArm (s : State) (g : Who) : State :=
  if s.on Fld.TOP_APPLY_STATUS_ARMED then s.command g 0x40 2
  else if s.brimMissed (s.get Fld.TOP_APPLY_TICK_BRIM_TICK) then s.flag Fld.TOP_APPLY_STATUS_MISSED true
  else s.flag Fld.TOP_APPLY_STATUS_ARMED true

/-- DISARM written (R25). -/
def State.writeDisarm (s : State) : State := s.flag Fld.TOP_APPLY_STATUS_ARMED false

/-- TOP_APPLY_TICK written (R26): refused while ARMED. -/
def State.writeApplyTick (s : State) (g : Who) (v : Nat) : State :=
  if s.on Fld.TOP_APPLY_STATUS_ARMED then s.refuseReg g 0x44 v 19 .rw
  else s.put Fld.TOP_APPLY_TICK_BRIM_TICK v

/-- A word written to TOP_APPLY_CTRL (R25): HOLD_LIMIT, HOLD, and one of DISARM and ARM, DISARM before ARM. -/
def State.writeApplyCtrl (s : State) (g : Who) (w : Word) : State :=
  let s1 := (s.setHold g (Word.field w 0 0 = 1)).writeHoldLimit (Word.field w 31 24)
  if Word.field w 2 2 = 1 then s1.writeDisarm
  else if Word.field w 1 1 = 1 then s1.writeArm g
  else s1

/-- SCHED_LOST (R20): sixteen consecutive misses set the flag, which is logged. -/
def execSchedLost (s : State) : Host.Outcome State Fault Refusal :=
  s.runF fun s => s.when (s.time.misses ≥ 16 && !s.on Fld.CROWN_STATUS_SCHED_LOST) fun s =>
    (s.flag Fld.CROWN_STATUS_SCHED_LOST true).logNote codeState 0x38 originCrown [1]

/-- APPLY_HOLD (R25). -/
def execApplyHold (g : Agent) (hold : Bool) (s : State) : Host.Outcome State Fault Refusal :=
  s.run fun s => s.setHold g.who hold

/-- APPLY_HOLD_LIMIT (R32). -/
def execApplyHoldLimit (_ : Agent) (limit : BitVec 8) (s : State) : Host.Outcome State Fault Refusal :=
  s.run fun s => s.writeHoldLimit limit.toNat

/-- APPLY_ARM (R29). -/
def execApplyArm (g : Agent) (s : State) : Host.Outcome State Fault Refusal := s.run fun s => s.writeArm g.who

/-- APPLY_DISARM (R25). -/
def execApplyDisarm (_ : Agent) (s : State) : Host.Outcome State Fault Refusal := s.run State.writeDisarm

/-- APPLY_TICK_WRITE (R26). -/
def execApplyTickWrite (g : Agent) (tick : Word) (s : State) : Host.Outcome State Fault Refusal :=
  s.run fun s => s.writeApplyTick g.who tick.toNat

/-- HOLD_LIMIT_EXPIRE (R32): the timer reaches HOLD_LIMIT while a hold stands; with HOLD_LIMIT 0 there is no limit. -/
def execHoldLimitExpire (s : State) : Host.Outcome State Fault Refusal :=
  s.run fun s => s.when (s.held && s.holdOver) State.expireHolds

/-! ### Reading the counter -/

/-- The read completion of an agent. -/
def State.answer (s : State) (g : Who) (w : Word) : State := { s with resp := s.resp.set g.num w }

/-- A read of TIME_SYS_LO (R40, R41): the low count is returned, and the fraction, in 250 ps units, is captured for the
reading port alone. -/
def State.readSysLo (s : State) (g : Who) : State :=
  (s.put (Fld.TIME_SYS_FRAC_QNS g.num) (s.time.frac.toNat / 16384)).answer g (s.time.counter.truncate 32)

/-- TIME_SYS_LO_READ (R41). -/
def execTimeSysLoRead (g : Agent) (s : State) : Host.Outcome State Fault Refusal := s.run fun s => s.readSysLo g.who

/-! ### References -/

def State.refOne (s : State) (n : Nat) : RefOne := s.refs.refs.getD n RefOne.reset

def State.setRef (s : State) (n : Nat) (r : RefOne) : State :=
  { s with refs := { s.refs with refs := s.refs.refs.set n r } }

/-- A condition of R74 fails: the qualification window of a reference restarts, and does not run while the condition lasts. -/
def State.failWindow (s : State) (n : Nat) : State :=
  (s.setRef n { s.refOne n with winAt := s.time.now }).flag (Fld.REFS_ST_QUALIFYING n) false

/-! ### The servo -/

/-- The SERVO codes of R531. -/
def servoDisabled : Nat := 0
def servoMeasuring : Nat := 1
def servoStepPending : Nat := 2
def servoStepDeferred : Nat := 3
def servoTracking : Nat := 4
def servoMaster : Nat := 5

/-- Whether the stack runs (R57, R58): EN is 1, and the written combination is valid or one has been applied before. -/
def State.ptpRuns (s : State) : Bool :=
  s.on Fld.TIME_PTP_CFG_EN && (!s.on Fld.TIME_PTP_STATUS_CFG_INVALID || s.time.validRole.isSome)

/-- The topology, role and profile that the stack runs on (R58): the last valid combination applied, and before any the one that
stands in the registers. -/
def State.ptpCombo (s : State) : Nat × Nat × Nat :=
  s.time.validRole.getD (s.get Fld.RSW_CFG_TOPO, s.get Fld.TIME_PTP_CFG_ROLE, s.get Fld.TIME_PTP_CFG_PROFILE)

/-- Whether the servo may apply steps and offsets (R85): REF0 is active, or the selector is in FREE_RUN. -/
def State.servoMay (s : State) : Bool :=
  s.get Fld.REFS_SEL_STATUS_STATE = 0
    || (s.on Fld.REFS_SEL_STATUS_ACT_VALID && s.get Fld.REFS_SEL_STATUS_ACTIVE = 0)

/-- Whether the step mode allows a step (R60): 0 before the first TRACKING since reset, 1 always, 2 and 3 never. -/
def State.stepAllowed (s : State) : Bool := match s.get Fld.TIME_STEP_CFG_MODE with
  | 0 => !s.time.tracked
  | 1 => true
  | _ => false

/-- The state of the servo by the conditions of R531; `confirm` counts the offsets at or beyond the threshold that came in a row,
up to the last one. -/
def State.servoState (s : State) : Nat :=
  if !s.ptpRuns then servoDisabled
  else if s.get Fld.TIME_PTP_STATUS_SERVO = servoMaster && s.on Fld.TIME_PTP_STATUS_GM_PRESENT then servoMaster
  else if !s.on Fld.TIME_PTP_STATUS_GM_PRESENT || !s.servoMay || !s.time.measured then servoMeasuring
  else if s.time.deferred && s.inAlarm then servoStepDeferred
  else if s.time.confirm ≠ 0 && s.stepAllowed then servoStepPending
  else servoTracking

/-- Whether a state of the servo keeps REF0 from qualifying (R74). -/
def servoBars (st : Nat) : Bool := st = servoDisabled || st = servoStepPending

/-- SERVO set (R531); a state that bars REF0 fails its window for as long as it lasts (R74). -/
def State.servoPut (s : State) (st : Nat) : State :=
  let s1 := s.put Fld.TIME_PTP_STATUS_SERVO st
  if servoBars st || servoBars (s.get Fld.TIME_PTP_STATUS_SERVO) then s1.failWindow 0 else s1

/-- SERVO brought to its state (R531); an entry to TRACKING is kept for MODE 0 (R60). -/
def State.servoShow (s : State) : State :=
  let st := s.servoState
  let s1 := if st = servoTracking then { s with time := { s.time with tracked := true } } else s
  s1.servoPut st

/-- Whether an offset lies at or beyond the threshold (R60). -/
def State.offsetFar (s : State) (offset : Int) : Bool := offset.natAbs ≥ s.get Fld.TIME_STEP_THRESH_THRESH_NS

/-- The step condition of R60 tested with `n` offsets in a row at or beyond the threshold: with CONFIRM of them, where a step may be
applied, a step by minus the last offset falls due, in ALARM for later (R63). -/
def State.servoTest (s : State) (n : Nat) : State :=
  let due := s.servoMay && s.stepAllowed && n ≥ max 1 (s.get Fld.TIME_STEP_CFG_CONFIRM)
  { s with time := { s.time with confirm := n, deferred := s.time.deferred || (due && s.inAlarm),
                                 stepDelta := if due && !s.inAlarm then some (-s.time.offset) else none } }.servoShow

/-- The servo's judgement of an offset (R60, R63, R531): the offsets at or beyond the threshold are counted while they come in
a row. DEDUCED (assumptions 13, 14, 204). -/
def State.servoJudge (s : State) (offset : Int) : State :=
  { s with time := { s.time with offset := offset, offsetAt := s.time.now } }.servoTest
    (if s.offsetFar offset then s.time.confirm + 1 else 0)

/-- TIME_STEP_CFG or TIME_STEP_THRESH takes effect (R60, R531): the last offset is held against the new threshold, and the step
condition is tested under the new settings. DEDUCED (assumption 231). -/
def State.servoSettings (s : State) : State :=
  if s.ptpRuns && s.on Fld.TIME_PTP_STATUS_GM_PRESENT && s.time.measured then
    s.servoTest (if s.offsetFar s.time.offset then max 1 s.time.confirm else 0)
  else s

/-- A change of the selector (R85, R531): no step that R85 no longer allows stays due, and SERVO follows. -/
def State.servoWatch (s : State) : State :=
  (if s.servoMay then s else { s with time := { s.time with stepDelta := none } }).servoShow

/-- ALARM ends (R63, R531): a deferred step is tested afresh at the next measurement. -/
def State.servoRelease (s : State) : State := { s with time := { s.time with deferred := false } }.servoShow

/-- The phase absorbed as REF0 becomes active, handed to the servo as an offset (R85): it is judged like a measured one, and a
step is due where it reaches the threshold; otherwise the loop slews it out. The spec gives the phase no sign that relates it to the
offset of R59: it is handed on as it stands, so that a step is minus that phase. DESIGN CHOICE (assumption 232), DEDUCED (assumption 204). -/
def State.servoHand (s : State) (ps : Int) : State :=
  let s1 := { s with time := { s.time with handed := ps } }
  if s1.ptpRuns && s1.on Fld.TIME_PTP_STATUS_GM_PRESENT && s1.time.measured then s1.servoJudge (ps / 1000) else s1

/-- What a step must add to minus the measured offset to carry it forward to the boundary at which it is applied (R60): since
the measurement the counter has gained on the master by the difference of their frequencies against the oscillator, the
counter's by SYN1's steering word and the master's by REF0's Y1, which is 0 before a first second. DEDUCED (assumption 13). -/
def State.stepCarry (s : State) : Int :=
  let word := if s.time.onSyn1 then s.syn.word.getD 1 0 else 0
  let t := (s.time.now - s.time.offsetAt) + (s.time.tickStart.toNat + s.time.tickLen - s.time.counter.toNat)
  0 - ((word - s.getS (Fld.REFS_Y1_Y1 0)) * t / 10000000000)

/-- Whether the ordinary clock stands on the local port (R56): in HSR, and in bridging in the transparent clock's role. -/
def State.localClock (s : State) : Bool :=
  s.ptpCombo.1 = 0 || (s.ptpCombo.1 = 2 && s.ptpCombo.2.1 = 3 && s.ptpCombo.2.2 = 0)

/-- The portState of the clock that sends and hears on port `p` (R56, R59): the local port's where the ordinary clock stands there. -/
def State.pstate (s : State) (p : Port) : Fld :=
  if s.localClock then Fld.TIME_PTP_STATUS_PSTATE_L else match p with
    | .a => Fld.TIME_PTP_STATUS_PSTATE_A
    | .b => Fld.TIME_PTP_STATUS_PSTATE_B

/-- A portState that is one of a list becomes another. -/
def State.moveState (s : State) (old : List Nat) (new : Nat) (f : Fld) : State := if old.contains (s.get f) then s.put f new else s

/-- The three portStates of R59. -/
def pstates : List Fld := [Fld.TIME_PTP_STATUS_PSTATE_A, Fld.TIME_PTP_STATUS_PSTATE_B, Fld.TIME_PTP_STATUS_PSTATE_L]

/-- A measurement shown in the registers of R59, with a grandmaster selected. DEDUCED (assumption 15). -/
def State.showMeasurement (s : State) (m : PtpMeas) : State :=
  let s1 := (((s.putS Fld.TIME_PTP_OFFSET_OFFSET_NS m.offset).put Fld.TIME_PTP_MPD_MPD_NS
    (if m.mpd ≥ 2 ^ 32 then 2 ^ 32 - 1 else m.mpd)).flag Fld.TIME_PTP_STATUS_GM_PRESENT true)
  ((s1.put Fld.TIME_PTP_STATUS_PSTATE_A m.stateA.toNat).put Fld.TIME_PTP_STATUS_PSTATE_B
    m.stateB.toNat).put Fld.TIME_PTP_STATUS_PSTATE_L m.stateL.toNat

/-- Whether the stack uses a measurement (R39, R56): the timestamp units run, and in PRP it came by the better of the two slave
ports. -/
def State.usesMeasurement (s : State) (m : PtpMeas) : Bool :=
  s.ptpRuns && s.enabled 0x08 && (s.ptpCombo.1 ≠ 1 || m.port = m.best)

/-- GRANDMASTER_LOSS (R531): GM_PRESENT clears and the servo measures afresh; a port that was UNCALIBRATED (8) or SLAVE (9) of it is
LISTENING (4), as IEEE 1588 has it. PRESUMED (assumption 233). -/
def execGrandmasterLoss (s : State) : Host.Outcome State Fault Refusal :=
  s.run fun s => s.when (s.ptpRuns && s.on Fld.TIME_PTP_STATUS_GM_PRESENT) fun s =>
    pstates.foldl (State.moveState · [8, 9] 4)
      ((({ s with time := { s.time with confirm := 0, stepDelta := none, measured := false } }).flag
        Fld.TIME_PTP_STATUS_GM_PRESENT false).servoPut servoMeasuring)

/-- Whether the topology, role and profile are a combination of R56: HSR carries the AES67 profile as a transparent
clock; PRP an ordinary clock under either profile; bridging a boundary or transparent clock under AES67 and the
time-aware relay, its one role, under 802.1AS. AUTO is the first role of each cell. DEDUCED (assumption 16). -/
def ptpCombination (topo role profile : Nat) : Bool :=
  if topo = 0 then profile = 0 && (role = 0 || role = 3)
  else if topo = 1 then role = 0 || role = 1
  else if topo = 2 then (if profile = 0 then role = 0 || role = 2 || role = 3 else role = 0)
  else false

/-- SERVO where the stack runs or stops (R531): DISABLED while it does not run, and MEASURING as it starts. Ports A and B are then
DISABLED (portState 3 of IEEE 1588, R58), with EN = 0 the local port too, and all are INITIALIZING (1) as the stack starts. PRESUMED
(assumption 233). -/
def State.servoStands (s : State) : State :=
  if !s.ptpRuns then
    let s1 := (({ s with time := { s.time with confirm := 0, stepDelta := none, measured := false } }).servoPut
      servoDisabled).flag Fld.TIME_PTP_STATUS_GM_PRESENT false
    let s2 := (s1.put Fld.TIME_PTP_STATUS_PSTATE_A 3).put Fld.TIME_PTP_STATUS_PSTATE_B 3
    if s.on Fld.TIME_PTP_CFG_EN then s2 else s2.put Fld.TIME_PTP_STATUS_PSTATE_L 3
  else if s.get Fld.TIME_PTP_STATUS_SERVO = servoDisabled then
    pstates.foldl (fun t f => t.put f 1) (s.servoPut servoMeasuring)
  else s

/-- The check of R58, at the brim that changes TIME_PTP_CFG or TIME_PTP_PRIO and when the topology changes: an invalid
combination leaves the stack on the last valid one and sets CFG_INVALID; with none applied yet the stack does not run and holds ports
A and B DISABLED. Either case is logged. -/
def State.checkPtp (s : State) : State :=
  let topo := s.get Fld.RSW_CFG_TOPO
  let role := s.get Fld.TIME_PTP_CFG_ROLE
  let prof := s.get Fld.TIME_PTP_CFG_PROFILE
  let s1 :=
    if ptpCombination topo role prof then
      ({ s with time := { s.time with validRole := some (topo, role, prof) } }).flag Fld.TIME_PTP_STATUS_CFG_INVALID false
    else (s.flag Fld.TIME_PTP_STATUS_CFG_INVALID true).note 0x08 [role, prof, topo]
  s1.servoStands

end Sys2Proof.Machine
end

