-- ==== Sys2Proof/Machine/Graph.lean ====
section
/-! DEFINITION. The processing graph: images and their admission (R216 to R220), dispatch and overrun (R222 to R225), the
block types (R218, R226 to R229), coefficient banks and swaps (R219, R230 to R235). -/

namespace Sys2Proof.Machine

/-! ### Images and admission -/

/-- Parameter word `i` of a block. -/
def par (p : List Word) (i : Nat) : Word := p.getD i 0

/-- The sections of a BIQUAD and the taps of a FIR, by their first parameter word (R218). -/
def biquadS (w : Word) : Nat := Word.field w 3 0 + 1
def firN (w : Word) : Nat := clampTo 1 256 (Word.field w 8 0)

/-- The words of a parameter block (R218). -/
def blockSize (ty : Nat) (w : Word) : Nat := match ty with
  | 0 => 2
  | 1 => 1 + 5 * biquadS w
  | 2 => 1 + firN w
  | 3 => 1
  | 4 => 6
  | 5 => 6
  | 6 => 10
  | 7 => 1
  | 8 => 3
  | _ => 16

/-- The most input pins of a type (R216). -/
def maxPins (ty : Nat) : Nat := if ty = 9 then 16 else if ty = 5 || ty = 6 then 2 else if ty = 8 then 0 else 1

/-- The cycles of an instance per tick (R218), by the rate of the image. -/
def instCost (rate : Nat) (i : GInst) (w : Word) : Nat :=
  let hi := rate = 1
  match i.ty with
  | 0 => if hi then 60 else 48
  | 1 => 40 + (if hi then 48 else 24) * biquadS w
  | 2 => 48 + (if hi then 24 else 12) * ((firN w + 15) / 16)
  | 3 => if hi then 84 else 72
  | 4 => if hi then 240 else 180
  | 5 => if hi then 172 else 136
  | 6 => if hi then 296 else 248
  | 7 => if hi then 96 else 78
  | 8 => if hi then 98 else 74
  | _ => 30 + (if hi then 12 else 6) * i.pins.length

/-- What an input pin reads (R216). -/
inductive Pin where
  | zero
  | fabric (o : Nat)
  | inst (i : Nat)
  | bad
deriving DecidableEq, Repr

def pinOf (n : Nat) : Pin := match n / 2 ^ 14 % 4 with
  | 0 => .zero
  | 1 => .fabric (n % 512)
  | 2 => .inst (n % 2048)
  | _ => .bad

/-- The sink an output binding writes, where it writes one (R216). -/
def bindOf (n : Nat) : Option Nat := if n / 2 ^ 15 % 2 = 1 then some (n % 512) else none

/-- An instance's first parameter word in an image. -/
def gFirst (g : GImage) (i : GInst) : Word := g.params.getD i.base 0

/-- Whether an instance is well formed (R216, R218, code 10 of R231). -/
def gInstOk (g : GImage) (i : GInst) : Bool :=
  i.ty ≤ 9 && i.pins.length ≤ maxPins i.ty && i.size = blockSize i.ty (gFirst g i) && i.base + i.size ≤ g.params.length
    && i.job < g.jobs.length
    && (i.pins.all fun n => match pinOf n with
        | .bad => false
        | .inst j => j < g.insts.length
        | _ => true)
    && (match bindOf i.bind with
        | some x => x ≤ 335
        | none => true)

/-- Whether an image is well formed (R220). -/
def gWellFormed (g : GImage) : Bool := g.header && g.jobs.all (·.core ≤ 3) && g.insts.all (gInstOk g)

/-- The instances of an image that an instance reads. -/
def readsOf (i : GInst) : List Nat := i.pins.filterMap fun n => match pinOf n with
  | .inst j => some j
  | _ => none

/-- The job of an instance by its number. -/
def gJobOf (g : GImage) (j : Nat) : Nat := ((g.insts[j]?).map GInst.job).getD 0

/-- Whether a job is alarm-tagged. -/
def gAlarmJob (g : GImage) (j : Nat) : Bool := ((g.jobs[j]?).map GJob.alarm).getD false

/-- The order rules of R217. -/
def gOrderOk (g : GImage) : Bool :=
  ((List.range g.insts.length).all fun n => match g.insts[n]? with
    | none => true
    | some i => (readsOf i).all fun m =>
        (if gJobOf g m = i.job then m < n else gJobOf g m < i.job) && (!gAlarmJob g i.job || gAlarmJob g (gJobOf g m)))
  && ((List.range g.jobs.length).all fun a => (List.range a).all fun b => match g.jobs[a]?, g.jobs[b]? with
    | some x, some y => !(x.alarm && !y.alarm && x.core = y.core)
    | _, _ => true)
  && (let sinks := g.insts.filterMap fun i => bindOf i.bind
      (distinct sinks).length = sinks.length)

/-- The counted cycles of a job (R220): its instances and 64 more, by 3 ÷ 2 where it is alarm-tagged, rounded up. -/
def gJobCost (g : GImage) (j : Nat) : Nat :=
  let c := (g.insts.filter (·.job = j)).foldl (fun a i => a + instCost g.rate i (gFirst g i)) 64
  if gAlarmJob g j then (c * 3 + 1) / 2 else c

/-- The jobs whose outputs a job reads. -/
def gProducers (g : GImage) (j : Nat) : List Nat :=
  distinct (((g.insts.filter (·.job = j)).flatMap readsOf).map (gJobOf g) |>.filter (· ≠ j))

/-- The finish times of the jobs in image order (R220): the cores' free cycles and the finishes so far. -/
def gFinishes (g : GImage) : List Nat :=
  ((List.range g.jobs.length).foldl (fun (a : List Nat × List Nat) j =>
    let core := ((g.jobs[j]?).map GJob.core).getD 0
    let start := ((gProducers g j).map fun p => a.2.getD p 0).foldl max (a.1.getD core 0)
    let f := start + gJobCost g j
    (a.1.set core f, a.2 ++ [f])) ([0, 0, 0, 0], [])).2

/-- The admission check (R220), answering the code of R231. -/
def State.admission (s : State) (g : GImage) : Nat :=
  let limit := 84562 * s.get Fld.DSP_CFG_ADMIT_PCT / 100
  if !gWellFormed g then 10
  else if g.rate ≠ s.get Fld.FAB_CFG_RATE then 8
  else if g.insts.length > 2048 || g.jobs.length > 256 then 4
  else if (g.insts.countP (·.ty = 3)) > 16 then 5
  else if g.params.length > 131072 then 6
  else if !gOrderOk g then 7
  else if (gFinishes g).any (· > limit) then 3
  else 1

/-! ### Banks -/

def State.actBank (s : State) : Option GBank := if s.on Fld.DSP_STATUS_ACT_BANK then s.dsp.bank1 else s.dsp.bank0
def State.idleBank (s : State) : Option GBank := if s.on Fld.DSP_STATUS_ACT_BANK then s.dsp.bank0 else s.dsp.bank1

def State.setActBank (s : State) (b : Option GBank) : State :=
  if s.on Fld.DSP_STATUS_ACT_BANK then { s with dsp := { s.dsp with bank1 := b } } else { s with dsp := { s.dsp with bank0 := b } }
def State.setIdleBank (s : State) (b : Option GBank) : State :=
  if s.on Fld.DSP_STATUS_ACT_BANK then { s with dsp := { s.dsp with bank0 := b } } else { s with dsp := { s.dsp with bank1 := b } }

/-- The active image. -/
def State.image (s : State) : Option GImage := s.actBank.map GBank.img

def InstSt.zero : InstSt := { hist := [], nums := [], outp := [] }
def JobSt.fresh : JobSt := { disabled := false, consec := 0, cross := false, rampIn := false, ran := false }

/-- The graph from zero state, ramping in where asked (R224, R234); a disabled job stays so (R224). -/
def State.zeroGraph (s : State) (ramp : Bool) : State :=
  let n := ((s.image.map fun g => g.insts.length)).getD 0
  { s with dsp := { s.dsp with
      insts := List.replicate n InstSt.zero, before := List.replicate n InstSt.zero,
      jobs := s.dsp.jobs.map fun x => { x with cross := false, rampIn := ramp, ran := false }, sinkFade := [] } }

/-- Whether the graph runs (R234, R235): the mode, the DSP's EN, and a FAB domain that is not in reset (R359). -/
def State.graphRuns (s : State) : Bool := s.audioOn && s.enabled 0x21 && s.plat.phase.getD 3 0 ≤ 2

/-- A verified graph image placed in the idle bank and checked (R231): the code of LOAD_RESULT. A load while a swap is
armed is refused and changes nothing else. The bank keeps the octets that carry the image's signature. Every result but 1 is logged. -/
def State.loadGraph (s : State) (g : GImage) (octets : List Nat) (verified : Bool) : State × Nat :=
  if s.on Fld.DSP_STATUS_GRAPH_ARMED then ((s.put Fld.DSP_STATUS_LOAD_RESULT 9).note 0x21 [9], 9)
  else
    let s1 := s.flag Fld.DSP_STATUS_IDLE_VALID false
    let r := if !g.header then 10 else if !verified then 2 else s1.admission g
    let s2 := s1.put Fld.DSP_STATUS_LOAD_RESULT r
    if r = 1 then
      ((s2.setIdleBank (some { img := g, act := g.params, idle := g.params, dirty := [], octets := octets })).flag Fld.DSP_STATUS_IDLE_VALID true, 1)
    else (s2.note 0x21 [r], r)

/-! ### The blocks -/

/-- One BIQUAD section (R218): coefficients b0, b1, b2, a1, a2 and past x1, x2, y1, y2. -/
def biquadSection (c h : List Word) (x : Word) : Word × List Word :=
  let y := fdot [(par c 0, x), (par c 1, par h 0), (par c 2, par h 1), (fneg (par c 3), par h 2), (fneg (par c 4), par h 3)]
  (y, [x, par h 0, y, par h 2])

/-- One sample through a cascade of sections. -/
def biquadSample : Nat → List Word → List Word → Word → Word × List Word
  | 0, _, _, x => (x, [])
  | n + 1, c, h, x =>
    let r := biquadSection (c.take 5) (h.take 4) x
    let q := biquadSample n (c.drop 5) (h.drop 4) r.1
    (q.1, r.2 ++ q.2)

/-- A tick of samples through a function of one sample and what is kept. -/
def overTick {α : Type} (f : α → Word → Word × α) : α → List Word → List Word × α
  | h, [] => ([], h)
  | h, x :: l =>
    let r := f h x
    let q := overTick f r.2 l
    (r.1 :: q.1, q.2)

/-- The amplitude of a gain in dB: 0 dB is 1. -/
def dbAmp (w : Word) : Word := if fval w = 0 then fOne else dbLin w

/-- GAIN's amplitude (R218): 0 dB is 1, below −120 dB mutes, above +24 dB acts as +24 dB; a NaN stays one, and its output is
replaced by 0 (R219). -/
def gainDb (w : Word) : Word :=
  if fNan w then w else if fval w < -120 * fUnit then 0 else if fval w = 0 then fOne
  else dbLin (if fval w > 24 * fUnit then 0x41C00000 else w)

/-- GAIN: the samples times a gain that ramps to a new parameter over RAMP_MS (R209, R218). -/
def gainBlock (k ms : Nat) (p : List Word) (x : InstSt) (xs : List Word) : InstSt :=
  let g := gainDb (par p 0)
  let r0 : Ramp := if x.hist = [] then Ramp.const g
    else { g0 := par x.hist 0, g1 := par x.hist 1, i := (x.nums.getD 0 0).toNat, n := (x.nums.getD 1 0).toNat }
  let t := min 1000 (Word.field (par p 1) 9 0)
  let r := if x.hist = [] || par x.hist 2 = par p 0 then r0
    else { g0 := r0.value, g1 := g, i := 0, n := if t = 0 then k else t * ms }
  let e := r.step k
  { hist := [e.g0, e.g1, par p 0], nums := [e.i, e.n], outp := (List.range k).map fun j => fmul (samp xs j) (r.at j) }

/-- FIR: one sample from the taps and the samples before it. -/
def firSample (n : Nat) (p : List Word) (h : List Word) (x : Word) : Word × List Word :=
  (fdot ((p.drop 1).take n |>.zip (x :: h)), (x :: h).take (n - 1))

/-- DELAY (R218): read points old and new, with a crossfade of 1 ms between them. -/
def delayBlock (k ms rate : Nat) (p : List Word) (x : InstSt) (xs : List Word) : InstSt :=
  let d := min (if rate = 1 then 96000 else 48000) (Word.field (par p 0) 16 0)
  let new := if x.nums = [] then d else (x.nums.getD 1 0).toNat
  let old := if x.nums = [] then d else (x.nums.getD 0 0).toNat
  let pos := if x.nums = [] then ms else (x.nums.getD 2 0).toNat
  let o := if d = new then old else new
  let i0 := if d = new then pos else 0
  let line := fun (j : Nat) => ((xs.take (j + 1)).reverse ++ x.hist)
  { hist := ((padTo k xs).reverse ++ x.hist).take 96012,
    nums := [if i0 + k ≥ ms then d else o, d, i0 + k],
    outp := (List.range k).map fun j =>
      if i0 + j ≥ ms then samp (line j) d else flerp (samp (line j) o) (samp (line j) d) (i0 + j) ms }

/-- The largest magnitude, and the sum of squares in units of 2^-298, of a tick. -/
def peakOf (l : List Word) : Nat := l.foldl (fun a w => max a (fMag w)) 0
def powerOf (l : List Word) : Nat := l.foldl (fun a w => a + fMag w * fMag w) 0

/-- The entries of a list of numbers at even and at odd places. -/
def evens : List Int → List Nat
  | a :: _ :: l => a.toNat :: evens l
  | _ => []
def odds : List Int → List Nat
  | _ :: b :: l => b.toNat :: odds l
  | _ => []

/-- METER (R218, R229): the window's peaks and powers, tick by tick, newest first; the input passes through. DEDUCED (assumption 45). -/
def meterBlock (k : Nat) (p : List Word) (x : InstSt) (xs : List Word) : InstSt :=
  let w := 8 * clampTo 10 10000 (Word.field (par p 0) 13 0)
  { hist := [], nums := ([(peakOf xs : Int), (powerOf xs : Int)] ++ x.nums).take (2 * w), outp := padTo k xs }

/-- The cycles that a frequency in single precision has run through `n` samples after a tone's start. -/
def toneCycles (f : Word) (rate n : Nat) : Rat := mkRat (fval f * n) (2 ^ 149 * (if rate = 1 then 96000 else 48000))

/-- TONE (R218): it starts and stops at phase zero, which it stops at with the first sample that has reached a whole cycle since EN was 0.
DEDUCED (assumption 220). -/
def toneSample (p : List Word) (rate : Nat) (st : List Int) : Word × List Int :=
  let f := fclamp 0x41A00000 (if rate = 1 then 0x471C4000 else 0x469C4000) (par p 0)
  let n := (st.getD 0 0).toNat
  let runs := st.getD 1 0 = 1
  let en := (par p 2).getLsbD 0
  let whole := n = 0 || (toneCycles f rate n).floor > (toneCycles f rate (n - 1)).floor
  let on := if runs then en || !whole else en
  let m := if runs then n else 0
  if on then (fmul (dbAmp (par p 1)) (sineOf (toneCycles f rate m)), [(m + 1 : Nat), 1]) else (0, [0, 0])

/-- The gain of ANS in force, its noise estimate, whether one exists, whether the microphone has failed, when the last valid
window ended, the window's powers and samples, and which of its conditions have been reported (R227, R228). DEDUCED (assumption 46). -/
def ansFresh (now : Nat) : List Int := [0, 0, 0, 0, now, 0, 0, 0, 0]

/-- A value of an instance's numbers as a sample word. -/
def numW (l : List Int) (i : Nat) : Word := fround (l.getD i 0) 1

/-- The amplitude of ANS at sample `j` of a tick that takes its gain from `a` to `b` dB (R227): a gain that stands is its own
amplitude, and one that moves passes without a step to the new gain's. DESIGN CHOICE (assumption 229). -/
def ansAmp (k : Nat) (a b : Word) (j : Nat) : Word :=
  if a = b || j + 1 ≥ k then dbAmp b
  else if fval a < fval b then fclamp (dbAmp a) (dbAmp b) (Config.ansGain a b j)
  else fclamp (dbAmp b) (dbAmp a) (Config.ansGain a b j)

/-- The length in samples of an ANS window (R227): WIN_S seconds. -/
def State.ansWindow (s : State) (p : List Word) : Nat := clampTo 1 60 (Word.field (par p 7) 7 0) * (1000 * s.msSamples)

/-- ANS in one tick (R227): the gain moves toward its target at most by UP or DOWN, and is never below 0 dB in ALARM but for
its rise. DEDUCED (assumption 46). -/
def ansBlock (k now : Nat) (alarm : Bool) (p : List Word) (x : InstSt) (prog mic : List Word) : InstSt :=
  let n := if x.nums = [] then ansFresh now else x.nums
  let g := n.getD 0 0
  let stale := (now : Int) - n.getD 4 0 > (clampTo 10 3600 (Word.field (par p 8) 11 0) * 1000000000 : Nat)
  let lo := fval (fclamp 0xC1A00000 0 (par p 2))
  let hi := fval (fclamp 0 0x41A00000 (par p 3))
  let slope := fval (fclamp 0 0x40000000 (par p 1))
  let want := slope * (n.getD 1 0 - fval (fclamp 0xC2C80000 0 (par p 0))) / fUnit
  let held := if want < lo then lo else if want > hi then hi else want
  let t0 := if n.getD 3 0 = 1 || stale || n.getD 2 0 = 0 then g else held
  let t := if alarm && t0 < 0 then 0 else t0
  let up := fval (fclamp 0x3DCCCCCD 0x41200000 (par p 4)) / 8000
  let down := fval (fclamp 0x3DCCCCCD 0x41200000 (par p 5)) / 8000
  let g1 := if t > g then min t (g + up) else max t (g - down)
  let flags : Int := (if g1 ≤ lo || g1 ≥ hi then 1 else 0) + (if n.getD 3 0 = 1 then 2 else 0) + (if stale then 4 else 0)
  { hist := [], nums := [g1, n.getD 1 0, n.getD 2 0, n.getD 3 0, n.getD 4 0, n.getD 5 0 + (powerOf mic : Int),
                         n.getD 6 0 + (powerOf prog : Int), n.getD 7 0 + (k : Nat), flags],
    outp := (List.range k).map fun j => fmul (samp prog j) (ansAmp k (fround g 1) (fround g1 1) j) }

/-- The level in dBFS of an amplitude, silence included (R229). -/
def dbLevel (w : Word) : Word := if fMag w = 0 then fSilence else dbOfAmp w

/-- DUCK on one sample of its key (R226): the envelope, the samples it has stayed at or below the threshold, and the gain in
units of 2^-149 dB, which moves toward −depth above the threshold, from a larger depth too, rests through the hold time, and returns to 0 dB. -/
def duckSample (p : List Word) (ms : Nat) (st : List Int) (key : Word) : Word × List Int :=
  let env := Config.duckEnvelope (BitVec.ofInt 32 (st.getD 0 0)) key
  let depth := fclamp 0 0x42700000 (par p 1)
  let above := fval (dbLevel env) > fval (par p 0)
  let below := if above then 0 else st.getD 1 0 + 1
  let g := st.getD 2 0
  let step := Config.duckStep (par p 2) depth
  let g1 := if above then (if g > -fval depth then max (-fval depth) (g - step) else min (-fval depth) (g + step))
    else if below * fUnit ≥ fval (par p 3) * (ms : Int) then min 0 (g + Config.duckStep (par p 4) depth) else g
  (dbAmp (fround g1 1), [(env.toNat : Int), below, g1])

/-- The ratio of DYNAMICS (R218), none a limiter: 0 exactly is the limiter, and any other value acts within 1 to 50. -/
def dynRatio (w : Word) : Option Word := if fval w = 0 then none else some (fclamp fOne 0x42480000 w)

/-- The gain reduction of DYNAMICS in units of 2^-149 dB (R218): nothing at or below the threshold; above it the level rises by a
RATIO-th of what the envelope rises, and not at all for a limiter. DEDUCED (assumption 227). -/
def dynReduction (p : List Word) (env : Word) : Int :=
  let excess := fval (dbLevel env) - fval (par p 0)
  if excess ≤ 0 then 0
  else match dynRatio (par p 1) with
    | none => excess
    | some r => excess * (fval r - fUnit) / fval r

/-- DYNAMICS on one sample (R218): the envelope follows the input at ATTACK, 0.1 ms to 100 ms, and RELEASE, 10 ms to 5,000 ms; the
output is the sample lowered by the gain reduction and raised by the make-up gain, 0 dB to 24 dB. DEDUCED (assumption 227). -/
def dynSample (p : List Word) (st : List Int) (x : Word) : Word × List Int :=
  let env := Config.dynEnvelope (fclamp 0x3DCCCCCD 0x42C80000 (par p 2)) (fclamp 0x41200000 0x459C4000 (par p 3))
    (BitVec.ofInt 32 (st.getD 0 0)) x
  let red := dynReduction p env
  (fmul x (dbAmp (fround (fval (fclamp 0 0x41C00000 (par p 4)) - red) 1)), [(env.toNat : Int), red])

/-- What one instance does in a tick: what it keeps, its output before saturation, and the two result words of R229 where
its type has them. `xs` holds the samples of its pins. -/
def blockTick (s : State) (rate : Nat) (i : GInst) (p : List Word) (x : InstSt) (xs : List (List Word)) :
    InstSt × Option (Word × Word) :=
  let k := s.k
  let a := padTo k (xs.getD 0 [])
  let b := padTo k (xs.getD 1 [])
  match i.ty with
  | 0 => (gainBlock k s.msSamples p x a, none)
  | 1 =>
    let r := overTick (fun h v => biquadSample (biquadS (par p 0)) (p.drop 1) h v) x.hist a
    ({ x with hist := r.2, outp := r.1 }, none)
  | 2 =>
    let r := overTick (fun h v => firSample (firN (par p 0)) p h v) x.hist a
    ({ x with hist := r.2, outp := r.1 }, none)
  | 3 => (delayBlock k s.msSamples rate p x a, none)
  | 4 =>
    let r := overTick (dynSample p) x.nums a
    ({ x with nums := r.2, outp := r.1 }, some (fround (r.2.getD 1 0) 1, dbLevel (BitVec.ofInt 32 (r.2.getD 0 0))))
  | 5 =>
    let r := overTick (duckSample p s.msSamples) x.nums b
    let env := BitVec.ofInt 32 (r.2.getD 0 0)
    let pass := (par p 5).getLsbD 0
    let key := fun (j : Nat) => if pass then [(samp b j, fOne)] else []
    ({ x with nums := r.2, outp := (List.range k).map (fun j => fdot ([(samp a j, samp r.1 j)] ++ key j)) },
     some (fround (-(r.2.getD 2 0)) 1, dbLevel env))
  | 6 =>
    let y := ansBlock k s.time.now s.inAlarm p x a b
    (y, some (numW y.nums 0, numW y.nums 1))
  | 7 =>
    let y := meterBlock k p x a
    let peak := (evens y.nums).foldl max 0
    let power := (odds y.nums).foldl (· + ·) 0
    (y, some (dbLevel (fround peak 1),
              if power = 0 then fSilence else dbOfPower power (k * (odds y.nums).length)))
  | 8 =>
    let r := overTick (fun st (_ : Word) => toneSample p rate st) x.nums a
    ({ x with nums := r.2, outp := r.1 }, none)
  | _ =>
    let sum := fun (j : Nat) => fdot ((List.range i.pins.length).map fun n => (samp (padTo k (xs.getD n [])) j, par p n))
    ({ x with outp := (List.range k).map sum }, none)

/-! ### The Graph phase -/

/-- The samples of a fabric output's mix. -/
def State.mixOf (s : State) (o : Nat) : List Word := match s.fab.mix.find? (·.1 = o) with
  | some x => x.2
  | none => []

/-- The output of an instance. -/
def State.instOut (s : State) (i : Nat) : List Word := ((s.dsp.insts[i]?).map InstSt.outp).getD []

/-- What a pin reads. -/
def State.pinSamples (s : State) (n : Nat) : List Word := match pinOf n with
  | .fabric o => s.mixOf o
  | .inst i => s.instOut i
  | _ => []

/-- Event 31 (ANS_ADAPT), at most once per 10 ms per instance, with the instance, the gain and the estimate (R228). -/
def State.ansEvent (s : State) (i : Nat) (x : InstSt) : State :=
  if limited s.dsp.ev31 i s.time.now then
    ({ s with dsp := { s.dsp with ev31 := noted s.dsp.ev31 i s.time.now } }).raise 31 0x21
      [i, (numW x.nums 0).toNat, (numW x.nums 1).toNat]
  else s

/-- Event 30 (CLIP_LIMIT), at most once per 10 ms per sink (R205); DYNAMICS with LIMIT reports under an instance's own
limit (R218). DEDUCED (assumption 49). -/
def State.clipEvent (s : State) (key : Nat) (dw : List Nat) : State :=
  if limited s.fab.ev30 key s.time.now then
    ({ s with fab := { s.fab with ev30 := noted s.fab.ev30 key s.time.now } }).raise 30 0x20 dw
  else s

/-- Whether an ANS condition begins that has not been reported. -/
def ansOnset (old new : List Int) : Bool :=
  let a := (old.getD 8 0).toNat
  let b := (new.getD 8 0).toNat
  [0, 1, 2].any fun i => b.testBit i && !a.testBit i

/-- One instance run in its job's turn (R222): its outputs saturate at ±16.0 (R219), ramp in or crossfade where its job asks
(R223, R224), and its result words wait for the take point (R229). -/
def State.runInst (g : GImage) (act : List Word) (j : JobSt) (s : State) (n : Nat) : State := match g.insts[n]?, s.dsp.insts[n]? with
  | some i, some x =>
    let r := blockTick s g.rate i ((act.drop i.base).take i.size) x (i.pins.map s.pinSamples)
    let y := r.1.outp.map fhold16
    let z := if j.rampIn then rampIn s.k y else if j.cross then crossfade s.k x.outp y else y
    let s2 := { s with dsp := { s.dsp with insts := s.dsp.insts.set n { r.1 with outp := z, res := r.2 } } }
    if i.ty = 6 && ansOnset x.nums r.1.nums then s2.ansEvent n r.1
    else if i.ty = 4 && (par ((act.drop i.base).take i.size) 5).getLsbD 0 && (match r.2 with
        | some w => fMag w.1 ≠ 0
        | none => false) then s2.clipEvent (0x1000 + n) [n, 1]
    else s2
  | _, _ => s

/-- One job: a disabled one does not run and its outputs are zero (R224). -/
def State.runJob (g : GImage) (act : List Word) (s : State) (j : Nat) : State := match s.dsp.jobs[j]? with
  | none => s
  | some x =>
    let mine := (List.range g.insts.length).filter fun n => gJobOf g n = j
    if x.disabled then
      { s with dsp := { s.dsp with insts := mine.foldl (fun l n => l.modify n fun y => { y with outp := [] }) s.dsp.insts,
                                   jobs := s.dsp.jobs.set j { x with ran := false } } }
    else
      let s1 := mine.foldl (State.runInst g act x) s
      { s1 with dsp := { s1.dsp with jobs := s1.dsp.jobs.set j { x with ran := true, cross := false, rampIn := false } } }

/-- Event 28 (DSP_BUDGET_WARN), at most once per 10 ms per core (R225). -/
def State.budgetWarn (s : State) (core cycles : Nat) : State :=
  if cycles * 100 > s.get Fld.DSP_CFG_WARN_PCT * 84562 && limited s.dsp.ev28 core s.time.now then
    ({ s with dsp := { s.dsp with ev28 := noted s.dsp.ev28 core s.time.now } }).raise 28 0x21 [core, cycles]
  else s

/-- The cycle at which a core's last job ended (R222, R225). -/
def State.coreCycles (s : State) (core cycles : Nat) : State :=
  let s1 := s.put (Fld.DSP_CORE_LAST_LAST core) cycles
  let s2 := if cycles > s1.get (Fld.DSP_CORE_PEAK_PEAK core) then s1.put (Fld.DSP_CORE_PEAK_PEAK core) cycles else s1
  s2.budgetWarn core cycles

/-- The Graph phase (R222): the jobs in image order, and the cores' cycles, which the tick brings. -/
def State.graphPhase (s : State) (cycles : List Nat) : State := match s.actBank with
  | none => s
  | some b =>
    if !s.dsp.running || !s.graphRuns then s
    else
      let s0 := { s with dsp := { s.dsp with before := s.dsp.insts } }
      let s1 := (List.range b.img.jobs.length).foldl (State.runJob b.img b.act) s0
      (List.range 4).foldl (fun t c => t.coreCycles c (min 0x1FFFF (cycles.getD c 0))) s1

/-! ### Sinks -/

/-- The instance that writes a sink in the active graph, where one does (R206). -/
def State.boundInst (s : State) (o : Nat) : Option Nat :=
  if !s.dsp.running || !s.graphRuns then none
  else s.image.bind fun g => (List.range g.insts.length).find? fun n =>
    ((g.insts[n]?).bind fun i => bindOf i.bind) = some o

/-- The samples of a sink in this tick (R206): the graph's output where it is bound, else the mix; with the crossfade of a
change of source (R232). A bound sink too ramps to zero as the FAB domain enters its restart (R359). -/
def State.sinkOf (s : State) (o : Nat) : List Word :=
  let new := match s.boundInst o with
    | some n => if s.fabLeaving then rampOut s.k (s.instOut n) else s.instOut n
    | none => s.mixOf o
  match s.dsp.sinkFade.find? (·.1 = o) with
  | some x => crossfade s.k x.2 (padTo s.k new)
  | none => padTo s.k new

/-- The sinks with anything on them. -/
def State.activeSinks (s : State) : List Nat :=
  let bound := match s.image with
    | some g => g.insts.filterMap fun i => bindOf i.bind
    | none => []
  (distinct (s.fab.mix.map (·.1) ++ bound ++ s.dsp.sinkFade.map (·.1))).filter (· < 336)

/-- The take point (R14, R16, R205): every sink is rounded to 24 bits and latched; one that saturates counts and raises
event 30. -/
def State.takeSinks (s : State) : State :=
  let l := s.activeSinks.map fun o => (o, (s.sinkOf o).map toCode24)
  let s1 := { s with fab := { s.fab with taken := l.map fun x => (x.1, x.2.map (·.1)) },
                     dsp := { s.dsp with sinkFade := [], sinkLast := s.activeSinks.map fun o => (o, s.sinkOf o) } }
  (l.filter fun x => x.2.any (·.2)).foldl (fun t x =>
    (t.bump (Fld.ind 0x20 (0x9000 + x.1)) 1).clipEvent x.1 [x.1]) s1

/-- A sink's output at the last take point (R232), as it was latched and before its rounding. -/
def State.sinkLastOf (s : State) (o : Nat) : List Word := match s.dsp.sinkLast.find? (·.1 = o) with
  | some x => x.2
  | none => padTo s.k []

/-- The 24-bit codes latched for a sink. -/
def State.takenOf (s : State) (o : Nat) : List Int := match s.fab.taken.find? (·.1 = o) with
  | some x => x.2
  | none => []

/-! ### Overrun -/

/-- The counters of a job (R236). -/
def Fld.jobCnt (j w : Nat) : Fld := Fld.ind 0x21 (0x8000 + 4 * j + w)

/-- A job whose outputs repeat those of the tick before, its state as it was (R223). -/
def State.revertJob (s : State) (g : GImage) (j : Nat) : State :=
  let mine := (List.range g.insts.length).filter fun n => gJobOf g n = j
  { s with dsp := { s.dsp with
      insts := mine.foldl (fun l n => l.set n ((s.dsp.before[n]?).getD InstSt.zero)) s.dsp.insts,
      jobs := s.dsp.jobs.modify j fun x => { x with cross := true, ran := false } } }

/-- A job disabled at its third overrun in a row (R224): its repeated outputs ramp to zero. -/
def State.disableJob (s : State) (g : GImage) (j : Nat) : State :=
  let mine := (List.range g.insts.length).filter fun n => gJobOf g n = j
  let s1 := { s with dsp := { s.dsp with
      insts := mine.foldl (fun l n => l.modify n fun y => { y with outp := rampOut s.k y.outp }) s.dsp.insts,
      jobs := s.dsp.jobs.modify j fun x => { x with disabled := true, cross := false } } }
  (s1.put Fld.DSP_OVR_DISABLED (s1.dsp.jobs.countP (·.disabled))).note 0x21 [j]

/-- An overrun of a job (R223, R224): its counters, event 0 at most once per 10 ms per job, and the third in a row. -/
def State.overrunJob (g : GImage) (s : State) (j : Nat) : State := match s.dsp.jobs[j]? with
  | none => s
  | some x =>
    if x.disabled then s
    else
      let core := ((g.jobs[j]?).map GJob.core).getD 0
      let s1 := ((s.revertJob g j).bump (Fld.jobCnt j 2) 1).bump Fld.DSP_OVR_OVERRUNS 1
      let s2 := if limited s1.dsp.ev0 j s1.time.now then
          ({ s1 with dsp := { s1.dsp with ev0 := noted s1.dsp.ev0 j s1.time.now } }).raise 0 0x21
            [j, core, s1.get (Fld.DSP_CORE_LAST_LAST core)]
        else s1
      let c := x.consec + 1
      let s3 := { s2 with dsp := { s2.dsp with jobs := s2.dsp.jobs.modify j fun y => { y with consec := c } } }
      if !gAlarmJob g j && c ≥ 3 then s3.disableJob g j else s3

/-- A job that did not start (R223): SKIPPED alone advances. -/
def State.skipJob (g : GImage) (s : State) (j : Nat) : State := match s.dsp.jobs[j]? with
  | none => s
  | some x => if x.disabled then s else (s.revertJob g j).bump (Fld.jobCnt j 3) 1

/-- The jobs still running and not started at the take point (R223); a job that completed has its run of overruns end,
and the result words are updated (R229). -/
def State.graphTake (s : State) (overrun skipped : List Nat) : State := match s.image with
  | none => s
  | some g =>
    if !s.dsp.running || !s.graphRuns then s
    else
      let s1 := overrun.foldl (State.overrunJob g) s
      let s2 := skipped.foldl (State.skipJob g) s1
      let ended := fun (j : Nat) =>
        let x := (s2.dsp.jobs[j]?).getD JobSt.fresh
        if x.ran && !(overrun.contains j) && !(skipped.contains j) then { x with consec := 0 } else x
      { s2 with dsp := { s2.dsp with jobs := (List.range s2.dsp.jobs.length).map ended,
                                     shown := s2.dsp.insts.map InstSt.res } }

/-- How many alarm-tagged jobs overran (R224). -/
def State.alarmOverruns (s : State) (overrun : List Nat) : Nat := match s.image with
  | none => 0
  | some g => if !s.dsp.running || !s.graphRuns then 0 else (distinct overrun).countP (gAlarmJob g)

/-- JOB_REENABLE (R224): a disabled job starts from zero state in the next processing tick and ramps in. -/
def State.reenable (s : State) (j : Nat) : State := match s.image, s.dsp.jobs[j]? with
  | some g, some x =>
    if !x.disabled then s
    else
      let mine := (List.range g.insts.length).filter fun n => gJobOf g n = j
      let s1 := { s with dsp := { s.dsp with
          insts := mine.foldl (fun l n => l.set n InstSt.zero) s.dsp.insts,
          jobs := s.dsp.jobs.set j { JobSt.fresh with rampIn := true } } }
      s1.put Fld.DSP_OVR_DISABLED (s1.dsp.jobs.countP (·.disabled))
  | _, _ => s

/-- JOB_REENABLE (R224). -/
def execJobReenable (_ : Agent) (job : BitVec 8) (s : State) : Host.Outcome State Fault Refusal :=
  s.run fun s => (s.put Fld.DSP_JOB_CMD_JOB job.toNat).reenable job.toNat

/-! ### ANS windows -/

/-- The dBFS of a power, silence included. -/
def dbPower (sum n : Nat) : Word := if sum = 0 then fSilence else dbOfPower sum n

/-- ANS_WINDOW_END (R227, R228): a microphone below its floor has failed; otherwise a window with the programme below the
gate gives the noise estimate. A window that has not lasted WIN_S does not end. -/
def execAnsWindowEnd (inst : Fin 2048) (s : State) : Host.Outcome State Fault Refusal :=
  s.run fun s => match s.actBank, s.dsp.insts[inst.val]? with
    | some b, some x =>
      (match b.img.insts[inst.val]? with
       | some i =>
         let p := (b.act.drop i.base).take i.size
         let n := x.nums
         if i.ty ≠ 6 || x.nums = [] || !s.graphRuns || (n.getD 7 0).toNat < s.ansWindow p then s
         else
           let mic := dbPower (n.getD 5 0).toNat (n.getD 7 0).toNat
           let prog := dbPower (n.getD 6 0).toNat (n.getD 7 0).toNat
           let failed := fval mic < fval (fclamp 0xC2F00000 0xC2200000 (par p 9))
           let valid := !failed && fval prog < fval (fclamp 0xC2B40000 0 (par p 6))
           let m := [n.getD 0 0, if valid then fval mic else n.getD 1 0, if valid then 1 else n.getD 2 0,
                     if failed then 1 else if valid then 0 else n.getD 3 0,
                     if valid then (s.time.now : Int) else n.getD 4 0, 0, 0, 0, n.getD 8 0]
           let s1 := { s with dsp := { s.dsp with insts := s.dsp.insts.set inst.val { x with nums := m } } }
           if failed && n.getD 3 0 = 0 then s1.ansEvent inst.val { x with nums := m } else s1
       | none => s)
    | _, _ => s

/-! ### Swaps -/

/-- The word offsets of a block that hold bits and not a float (R218, R227). DEDUCED (assumption 48). -/
def bitWords (ty : Nat) : List Nat := match ty with
  | 0 => [1] | 1 => [0] | 2 => [0] | 3 => [0] | 4 => [5] | 5 => [5] | 6 => [7, 8] | 7 => [0] | 8 => [2] | _ => []

/-- Whether an instance's idle block holds a NaN or an infinite value (R219). DEDUCED (assumption 48). -/
def GBank.badIdle (b : GBank) (i : GInst) : Bool :=
  (List.range i.size).any fun n => !(bitWords i.ty).contains n && fBad (b.idle.getD (i.base + n) 0)

/-- A list with the block at `base` taken from another list. -/
def splice (base size : Nat) (l m : List Word) : List Word := l.take base ++ (m.drop base).take size ++ l.drop (base + size)

/-- One DIRTY instance exchanges its banks (R219, R230): one that would bring a NaN or an infinity stays. -/
def State.swapInst (s : State) (n : Nat) : State := match s.actBank with
  | none => s
  | some b => match b.img.insts[n]? with
    | none => s
    | some i =>
      if b.badIdle i then (s.flag Fld.DSP_STATUS_COEF_BAD true).note 0x21 [n]
      else s.setActBank (some { b with act := splice i.base i.size b.act b.idle, idle := splice i.base i.size b.idle b.act,
                                       dirty := b.dirty.filter (· ≠ n) })

/-- The DIRTY instances of the active graph. -/
def State.dirtyInsts (s : State) : List Nat := (s.actBank.map GBank.dirty).getD []

/-- Whether a DIRTY instance belongs to an alarm-tagged job (R233). -/
def State.dirtyAlarm (s : State) : Bool := match s.image with
  | none => false
  | some g => s.dirtyInsts.any fun n => gAlarmJob g (gJobOf g n)

/-- Who armed a swap, as it is kept: none a sealed order. -/
def armer : Who → Option Agent
  | .portA => some .portA | .portB => some .portB | .mgmt => some .mgmt | .order => none

/-- The origin of an armed swap. -/
def armedBy (a : Option Agent) : Who := match a with
  | some x => x.who
  | none => .order

/-- A swap refused in ALARM (R233). -/
def State.swapLocked (s : State) (g : Who) (off data : Nat) : State := s.refuseReg g off data 21 .w1p

/-- The word of DSP_COEF_CMD that commands a swap (R235). -/
def coefWord (atTick : Bool) : Nat := if atTick then 5 else 1

/-- DSP_COEF_CMD.SWAP (R29, R30, R230, R233): an armed swap stands, its AT_TICK with it, and the write is logged. -/
def State.coefSwapCmd (s : State) (g : Who) (atTick : Bool) : State :=
  if s.on Fld.DSP_STATUS_COEF_ARMED then s.command g 0x210020 (coefWord atTick)
  else
    let s0 := s.flag Fld.DSP_COEF_CMD_AT_TICK atTick
    if s0.inAlarm && g ≠ .order && s0.dirtyAlarm then s0.swapLocked g 0x210020 (coefWord atTick)
    else
      let missed := atTick && s0.brimMissed (s0.get Fld.DSP_COEF_TICK_BRIM_TICK)
      let s1 := if missed then s0.flag Fld.DSP_STATUS_COEF_MISSED true else s0
      ({ s1 with dsp := { s1.dsp with coefNow := !atTick || missed, coefBy := armer g } }).flag Fld.DSP_STATUS_COEF_ARMED true

/-- COEF_SWAP_CMD (R230). -/
def execCoefSwapCmd (g : Agent) (atTick : Bool) (s : State) : Host.Outcome State Fault Refusal :=
  s.run fun s => s.coefSwapCmd g.who atTick

def State.coefCancel (s : State) : State :=
  ({ s with dsp := { s.dsp with coefNow := false, coefBy := none } }).flag Fld.DSP_STATUS_COEF_ARMED false

/-- COEF_SWAP_CANCEL (R235). -/
def execCoefSwapCancel (_ : Agent) (s : State) : Host.Outcome State Fault Refusal := s.run State.coefCancel

/-- DSP_COEF_TICK written (R235). -/
def State.writeCoefTick (s : State) (g : Who) (v : Nat) : State :=
  if s.on Fld.DSP_STATUS_COEF_ARMED then s.refuseReg g 0x210024 v 19 .rw else s.put Fld.DSP_COEF_TICK_BRIM_TICK v

/-- COEF_TICK_WRITE (R235). -/
def execCoefTickWrite (g : Agent) (tick : Word) (s : State) : Host.Outcome State Fault Refusal :=
  s.run fun s => s.writeCoefTick g.who tick.toNat

/-- DSP_GRAPH_CMD.SWAP (R29, R30, R232, R233). -/
def State.graphSwapCmd (s : State) (g : Who) : State :=
  if s.on Fld.DSP_STATUS_GRAPH_ARMED then s.command g 0x210018 1
  else if s.inAlarm && g ≠ .order then s.swapLocked g 0x210018 1
  else if !s.on Fld.DSP_STATUS_IDLE_VALID then s.logNote codeDiscard 0x21 g.origin [0x210018, 1]
  else if s.brimMissed (s.get Fld.DSP_GRAPH_TICK_BRIM_TICK) then s.flag Fld.DSP_STATUS_GRAPH_MISSED true
  else ({ s with dsp := { s.dsp with graphBy := armer g } }).flag Fld.DSP_STATUS_GRAPH_ARMED true

/-- GRAPH_SWAP_ARM (R232). -/
def execGraphSwapArm (g : Agent) (s : State) : Host.Outcome State Fault Refusal :=
  s.run fun s => s.graphSwapCmd g.who

def State.graphCancel (s : State) : State :=
  ({ s with dsp := { s.dsp with graphBy := none } }).flag Fld.DSP_STATUS_GRAPH_ARMED false

/-- GRAPH_SWAP_CANCEL (R235). -/
def execGraphSwapCancel (_ : Agent) (s : State) : Host.Outcome State Fault Refusal := s.run State.graphCancel

/-- DSP_GRAPH_TICK written (R235). -/
def State.writeGraphTick (s : State) (g : Who) (v : Nat) : State :=
  if s.on Fld.DSP_STATUS_GRAPH_ARMED then s.refuseReg g 0x21001C v 19 .rw else s.put Fld.DSP_GRAPH_TICK_BRIM_TICK v

/-- GRAPH_TICK_WRITE (R235). -/
def execGraphTickWrite (g : Agent) (tick : Word) (s : State) : Host.Outcome State Fault Refusal :=
  s.run fun s => s.writeGraphTick g.who tick.toNat

/-- The old instance whose state a new one takes over (R232). -/
def carriedFrom (old : GImage) (i : GInst) : Option Nat :=
  if i.stateId = 0 then none
  else (List.range old.insts.length).find? fun n => match old.insts[n]? with
    | some j => j.stateId = i.stateId && j.ty = i.ty
    | none => false

/-- The sinks whose source is the same instance before and after a swap. DEDUCED (assumption 47). -/
def keptSinks (old new : GImage) : List Nat := new.insts.filterMap fun i =>
  match bindOf i.bind, carriedFrom old i with
  | some o, some n => if ((old.insts[n]?).bind fun j => bindOf j.bind) = some o then some o else none
  | _, _ => none

/-- The job counters of a graph that has just become active (R232, R236). -/
def State.clearJobCounts (s : State) : State :=
  (List.range 256).foldl (fun t j => (t.wr (Fld.jobCnt j 2).addr 0).wr (Fld.jobCnt j 3).addr 0) s

/-- The graph banks exchange (R232): state carried over by identifier and type, counts cleared, and the sinks whose source
changes crossfading from their last output. DEDUCED (assumption 47). -/
def State.swapGraph (s : State) : State :=
  let sinks := fun (g : GImage) => g.insts.filterMap fun i => bindOf i.bind
  match s.idleBank with
  | none => s
  | some nb =>
    let g := nb.img
    let old := s.image
    let oldSinks := match old with
      | some o => sinks o
      | none => []
    let kept := match old with
      | some o => keptSinks o g
      | none => []
    let fades := (distinct (sinks g ++ oldSinks)).filter (!kept.contains ·)
    let carried := g.insts.map fun i => match old.bind (carriedFrom · i) with
      | some n => (s.dsp.insts[n]?).getD InstSt.zero
      | none => InstSt.zero
    let s1 := { s with dsp := { s.dsp with sinkFade := fades.map fun o => (o, s.sinkLastOf o) } }
    let s2 := (s1.flag Fld.DSP_STATUS_ACT_BANK (!s.on Fld.DSP_STATUS_ACT_BANK)).flag Fld.DSP_STATUS_IDLE_VALID old.isSome
    let s3 := { s2 with dsp := { s2.dsp with insts := carried, before := carried,
                                             jobs := List.replicate g.jobs.length JobSt.fresh, shown := [], running := true } }
    s3.clearJobCounts.put Fld.DSP_OVR_DISABLED 0

/-- Brim step 3 for the graph (R230 to R233): an armed graph swap in the brim it names, and an armed coefficient swap; in
ALARM one that no sealed order commanded, and that R233 restricts, is discarded. DEDUCED (assumption 50). -/
def State.graphBrim (s : State) : State :=
  let s1 :=
    if s.on Fld.DSP_STATUS_GRAPH_ARMED && s.get Fld.DSP_GRAPH_TICK_BRIM_TICK = s.time.tick.toNat then
      (if s.inAlarm && s.dsp.graphBy.isSome then
         (s.graphCancel.flag Fld.DSP_STATUS_GRAPH_MISSED true).swapLocked (armedBy s.dsp.graphBy) 0x210018 1
       else (s.graphCancel).swapGraph)
    else s
  if s1.on Fld.DSP_STATUS_COEF_ARMED && (s1.dsp.coefNow || s1.get Fld.DSP_COEF_TICK_BRIM_TICK = s1.time.tick.toNat) then
    (if s1.inAlarm && s1.dsp.coefBy.isSome && s1.dirtyAlarm then
       (s1.coefCancel.flag Fld.DSP_STATUS_COEF_MISSED true).swapLocked (armedBy s1.dsp.coefBy) 0x210020
         (coefWord (s1.on Fld.DSP_COEF_CMD_AT_TICK))
     else s1.dirtyInsts.foldl State.swapInst s1.coefCancel)
  else s1

/-- A parameter word written to the idle bank (R230): it sets its instance's DIRTY flag; a word of no instance does not
exist. The answer tells whether the word exists. -/
def State.writeParam (s : State) (p : Nat) (w : Word) : State × Bool := match s.actBank with
  | none => (s, false)
  | some b => match (List.range b.img.insts.length).find? (fun n => match b.img.insts[n]? with
      | some i => i.base ≤ p && p < i.base + i.size
      | none => false) with
    | none => (s, false)
    | some n => (s.setActBank (some { b with idle := b.idle.set p w, dirty := if b.dirty.contains n then b.dirty else b.dirty ++ [n] }), true)

/-- Whether an active alarm routing includes zone `z` (R213): a pin of an instance in an alarm-tagged job reads its bus. -/
def State.alarmZone (s : State) (z : Nat) : Bool := match s.image with
  | none => false
  | some g => g.insts.any fun i => gAlarmJob g i.job && i.pins.any fun n => pinOf n = .fabric (448 + z)

/-- The DSP's EN applied at a brim (R235): 0 stops the graph, whose sinks fall back to the mix with a crossfade. -/
def State.graphEnable (s : State) (was : Bool) : State :=
  let now := s.enabled 0x21
  if was && !now then
    if !(s.dsp.running && s.audioOn && s.plat.phase.getD 3 0 ≤ 2) then s else
    let fades := match s.image with
      | some g => (g.insts.filterMap fun i => bindOf i.bind).map fun o =>
(o, s.sinkLastOf o)
      | none => []
    { s with dsp := { s.dsp with sinkFade := fades } }
  else if !was && now then s.zeroGraph true else s

end Sys2Proof.Machine
end

