-- ==== Sys2Proof/Machine/Refs.lean ====
section
/-! DEFINITION. Reference qualification, selection and holdover (R66 to R97). -/

namespace Sys2Proof.Machine

/-! ### One reference -/

/-- The causes of a disqualification (R69). -/
def causeActivity : Nat := 1
def causeGlitch : Nat := 2
def causeCapture : Nat := 3
def causeHardModel : Nat := 4
def causeMajority : Nat := 5
def causeConfig : Nat := 6
def causeDisabled : Nat := 7

def State.model (s : State) (i : Nat) : HModel := s.refs.models.getD i HModel.reset

def State.setModel (s : State) (i : Nat) (m : HModel) : State :=
  { s with refs := { s.refs with models := s.refs.models.set i m } }

/-- Whether the reference is enabled (R69); REF0 needs the PTP stack too (R57). -/
def State.refEnabled (s : State) (n : Nat) : Bool := s.on (Fld.REFS_CFG_EN n) && (n ≠ 0 || s.on Fld.TIME_PTP_CFG_EN)

/-- Whether the reference's declared rate is one it allows (R69). -/
def State.refRateOk (s : State) (n : Nat) : Bool :=
  let r := s.get (Fld.REFS_CFG_RATE n)
  if n = 3 || n = 4 then 1 ≤ r && r ≤ 5
  else if n = 5 || n = 6 then 1 ≤ r && r ≤ 3
  else true

/-- Whether the reference is enabled and correctly configured (R74). -/
def State.refUsable (s : State) (n : Nat) : Bool := s.refEnabled n && s.refRateOk n

def State.refQual (s : State) (n : Nat) : Bool := s.on (Fld.REFS_ST_QUAL n)

/-- The active reference, in ACQUIRING and LOCKED (R81). -/
def State.activeRef (s : State) : Option Nat :=
  if s.on Fld.REFS_SEL_STATUS_ACT_VALID then some (s.get Fld.REFS_SEL_STATUS_ACTIVE) else none

/-- The rate at which a reference's monitor edges come, and at which they are measured, in Hz (R66, R70): the divided SerDes
clock at 1 MHz; REFIN by its RATE, 10 MHz measured at every 1,000th edge; the AES3 preamble at the frame rate ÷ 192; FS; PAIRCLK at
48 kHz. Of REF0 see `refRate`. A reference whose RATE is a code it does not allow has no declared rate: REF3, REF4 and REF6 are then
measured against 192 kHz, REF5 against 1 kHz. DESIGN CHOICE (assumption 235). -/
def State.monitorHz (s : State) (n : Nat) : Nat :=
  let r := s.get (Fld.REFS_CFG_RATE n)
  let audio := if r = 1 then 48000 else if r = 2 then 96000 else 192000
  if n = 1 || n = 2 then 1000000
  else if n = 3 || n = 4 then (if r = 4 then 1 else if r = 5 then 10000000 else audio)
  else if n = 5 then audio / 192
  else if n = 6 then audio
  else 48000

def State.measureHz (s : State) (n : Nat) : Nat :=
  if (n = 3 || n = 4) && s.get (Fld.REFS_CFG_RATE n) = 5 then 10000 else s.monitorHz n

/-- The measurement rate of a reference in units of 0.001 Hz (R66, R88): of REF0 the rate of the Sync messages that the master
announces, once known. -/
def State.refRate (s : State) (n : Nat) : Option Nat :=
  if n = 0 then s.time.syncLog.map fun l => if l < 0 then 1000 * 2 ^ l.natAbs else 1000 / 2 ^ l.natAbs
  else some (1000 * s.measureHz n)

/-- The detail words of R97: the reference, the cause, the Y16 concerned and the other Y16. DEDUCED (assumption 10). -/
def State.refDetail (s : State) (n cause other : Nat) : List Nat :=
  [n, cause, s.get (Fld.REFS_Y16_Y16 n), s.get (Fld.REFS_Y16_Y16 other)]

/-- A reference is disqualified (R69, R70, R97): it leaves qualification and any window, the cause is kept, DQ advances, and a
reference that was qualified raises event 2. -/
def State.disqualify (s : State) (n cause : Nat) : State :=
  let was := s.refQual n
  let s1 := ((((s.flag (Fld.REFS_ST_QUAL n) false).failWindow n).flag
    (Fld.REFS_ST_DISAGREE n) false).flag (Fld.REFS_ST_SOFT n) false).put (Fld.REFS_ST_CAUSE n) cause
  let s2 := (s1.setRef n { s1.refOne n with wtr := false, secs := 0 }).bump
    (Fld.REFS_CNT_DQ n) 1
  if was then s2.raise 2 0x09 (s2.refDetail n cause n) else s2

/-- Whether the qualification window of a reference may run (R74): it is enabled and correctly configured, its edges arrive, and of
REF0 the servo's state does not bar it. -/
def State.mayQualify (s : State) (n : Nat) : Bool :=
  s.refUsable n && (s.refOne n).alive && (n ≠ 0 || !servoBars (s.get Fld.TIME_PTP_STATUS_SERVO))

/-- The qualification window runs where it may (R74). -/
def State.runWindow (s : State) (n : Nat) : State :=
  if s.mayQualify n && !s.refQual n then s.flag (Fld.REFS_ST_QUALIFYING n) true else s

/-- The edges of a reference arrive again (R70), the first of them at `t`: its window has run since then at most (R74). -/
def State.resumeRef (s : State) (n t : Nat) : State :=
  let r := s.refOne n
  if r.alive then s else s.setRef n { r with alive := true, winAt := max r.winAt t }

/-! ### The model -/

/-- The running oscillator's model: 0 the TCXO's, 1 XO_IN's (R95). -/
def State.runningModel (s : State) : Nat := if s.on Fld.REFS_OSC_XO_RUN then 1 else 0

/-- Word `w` of model `i`, as a signed value. -/
def State.modelWord (s : State) (i w : Nat) : Int := toSigned 32 (s.rd (indKey 9 (8 * i + w))).toNat

/-- The prediction p(θ, a) of R90 in 0.1 ppb, from the coefficient words in Q16.16; 0 while the model is not usable. The
temperature enters in whole degrees, as R94 shows it; the spec gives no finer resolution. DESIGN CHOICE (assumption 17). -/
def State.predict (s : State) : Int :=
  if s.on Fld.REFS_HM_STATUS_USABLE then
    let i := s.runningModel
    let d := s.refs.theta - 25
    let a := (s.model i).ageS
    let p := s.modelWord i 0 + s.modelWord i 1 * d + s.modelWord i 2 * d * d + s.modelWord i 3 * d * d * d
      + s.modelWord i 4 * a / 86400 + s.modelWord i 5 * lnDays a / 65536
    p * 10 / 65536
  else 0

/-- The status registers of R94 for the running model: learned time in 16 s samples gives USABLE from 1 h and READY
from 24 h; EXTRAP when the temperature lies more than 2 K outside the learned span, and 0 while no sample has been taken, where
there is no span to lie outside of. DESIGN CHOICE (assumption 225). -/
def State.showModel (s : State) : State :=
  let i := s.runningModel
  let m := s.model i
  let n := (s.rd (indKey 9 (8 * i + 7))).toNat
  let s1 := ((((s.put Fld.REFS_HM_STATUS_T_NOW (ofSigned 8 s.refs.theta)).put Fld.REFS_HM_STATUS_T_HI
    (ofSigned 8 m.tHi)).put Fld.REFS_HM_STATUS_T_LO (ofSigned 8 m.tLo)).flag Fld.REFS_HM_STATUS_SUSPECT m.suspect)
  let s2 := ((s1.flag Fld.REFS_HM_STATUS_USABLE (n ≥ 225)).flag Fld.REFS_HM_STATUS_READY (n ≥ 5400)).flag
    Fld.REFS_HM_STATUS_EXTRAP (n > 0 && (s.refs.theta > m.tHi + 2 || s.refs.theta < m.tLo - 2))
  s2.put Fld.REFS_HM_LEARN_LEARN_H (if n * 16 / 3600 > 0xFFFF then 0xFFFF else n * 16 / 3600)

/-- Model `i` cleared with its learned time and age (R94). -/
def State.clearModel (s : State) (i : Nat) (suspect : Bool) : State :=
  let s1 := (List.range 8).foldl (fun t w => t.wr (indKey 9 (8 * i + w)) 0) s
  (s1.setModel i { HModel.reset with suspect := suspect }).showModel

/-! ### Selection -/

/-- The frequency offset by which two references are compared: Y16, or Y1 where either has been qualified for less than
16 s (R76). -/
def State.refDiff (s : State) (i j : Nat) : Nat :=
  if (s.refOne i).secs < 16 || (s.refOne j).secs < 16 then
    (s.getS (Fld.REFS_Y1_Y1 i) - s.getS (Fld.REFS_Y1_Y1 j)).natAbs
  else (s.getS (Fld.REFS_Y16_Y16 i) - s.getS (Fld.REFS_Y16_Y16 j)).natAbs

/-- A limit in 0.01 ppm units, as 0.1 ppb units. -/
def ppmUnits (v : Nat) : Nat := v * 100

/-- The soft limit; a value above HARD acts as HARD (R81). -/
def State.softLimit (s : State) : Nat := ppmUnits (min (s.get Fld.REFS_LIMITS_SOFT) (s.get Fld.REFS_LIMITS_HARD))

/-- Whether two references disagree (R76). -/
def State.disagrees (s : State) (i j : Nat) : Bool := s.refDiff i j > ppmUnits (s.get Fld.REFS_DISAGREE_TOL)

/-- The qualified references. -/
def State.qualified (s : State) : List Nat := (List.range 8).filter s.refQual

/-- The policy in force (R81): while the block's EN is 0 the selector acts as under POLICY 2, and 3 acts as 0. -/
def State.policy (s : State) : Nat :=
  if !s.enabled 9 then 2 else if s.get Fld.REFS_SEL_CTRL_POLICY = 3 then 0 else s.get Fld.REFS_SEL_CTRL_POLICY

/-- `choose()` of R82. -/
def State.chooseRef (s : State) : Option Nat :=
  let c := s.qualified
  if c.isEmpty then none
  else if s.policy = 1 && c.contains (s.get Fld.REFS_SEL_CTRL_MAN_REF) then some (s.get Fld.REFS_SEL_CTRL_MAN_REF)
  else
    let top := c.foldl (fun m r => min m (s.get (Fld.REFS_CFG_RANK r))) 15
    let tied := c.filter (fun r => s.get (Fld.REFS_CFG_RANK r) = top)
    match s.activeRef with
    | some a => if tied.contains a then some a else tied.head?
    | none => tied.head?

/-- The detail words of a change of the selector (R97): the reference that ACTIVE names now; why the one before was given up,
the cause of its disqualification or 0 where it is still qualified; and the Y16 of both. DEDUCED (assumption 10). -/
def State.selDetail (s : State) (old : Nat) : List Nat :=
  let a := s.get Fld.REFS_SEL_STATUS_ACTIVE
  [a, if s.refQual old then 0 else s.get (Fld.REFS_ST_CAUSE old), s.get (Fld.REFS_Y16_Y16 a), s.get (Fld.REFS_Y16_Y16 old)]

/-- A new state of the selector, which left reference `old`: event 2 (R86, R97); the servo follows (R531). -/
def State.selState (s : State) (st old : Nat) : State :=
  let s1 := s.put Fld.REFS_SEL_STATUS_STATE st
  (s1.raise 2 0x09 (s1.selDetail old)).servoWatch

/-- No reference is active. -/
def State.dropActive (s : State) : State :=
  let s1 := match s.activeRef with
    | some a => s.flag (Fld.REFS_ST_ACTIVE a) false
    | none => s
  s1.flag Fld.REFS_SEL_STATUS_ACT_VALID false

/-- The mean of a list of integers, rounded toward minus infinity; 0 of an empty one. DESIGN CHOICE (assumption 19). -/
def meanOf (l : List Int) : Int := if l.isEmpty then 0 else l.foldl (· + ·) 0 / (l.length : Int)

/-- The holdover frequency of R89 from LOCKED: the mean of the loop's frequency over the 16 s that end 2 s before the
decision, or over as much of that as LOCKED lasted; below 1 s the frequency in force. -/
def State.holdoverFreq (s : State) : Int :=
  let span := (s.refs.history.drop 2).take 16
  if span.isEmpty then s.refs.loopFreq else meanOf span

/-- Entry to HOLDOVER with frequency `y` (R86, R89, R93): the offset term is fixed, the validity timer starts, and events
2 and 5 are raised. -/
def State.goHoldover (s : State) (y : Int) : State :=
  let s1 := { s with refs := { s.refs with yh := y, offset := y - s.predict, holdoverSince := s.time.now } }
  let a := s.get Fld.REFS_SEL_STATUS_ACTIVE
  let s2 := (s1.dropActive.put Fld.REFS_HOLDOVER_ELAPSED 0).selState 3 a
  s2.raise 5 0x09 (s2.selDetail a)

/-- `enter_holdover()` of R82, as R86 directs it from each state. -/
def State.enterHoldover (s : State) : State := match s.get Fld.REFS_SEL_STATUS_STATE with
  | 1 => if s.refs.lockedReached then s.goHoldover s.refs.acqFreq
         else s.dropActive.selState 0 (s.get Fld.REFS_SEL_STATUS_ACTIVE)
  | 2 => s.goHoldover s.holdoverFreq
  | _ => s

/-- Phase `i` of a list in ps, 0 where none is given. -/
def phaseOf (phase : List Int) (i : Nat) : Int := phase.getD i 0

/-- The bandwidth in force (R88), in units of 0.01 Hz / 16,384: the scheduled one, held to a twentieth of the active reference's
measurement rate. -/
def State.effectiveBw (s : State) : Nat := match s.activeRef with
  | some a => (match s.refRate a with
    | some r => min s.refs.bw (r * 16384 / 200)
    | none => s.refs.bw)
  | none => s.refs.bw

def State.showBw (s : State) : State := { s with refs := { s.refs with bwNow := s.effectiveBw } }

/-- The loop bandwidth set to a register value in 0.01 Hz. -/
def State.setBw (s : State) (v : Nat) : State := { s with refs := { s.refs with bw := v * 16384 } }.showBw

/-- A phase in ps taken modulo the monitor period of a frequency-only reference, to within half a period (R84); REF0 carries time,
and its phase is whole. DEDUCED (assumption 223). -/
def State.phaseModulo (s : State) (n : Nat) (ps : Int) : Int :=
  if n = 0 then ps
  else
    let r : Int := s.monitorHz n
    let x := (ps * r) % 1000000000000
    (if 2 * x ≥ 1000000000000 then x - 1000000000000 else x) / r

/-- A phase error measured at `t` (R86, R87): how long it has lain within LOCK_PHASE, or beyond four times LOCK_PHASE, runs from the first
such measurement in a row. -/
def State.phaseMeasured (t : Nat) (s : State) (ps : Int) : State :=
  let lim := s.get Fld.REFS_QUAL_LOCK_PHASE * 1000
  let since := fun (b : Bool) (x : Option Nat) => if b then some (x.getD t) else none
  { s with refs := { s.refs with phaseErr := ps, nearAt := since (ps.natAbs ≤ lim) s.refs.nearAt,
                                 farAt := since (ps.natAbs > 4 * lim) s.refs.farAt } }

/-- The phase of a reference absorbed at a switch (R84, R85): the phase accumulator takes it, and the phase error is 0; of REF0 it
is not kept there but handed to the servo as an offset, and stands as the phase error that the loop slews out. The times of R86
run afresh. -/
def State.absorb (s : State) (n : Nat) (ps : Int) : State :=
  let s1 := (s.putS Fld.REFS_PHASE_ABSORBED ps)
  let s2 := { s1 with refs := { s1.refs with absorbed := if n = 0 then 0 else ps, nearAt := none, farAt := none } }
  s2.phaseMeasured s2.time.now (if n = 0 then ps else 0)

/-- `switch_to(want)` of R82: ACQUIRING on the new reference with the phase absorbed and recorded (R84), the bandwidth at
BW_ACQ (R88); for REF0 the absorbed phase is handed to the servo (R85). The frequency stays as it is: what follows moves it no
faster than R80. -/
def State.switchTo (s : State) (w : Nat) (phase : List Int) : State :=
  let old := s.get Fld.REFS_SEL_STATUS_ACTIVE
  let ps := s.phaseModulo w (phaseOf phase w)
  let s1 := s.dropActive
  let s2 := ((s1.put Fld.REFS_SEL_STATUS_ACTIVE w).flag Fld.REFS_SEL_STATUS_ACT_VALID true).flag (Fld.REFS_ST_ACTIVE w) true
  let s3 := (s2.absorb w ps).setBw (s.get Fld.REFS_LOOP_BW_ACQ)
  let s4 := { s3 with refs := { s3.refs with acqFreq := s.refs.loopFreq, history := [] } }
  let s5 := if s.get Fld.REFS_SEL_STATUS_STATE = 0 then { s4 with refs := { s4.refs with lockedReached := false } } else s4
  let s6 := s5.selState 1 old
  if w = 0 then s6.servoHand ps else s6

/-- HOLD_OFF written, with event 4 at its onset (R78, R97). -/
def State.setHoldOff (s : State) (w : Nat) (b : Bool) : State :=
  if b && !s.on Fld.REFS_SEL_STATUS_HOLD_OFF then
    (s.flag Fld.REFS_SEL_STATUS_HOLD_OFF true).raise 4 0x09 (s.refDetail w 0 (s.get Fld.REFS_SEL_STATUS_ACTIVE))
  else s.flag Fld.REFS_SEL_STATUS_HOLD_OFF b

/-- `select()` of R82; while the CLK domain restarts the selector has stopped (R359). -/
def State.selectRef (s : State) (phase : List Int) : State :=
  if s.domDown 2 then s
  else if s.policy = 2 then s.enterHoldover
  else
    let want := s.chooseRef
    if want = s.activeRef then s.flag Fld.REFS_SEL_STATUS_HOLD_OFF false
    else
      let optional := match s.activeRef with
        | some a => s.refQual a
        | none => false
      let w := want.getD 0
      let a := s.get Fld.REFS_SEL_STATUS_ACTIVE
      if optional && s.disagrees w a then s.setHoldOff w true
      else if optional && s.inAlarm then s
      else if optional && !(s.policy = 1 && w = s.get Fld.REFS_SEL_CTRL_MAN_REF)
          && (!s.on Fld.REFS_SEL_CTRL_REVERTIVE || (s.refOne w).wtr) then s
      else
        let s1 := s.setHoldOff w false
        match want with
        | none => s1.enterHoldover
        | some r => s1.switchTo r phase

/-! ### The commands -/

/-- Whether 2.25 nominal periods have passed since the last edge of a reference that the model knows of (R70): of REF0 since its last
measurement, where the master's interval is known; of the others since the last edge that a timestamp unit recorded. -/
def State.edgeOverdue (s : State) (n : Nat) : Bool :=
  if n = 0 then match s.time.syncAt, s.refRate 0 with
    | some t, some r => (s.time.now - t) * r ≥ 2250000000000
    | _, _ => true
  else match (s.refOne n).edgeAt with
    | some t => (4 * s.time.now - t) * s.monitorHz n ≥ 9000000000
    | none => true

/-- REF_ACTIVITY_LOSS (R70): a reference whose edges arrived has missed two in a row; one that its settings allow to qualify is
disqualified at once with cause ACTIVITY, with event 8 for REF3 to REF7, and the selection runs. -/
def execRefActivityLoss (n : Fin 8) (phase : List Int) (s : State) : Host.Outcome State Fault Refusal :=
  s.runF fun s => s.when (((s.refOne n).alive || s.refQual n || s.on (Fld.REFS_ST_QUALIFYING n)) && s.edgeOverdue n) fun s =>
    let s0 := s.setRef n { s.refOne n with alive := false }
    if s0.refUsable n then
      let s1 := s0.disqualify n causeActivity
      let s2 := if n.val ≥ 3 then s1.raise 8 0x09 (s1.refDetail n causeActivity n) else s1
      s2.selectRef phase
    else s0

/-- REF_GLITCH (R71): the edge is rejected and counted, whatever the reference's settings; a second within QWIN seconds disqualifies
one that they allow to qualify, and the selection runs. REF0 has no edge qualifier. -/
def execRefGlitch (n : Fin 8) (phase : List Int) (s : State) : Host.Outcome State Fault Refusal :=
  s.runF fun s => s.when (n.val ≠ 0) fun s =>
    let s1 := s.bump (Fld.REFS_CNT_GLITCH n) 1
    let near := (s1.refOne n).glitches.any (fun t => s1.time.now < t + s1.get Fld.REFS_QUAL_QWIN * 1000000000)
    let s2 := s1.setRef n { s1.refOne n with glitches := [s1.time.now] }
    if near && s2.refUsable n then ((s2.disqualify n causeGlitch).runWindow n).selectRef phase else s2

/-- Whether a reference last disqualified by the model or the majority may go on qualifying (R74): its Y1 lies within TOL
of the active reference and within the hard limit of the usable model's prediction. -/
def State.readmitted (s : State) (n : Nat) : Bool :=
  let c := s.get (Fld.REFS_ST_CAUSE n)
  if c = causeHardModel || c = causeMajority then
    let y := s.getS (Fld.REFS_Y1_Y1 n)
    (match s.activeRef with
      | some a => (y - s.getS (Fld.REFS_Y1_Y1 a)).natAbs ≤ ppmUnits (s.get Fld.REFS_DISAGREE_TOL)
      | none => true)
    && (!s.on Fld.REFS_HM_STATUS_USABLE || s.on Fld.REFS_HM_STATUS_SUSPECT
        || (y - s.predict).natAbs ≤ ppmUnits (s.get Fld.REFS_LIMITS_HARD))
  else true

/-- Whether the part drives its PAIRCLK land (R119, R309, R328), by the vote of the lanes: a paired module in CLAIMING or ACTIVE. Every other module, and one that is
not powered, keeps the land at high impedance and receives it. -/
def State.drivesPairclk (s : State) : Bool :=
  let own : Bool := s.on Fld.PAIR_CFG_EN && (s.get Fld.PAIR_STATUS_ROLE = 3 || s.get Fld.PAIR_STATUS_ROLE = 4)
  s.powered && s.voted own.toNat (fun x => x.pairclk.toNat) = 1

/-- Whether a reference's source reaches its monitor: of REF5 the receiver and of REF6 the port that LAP selects, which must be a
slave and not OFF (R68, R254); of REF7 the PAIRCLK land, while it receives (R119, R328). -/
def State.refPresent (s : State) (n : Nat) : Bool :=
  let lap := s.enabled 0x28 && !s.domDown 4
  if n = 5 then lap && s.on (Fld.LAP_AESR_CFG_EN (s.get Fld.LAP_CFG_REF5_SEL))
  else if n = 6 then
    let p := s.get Fld.LAP_CFG_REF6_SEL
    lap && s.on (Fld.LAP_TDM_ST_STATE p) && !s.on (Fld.LAP_TDM_CFG_MASTER p)
  else if n = 7 then !s.drivesPairclk
  else true

/-- The frequency offset against the raw oscillator, in 0.1 ppb, of a reference whose edges a timestamp unit records (R46, R72):
`count` measured periods lie between the last edge of the second before, at `t0`, and the last of this one, at `t1`, in quarter
nanoseconds of the counted clock, which SYN1's steering word carries away from the oscillator. -/
def State.edgeOffset (s : State) (n count t0 t1 : Nat) : Option Int :=
  if t1 ≤ t0 then none
  else
    let word := if s.time.onSyn1 then s.syn.word.getD 1 0 else 0
    some ((count * 4000000000 : Nat) * (10000000000 + word) / (s.measureHz n * (t1 - t0) : Nat) - 10000000000)

/-- The last second's edges of REF3 to REF7 taken (R46): the counter at the last edge, in the count that no step changes (R62),
is kept for the next second, and with the one kept before it gives the offset. The units run while TIME is enabled (R39). -/
def State.takeEdges (s : State) (n : Nat) (x : Option (Nat × Nat)) : State × Option Int :=
  let r := s.refOne n
  match (if s.enabled 0x08 && s.refPresent n then x else none) with
  | none => (s.setRef n { r with edgeAt := none }, none)
  | some (count, stamp) =>
    let t1 := ((stamp : Int) - 4 * (s.time.counter.toNat - s.time.now : Int)).toNat
    let first := (t1 - (count - 1) * 4000000000 / s.measureHz n) / 4
    ((s.setRef n { r with edgeAt := some t1 }).resumeRef n first, r.edgeAt.bind fun t0 => s.edgeOffset n count t0 t1)

/-- Step 1 of R79 for one reference: the offsets of R72, whatever its settings. REF1 and REF2, whose edges no unit records, have
arrived for the second over which they were measured. -/
def State.measureRef (e : RefEval) (s : State) (n : Nat) : State × Bool :=
  let q := if n ≤ 2 then (s, if n = 0 && !s.enabled 0x08 then none else e.y1.getD n none) else s.takeEdges n (e.edges.getD (n - 3) none)
  match q.2 with
  | none => (q.1, false)
  | some y =>
    let s0 := if n = 1 || n = 2 then q.1.resumeRef n (s.time.now - 1000000000) else q.1
    let r := s0.refOne n
    let l := (satSigned 32 y :: r.y1s).take 256
    let s1 := s0.setRef n { r with y1s := l, secs := if s0.refQual n then r.secs + 1 else 0 }
    (((s1.putS (Fld.REFS_Y1_Y1 n) y).putS (Fld.REFS_Y16_Y16 n) (meanOf (l.take 16))).putS (Fld.REFS_Y256_Y256 n) (meanOf l), true)

/-- Step 2 of R79 for one reference: the capture test of R73 (±100 ppm) where the last second `measured` it, and the qualification
window of R74, which runs while no condition fails. -/
def State.captureRef (s : State) (n : Nat) (measured : Bool) : State :=
  if measured && (s.getS (Fld.REFS_Y1_Y1 n)).natAbs > 1000000 then
    (if s.refQual n || s.on (Fld.REFS_ST_QUALIFYING n) then s.disqualify n causeCapture
     else (s.failWindow n).put (Fld.REFS_ST_CAUSE n) causeCapture)
  else if s.refQual n then s
  else if !s.mayQualify n || (measured && !s.readmitted n) then s.failWindow n
  else s.runWindow n

/-- A reference that its settings do not let qualify stays unqualified (R69): disabled, or with a rate it does not allow. -/
def State.barRef (s : State) (n : Nat) : Option State :=
  let put := fun (c : Nat) => if s.refQual n || s.on (Fld.REFS_ST_QUALIFYING n) then s.disqualify n c else s.put (Fld.REFS_ST_CAUSE n) c
  if !s.refEnabled n then some (put causeDisabled) else if !s.refRateOk n then some (put causeConfig) else none

/-- Step 2 of R79 for one reference: `measured` whether the last second measured it. -/
def State.judgeRef (measured : List Bool) (s : State) (n : Nat) : State := match s.barRef n with
  | some t => t
  | none => s.captureRef n (measured.getD n false)

/-- Steps 1 and 2 of R79: every reference is measured before the first is judged. -/
def State.evalRefs (s : State) (e : RefEval) : State :=
  let r := (List.range 8).foldl (fun (x : State × List Bool) n => let y := State.measureRef e x.1 n; (y.1, x.2 ++ [y.2])) (s, [])
  (List.range 8).foldl (State.judgeRef r.2) r.1

/-- The outliers of R77: with three or more qualified references, one that disagrees with every other while at least two
of the others agree with each other. -/
def State.outliers (s : State) : List Nat :=
  let q := s.qualified
  if q.length < 3 then []
  else q.filter fun n =>
    let rest := q.filter (· ≠ n)
    rest.all (fun m => s.disagrees n m) && rest.any (fun i => rest.any (fun j => i ≠ j && !s.disagrees i j))

/-- Steps 3 of R79: the outliers are disqualified; the references that disagree with the active one are marked, with
event 4 at the onset of a disagreement (R76 to R78). A further reference that begins to disagree while one already does is no
new onset here: the spec raises the event once and does not say what it counts. DESIGN CHOICE (assumption 206). -/
def State.pairwise (s : State) : State :=
  let s1 := s.outliers.foldl (fun t n => t.disqualify n causeMajority) s
  match s1.activeRef with
  | none => (List.range 8).foldl (fun t n => t.flag (Fld.REFS_ST_DISAGREE n) false)
      { s1 with refs := { s1.refs with disagreeOpen := false } }
  | some a =>
    if s1.refQual a then
      let bad := s1.qualified.filter (fun n => n ≠ a && s1.disagrees n a)
      let s2 := (List.range 8).foldl (fun t n => t.flag (Fld.REFS_ST_DISAGREE n) (bad.contains n)) s1
      let s3 := { s2 with refs := { s2.refs with disagreeOpen := !bad.isEmpty } }
      match bad with
      | [] => s3
      | b :: _ => if s1.refs.disagreeOpen then s3 else s3.raise 4 0x09 (s3.refDetail b 0 a)
    else s1

/-- Step 4 of R79 with the soft limits of R75 and R76: SOFT on the active reference sets above the soft limit, with event
3, and clears once every difference lies below 80 % of it; above the hard limit the reference is disqualified, unless
another qualified reference agrees with it, and then the model is set aside. Event 3 names the other reference where it is from that
one that the active reference differs. The SOFT of a reference that is no longer active
stays until that reference is disqualified or active again: the spec compares the active one alone, and says of no other when
its SOFT clears. DESIGN CHOICE (assumption 206). -/
def State.modelTest (s : State) : State := match s.activeRef with
  | none => s
  | some a =>
    if !s.refQual a then s
    else
      let m := s.on Fld.REFS_HM_STATUS_USABLE && !s.on Fld.REFS_HM_STATUS_SUSPECT
      let d16 := if m then (s.getS (Fld.REFS_Y16_Y16 a) - s.predict).natAbs else 0
      let d256 := if m then (s.getS (Fld.REFS_Y256_Y256 a) - s.predict).natAbs else 0
      let others := s.qualified.filter (· ≠ a)
      let pair := others.foldl (fun x n => max x (s.refDiff a n)) 0
      let far := (others.find? fun n => s.refDiff a n = pair).getD a
      let big := max pair (max d16 d256)
      let s1 :=
        if big > s.softLimit then
          (if s.on (Fld.REFS_ST_SOFT a) then s
           else (s.flag (Fld.REFS_ST_SOFT a) true).raise 3 0x09 (s.refDetail a 0 (if pair > s.softLimit then far else a)))
        else if big * 10 < s.softLimit * 8 then s.flag (Fld.REFS_ST_SOFT a) false
        else s
      if max d16 d256 > ppmUnits (s.get Fld.REFS_LIMITS_HARD) then
        (if others.any (fun n => !s.disagrees a n) then s1.clearModel s1.runningModel true
         else s1.disqualify a causeHardModel)
      else s1

/-- A value brought toward another by no more than a step. -/
def approach (old want : Int) (step : Nat) : Int :=
  if want > old + step then old + step else if want < old - step then old - step else want

/-- How far the loop's frequency may have moved since it was last brought forward, in 0.1 ppb (R80): SLEW is in 0.01 ppm/s. -/
def State.slewRoom (s : State) : Nat := s.get Fld.REFS_SLEW_SLEW * 100 * (s.time.now - s.refs.loopAt) / 1000000000

/-- The steering word of an output (R98, R100): while STEER is 1 the loop's, within ±250 ppm. -/
def State.steerWant (s : State) (n : Nat) : Int :=
  if s.on (Fld.SYN_CFG_STEER n) then
    (if s.refs.loopFreq > 2500000 then 2500000 else if s.refs.loopFreq < -2500000 then -2500000 else s.refs.loopFreq)
  else 0

def State.setWord (s : State) (n : Nat) (w : Int) : State :=
  if s.syn.word.getD n 0 = w then s
  else { s with syn := { s.syn with word := s.syn.word.set n w, wordWas := s.syn.wordWas.set n (s.syn.word.getD n 0, s.time.now) } }

/-- An output takes its steering word (R98, R100): a coasting one keeps its frozen word and its CLAMP (R113), a stopped one has no
clamp; one on its way back from a freeze moves by no more than `room` (R114). A clamp that sets is logged. -/
def State.clampSyn (room : Nat) (s : State) (n : Nat) : State :=
  if s.on (Fld.SYN_ST_COASTING n) then s
  else
    let beyond := s.on (Fld.SYN_CFG_EN n) && s.on (Fld.SYN_CFG_STEER n) && s.refs.loopFreq.natAbs > 2500000
    let want := s.steerWant n
    let back := s.syn.returning.getD n false
    let w := if back then approach (s.syn.word.getD n 0) want room else want
    let s1 := (s.setWord n w).flag (Fld.SYN_ST_CLAMP n) beyond
    let s2 := { s1 with syn := { s1.syn with returning := s1.syn.returning.set n (back && w ≠ want) } }
    if beyond && !s.on (Fld.SYN_ST_CLAMP n) then s2.note 0x0A [n, ofSigned 32 s.refs.loopFreq] else s2

/-- The frequency that the loop heads for, in 0.1 ppb: in FREE_RUN the oscillator's nominal, corrected by the model and by what a
reset of the model has folded into the offset term (R86, R94); in HOLDOVER and LOST h + p(θ, a) (R89); while it follows a
reference, what the loop filter, whose arithmetic the spec leaves, asks for. DESIGN CHOICE (assumption 226). -/
def State.loopWant (s : State) (filter : Int) : Int :=
  if s.on Fld.REFS_SEL_STATUS_ACT_VALID then filter else s.refs.offset + s.predict

/-- The loop's frequency brought forward (R80): in every state it changes no faster than SLEW. -/
def State.moveLoop (s : State) (want : Int) : State :=
  { s with refs := { s.refs with loopFreq := approach s.refs.loopFreq want s.slewRoom, loopAt := s.time.now } }

/-- What a whole second changes apart from the references and the loop: the temperature, the models' ages and the elapsed
minutes of HOLDOVER and LOST (R90, R93, R94). Both models age, whichever oscillator runs, from their start or reset on, before a
first sample too: the spec counts the age since learning last began and not what it counts before. DESIGN CHOICE (assumption 225). -/
def State.secondPasses (s : State) (e : RefEval) : State :=
  let st := s.get Fld.REFS_SEL_STATUS_STATE
  let r := s.refs
  let aged := r.models.map (fun m => ({ m with ageS := m.ageS + 1 } : HModel))
  let s1 := { s with refs := { r with theta := e.theta, models := aged } }
  let s2 := (List.range 2).foldl (fun t i =>
    t.wr (indKey 9 (8 * i + 6)) (BitVec.ofNat 32 ((t.model i).ageS * 65536 / 86400))) s1
  let s3 := s2.showModel
  if st = 3 || st = 4 then
    s3.put Fld.REFS_HOLDOVER_ELAPSED (min 0xFFFF ((s.time.now - s.refs.holdoverSince) / 60000000000))
  else s3

/-- The loop over the second that has passed (R80, R87, R89): its frequency, its history in LOCKED, from whose one value a second
the 16 s mean of R89 is taken, and the phase error against the active reference at each of its measurements in the second, which reach the model with the second, or,
where none is given, at its end; REF0 is measured at each Sync. DESIGN CHOICE (assumptions 19, 244): the spec does not say how often
the mean samples the frequency. -/
def State.loopPasses (s : State) (e : RefEval) : State :=
  let s1 := s.moveLoop (s.loopWant e.loopFreq)
  let hist := if s1.get Fld.REFS_SEL_STATUS_STATE = 2 then (s1.refs.loopFreq :: s1.refs.history).take 18 else []
  let s2 := { s1 with refs := { s1.refs with history := hist } }
  match s2.activeRef with
  | some a =>
    let seen := if e.errors.isEmpty then [(0, phaseOf e.phase a)] else e.errors
    if a = 0 then s2 else seen.foldl (fun t x => t.phaseMeasured (s2.time.now - x.1) (s2.phaseModulo a (x.2 - s2.refs.absorbed))) s2
  | none => s2

/-- REF_EVALUATION (R79). -/
def execRefEvaluation (e : RefEval) (s : State) : Host.Outcome State Fault Refusal :=
  s.runF fun s => s.when (!s.domDown 2) fun s =>
    let s1 := (s.secondPasses e).loopPasses e
    let s2 := ((s1.evalRefs e).pairwise.modelTest.selectRef e.phase).showBw
    (List.range 6).foldl (State.clampSyn s.slewRoom) s2

/-- A measurement taken by the stack (R59, R60): a servo that stood as the master measures, and REF0's edge has arrived (R66, R70). -/
def State.takeMeasurement (s : State) (m : PtpMeas) : State :=
  let s1 := s.showMeasurement m
  let s2 := if s1.get Fld.TIME_PTP_STATUS_SERVO = servoMaster then s1.servoPut servoMeasuring else s1
  let t := { s2.time with measured := true, syncLog := some m.logSync, syncAt := some s.time.now }
  ({ s2 with time := t }).resumeRef 0 s.time.now

/-- SYNC_MEASUREMENT (R60): the registers of R59 take the measurement, a grandmaster is selected, and the servo judges the
offset; while REF0 is active the offset is its phase error, which the loop slews out (R85, R87).
DEDUCED (assumptions 15, 223). -/
def execSyncMeasurement (m : PtpMeas) (s : State) : Host.Outcome State Fault Refusal :=
  s.run fun s => s.when (s.usesMeasurement m) fun s =>
    let s1 := (((s.takeMeasurement m).servoJudge m.offset).runWindow 0).showBw
    if s1.activeRef = some 0 then s1.phaseMeasured s1.time.now (m.offset * 1000) else s1

/-- REF0 loses its activity with the stack (R58, R70, R359). DEDUCED (assumption 143). -/
def State.ref0Lost (s : State) (phase : List Int) : State :=
  let s1 := s.setRef 0 { s.refOne 0 with alive := false }
  if s.refQual 0 || s.on (Fld.REFS_ST_QUALIFYING 0) then (s1.disqualify 0 causeActivity).selectRef phase else s1

/-- The check of R58 with what it brings: ports held DISABLED cost REF0 its activity. -/
def State.checkRoles (s : State) (phase : List Int) : State :=
  let s1 := s.checkPtp
  if s1.on Fld.TIME_PTP_STATUS_CFG_INVALID && s1.time.validRole.isNone then s1.ref0Lost phase else s1

/-- REF_QUALIFY (R74): a reference whose window of QWIN seconds has run clean is qualified, with event 2, and its wait-to-restore timer
starts; a WTR_S of 0 has run out at once. -/
def execRefQualify (n : Fin 8) (s : State) : Host.Outcome State Fault Refusal :=
  s.runF fun s => s.when (s.refUsable n && s.on (Fld.REFS_ST_QUALIFYING n) && !s.refQual n
      && s.time.now ≥ (s.refOne n).winAt + s.get Fld.REFS_QUAL_QWIN * 1000000000
      && (n.val ≠ 0 || (s.get Fld.TIME_PTP_STATUS_SERVO ≠ servoDisabled
        && s.get Fld.TIME_PTP_STATUS_SERVO ≠ servoStepPending))) fun s =>
    let s1 := (s.flag (Fld.REFS_ST_QUAL n) true).flag (Fld.REFS_ST_QUALIFYING n) false
    let s2 := (s1.setRef n { s1.refOne n with y1s := [], secs := 0, wtr := s1.get Fld.REFS_SEL_CTRL_WTR_S ≠ 0 }).start (.wtr n)
    s2.raise 2 0x09 (s2.refDetail n (s2.get (Fld.REFS_ST_CAUSE n)) n)

/-- WAIT_TO_RESTORE_EXPIRE (R82): WTR_S after it qualified the reference becomes eligible, and the selection runs. -/
def execWaitToRestoreExpire (n : Fin 8) (phase : List Int) (s : State) : Host.Outcome State Fault Refusal :=
  s.runF fun s => s.when ((s.refOne n).wtr && s.ran (.wtr n) (s.get Fld.REFS_SEL_CTRL_WTR_S * 1000000000)) fun s =>
    (s.setRef n { s.refOne n with wtr := false }).selectRef phase

/-- Whether an instant lies at least LOCK_HOLD back (R86). -/
def State.heldFor (s : State) (t : Option Nat) : Bool := match t with
  | some t => s.time.now ≥ t + s.get Fld.REFS_QUAL_LOCK_HOLD * 1000000000
  | none => false

/-- REF_LOCK (R86, R88): the phase error has lain within LOCK_PHASE for LOCK_HOLD, and ACQUIRING becomes LOCKED; if BW_TRK is at
or above BW_ACQ it applies at once. -/
def execRefLock (s : State) : Host.Outcome State Fault Refusal :=
  s.runF fun s => s.when (s.get Fld.REFS_SEL_STATUS_STATE = 1 && s.heldFor s.refs.nearAt && !s.domDown 2) fun s =>
    let s1 := ({ s with refs := { s.refs with lockedSince := s.time.now, lockedReached := true, history := [] } }).start .bandwidth
    let s2 := if s.get Fld.REFS_LOOP_BW_TRK ≥ s.get Fld.REFS_LOOP_BW_ACQ then s1.setBw (s.get Fld.REFS_LOOP_BW_TRK)
      else s1
    s2.selState 2 (s.get Fld.REFS_SEL_STATUS_ACTIVE)

/-- REF_LOCK_LOSS (R86): the phase error has lain beyond four times LOCK_PHASE for LOCK_HOLD, and LOCKED returns to ACQUIRING on
the same reference, at BW_ACQ. -/
def execRefLockLoss (s : State) : Host.Outcome State Fault Refusal :=
  s.runF fun s => s.when (s.get Fld.REFS_SEL_STATUS_STATE = 2 && s.heldFor s.refs.farAt) fun s =>
    let s1 := s.setBw (s.get Fld.REFS_LOOP_BW_ACQ)
    ({ s1 with refs := { s1.refs with acqFreq := s1.refs.loopFreq, history := [] } }).selState 1 (s.get Fld.REFS_SEL_STATUS_ACTIVE)

/-- BANDWIDTH_STEP (R88): every 2 s the bandwidth halves until it would fall below BW_TRK, and is then BW_TRK. -/
def execBandwidthStep (s : State) : Host.Outcome State Fault Refusal :=
  s.runF fun s => s.when (s.get Fld.REFS_SEL_STATUS_STATE = 2 && s.ran .bandwidth 2000000000) fun s =>
    let t := s.get Fld.REFS_LOOP_BW_TRK * 16384
    { s.start .bandwidth with refs := { s.refs with bw := if s.refs.bw / 2 < t then t else s.refs.bw / 2 } }.showBw

/-- How long HOLDOVER stays valid, in minutes (R93): VALID_MIN, and at most 10 while the model is not usable. -/
def State.validMinutes (s : State) : Nat :=
  if s.on Fld.REFS_HM_STATUS_USABLE then s.get Fld.REFS_HOLDOVER_VALID_MIN else min 10 (s.get Fld.REFS_HOLDOVER_VALID_MIN)

/-- HOLDOVER_VALIDITY_EXPIRE (R93): the validity timer has run its time, and HOLDOVER becomes LOST. -/
def execHoldoverValidityExpire (s : State) : Host.Outcome State Fault Refusal :=
  s.runF fun s => s.when (s.get Fld.REFS_SEL_STATUS_STATE = 3
      && s.time.now ≥ s.refs.holdoverSince + s.validMinutes * 60000000000) fun s =>
    s.selState 4 (s.get Fld.REFS_SEL_STATUS_ACTIVE)

/-! ### Learning -/

/-- The terms that the six coefficients multiply (R90): 1, Δθ, Δθ², Δθ³, the age in days and ln(1 + a ÷ 1 d). -/
def fitTerms (theta : Int) (ageS : Nat) : List Rat :=
  let d : Rat := (theta - 25 : Int)
  [1, d, d * d, d * d * d, (ageS : Rat) / 86400, (lnDays ageS : Rat) / 65536]

def ratDot (a b : List Rat) : Rat := (List.zipWith (· * ·) a b).foldl (· + ·) 0

/-- The fit as it begins (R90): no coefficient yet, and the starting variance for each. -/
def fitBegin : List (List Rat) :=
  (List.range 6).map fun (i : Nat) => (List.range 6).map fun (j : Nat) => if i = j then Config.fitStart else 0

/-- One step of recursive least squares with forgetting (R90): `f` the terms, `y` the sample in ppb; the gain, the corrected
coefficients and the covariance. -/
def fitStep (c : List Rat) (p : List (List Rat)) (f : List Rat) (y : Rat) : List Rat × List (List Rat) :=
  let pf := p.map (ratDot · f)
  let den := forgetting + ratDot f pf
  let k := pf.map (· / den)
  let e := y - ratDot f c
  (List.zipWith (fun a b => a + b * e) c k,
   List.zipWith (fun row ki => List.zipWith (fun x pj => (x - ki * pj) / forgetting) row pf) p k)

/-- The same where only C0 is fitted, the other coefficients standing (R90): their terms explain what they explain, and the rest
moves C0 alone. -/
def fitFirst (c : List Rat) (p : List (List Rat)) (f : List Rat) (y : Rat) : List Rat × List (List Rat) :=
  let p0 := (p.getD 0 []).getD 0 0
  let k := p0 / (forgetting + p0)
  let e := y - ratDot f c
  (c.set 0 (c.getD 0 0 + k * e), p.modify 0 (·.set 0 ((p0 - k * p0) / forgetting)))

/-- A model with one more sample of `y` ppb (R90). -/
def HModel.learn (m : HModel) (theta : Int) (y : Rat) (usable : Bool) : HModel :=
  let c := if m.coef.length = 6 then m.coef else [0, 0, 0, 0, 0, 0]
  let p := if m.cov.length = 6 then m.cov else fitBegin
  let f := fitTerms theta m.ageS
  let r := if usable then fitStep c p f y else fitFirst c p f y
  { m with coef := r.1, cov := r.2 }

/-- Whether a learning sample may be taken (R90): LOCKED for at least 16 s, the active reference without SOFT and
DISAGREE, no hold-off, the model not set aside. A model set aside restarts learning as from a reset, so SUSPECT bars
samples only until that restart, which R75's clearing has made. DEDUCED (assumption 18). -/
def State.mayLearn (s : State) : Bool := match s.activeRef with
  | none => false
  | some a => s.get Fld.REFS_SEL_STATUS_STATE = 2 && s.time.now ≥ s.refs.lockedSince + 16000000000
      && !s.on (Fld.REFS_ST_SOFT a) && !s.on (Fld.REFS_ST_DISAGREE a) && !s.on Fld.REFS_SEL_STATUS_HOLD_OFF

/-- HOLDOVER_LEARN_SAMPLE (R90): the running oscillator's model is refitted, by C0 alone while it is not usable, its learned time
advances by one sample of 16 s, its span widens; SUSPECT clears once the restarted model is usable. The words show the coefficients
rounded to the nearest Q16.16. DESIGN CHOICE (assumption 17). -/
def execHoldoverLearnSample (s : State) : Host.Outcome State Fault Refusal :=
  s.runF fun s => s.when (s.mayLearn && s.ran .learn 16000000000) fun s =>
    let s := s.start .learn
    let i := s.runningModel
    let n := (s.rd (indKey 9 (8 * i + 7))).toNat
    let y := s.getS (Fld.REFS_Y16_Y16 (s.get Fld.REFS_SEL_STATUS_ACTIVE))
    let m := (s.model i).learn s.refs.theta ((y : Rat) / 10) (n ≥ 225)
    let s1 := (List.range 6).foldl (fun t w =>
      t.wr (indKey 9 (8 * i + w)) (BitVec.ofNat 32 (ofSigned 32 (satSigned 32 ((m.coef.getD w 0) * 65536 + 1 / 2).floor)))) s
    let n' := if n ≥ 2 ^ 32 - 1 then n else n + 1
    let s2 := s1.wr (indKey 9 (8 * i + 7)) (BitVec.ofNat 32 n')
    (s2.setModel i { m with tLo := if n = 0 then s.refs.theta else min m.tLo s.refs.theta,
                            tHi := if n = 0 then s.refs.theta else max m.tHi s.refs.theta,
                            suspect := m.suspect && n' < 225 }).showModel

/-- The models as saved to flash (R91). -/
def State.saveModels (s : State) : State :=
  { s with flash := { s.flash with hmodels := (List.range 2).map (fun i =>
      { words := (List.range 8).map (fun w => s.rd (indKey 9 (8 * i + w))), model := s.model i }) } }

/-- The last saved models restored, as at ATTEST (R91). -/
def State.restoreModels (s : State) : State :=
  let put := fun (t : State) (i : Nat) => match s.flash.hmodels[i]? with
    | some h => ((List.range 8).foldl (fun u w => u.wr (indKey 9 (8 * i + w)) (h.words.getD w 0)) t).setModel i h.model
    | none => t
  ((List.range 2).foldl put s).showModel

/-- HOLDOVER_MODEL_SAVE (R91): every 1 h while the part learns. -/
def execHoldoverModelSave (s : State) : Host.Outcome State Fault Refusal :=
  s.runF fun s => s.when (s.mayLearn && s.ran .save 3600000000000) fun s => (s.start .save).saveModels

/-- The running oscillator's model reset (R94): nothing changes at the output, so in FREE_RUN, HOLDOVER and LOST the
correction in force is folded into the offset term; logged with the port. -/
def State.resetModel (s : State) (g : Who) : State :=
  let st := s.get Fld.REFS_SEL_STATUS_STATE
  let s1 := if st = 0 || st = 3 || st = 4 then { s with refs := { s.refs with offset := s.refs.offset + s.predict } } else s
  (s1.clearModel s1.runningModel false).command g 0x090038 1

/-- HOLDOVER_MODEL_RESET (R94): RESET is key-guarded (R469). -/
def execHoldoverModelReset (g : Agent) (s : State) : Host.Outcome State Fault Refusal :=
  s.runF fun s => s.keyed g.who 0x090038 1 (fun t => t.resetModel g.who)

/-- The running oscillator changes, with the phase absorbed (R84, R95, R105); it is logged. -/
def State.changeOscillator (s : State) (xo : Bool) (phase : Int) : State :=
  let s1 := (s.flag Fld.REFS_OSC_XO_RUN xo).putS Fld.REFS_PHASE_ABSORBED phase
  (({ s1 with refs := { s1.refs with absorbed := s1.refs.absorbed + phase } }).showModel).note 0x09 [if xo then 1 else 0]

/-- XO_IN_FAIL (R95): back to the TCXO at once; XO_SEL is kept, and XO_IN is not tried again until it is written. -/
def execXoInFail (phase : Int) (s : State) : Host.Outcome State Fault Refusal :=
  s.runF fun s => s.when (s.on Fld.REFS_OSC_XO_RUN) fun s =>
    let s1 := s.changeOscillator false phase
    { s1 with refs := { s1.refs with xoFailed := true } }

end Sys2Proof.Machine
end

