-- ==== Sys2Proof/Machine/Syn.lean ====
section
/-! DEFINITION. Core PLLs, output synthesizers and pulse trains (R98 to R128). -/

namespace Sys2Proof.Machine

/-! ### Core PLLs and synthesizers -/

/-- LOCK and NO_BAND of a core PLL, CPLL_N where `n` is true (R106). -/
def Fld.cpllLock (n : Bool) : Fld := if n then Fld.SYN_CPLL_STATUS_LOCK_N else Fld.SYN_CPLL_STATUS_LOCK_M
def Fld.cpllNoBand (n : Bool) : Fld := if n then Fld.SYN_CPLL_STATUS_NO_BAND_N else Fld.SYN_CPLL_STATUS_NO_BAND_M
def Fld.cpllEntry (n : Bool) : Fld := if n then Fld.SYN_CPLL_STATUS_ENTRY_N else Fld.SYN_CPLL_STATUS_ENTRY_M
def Fld.cpllVco (n : Bool) : Fld := if n then Fld.SYN_CPLLN_CFG_VCO_KHZ else Fld.SYN_CPLLM_CFG_VCO_KHZ

def Fld.cpllPrescale (n : Bool) : Fld := if n then Fld.SYN_CPLLN_CFG_PRESCALE else Fld.SYN_CPLLM_CFG_PRESCALE

/-- The frequency in Hz at a core PLL's phase-frequency detector (R101): the oscillator's 24.576 MHz times 1, 2 or ½; code 3 acts
as 0. -/
def State.pfdHz (s : State) (n : Bool) : Nat := match s.get (Fld.cpllPrescale n) with
  | 1 => 49152000
  | 2 => 12288000
  | _ => 24576000

/-- The feedback ratio N of a core PLL, as a fraction in lowest terms (R101). -/
def State.cpllRatio (s : State) (n : Bool) : Nat × Nat :=
  let a := s.get (Fld.cpllVco n) * 1000
  let g := Nat.gcd a (s.pfdHz n)
  (a / g, s.pfdHz n / g)

/-- The VCO of a core PLL in Hz while it is locked: N times what its detector is fed (R98, R101). -/
def State.vcoHz (s : State) (n : Bool) : Option Nat :=
  if s.on (Fld.cpllLock n) then some (s.pfdHz n * (s.cpllRatio n).1 / (s.cpllRatio n).2) else none

/-- Whether entry `e` of the band table is valid and holds the frequency (R102, R103). -/
def State.bandMatches (s : State) (khz e : Nat) : Bool :=
  let a := s.rd (indKey 0x0A (2 * e))
  let b := s.rd (indKey 0x0A (2 * e + 1))
  Word.field a 31 31 = 1 && Word.field a 23 0 ≤ khz && khz ≤ Word.field b 23 0

/-- Whether synthesizer `n` takes CPLL_N. -/
def State.synFromN (s : State) (n : Nat) : Bool := s.on (Fld.SYN_CFG_SRC n)

/-- When the lock in progress of an output began (R107). -/
def State.synStart (s : State) (n : Nat) : Option Nat := s.syn.start.getD n none

def State.setStart (s : State) (n : Nat) (t : Option Nat) : State := { s with syn := { s.syn with start := s.syn.start.set n t } }

/-- Whether synthesizer `n`'s output runs, locked or coasting. -/
def State.synRuns (s : State) (n : Nat) : Bool :=
  (s.on (Fld.SYN_ST_LOCK n) && (s.synStart n).isNone) || s.on (Fld.SYN_ST_COASTING n)

/-- The ratio by which an output divides its VCO, as the VCO's and the output's frequencies in Hz (R98, R99): exact, for both are
whole numbers. -/
def State.synRatio (s : State) (n : Nat) : Nat × Nat := (s.get (Fld.cpllVco (s.synFromN n)) * 1000, s.get (Fld.SYN_FREQ_FREQ_HZ n))

/-- An output's frequency in units of 10^-10 Hz (R98): the VCO divided by its ratio, times 1 + y with the steering word y that it
applies, and against the running oscillator fixed where it applies none; nothing while it does not run. -/
def State.synOut (s : State) (n : Nat) : Option Int :=
  if s.synRuns n then some ((s.get (Fld.SYN_FREQ_FREQ_HZ n) : Int) * (10000000000 + s.syn.word.getD n 0)) else none

/-- MCLK_OUT in the same units (R111, R119): SYN0 divided by 1, 2, 4 or 8 while EN is 1, low otherwise. -/
def State.mclkOut (s : State) : Option Int :=
  if s.on Fld.SYN_MCLK_EN then (s.synOut 0).map (· / (2 ^ s.get Fld.SYN_MCLK_DIV : Nat)) else none

/-- What the part drives on the PAIRCLK land in the same units (R119, R328): SYN0 divided by 1,024, and nothing while the land
receives. -/
def State.pairclkOut (s : State) : Option Int := if s.drivesPairclk then (s.synOut 0).map (· / 1024) else none

/-- The lane whose oscillator feeds the fallback clock generator (R125): the lowest-numbered one that the vote holds healthy. It
follows the vote whenever that changes. -/
def State.fallbackLane (s : State) : Option Nat := if s.powered then [0, 1, 2].find? fun l => s.get (Fld.laneState l) = 0 else none

/-- The fallback clock in Hz (R125): eight times the lane's 12.8 MHz. -/
def State.fallbackHz (s : State) : Option Nat := s.fallbackLane.map fun _ => 102400000

/-! ### Phase steps in progress -/

/-- LEFT_PS brought forward (R118): the output moves at SYN_PRATE.RATE ps per µs, in steps of 1 ps, and not while it has lost lock
(R116). -/
def State.movePhase (s : State) (n : Nat) : State :=
  let at_ := s.syn.stepAt.getD n 0
  let rate := s.get Fld.SYN_PRATE_RATE
  let left := s.getS (Fld.SYN_PHST_LEFT_PS n)
  if !s.on (Fld.SYN_ST_LOCK n) || left = 0 || rate = 0 then { s with syn := { s.syn with stepAt := s.syn.stepAt.set n s.time.now } }
  else
    let k := min left.natAbs ((s.time.now - at_) * rate / 1000)
    let s1 := s.putS (Fld.SYN_PHST_LEFT_PS n) (if left > 0 then left - k else left + k)
    { s1 with syn := { s1.syn with stepAt := s1.syn.stepAt.set n (at_ + k * 1000 / rate) } }

/-! ### Locking -/

/-- The bands in the order of the search (R107): from band 8 outward, alternately up and down. -/
def bandOrder : List Nat := [8, 9, 7, 10, 6, 11, 5, 12, 4, 13, 3, 14, 2, 15, 1, 0]

/-- The band that the search finds for an output's target: the first in its order that reaches it. The rule has every search end
with a band, so band 0, the last of the order, is the one that is left where no other does. DESIGN CHOICE (assumption 207). -/
def State.bandFor (s : State) (n : Nat) : Nat :=
  (bandOrder.find? (Config.vcoReach n (s.get (Fld.SYN_FREQ_FREQ_HZ n)))).getD 0

/-- A lock of an output begins, once the source core PLL is locked (R107): SEARCH sets. -/
def State.searchSyn (s : State) (n : Nat) : State :=
  let go := s.on (Fld.cpllLock (s.synFromN n))
  (s.flag (Fld.SYN_ST_SEARCH n) go).setStart n (if go then some s.time.now else none)

/-- A lock in progress brought forward (R107): BAND shows the band found from 200 µs on, and LOCK replaces SEARCH at 1,200 µs. -/
def State.lockProgress (s : State) (n : Nat) : State := match s.synStart n with
  | some t =>
    let s1 := if s.time.now ≥ t + 200000 then s.put (Fld.SYN_ST_BAND n) (s.bandFor n) else s
    if s.time.now ≥ t + 1200000 then (s1.flag (Fld.SYN_ST_SEARCH n) false).flag (Fld.SYN_ST_LOCK n) true else s1
  | none => s

/-- The synthesizers' own progress up to now, as their registers show it: at each tick and brim, and as a register of theirs is
accessed. -/
def State.synProgress (s : State) : State := (List.range 6).foldl (fun t n => (t.lockProgress n).movePhase n) s

/-! ### Loss of lock -/

/-- The steering word that a freeze keeps (R113): the one that stood 16 µs before the loss was declared. -/
def State.frozenWord (s : State) (n : Nat) : Int :=
  let w := s.syn.wordWas.getD n (0, 0)
  if s.time.now < w.2 + 16000 then w.1 else s.syn.word.getD n 0

/-- One output loses lock (R113, R115, R116): LOSS advances; a COAST output coasts on the value frozen, a GATE output
stops low and begins its search where its core PLL is locked; the running loss keeps the class it began with. -/
def State.loseSyn (s : State) (n : Nat) : State :=
  let was := s.on (Fld.SYN_ST_COASTING n)
  let gate := if was then false else s.on (Fld.SYN_CFG_CLASS n)
  let s0 := s.movePhase n
  let s1 := ((s0.bump (Fld.SYN_CNT_LOSS n) 1).flag (Fld.SYN_ST_LOCK n) false).flag
    (if gate then Fld.SYN_ST_GATED n else Fld.SYN_ST_COASTING n) true
  let s2 := { s1 with syn := { s1.syn with lossClass := s1.syn.lossClass.set n gate } }
  if gate then s2.searchSyn n
  else if was then s2
  else { s2.start (.coast n) with
    syn := { s2.syn with word := s2.syn.word.set n (s2.frozenWord n), returning := s2.syn.returning.set n false } }

/-- An output that has its lock and waits to start loses it (R107, R112): its lock begins afresh, and nothing coasts, for nothing runs. -/
def State.loseStart (s : State) (n : Nat) : State :=
  let s1 := (s.bump (Fld.SYN_CNT_LOSS n) 1).flag (Fld.SYN_ST_LOCK n) false
  (if s.on (Fld.SYN_CFG_CLASS n) then s1.flag (Fld.SYN_ST_GATED n) true else s1).searchSyn n

/-- A lock in progress that its core PLL leaves waits for that PLL (R107). -/
def State.dropStart (s : State) (n : Nat) : State :=
  if (s.synStart n).isSome then ((s.setStart n none).flag (Fld.SYN_ST_SEARCH n) false).flag (Fld.SYN_ST_LOCK n) false else s

/-- A bitmap of synthesizers. -/
def bitmap (l : List Nat) : Nat := l.foldl (fun b n => b + 2 ^ n) 0

/-- Whether an output has a lock to lose (R112): locked, started or not, or coasting. -/
def State.synHolds (s : State) (n : Nat) : Bool := s.on (Fld.SYN_ST_LOCK n) || s.on (Fld.SYN_ST_COASTING n)

/-- A loss incident (R112, R117): a core PLL's loss is a loss of every synthesizer it feeds that has a lock to lose; event 6 once,
with the bitmap and the core PLL. -/
def State.synLoss (s0 : State) (src : LossSource) : State :=
  let s := s0.synProgress
  let hit := match src with
    | .coreM => (List.range 6).filter (fun n => s.synHolds n && !s.synFromN n)
    | .coreN => (List.range 6).filter (fun n => s.synHolds n && s.synFromN n)
    | .output n => if s.synHolds n then [n.val] else []
  let core := match src with
    | .coreM => 1
    | .coreN => 2
    | .output _ => 0
  let s1 := match src with
    | .coreM => s.flag Fld.SYN_CPLL_STATUS_LOCK_M false
    | .coreN => s.flag Fld.SYN_CPLL_STATUS_LOCK_N false
    | .output _ => s
  let starts := match src with
    | .coreM => (List.range 6).filter (fun n => !s.synFromN n)
    | .coreN => (List.range 6).filter s.synFromN
    | .output _ => []
  if core = 0 && hit.isEmpty then s
  else (starts.foldl State.dropStart (hit.foldl (fun t n => if (s.synStart n).isSome then t.loseStart n else t.loseSyn n) s1)).raise 6 0x0A [bitmap hit, core]

/-- Whether an output is to run: enabled, and SYN2 only in the modes that power the audio path (R108). -/
def State.mayLock (s : State) (n : Nat) : Bool := s.on (Fld.SYN_CFG_EN n) && (n ≠ 2 || s.audioOn)

/-- A core PLL starts to lock (R102): the lowest-numbered valid entry that holds VCO_KHZ is taken; with none, NO_BAND
sets and every synthesizer fed from it behaves as on loss of lock. The stopped outputs it feeds begin their lock (R107,
R115), SYN2 only in the modes in which it runs (R108). -/
def State.lockCore (s : State) (n : Bool) : State :=
  match (List.range 32).find? (s.bandMatches (s.get (Fld.cpllVco n))) with
  | none =>
    let s1 := (s.flag (Fld.cpllNoBand n) true).flag (Fld.cpllLock n) false
    if (List.range 6).any (fun k => s1.on (Fld.SYN_ST_LOCK k) && s1.synFromN k = n) then
      s1.synLoss (if n then .coreN else .coreM)
    else s1
  | some e =>
    let s1 := ((s.flag (Fld.cpllNoBand n) false).put (Fld.cpllEntry n) e).flag (Fld.cpllLock n) true
    (List.range 6).foldl (fun t k =>
      if t.mayLock k && t.synFromN k = n && !t.synRuns k && (t.synStart k).isNone then t.searchSyn k else t) s1

/-- CORE_PLL_LOCK (R102), while the SYN block is enabled (R104). -/
def execCorePllLock (n : Bool) (s : State) : Host.Outcome State Fault Refusal :=
  s.runF fun s => s.when (s.enabled 0x0A && !s.domDown 2) fun s => s.lockCore n

/-- An output has held its lock for 1 ms and starts (R107, R115): the band, LOCK; with SYN1's first edge the counter passes to
it (R38, R104). It takes its steering word. -/
def State.startSyn (s : State) (n : Nat) (band : Nat) : State :=
  let s1 := (((((s.put (Fld.SYN_ST_BAND n) band).flag (Fld.SYN_ST_LOCK n) true).flag (Fld.SYN_ST_SEARCH n) false).flag
    (Fld.SYN_ST_GATED n) false).flag (Fld.SYN_ST_COASTING n) false).flag (Fld.SYN_ST_STUCK n) false
  let s2 := ((s1.setStart n none).clampSyn 0 n).start (.synLock n)
  if n = 1 then { s2 with time := { s2.time with onSyn1 := true } } else s2

/-- Whether an output may start (R107): to run, its core PLL locked, and 2,200 µs into its lock. -/
def State.mayStartSyn (s : State) (n : Nat) : Bool :=
  s.mayLock n && s.on (Fld.cpllLock (s.synFromN n)) && !s.domDown 2
    && (match s.synStart n with
      | some t => s.time.now ≥ t + 2200000
      | none => false)

/-- SYN_RELOCK (R114): a coasting output that has held lock for 1 ms returns to the loop; the phase difference is absorbed,
and its word goes back to the steered one no faster than R80; logged. -/
def execSynRelock (x : Relock) (s : State) : Host.Outcome State Fault Refusal :=
  let n := x.n
  s.runF fun s => s.when (s.on (Fld.SYN_ST_COASTING n) && s.on (Fld.cpllLock (s.synFromN n)) && !s.domDown 2
      && s.ran (.coast n) 1000000) fun s =>
    let s1 := (((s.flag (Fld.SYN_ST_COASTING n) false).flag (Fld.SYN_ST_STUCK n) false).flag (Fld.SYN_ST_LOCK n) true)
    ({ s1 with syn := { s1.syn with absorbed := s1.syn.absorbed.set n x.ps, returning := s1.syn.returning.set n true,
                                    stepAt := s1.syn.stepAt.set n s1.time.now } }).note 0x0A [n]

/-- SYN_STUCK (R114): no relock after 10 ms; logged. -/
def execSynStuck (n : Fin 6) (s : State) : Host.Outcome State Fault Refusal :=
  s.runF fun s => s.when (s.on (Fld.SYN_ST_COASTING n) && !s.on (Fld.SYN_ST_STUCK n) && s.ran (.coast n) 10000000) fun s =>
    (s.flag (Fld.SYN_ST_STUCK n) true).note 0x0A [n, 1]

/-- RELOCK bits (R111, R114): an output other than SYN1 that is to run and is not locked begins a band search; a coasting one
stops low for it. -/
def State.relockSyn (s : State) (mask : Nat) : State :=
  (List.range 6).foldl (fun t n =>
    if mask / 2 ^ n % 2 = 1 && n ≠ 1 && t.mayLock n && !t.on (Fld.SYN_ST_LOCK n) then
      ((t.flag (Fld.SYN_ST_COASTING n) false).flag (Fld.SYN_ST_STUCK n) false).searchSyn n
    else t) s.synProgress

/-- SYN_RELOCK_CMD (R111). -/
def execSynRelockCmd (_ : Agent) (mask : BitVec 6) (s : State) : Host.Outcome State Fault Refusal :=
  s.runF fun s => s.relockSyn mask.toNat

/-- SYN_PHASE_STEP (R118): STEP_PS is SH for SYN0, SYN4 and SYN5, so the write waits for a brim; for the others it is
RO. DEDUCED (assumption 20). -/
def execSynPhaseStep (_ : Agent) (n : Fin 6) (ps : BitVec 16) (s : State) : Host.Outcome State Fault Refusal :=
  s.runF fun s => s.when (n.val = 0 || n.val = 4 || n.val = 5) fun s =>
    s.shadowWrite (Fld.SYN_PHASE_STEP_PS n).addr (BitVec.ofNat 32 ps.toNat)

/-- An applied STEP_PS is added to LEFT_PS, which saturates at ±32,767 ps; a discarded excess is logged (R118). DEDUCED (assumption 20). -/
def State.addPhase (s : State) (n : Nat) (ps : Int) : State :=
  let s := s.movePhase n
  let sum := s.getS (Fld.SYN_PHST_LEFT_PS n) + ps
  let v := if sum > 32767 then 32767 else if sum < -32767 then -32767 else sum
  let s1 := (s.putS (Fld.SYN_PHST_LEFT_PS n) v).flag (Fld.SYN_PHST_BUSY n) (v ≠ 0)
  if v = sum then s1 else s1.note 0x0A [n, ofSigned 32 (sum - v)]

/-- SYN_PHASE_STEP_DONE (R118): nothing is left to step, and BUSY clears. A step pauses while its output has lost lock (R116). -/
def execSynPhaseStepDone (n : Fin 6) (s : State) : Host.Outcome State Fault Refusal :=
  s.runF fun s =>
    let t := s.movePhase n
    s.when (s.on (Fld.SYN_PHST_BUSY n) && s.on (Fld.SYN_ST_LOCK n) && t.get (Fld.SYN_PHST_LEFT_PS n) = 0) fun _ =>
      t.flag (Fld.SYN_PHST_BUSY n) false

/-- An output stopped without a loss of lock: SYN4 and SYN5 by their EN (R110), SYN2 by the power stage and the mode (R108), all by
a restart of their domain (R359). -/
def State.synDown (s : State) (n : Nat) : State :=
  let s1 := ((((s.flag (Fld.SYN_ST_LOCK n) false).flag (Fld.SYN_ST_SEARCH n) false).flag (Fld.SYN_ST_COASTING n) false).flag
    (Fld.SYN_ST_GATED n) false).flag (Fld.SYN_ST_STUCK n) false
  ((s1.flag (Fld.SYN_ST_CLAMP n) false).setStart n none)

/-- What a brim does to SYN4 or SYN5 when it applies new settings (R109, R110, R115): `old` is the state before. A new frequency or
source restarts the lock under R107 of an output that runs, of one that is GATED, and, where the spec speaks of a running output
only, of one whose lock is still in progress. DESIGN CHOICE (assumption 242). -/
def State.synBrim (s old : State) (n : Nat) : State :=
  if !s.on (Fld.SYN_CFG_EN n) then
    (if old.on (Fld.SYN_CFG_EN n) then s.synDown n else s)
  else if !old.on (Fld.SYN_CFG_EN n) then s.searchSyn n
  else if s.rd (Fld.SYN_FREQ_FREQ_HZ n).addr ≠ old.rd (Fld.SYN_FREQ_FREQ_HZ n).addr || s.synFromN n ≠ old.synFromN n then
    (((s.flag (Fld.SYN_ST_LOCK n) false).flag (Fld.SYN_ST_COASTING n) false).flag (Fld.SYN_ST_STUCK n) false).searchSyn n
  else s

/-- SYN BLK_CTRL.EN as a brim applies it (R104): 0 is a loss of lock of both core PLLs; 1 lets them relock. -/
def State.synEnBrim (s old : State) : State :=
  if old.enabled 0x0A && !s.enabled 0x0A then (s.synLoss .coreM).synLoss .coreN else s

/-! ### Pulse trains -/

def State.train (s : State) (k : Nat) : PulseTrain := s.syn.trains.getD k PulseTrain.reset

def State.setTrain (s : State) (k : Nat) (t : PulseTrain) : State :=
  { s with syn := { s.syn with trains := s.syn.trains.set k t } }

/-- The period in ns and the offset that the registers of train `k` set (R120, R124): the tick pulse has P = 1, o = 0. -/
def State.pulsePeriod (s : State) (k : Nat) : Nat :=
  if k = 2 then 125000 else clampTo 1 16000 (s.get (Fld.PULSE_CFG_PERIOD k)) * 125000

def State.pulseOffset (s : State) (k : Nat) : Nat :=
  if k = 2 then 0 else s.get (Fld.PULSE_OFF_OFFSET_NS k) / 4 * 4 % s.pulsePeriod k

/-- The pulse width in ns: 0 acts as 1 µs, half the running train's period or more as half that period (R124). The tick pulse has
no width or polarity in the spec, which gives its P and o alone: here it is high for 1 µs. DESIGN CHOICE (assumption 207). -/
def State.pulseWidth (s : State) (k : Nat) : Nat :=
  if k = 2 then 1000 else min (1000 * max 1 (s.get (Fld.PULSE_CFG_WIDTH_US k))) ((s.train k).period / 2)

/-- The first grid instant of the counter at or after `t`. -/
def gridAfter (t : Int) (period offset : Nat) : Int := t + (offset - t) % (period : Int)

/-- The last instant of a train at or before now, in `now`: its pulses come a period apart. -/
def State.pulseBefore (s : State) (k : Nat) : Int :=
  let t := s.train k
  let l := t.last.getD (t.due.getD 0)
  l + (s.time.now - l) / (t.period : Int) * t.period

/-- A train started or realigned with its registers' period and offset (R122, R123): its first pulse falls at the
earliest grid instant at least 1 µs from now and, where it is realigned while it runs, at least half a period after its last
pulse: of the period that it takes up, a new one that waits in the register included. DESIGN CHOICE (assumption 243). -/
def State.alignTrain (s : State) (k : Nat) : State :=
  let t := s.train k
  let p := s.pulsePeriod k
  let o := s.pulseOffset k
  let now : Int := s.time.now
  let low := match (if t.run then t.last else none) with
    | some l => max (now + 1000) (l + (p + 1) / 2)
    | none => now + 1000
  let c : Int := s.time.counter.toNat
  let due := now + (gridAfter (c + (low - now)) p o - c)
  let s1 := s.setTrain k { t with run := true, last := if t.run then t.last else none, period := p, offset := o, due := some due }
  if k = 2 then s1 else s1.flag (Fld.PULSE_ST_CFG_WAIT k) false

/-- PULSE_EMIT (R121, R122): a running train's next pulse, one period after the last or at its aligned instant; the error
against the grid, MISALIGNED; the first pulse after a REALIGN raises event 9. Width and polarity are those in force as
the pulse begins (R123). DEDUCED (assumption 21). -/
def execPulseEmit (k : Fin 3) (s : State) : Host.Outcome State Fault Refusal :=
  s.runF fun s => s.when (s.train k).run fun s =>
    let t := s.train k
    let real := match t.due, t.last with
      | some d, _ => d
      | none, some l => l + t.period
      | none, none => s.time.now
    let at_ : Int := (s.time.counter.toNat : Int) + (real - s.time.now)
    let e := (at_ - t.offset) % (t.period : Int)
    let err := if 2 * e ≥ t.period then e - t.period else e
    let pol := if k.val = 2 then false else s.on (Fld.PULSE_CFG_POL k)
    let s1 := (s.setTrain k { t with last := some real, due := none, width := s.pulseWidth k, pol := pol }).emit
      (.note 1 [k, s.pulseWidth k, if pol then 1 else 0])
    let s2 := (s1.putS (Fld.PULSE_ERR_ERR_NS k) err).flag (Fld.PULSE_ST_MISALIGNED k) (err ≠ 0)
    if s2.on (Fld.PULSE_ST_REALIGN_PEND k) then
      (s2.flag (Fld.PULSE_ST_REALIGN_PEND k) false).raise 9 0x0A [k]
    else s2

/-- REALIGN bits (R122): a running train stops and is aligned afresh; a disabled train ignores its bit. -/
def State.realign (s : State) (mask : Nat) : State :=
  (List.range 3).foldl (fun t k =>
    if mask / 2 ^ k % 2 = 1 && (t.train k).run then (t.alignTrain k).flag (Fld.PULSE_ST_REALIGN_PEND k) true else t) s

/-- What a brim does to PULSE0 or PULSE1 when it applies new settings (R123): EN starts the train aligned or stops it; a
new period or offset on a running train waits. -/
def State.pulseBrim (s : State) (k : Nat) : State :=
  if s.on (Fld.PULSE_CFG_EN k) then
    (if (s.train k).run then
      s.flag (Fld.PULSE_ST_CFG_WAIT k) (s.pulsePeriod k ≠ (s.train k).period || s.pulseOffset k ≠ (s.train k).offset)
     else s.alignTrain k)
  else if (s.train k).run then
    ((s.setTrain k { s.train k with run := false, due := none }).flag (Fld.PULSE_ST_CFG_WAIT k) false).flag
      (Fld.PULSE_ST_REALIGN_PEND k) false
  else s

end Sys2Proof.Machine
end

