-- ==== Sys2Proof/Machine/Lap.lean ====
section
/-! DEFINITION. The local audio ports: TDM ports (R237 to R246), AES3 receivers and transmitters (R247 to R251), the FIFOs
and the tick pulse (R252) and the ASRC pool (R253). -/

namespace Sys2Proof.Machine

/-- The reset domain of LAP (R359). -/
def domLap : Nat := 4

/-- Whether LAP runs: enabled, powered and not in a restart. -/
def State.lapRuns (s : State) : Bool := s.powered && s.enabled 0x28 && !s.domDown domLap

/-- The media rate in mHz. -/
def State.fsMilli (s : State) : Nat := if s.on Fld.FAB_CFG_RATE then 96000000 else 48000000

/-- Whether a rate lies within some ppm of another. -/
def withinPpm (a b ppm : Nat) : Bool := (max a b - min a b) * 1000000 ≤ b * ppm

/-! ### Names -/

def State.tdm (s : State) (p : Nat) : TdmPort := s.lap.tdm.getD p TdmPort.reset
def State.setTdm (s : State) (p : Nat) (x : TdmPort) : State := { s with lap := { s.lap with tdm := s.lap.tdm.set p x } }
def State.aes (s : State) (r : Nat) : AesRx := s.lap.aes.getD r AesRx.reset
def State.setAes (s : State) (r : Nat) (x : AesRx) : State := { s with lap := { s.lap with aes := s.lap.aes.set r x } }

/-- A TDM port's state (R254): 0 OFF, 1 STARTING, 2 RUN, 3 CLK_LOSS, 4 RETRACK, 5 STOPPING, 6 CFG_BAD, 7 SUSPENDED. -/
def State.tdmSt (s : State) (p : Nat) : Nat := s.get (Fld.LAP_TDM_ST_STATE p)

/-- The fabric's input and output of a TDM slot (R203, R204). -/
def tdmIo (p sl : Nat) : Nat := 256 + 16 * p + sl
def aesIo (r c : Nat) : Nat := 320 + 2 * r + c

def State.tdmMaster (s : State) (p : Nat) : Bool := s.on (Fld.LAP_TDM_CFG_MASTER p)
def State.tdmAsync (s : State) (p : Nat) : Bool := !s.tdmMaster p && s.on (Fld.LAP_TDM_CFG_ASYNC p)
def State.tdmCompat (s : State) (p : Nat) : Bool := s.on (Fld.LAP_TDM_CFG_COMPAT p)
def State.tdmOn (s : State) (p : Nat) : Bool := s.enabled 0x28 && s.on (Fld.LAP_TDM_CFG_EN p)

/-- Whether a frame rate in mHz lies from 32 kHz to 192 kHz (R239, R247). -/
def portRate (rate : Nat) : Bool := 32000000 ≤ rate && rate ≤ 192000000

/-- The slots of a port's format (R237), its slot width and its bits per frame. -/
def State.tdmSlots (s : State) (p : Nat) : Nat :=
  let f := s.get (Fld.LAP_TDM_CFG_FMT p)
  if f = 1 || f = 2 then 2 else s.get (Fld.LAP_TDM_CFG_SLOTS p) + 1
def State.tdmWidth (s : State) (p : Nat) : Nat := match s.get (Fld.LAP_TDM_CFG_SLOT_W p) with
  | 0 => 16 | 1 => 24 | _ => 32
def State.tdmBpf (s : State) (p : Nat) : Nat := 64 * 2 ^ s.get (Fld.LAP_TDM_CFG_BPF p)

/-- The slots of a mask within the format (R246). -/
def State.maskSlots (s : State) (p m : Nat) : List Nat := (List.range (s.tdmSlots p)).filter m.testBit
def State.rxSlots (s : State) (p : Nat) : List Nat := s.maskSlots p (s.get (Fld.LAP_TDM_RXMASK_MASK p))
def State.txSlots (s : State) (p : Nat) : List Nat := s.maskSlots p (s.get (Fld.LAP_TDM_TXMASK_MASK p))

/-- The ASRC channels in use (R253, R254). -/
def State.asrcUsed (s : State) : Nat :=
  sumOf (s.lap.tdm.map fun x => x.asrcRx.length + x.asrcTx.length) + 2 * s.lap.aes.countP AesRx.asrc

/-- Event 32 (LAP_CLK_LOSS), at most once per 10 ms per port, with the port, its state and the last RATE_HZ (R243). DEDUCED (assumption 71). -/
def State.clkEvent (s : State) (p : Nat) : State :=
  let x := s.tdm p
  if rateOk x.ev32 s.time.now then
    (s.setTdm p { x with ev32 := some s.time.now }).raise 32 0x28 [p, s.tdmSt p, s.get (Fld.LAP_TDM_ST_RATE_HZ p)]
  else s

/-- A measured frame rate shown (R254). -/
def State.showRate (s : State) (p rate : Nat) : State := s.put (Fld.LAP_TDM_ST_RATE_HZ p) ((rate + 500) / 1000)

/-- RATE_HZ of the master ports that have started, at the media rate (R238, R254). -/
def State.masterRates (s : State) : State :=
  (List.range 4).foldl (fun t p =>
    if t.tdmMaster p && (t.tdmSt p = 1 || t.tdmSt p = 2 || t.tdmSt p = 5) then t.showRate p t.fsMilli else t) s

/-! ### Starting and stopping -/

/-- The checks of R244; 0 where all pass. -/
def State.tdmCheck (s : State) (p : Nat) : Nat :=
  let f := s.get (Fld.LAP_TDM_CFG_FMT p)
  if s.tdmMaster p && s.get (Fld.LAP_TDM_CFG_BPF p) = 3 && s.on Fld.FAB_CFG_RATE then 1
  else if s.tdmMaster p && (if f = 1 || f = 2 then s.tdmWidth p > s.tdmBpf p / 2 else s.tdmSlots p * s.tdmWidth p > s.tdmBpf p) then 2
  else if s.tdmAsync p && (s.rxSlots p).length + (s.txSlots p).length > 32 - s.asrcUsed then 3 else 0

/-- A transmit slot that carries its output. -/
def slotOn (n : Nat) : TxSlot := { slot := n, st := .on, age := 0, ramp := Ramp.const 0, last := 0 }

/-- A port's EN applied (R243): checked, and started or put in CFG_BAD. -/
def State.tdmStart (s : State) (p : Nat) : State :=
  let c := s.tdmCheck p
  if c ≠ 0 then ((s.put (Fld.LAP_TDM_ST_STATE p) 6).put (Fld.LAP_TDM_ST_CAUSE p) c).note 0x28 [p, c]
  else
    let rx := s.rxSlots p
    let tx := s.txSlots p
    let x := { TdmPort.reset with
      ready := s.tdmMaster p && (!s.tdmCompat p || s.get (Fld.LAP_TDM_CFG_PREROLL p) = 0), rx := rx, tx := tx.map slotOn, ev32 := (s.tdm p).ev32,
      masks := (s.get (Fld.LAP_TDM_RXMASK_MASK p), s.get (Fld.LAP_TDM_TXMASK_MASK p)), due := (s.tdm p).due,
      asrcRx := if s.tdmAsync p then rx else [], asrcTx := if s.tdmAsync p then tx else [] }
    let s1 := ((s.setTdm p x).put (Fld.LAP_TDM_ST_STATE p) 1).put (Fld.LAP_TDM_ST_CAUSE p) 0
    if s.tdmMaster p then s1.showRate p s.fsMilli else s1

/-- A port enters RUN: its receive slots are fed and ramp in (R212, R243). -/
def State.tdmRun (s : State) (p : Nat) : State :=
  let x := s.tdm p
  let y := { x with
    fresh := x.rx, hold := false, inR := Ramp.const fOne, outR := Ramp.const fOne, errs := [], since := none }
  let s1 := (s.setTdm p y).put (Fld.LAP_TDM_ST_STATE p) 2
  x.rx.foldl (fun t n => t.feed (tdmIo p n)) s1

/-- A port brought to OFF: its ASRC channels are released (R253). -/
def State.tdmOff (s : State) (p : Nat) : State :=
  let x := s.tdm p
  let s1 := ((x.rx ++ x.leaving).foldl (fun (t : State) n => t.unfeed (tdmIo p n)) s)
  ((s1.setTdm p { TdmPort.reset with ev32 := x.ev32 }).put (Fld.LAP_TDM_ST_STATE p) 0).showRate p 0

/-- A transmit slot that goes: one that never carried its output is dropped at once. -/
def closeSlot (x : TxSlot) : Option TxSlot := match x.st with
  | .armed => none
  | .fading => some x
  | _ => some { x with st := .closing, age := 0 }

/-- EN = 0 applied (R245): native, every slot closes through the gate, a transmit slot where the port carries its output; with
COMPAT, outputs are silent at once and inputs ramp out. -/
def State.tdmStop (s : State) (p : Nat) : State :=
  let x := s.tdm p
  let s1 := x.rx.foldl (fun (t : State) n => t.unfeed (tdmIo p n)) (s.put (Fld.LAP_TDM_ST_STATE p) 5)
  if s.tdmCompat p then s1.setTdm p { x with tx := [], since := none }
  else s1.setTdm p { x with since := none, rx := [], leaving := x.leaving ++ x.rx, tx := if s.tdmSt p = 2 then x.tx.filterMap closeSlot else [] }

/-- NIGHTCAP or SHELTER begins (R243): the ports are suspended, and slaves keep measuring. -/
def State.tdmSuspend (s : State) (p : Nat) : State :=
  let st := s.tdmSt p
  if st = 0 || st = 6 || st = 7 then s
  else
    let x := s.tdm p
    let r := s.get (Fld.LAP_TDM_ST_RATE_HZ p)
    let s1 := (s.tdmOff p).put (Fld.LAP_TDM_ST_STATE p) 7
    if s.tdmMaster p then s1
    else (s1.setTdm p { s1.tdm p with bits := x.bits, seenBits := x.seenBits, seen := x.seen, due := x.due }).put
      (Fld.LAP_TDM_ST_RATE_HZ p) r

/-- The frame rate in mHz by which a port counts its pre-roll frames. -/
def State.tdmRate (s : State) (p : Nat) : Nat := if s.tdmMaster p then s.fsMilli else (s.tdm p).rate

/-- Whether PREROLL frames have passed since the port began to count them (R243, R245). -/
def State.prerolled (s : State) (p : Nat) : Bool := match (s.tdm p).since with
  | some t => s.get (Fld.LAP_TDM_CFG_PREROLL p) * 1000000000000 ≤ (s.time.now - t) * s.tdmRate p
  | none => false

/-- Whether a stop has nothing left to wait for (R245): with COMPAT the PREROLL further frames, of which a slave that has never locked
has none; natively every slot released. -/
def State.tdmStopped (s : State) (p : Nat) : Bool :=
  if s.tdmCompat p then s.tdmRate p = 0 || s.prerolled p
  else (s.tdm p).tx = [] && (s.tdm p).leaving.all fun n => s.released (tdmIo p n)

/-- TDM_STOP_COMPLETE (R245). -/
def execTdmStopComplete (p : Fin 4) (s : State) : Host.Outcome State Fault Refusal :=
  s.run fun s => s.when (s.tdmSt p = 5 && s.tdmStopped p) fun s => s.tdmOff p

/-- TDM_PREROLL_END (R243): PREROLL frames have passed, and data starts at the next tick boundary. -/
def execTdmPrerollEnd (p : Fin 4) (s : State) : Host.Outcome State Fault Refusal :=
  s.run fun s => s.when (s.tdmSt p = 1 && s.tdmCompat p && s.tdmRate p ≠ 0 && s.prerolled p) fun s =>
    s.setTdm p { s.tdm p with ready := true }

/-- A slave port muted until its rate returns (R240, R243); it measures its frames afresh. DEDUCED (assumption 67). -/
def State.enterRetrack (s : State) (p : Nat) : State :=
  let x := s.tdm p
  (s.setTdm p { x with bits := none, seen := 0, since := none, gap := true, inR := if x.inR.g1 = 0 then x.inR else s.ramp1ms x.inR.value 0, errs := [], hold := false }).put
    (Fld.LAP_TDM_ST_STATE p) 4

/-- TDM_SLAVE_LOCKED (R239, R243): 16 frames measured, and for ASYNC the ASRC locked, to a rate in its range. A synchronous port whose rate is not fs
enters RETRACK (R240); with COMPAT the pre-roll comes first. DEDUCED (assumption 67). -/
def execTdmSlaveLocked (p : Fin 4) (rate : Nat) (s : State) : Host.Outcome State Fault Refusal :=
  s.run fun s => s.when (s.lapRuns && s.tdmSt p = 1 && !s.tdmMaster p && (s.tdm p).bits.isSome
      && (!s.tdmAsync p || portRate rate)) fun s =>
    let s1 := (s.setTdm p { s.tdm p with rate := rate, since := some s.time.now }).showRate p rate
    if !s.tdmAsync p && !withinPpm rate s.fsMilli 100 then
      (s1.setTdm p { s1.tdm p with inR := Ramp.const 0 }).put (Fld.LAP_TDM_ST_STATE p) 4 |>.clkEvent p
    else if s.tdmCompat p then s1 else s1.tdmRun p

/-- TDM_CLK_LOSS (R243). -/
def execTdmClkLoss (p : Fin 4) (s : State) : Host.Outcome State Fault Refusal :=
  s.run fun s => s.when (s.tdmSt p = 2 && !s.tdmMaster p) fun s =>
    (((s.setTdm p { s.tdm p with hold := true, gap := true, since := some s.time.now }).put (Fld.LAP_TDM_ST_STATE p) 3).clkEvent p).showRate p 0

/-- Whether the hold of a clock loss has lasted 1 ms (R243). -/
def State.held1ms (s : State) (p : Nat) : Bool := match (s.tdm p).since with
  | some t => t + 1000000 ≤ s.time.now
  | none => true

/-- TDM_CLK_HOLD_END (R243): the inputs ramp to zero over 1 ms. -/
def execTdmClkHoldEnd (p : Fin 4) (s : State) : Host.Outcome State Fault Refusal :=
  s.run fun s => s.when (s.tdmSt p = 3 && (s.tdm p).hold && s.held1ms p) fun s =>
    s.setTdm p { s.tdm p with hold := false, inR := s.ramp1ms (s.tdm p).inR.value 0 }

/-- TDM_CLK_RETURN (R243): within the hold and within ±200 ppm the port runs on; otherwise it retracks. -/
def execTdmClkReturn (p : Fin 4) (rate : Nat) (s : State) : Host.Outcome State Fault Refusal :=
  s.run fun s => s.when (s.tdmSt p = 3) fun s =>
    let s1 := s.showRate p rate
    if (s.tdm p).hold && !s.held1ms p && withinPpm rate (s.tdm p).rate 200 then
      (s1.setTdm p { s.tdm p with hold := false, since := none }).put (Fld.LAP_TDM_ST_STATE p) 2
    else s1.enterRetrack p

/-- Whether eight misframes came within 10 ms (R239). -/
def State.misframed (s : State) (p : Nat) : Bool :=
  8 ≤ (s.tdm p).errs.countP fun t => s.time.now < t + 10000000

/-- TDM_RETRACK (R240, R243). -/
def execTdmRetrack (p : Fin 4) (rate : Nat) (s : State) : Host.Outcome State Fault Refusal :=
  s.run fun s => s.when (s.tdmSt p = 2 && !s.tdmMaster p
      && (!withinPpm rate (s.tdm p).rate 1000 || s.misframed p || (!s.tdmAsync p && !withinPpm rate s.fsMilli 100))) fun s =>
    ((s.showRate p rate).enterRetrack p).clkEvent p

/-- TDM_RETRACK_END (R243): inputs and outputs ramp in over 1 ms. -/
def execTdmRetrackEnd (p : Fin 4) (rate : Nat) (s : State) : Host.Outcome State Fault Refusal :=
  s.run fun s => s.when (s.lapRuns && s.tdmSt p = 4
      && (if s.tdmAsync p then portRate rate else withinPpm rate s.fsMilli 100)) fun s =>
    let x := s.tdm p
    let s1 := (s.setTdm p { x with rate := rate, inR := s.ramp1ms x.inR.value fOne, outR := s.ramp1ms 0 fOne, errs := [] }).showRate p rate
    x.rx.foldl (fun (t : State) n => t.feed (tdmIo p n)) (s1.put (Fld.LAP_TDM_ST_STATE p) 2)

/-! ### Slot masks -/

/-- Slots refused an ASRC channel (R246). -/
def State.asrcRefuse (s : State) (p : Nat) (l : List Nat) : State :=
  l.foldl (fun t n => t.note 0x28 [p, n]) (if l.isEmpty then s else s.flag Fld.LAP_STATUS_ASRC_SHORT true)

/-- A mask change on a port that has started (R246): slots added take ASRC channels where the port needs them, receive
slots before transmit slots. A slot refused stays inactive until the masks change again. DEDUCED (assumption 72). -/
def State.tdmMask (s : State) (p : Nat) : State :=
  let x := s.tdm p
  let rx := s.rxSlots p
  let tx := s.txSlots p
  let keepRx := x.rx.filter rx.contains
  let keepTx := x.asrcTx.filter tx.contains
  let carried := x.tx.filter fun y => y.st ≠ .closing && y.st ≠ .fading
  let free := 32 - (s.asrcUsed - (x.asrcRx.length - (x.asrcRx.filter rx.contains).length) - (x.asrcTx.length - keepTx.length))
  let newRx := rx.filter fun n => !x.rx.contains n
  let gotRx := if s.tdmAsync p then newRx.take free else newRx
  let newTx := tx.filter fun n => !(carried.any fun y => y.slot = n)
  let gotTx := if s.tdmAsync p then newTx.take (free - gotRx.length) else newTx
  let goneRx := x.rx.filter fun n => !rx.contains n
  let running := s.tdmSt p ≠ 1
  let tx1 := (x.tx.filterMap fun y => if tx.contains y.slot then (if gotTx.contains y.slot then none else some y) else closeSlot y)
    ++ gotTx.map fun n => if running then { slotOn n with st := .armed } else slotOn n
  let s1 := s.setTdm p { x with
      rx := keepRx ++ gotRx, fresh := x.fresh ++ gotRx, tx := tx1,
      leaving := (x.leaving ++ (if running then goneRx else [])).filter fun n => !gotRx.contains n,
      asrcRx := if s.tdmAsync p then keepRx ++ gotRx else [], asrcTx := if s.tdmAsync p then keepTx ++ gotTx else [] }
  let s2 := if running then goneRx.foldl (fun (t : State) n => t.unfeed (tdmIo p n)) s1 else s1
  let s3 := if running then gotRx.foldl (fun (t : State) n => t.feed (tdmIo p n)) s2 else s2
  s3.asrcRefuse p ((newRx.filter fun n => !gotRx.contains n) ++ newTx.filter fun n => !gotTx.contains n)

/-- The masks of a port at a brim (R246): nothing where they stand as they were last applied. -/
def State.tdmMasks (s : State) (p : Nat) : State :=
  let m := (s.get (Fld.LAP_TDM_RXMASK_MASK p), s.get (Fld.LAP_TDM_TXMASK_MASK p))
  if (s.tdm p).masks = m then s else (s.setTdm p { s.tdm p with masks := m }).tdmMask p

/-! ### AES3 receivers and transmitters -/

/-- The RATE code of a frame rate (R254). DEDUCED (assumption 66). -/
def aesRate (rate : Nat) : Nat :=
  match [(1, 32000000), (2, 44100000), (3, 48000000), (4, 88200000), (5, 96000000), (6, 176400000), (7, 192000000)].find?
      (fun x => withinPpm rate x.2 1000) with
  | some x => x.1
  | none => 8

/-- Event 33 (AES3_LOCK_CHANGE), at most once per 10 ms per receiver, with the receiver and its LOCK and RETRACK (R247). -/
def State.lockEvent (s : State) (r : Nat) : State :=
  let x := s.aes r
  if rateOk x.ev33 s.time.now then
    (s.setAes r { x with ev33 := some s.time.now }).raise 33 0x28
      [r, s.get (Fld.LAP_AESR_ST_LOCK r), s.get (Fld.LAP_AESR_ST_RETRACK r)]
  else s

/-- AES3_LOCK (R247): the rate lies in the range of the receivers; one with SYNC = 1 whose rate is not fs stays muted, retracking. DESIGN CHOICE (assumption 65), DEDUCED (assumption 67). -/
def execAes3Lock (r : Fin 4) (rate : Nat) (s : State) : Host.Outcome State Fault Refusal :=
  s.run fun s => s.when (s.lapRuns && (s.aes r).on && !s.on (Fld.LAP_AESR_ST_LOCK r) && portRate rate
      && (s.on (Fld.LAP_AESR_CFG_SYNC r) || (s.aes r).asrc)) fun s =>
    let good := !s.on (Fld.LAP_AESR_CFG_SYNC r) || withinPpm rate s.fsMilli 100
    let x := s.aes r
    let s1 := s.setAes r { x with rate := rate, hold := 0, inR := if good then s.ramp1ms 0 fOne else Ramp.const 0,
                                  valid := [Ramp.const fOne, Ramp.const fOne], cand := [], vOne := [0, 0], vZero := [0, 0], fifo := [] }
    let s2 := ((s1.flag (Fld.LAP_AESR_ST_LOCK r) true).put (Fld.LAP_AESR_ST_RATE r) (aesRate rate)).flag
      (Fld.LAP_AESR_ST_RETRACK r) (!good)
    s2.lockEvent r

/-- AES3_UNLOCK (R247): the last sample, or the ASRC's last ratio, is held for 1 ms before the ramp. DEDUCED (assumption 64). -/
def execAes3Unlock (r : Fin 4) (s : State) : Host.Outcome State Fault Refusal :=
  s.run fun s => s.when (s.on (Fld.LAP_AESR_ST_LOCK r)) fun s =>
    let s1 := s.setAes r { s.aes r with hold := 8 }
    let s2 := (((s1.flag (Fld.LAP_AESR_ST_LOCK r) false).put (Fld.LAP_AESR_ST_RATE r) 0).flag (Fld.LAP_AESR_ST_RETRACK r)
      false).put (Fld.LAP_AESR_ST_VMUTED r) 0
    (s2.bump (Fld.LAP_AESR_CNT_UNLOCKS r) 1).lockEvent r

/-- AES3_RETRACK (R247). -/
def execAes3Retrack (r : Fin 4) (rate : Nat) (s : State) : Host.Outcome State Fault Refusal :=
  s.run fun s => s.when (s.on (Fld.LAP_AESR_ST_LOCK r) && !s.on (Fld.LAP_AESR_ST_RETRACK r)
      && !withinPpm rate (s.aes r).rate 1000) fun s =>
    let x := s.aes r
    let s1 := s.setAes r { x with rate := rate, inR := s.ramp1ms x.inR.value 0 }
    ((s1.flag (Fld.LAP_AESR_ST_RETRACK r) true).put (Fld.LAP_AESR_ST_RATE r) (aesRate rate)).lockEvent r

/-- AES3_RETRACK_END (R247). -/
def execAes3RetrackEnd (r : Fin 4) (rate : Nat) (s : State) : Host.Outcome State Fault Refusal :=
  s.run fun s => s.when (s.on (Fld.LAP_AESR_ST_RETRACK r)
      && (!s.on (Fld.LAP_AESR_CFG_SYNC r) || withinPpm rate s.fsMilli 100)) fun s =>
    let x := s.aes r
    let s1 := s.setAes r { x with rate := rate, inR := s.ramp1ms x.inR.value fOne }
    (s1.flag (Fld.LAP_AESR_ST_RETRACK r) false).put (Fld.LAP_AESR_ST_RATE r) (aesRate rate)

/-- A bit of VMUTED. -/
def Fld.vmuted (r c : Nat) : Fld := ⟨(Fld.LAP_AESR_ST_VMUTED r).addr, 10 + c, 10 + c⟩

/-- AES3_VALIDITY_MUTE (R248): the bit has been 1 for 8 frames in a row. -/
def execAes3ValidityMute (r : Fin 4) (c : Fin 2) (s : State) : Host.Outcome State Fault Refusal :=
  s.run fun s => s.when (s.on (Fld.LAP_AESR_ST_LOCK r) && s.on (Fld.LAP_AESR_CFG_VMUTE r) && !s.on (Fld.vmuted r c)
      && 8 ≤ (s.aes r).vOne.getD c 0) fun s =>
    let x := s.aes r
    (s.setAes r { x with valid := x.valid.modify c fun v => s.ramp1ms v.value 0 }).flag (Fld.vmuted r c) true

/-- AES3_VALIDITY_UNMUTE (R248): the bit has been 0 for 192 frames in a row. -/
def execAes3ValidityUnmute (r : Fin 4) (c : Fin 2) (s : State) : Host.Outcome State Fault Refusal :=
  s.run fun s => s.when (s.on (Fld.vmuted r c) && 192 ≤ (s.aes r).vZero.getD c 0) fun s =>
    let x := s.aes r
    (s.setAes r { x with valid := x.valid.modify c fun v => s.ramp1ms v.value fOne }).flag (Fld.vmuted r c) false

/-- The words of receiver `r` and of transmitter `t` (R255). -/
def aesRxKey (r i : Nat) : Nat := indKey 0x28 (0x20 * r + i)
def aesTxKey (t i : Nat) : Nat := indKey 0x28 (0x100 + 0x20 * t + i)

/-- Words written from a place on. -/
def State.wrList (s : State) (base : Nat) : List Word → State
  | [] => s
  | w :: l => (s.wr base w).wrList (base + 1) l

/-- The first six words of a list, padded. -/
def six (l : List Word) : List Word := (List.range 6).map fun i => l.getD i 0

/-- Whether two channel status blocks differ in octets 0 to 22 (R249). -/
def csDiffers (a b : List Word) : Bool :=
  (List.range 5).any (fun i => a.getD i 0 ≠ b.getD i 0) || Word.field (a.getD 5 0) 23 0 ≠ Word.field (b.getD 5 0) 23 0

/-- A stored channel status (R248, R249): a change in octets 0 to 22 raises event 34, at most once per 10 ms, and is logged
with octets 0 to 3. -/
def State.storeCs (s : State) (r : Nat) (cs : List Word) : State :=
  let old := (List.range 12).map fun i => s.rd (aesRxKey r i)
  let non := [(cs.getD 0 0).getLsbD 1, (cs.getD 6 0).getLsbD 1]
  let s1 := (s.wrList (aesRxKey r 0) cs).setAes r { s.aes r with nonAudio := non }
  let s2 := s1.flag (Fld.LAP_AESR_ST_NONAUDIO r) (non.any id)
  if csDiffers old cs || csDiffers (old.drop 6) (cs.drop 6) then
    if rateOk (s2.aes r).ev34 s2.time.now then
      (s2.setAes r { s2.aes r with ev34 := some s2.time.now }).raise 34 0x28 [r, (cs.getD 0 0).toNat]
    else s2.note 0x28 [r, (cs.getD 0 0).toNat]
  else s2

/-- The Z preamble of a receiver's next block (R46, R250): its instant to 250 ps, and the tick in progress; with the timestamp units
disabled none is recorded (R39). Where within the edge of the counter it falls is a free value. DESIGN CHOICE (assumption 208). -/
def State.zStamp (s : State) (r : Nat) : State :=
  if !s.enabled 0x08 then s
  else
    let q := s.time.counter.toNat * 4 + s.time.frac.toNat / 16384 + Config.edgePhase s.free % 16
    let s1 := (s.draw.put (Fld.LAP_AESR_TS_HI_NS_HI r) (q / 4 / 2 ^ 32)).put (Fld.LAP_AESR_TS_LO_NS_LO r) (q / 4)
    (s1.put (Fld.LAP_AESR_TICK_TICK r) s.time.tick.toNat).put (Fld.LAP_AESR_ST_QNS r) (q % 4)

/-- AES3_BLOCK_END (R249, R250): the block's words are stored, and the Z preamble of the next block is timestamped. DEDUCED (assumption 70). -/
def execAes3BlockEnd (r : Fin 4) (b : AesBlock) (s : State) : Host.Outcome State Fault Refusal :=
  s.run fun s => s.when (s.on (Fld.LAP_AESR_ST_LOCK r)) fun s =>
    let cs := six b.csA ++ six b.csB
    let pro := (cs.getD 0 0).getLsbD 0
    let s1 := (s.wrList (aesRxKey r 12) (six b.userA ++ six b.userB)).flag (Fld.LAP_AESR_ST_PRO r) pro
    let s2 :=
      if pro then
        (if b.crcOk then (s1.flag (Fld.LAP_AESR_ST_CRC_ERR r) false).storeCs r cs else s1.flag (Fld.LAP_AESR_ST_CRC_ERR r) true)
      else
        let s3 := s1.flag (Fld.LAP_AESR_ST_CRC_ERR r) false
        if (s3.aes r).cand = cs then s3.storeCs r cs else s3
    let s4 := s2.setAes r { s2.aes r with cand := if pro then [] else cs }
    (s4.zStamp r).wrapInc (Fld.LAP_AESR_ST_BLK_SEQ r)

/-- The registers of a receiver that stops: its sequence and stored words stay. -/
def State.aesShut (s : State) (r : Nat) : State :=
  (s.wr (Fld.LAP_AESR_ST_LOCK r).addr 0).put (Fld.LAP_AESR_ST_BLK_SEQ r) (s.get (Fld.LAP_AESR_ST_BLK_SEQ r))

/-- A receiver brought to OFF at once, its inputs released (R242, R253). -/
def State.aesOff (s : State) (r : Nat) : State :=
  let x := s.aes r
  let t := (s.setAes r { AesRx.reset with ev33 := x.ev33, ev34 := x.ev34 }).aesShut r
  if x.on || x.going then (t.unfeed (aesIo r 0)).unfeed (aesIo r 1) else t

/-- A receiver's EN applied at a brim (R242, R247, R253): its inputs close through the gate while it feeds them still (R212), but
for the block's own EN. DESIGN CHOICE (assumption 65). -/
def State.aesBrim (s : State) (r : Nat) : State :=
  let x := s.aes r
  let on := s.enabled 0x28 && s.on (Fld.LAP_AESR_CFG_EN r)
  if on && !x.on then
    let need := !s.on (Fld.LAP_AESR_CFG_SYNC r)
    let got := need && (x.asrc || s.asrcUsed + 2 ≤ 32)
    let s1 := s.setAes r { AesRx.reset with on := true, asrc := got, ev33 := x.ev33, ev34 := x.ev34 }
    let s2 := (s1.feed (aesIo r 0)).feed (aesIo r 1)
    if need && !got then (s2.flag Fld.LAP_STATUS_ASRC_SHORT true).note 0x28 [4 + r] else s2
  else if !on && x.on then
    if !s.enabled 0x28 || !s.on (Fld.LAP_AESR_ST_LOCK r) then s.aesOff r
    else (((s.setAes r { x with on := false, going := true }).aesShut r).unfeed (aesIo r 0)).unfeed (aesIo r 1)
  else if x.going && !s.enabled 0x28 then s.aesOff r
  else s

/-- The ticks of an AES3 block (R251). -/
def State.blockTicks (s : State) : Nat := if s.on Fld.FAB_CFG_RATE then 16 else 32

/-- Whether a transmitter's EN stands. -/
def State.aesTxOn (s : State) (t : Nat) : Bool := s.enabled 0x28 && s.on (Fld.LAP_AEST_CFG_EN t)

/-- The octets of a channel status block in six words (R249): octet 4w + i in bits [8i + 7:8i] of word w. -/
def csOctets (l : List Word) : List Nat := (List.range 24).map fun n => Word.field (l.getD (n / 4) 0) (n % 4 * 8 + 7) (n % 4 * 8)

/-- Octets put back into words. -/
def csWords (o : List Nat) : List Word := (List.range 6).map fun w =>
  BitVec.ofNat 32 (o.getD (4 * w) 0 + 256 * (o.getD (4 * w + 1) 0 + 256 * (o.getD (4 * w + 2) 0 + 256 * o.getD (4 * w + 3) 0)))

/-- The CRCC of octets 0 to 22 (IEC 60958): x^8 + x^4 + x^3 + x^2 + 1, from all ones, the bit sent first foremost. PRESUMED
(assumption 69). -/
def csCrc (o : List Nat) : Nat := (o.take 23).foldl (fun c x =>
  (List.range 8).foldl (fun c _ => if c % 2 = 1 then c / 2 ^^^ 0xB8 else c / 2) (c ^^^ x)) 0xFF

/-- A field of an octet overwritten: the bits of `mask` become those of `v`. -/
def octetField (mask v : Nat) (x : Nat) : Nat := (x &&& (255 - mask)) ||| v

/-- The channel status of a subframe with CS_AUTO = 1 (R251): format, sampling frequency and a word length of 24 bits in the places of
IEC 60958, with the CRCC in octet 23 of professional format; every other bit as written. PRESUMED (assumption 69). -/
def csAuto (pro : Bool) (is96 : Bool) (l : List Word) : List Word :=
  let o := csOctets l
  if pro then
    let o1 := ((o.modify 0 (octetField 0xC3 (if is96 then 0x01 else 0x81))).modify 2 (octetField 0x3F 0x2C)).modify 4
      (octetField 0x78 (if is96 then 0x10 else 0))
    csWords (o1.set 23 (csCrc o1))
  else csWords (((o.modify 0 (octetField 0x03 0)).modify 3 (octetField 0x0F (if is96 then 0x0A else 0x02))).modify 4 (octetField 0x0F 0x0B))

/-- The words a transmitter sends in a block (R251): its channel status, filled in with CS_AUTO, and its user words or
zeros. -/
def State.aesWords (s : State) (t : Nat) : List Word :=
  let cs := (List.range 12).map fun i => s.rd (aesTxKey t i)
  let user := (List.range 12).map fun i => if s.on (Fld.LAP_AEST_CFG_USER t) then s.rd (aesTxKey t (12 + i)) else 0
  let auto := csAuto (s.on (Fld.LAP_AEST_CFG_PRO t)) (s.on Fld.FAB_CFG_RATE)
  (if s.on (Fld.LAP_AEST_CFG_CS_AUTO t) then auto (six cs) ++ auto (six (cs.drop 6)) else cs) ++ user

/-- A transmitter's state. -/
def State.aesTx (s : State) (t : Nat) : AesTx := s.lap.tx.getD t AesTx.reset
def State.setAesTx (s : State) (t : Nat) (x : AesTx) : State := { s with lap := { s.lap with tx := s.lap.tx.set t x } }

/-- A transmitter stopped. -/
def State.aesTxOff (s : State) (t : Nat) : State :=
  (s.setAesTx t AesTx.reset).flag (Fld.LAP_AEST_ST_RUN t) false

/-- AES3_TX_STOP (R251): the last block has ended. -/
def execAes3TxStop (t : Fin 4) (s : State) : Host.Outcome State Fault Refusal :=
  s.run fun s => s.when (s.on (Fld.LAP_AEST_ST_RUN t) && !s.aesTxOn t && (s.aesTx t).words = []) fun s => s.aesTxOff t

/-- SYN_PULSE_CMD.REALIGN (R122, R252): a realignment of the tick pulse stops the running AES3 transmitters, which start again at
the first block boundary behind it. -/
def State.pulseRealign (s : State) (mask : Nat) : State :=
  let s1 := s.realign mask
  if mask.testBit 2 then (List.range 4).foldl State.aesTxOff s1 else s1

/-- PULSE_REALIGN (R122, R252). -/
def execPulseRealign (_ : Agent) (mask : BitVec 3) (s : State) : Host.Outcome State Fault Refusal :=
  s.run fun s => s.pulseRealign mask.toNat

/-! ### The Present phase -/

/-- Samples with each flagged frame repeating the sample before it (R239, R247). -/
def repeated (prev : Word) : List (Word × Bool) → List Word
  | [] => []
  | x :: l =>
    let y := if x.2 then prev else x.1
    y :: repeated y l

/-- The code that a slot of a width carries of 24 bits (R237): a 16-bit slot the 16 most significant. -/
def slotCode (width : Nat) (z : Int) : Int := if width = 16 then z / 256 * 256 else z

/-- A slot of a frame's data as a code. -/
def dataCode (width : Nat) (data : List (BitVec 24)) (n : Nat) : Int := slotCode width (data.getD n 0).toInt

/-- Samples times a gain on its way. -/
def gained (r : Ramp) (l : List Word) : List Word := (List.range l.length).map fun j => fmul (samp l j) (r.at j)

/-- The instants of a tick's samples in quarter nanoseconds, from its start in ns. -/
def sampleAt (k start j : Nat) : Int := (4 * start + j * 500000 / k : Nat)

/-- The delay of the ASRC in quarter nanoseconds (R241). -/
def asrcDelay : Int := 1000000

/-- What the ASRC puts out for an instant (R241, R253): the sample that was 250 µs before it, of those that came lately. -/
def asrcAt (l : List (Nat × Int)) (t : Int) : Word := Config.asrc (l.map fun x => ((x.1 : Int) - (t - asrcDelay), x.2))

/-- The frames that the ASRC looks back on: those of the last millisecond. -/
def lately {α : Type} (now : Nat) (l : List (Nat × α)) : List (Nat × α) := l.filter fun x => 4 * now < x.1 + 4000000

/-- Event 35 (LAP_FIFO_XRUN) for item `n`: TDM ports 0 to 3, receivers 4 to 7, transmitters 8 to 11 (R240, R252). DEDUCED (assumption 71). -/
def State.fifoEvent (s : State) (n : Nat) : State := s.raise 35 0x28 [n]

/-! ### The front ends -/

/-- A slave port's frame measured (R239): 16 equal lengths in a row are held as the measurement, and a later frame of another length
is misframed. DEDUCED (assumption 67). -/
def TdmPort.measure (y : TdmPort) (f : TdmFrame) : TdmPort × Bool := match y.bits with
  | some b => (y, b ≠ f.bits)
  | none =>
    let n := if f.bits = y.seenBits then y.seen + 1 else 1
    ({ y with seenBits := f.bits, seen := n, bits := if n ≥ 16 then some f.bits else none }, false)

/-- The frames of a tick measured: the port after them, and which of them are misframed. -/
def TdmPort.measureAll : TdmPort → List TdmFrame → TdmPort × List Bool
  | y, [] => (y, [])
  | y, f :: l =>
    let r := y.measure f
    let q := TdmPort.measureAll r.1 l
    (q.1, r.2 :: q.2)

/-- The frame rate in mHz that the frames of a tick show (R254), where there are two to measure by. DESIGN CHOICE (assumption 62). -/
def framesRate (l : List TdmFrame) : Option Nat := match l, l.getLast? with
  | a :: _, some b => if a.came < b.came then some (4000000000000 * (l.length - 1) / (b.came - a.came)) else none
  | _, _ => none

/-- RATE_HZ of a slave port as its frames show it, and 0 where it has no clock (R243, R254); in RUN and CLK_LOSS the loss and the
return of the clock say so. -/
def State.tdmShow (s : State) (p : Nat) (l : List TdmFrame) : State := match framesRate l with
  | some r => s.showRate p r
  | none => if l = [] && (s.tdmSt p = 1 || s.tdmSt p = 4 || s.tdmSt p = 7) then s.showRate p 0 else s

/-- The FS timestamp of a TDM port (R46, R250): the first FS at or after the start of a tick whose number is a multiple of 8, to 250 ps,
with the tick in progress there; with the timestamp units disabled none is recorded (R39). -/
def State.tdmStamp (s : State) (p : Nat) (l : List TdmFrame) : State :=
  let y := s.tdm p
  let due := y.due || s.lap.beganTick % 8 = 0
  match l with
  | [] => s.setTdm p { y with due := due }
  | f :: _ =>
    let s0 := s.setTdm p { y with due := false }
    if !due || !s.enabled 0x08 then s0
    else
      let q := s.lap.beganAt * 4 + f.came
      let s1 := (s0.put (Fld.LAP_TDM_TS_HI_NS_HI p) (q / 4 / 2 ^ 32)).put (Fld.LAP_TDM_TS_LO_NS_LO p) (q / 4)
      ((s1.put (Fld.LAP_TDM_TS_TICK_TICK p) s.lap.beganTick).put (Fld.LAP_TDM_ST_QNS p) (q % 4)).wrapInc (Fld.LAP_TDM_ST_TS_SEQ p)

/-- The samples of a port's frames before the ASRC, a misframed frame repeating the one before it (R239). -/
def steadied (prev : List (BitVec 24)) : List (Nat × List (BitVec 24) × Bool) → List (Nat × List (BitVec 24))
  | [] => []
  | x :: l =>
    let d := if x.2.2 then prev else x.2.1
    (x.1, d) :: steadied d l

/-- A TDM port's front end in a tick (R239, R243, R250): the frames of the tick that ends are stamped and, at a slave, measured, and
their samples stand in the FIFO or before the ASRC. In SUSPENDED a slave goes on measuring. -/
def State.tdmFront (s : State) (p : Nat) (x : TdmIn) : State :=
  let st := s.tdmSt p
  if st = 0 || st = 6 || (st = 7 && s.tdmMaster p) then s
  else
    let s1 := s.tdmStamp p x.frames
    let r := if s.tdmMaster p then (s1.tdm p, x.frames.map fun _ => false) else (s1.tdm p).measureAll x.frames
    let errs := r.2.countP id
    let put := x.frames.zip r.2 |>.map fun f => (f.1.data, f.2)
    let said := steadied ((r.1.heard.getLast?.map (·.2)).getD [])
      (x.frames.zip r.2 |>.map fun f => (4 * s.lap.beganNow + f.1.came, f.1.data, f.2))
    let y := { r.1 with
      errs := (List.replicate errs s.time.now ++ r.1.errs).take 8,
      fifo := if 2 ≤ st && st ≤ 5 && !s.tdmAsync p then r.1.fifo ++ put else [],
      heard := if said = [] then r.1.heard else lately s.time.now (r.1.heard ++ said) }
    let s2 := (s1.setTdm p y).bump (Fld.LAP_TDM_CNT_FRAME_ERR p) errs
    if s.tdmMaster p then s2 else s2.tdmShow p x.frames

/-- Whether the tick pulse is being realigned under a master port (R252). -/
def State.stretched (s : State) (p : Nat) : Bool := s.tdmMaster p && s.on (Fld.PULSE_ST_REALIGN_PEND 2)

/-- The last sample of a slot. -/
def TdmPort.lastOf (x : TdmPort) (n : Nat) : Word := match x.last.find? (·.1 = n) with
  | some y => y.2
  | none => 0

/-- The samples of a slot that a port brings to the fabric (R239, R241): through the ASRC those of 250 µs before, else those of the
FIFO, with a misframed or missing frame repeating the one before it. -/
def State.slotIn (s : State) (p n : Nat) : List Word :=
  let y := s.tdm p
  let w := s.tdmWidth p
  if s.tdmAsync p then
    (List.range s.k).map fun j => asrcAt (y.heard.map fun h => (h.1, dataCode w h.2 n)) (sampleAt s.k s.lap.beganNow j)
  else
    repeated (y.lastOf n) ((List.range s.k).map fun j => match y.fifo[j]? with
      | some f => (fromCode24 (dataCode w f.1 n), f.2)
      | none => (0, true))

/-- Whether a port's two-tick FIFO has run empty or full (R240, R252): it holds fewer samples than the tick needs, where no lost clock
and no stretched interval accounts for that, or more than two ticks of them, or is told to have done so within the tick. DESIGN CHOICE
(assumption 62). -/
def State.tdmXrun (s : State) (p : Nat) (told : Bool) : Bool :=
  let y := s.tdm p
  let st := s.tdmSt p
  (st = 2 || (st = 5 && !s.tdmCompat p)) && !s.tdmAsync p && !s.stretched p
    && (told || (!y.gap && y.fifo.length < s.k) || y.fifo.length > 2 * s.k)

/-- A TDM port's receive slots in a processing tick (R239 to R245, R252): its samples; in CLK_LOSS the last one held, or the ASRC's
ratio; a tick without frames, across a re-centring or, at a master, with frames that did not occur, concealed under R191. DESIGN CHOICE (assumption 62), DEDUCED (assumption 63). -/
def State.tdmReceive (s : State) (p : Nat) (x : TdmIn) : State :=
  let st := s.tdmSt p
  let y := s.tdm p
  if st < 2 || st > 5 then s
  else
    let k := s.k
    let quiet := st = 5 && s.tdmCompat p
    let lost := s.tdmXrun p x.xrun
    let missing := y.gap && s.tdmMaster p && y.fifo.length < k
    let have_ := (x.frames ≠ [] || y.fifo ≠ []) && !s.stretched p && st ≠ 3 && !lost && !missing && !quiet
    let raw := fun (n : Nat) =>
      if have_ || (st = 3 && y.hold && s.tdmAsync p) then s.slotIn p n
      else if st = 3 || st = 4 then List.replicate k (y.lastOf n)
      else if y.dry then padTo k [] else rampOutOf k (y.lastOf n)
    let live := y.rx ++ y.leaving.filter fun n => !s.released (tdmIo p n)
    let s1 := live.foldl (fun (t : State) n =>
      let g := gained y.inR (raw n)
      t.setInput (tdmIo p n) (if have_ && (y.dry || y.fresh.contains n) then rampIn k g else g)) s
    let s2 := s1.setTdm p { y with
        last := live.map (fun n => (n, samp (raw n) (k - 1))), inR := y.inR.step k,
        dry := !have_ && st ≠ 3 && st ≠ 4, fresh := if have_ then [] else y.fresh,
        leaving := y.leaving.filter fun n => !s.released (tdmIo p n), gap := s.stretched p || st = 3 || st = 4,
        fifo := if lost || missing || s.stretched p || y.fifo.length > 2 * k then [] else y.fifo.drop k }
    if lost then (s2.bump (Fld.LAP_TDM_CNT_XRUN p) 1).fifoEvent p else s2

/-- A port at a tick's boundary (R243, R245): one that waits for it, or whose pre-roll has ended by then, starts its data, and a
master's pre-roll and a COMPAT stop count their frames from it. -/
def State.tdmBoundary (s : State) (p : Nat) : State :=
  let rolled := s.tdmCompat p && s.tdmRate p ≠ 0 && s.prerolled p
  if s.tdmSt p = 1 && ((s.tdm p).ready || rolled) then s.tdmRun p
  else if ((s.tdmSt p = 1 && s.tdmMaster p) || s.tdmSt p = 5) && (s.tdm p).since.isNone then
    s.setTdm p { s.tdm p with since := some s.time.now }
  else s

/-- The codes of an output in the buffer of the last take point. -/
def State.bufOf (s : State) (o : Nat) : List Int := match s.lap.buf.find? (·.1 = o) with
  | some x => x.2
  | none => []

/-- One transmit slot in a tick (R245, R246): its samples, and the slot after them. -/
def TxSlot.tick (k thr timeout ms : Nat) (xs : List Word) (y : TxSlot) : List Word × Option TxSlot :=
  let z := { y with last := samp xs (k - 1) }
  match y.st with
  | .armed => (padTo k [], some { z with st := .ramping })
  | .ramping => (rampIn k xs, some { z with st := .on })
  | .on => (xs, some z)
  | .closing => match firstCrossing thr y.last (padTo k xs) 0 with
    | some j0 => ((List.range k).map fun j => if j < j0 then samp xs j else 0, none)
    | none =>
      if y.age + 1 ≥ timeout then (xs, some { z with st := .fading, ramp := { g0 := fOne, g1 := 0, i := 0, n := ms } })
      else (xs, some { z with age := y.age + 1 })
  | .fading => (gained y.ramp (padTo k xs), if y.ramp.i + k ≥ y.ramp.n then none else some { z with ramp := y.ramp.step k })

/-- What a port's slots carried in a tick, put before the ASRC (R241). -/
def TdmPort.play (y : TdmPort) (now : Nat) (l : List (Nat × List Int)) : List (Nat × List (Nat × List Int)) :=
  ((now, l) :: y.played).take 6

/-- The media samples of a slot that the ASRC has before it, each with its instant in quarter nanoseconds. -/
def TdmPort.playedOf (y : TdmPort) (k n : Nat) : List (Nat × Int) := y.played.flatMap fun x =>
  match x.2.find? (·.1 = n) with
  | some c => (List.range k).map fun j => ((sampleAt k x.1 j).toNat, c.2.getD j 0)
  | none => []

/-- The codes that leave in the slots of an ASRC port (R241): one for each output frame of the tick that ended, of the media sample of
250 µs before it. -/
def State.asrcOut (s : State) (y : TdmPort) (x : TdmIn) (n : Nat) : List Int := x.frames.map fun f =>
  (toCode24 (asrcAt (y.playedOf s.k n) (4 * s.lap.beganNow + f.came : Nat))).1

/-- A TDM port's transmit slots in this tick: they carry the samples of the last take point in RUN and in a native stop, and
0 otherwise (R241, R243, R245, R252), cut to the slot's width (R237). -/
def State.tdmSend (s : State) (p : Nat) (x : TdmIn) : State × List (Nat × List Int) :=
  let st := s.tdmSt p
  let y := s.tdm p
  let k := s.k
  if !(st = 2 || (st = 5 && !s.tdmCompat p)) then (s, [])
  else if s.stretched p then
    (s.setTdm p { y with tx := y.tx.map fun z => if z.st = .on then { z with st := .ramping } else z }, [])
  else
    let gap := x.xrun && s.tdmMaster p
    let done := y.tx.map fun z =>
      let xs := (s.bufOf (tdmIo p z.slot)).map fromCode24
      if gap then (z.slot, rampOutOf k z.last, some { z with st := if z.st = .on then SlotSt.ramping else z.st, last := 0 })
      else
        let r := z.tick k (s.get Fld.FAB_CFG_ZC_THRESH) (8 * s.get Fld.FAB_CFG_ZC_TIMEOUT) s.msSamples (padTo k xs)
        (z.slot, gained y.outR r.1, r.2)
    let codes := done.map fun d => (d.1, d.2.1.map fun w => (toCode24 w).1)
    let y1 := { y with tx := done.filterMap (·.2.2), outR := y.outR.step k,
                       played := if s.tdmAsync p then y.play s.time.now codes else [] }
    let out := fun (d : Nat × List Int) => if s.tdmAsync p then s.asrcOut y1 x d.1 else d.2
    (s.setTdm p y1, codes.map fun d => (tdmIo p d.1, (out d).map (slotCode (s.tdmWidth p))))

/-- How many frames in a row have had a bit of a channel, over the frames of a tick. -/
def runOf (want : Bool) (c : Nat) (n : Nat) (l : List AesFrame) : Nat :=
  l.foldl (fun n f => if f.invalid.getD c false = want then n + 1 else 0) n

/-- The samples of a subframe that a receiver brings to the fabric (R241, R247): as `State.slotIn`, with a parity error repeating. -/
def State.subIn (s : State) (r c : Nat) : List Word :=
  let y := s.aes r
  if y.asrc then
    (List.range s.k).map fun j => asrcAt (y.heard.map fun h => (h.1, dataCode 24 h.2 c)) (sampleAt s.k s.lap.beganNow j)
  else
    repeated (samp y.last c) ((List.range s.k).map fun j => match y.fifo[j]? with
      | some f => (fromCode24 (dataCode 24 f.1 c), f.2.getD c false)
      | none => (0, true))

/-- The samples of a receiver's frames before the ASRC, those of a parity error repeating the frame before (R247). -/
def evened (tick : Nat) (prev : List (BitVec 24)) : List AesFrame → List (Nat × List (BitVec 24))
  | [] => []
  | f :: l =>
    let d := (List.range 2).map fun c => if f.bad.getD c false then prev.getD c 0 else f.data.getD c 0
    (tick + f.came, d) :: evened tick d l

/-- A receiver's front end in a tick (R247, R248): its frames stand in the FIFO or before the ASRC, those of a parity error repeating
the one before, and the runs of its validity bits go on. -/
def State.aesFront (s : State) (r : Nat) (x : AesIn) : State :=
  let y := s.aes r
  let good := evened (4 * s.lap.beganNow) ((y.heard.getLast?.map (·.2)).getD []) x.frames
  s.setAes r { y with
    vOne := [0, 1].map fun c => runOf true c (y.vOne.getD c 0) x.frames,
    vZero := [0, 1].map fun c => runOf false c (y.vZero.getD c 0) x.frames,
    fifo := if y.asrc then [] else y.fifo ++ x.frames.map fun f => (f.data, f.bad),
    heard := if good = [] then y.heard else lately s.time.now (y.heard ++ good) }

/-- Whether a locked receiver's two-tick FIFO has run empty or full (R240, R247), as `State.tdmXrun`. DESIGN CHOICE (assumption 62). -/
def State.aesXrun (s : State) (r : Nat) (told : Bool) : Bool :=
  let y := s.aes r
  s.on (Fld.LAP_AESR_ST_LOCK r) && !s.on (Fld.LAP_AESR_ST_RETRACK r) && s.on (Fld.LAP_AESR_CFG_SYNC r)
    && (told || y.fifo.length < s.k || y.fifo.length > 2 * s.k)

/-- An AES3 receiver in a processing tick (R247, R248): with its EN at 0 it goes on feeding its inputs until they have been released
(R212). DEDUCED (assumptions 63, 64). -/
def State.aesReceive (s0 : State) (r : Nat) (x : AesIn) : State :=
  if !((s0.aes r).on || (s0.aes r).going) then s0
  else if (s0.aes r).going && s0.released (aesIo r 0) && s0.released (aesIo r 1) then s0.aesOff r
  else
    let lock := s0.on (Fld.LAP_AESR_ST_LOCK r) || (s0.aes r).going
    let s := if lock then s0.aesFront r x else s0
    let y := s.aes r
    let k := s.k
    let lost := s.aesXrun r x.xrun
    let have_ := lock && (x.frames ≠ [] || y.fifo ≠ []) && !lost
    let raw := fun (c : Nat) =>
      if have_ || (!lock && y.hold > 0 && y.asrc) then s.subIn r c
      else if !lock then List.replicate k (samp y.last c)
      else if y.dry then padTo k [] else rampOutOf k (samp y.last c)
    let s1 := [0, 1].foldl (fun (t : State) c =>
      let g := gained (y.valid.getD c (Ramp.const fOne)) (gained y.inR (raw c))
      if s.released (aesIo r c) then t
      else t.setInput (aesIo r c) (if y.nonAudio.getD c false then [] else if have_ && y.dry then rampIn k g else g)) s
    let inR := if !lock && y.hold = 1 then s.ramp1ms y.inR.value 0 else if !lock && y.hold > 1 then y.inR else y.inR.step k
    let s2 := s1.setAes r { y with
        last := [samp (raw 0) (k - 1), samp (raw 1) (k - 1)], inR := inR, hold := y.hold - 1, valid := y.valid.map (Ramp.step · k),
        dry := lock && !have_, fifo := if lost || y.fifo.length > 2 * k then [] else y.fifo.drop k }
    let errs := if lock then sumOf (x.frames.map fun f => f.bad.countP id) else 0
    let s3 := s2.bump (Fld.LAP_AESR_CNT_PARITY r) errs
    if lost then s3.fifoEvent (4 + r) else s3

/-- How many frames a transmitter has begun by a step-free instant (R251, R252): they keep their period whatever the counter does. -/
def State.framesBy (s : State) (since now : Nat) : Nat := ((now - since) * s.k + 124999) / 125000

/-- The codes of a transmitter's subframes in a tick (R252): the last take point's, or, where its FIFO ran empty or full, concealed
under R191. -/
def State.aesOut (s : State) (t : Nat) (xrun : Bool) : AesTx × List (Nat × List Int) :=
  let y := s.aesTx t
  let codes := [0, 1].map fun c =>
    let xs := padTo s.k ((s.bufOf (aesIo t c)).map fromCode24)
    let out := if xrun then (if y.dry then padTo s.k [] else rampOutOf s.k (fromCode24 (y.last.getD c 0)))
      else if y.dry then rampIn s.k xs else xs
    (aesIo t c, out.map fun w => (toCode24 w).1)
  ({ y with dry := xrun, last := codes.map fun x => x.2.getLastD 0 }, codes)

/-- AES3_TX_START (R120, R251, R252): at the first block boundary, a tick-pulse instant in a tick whose number begins a block, once no
realignment is pending. Its frames keep the phase of that pulse, and leave from the tick in progress on. -/
def execAes3TxStart (t : Fin 4) (s : State) : Host.Outcome State Fault Refusal :=
  s.run fun s => s.when (s.lapRuns && s.audioOn && s.aesTxOn t && !s.on (Fld.LAP_AEST_ST_RUN t)
      && s.time.tick.toNat % s.blockTicks = 0 && s.pulseBefore 2 ≥ s.lap.beganNow && !s.on (Fld.PULSE_ST_REALIGN_PEND 2)) fun s =>
    let s1 := (s.setAesTx t { AesTx.reset with since := some (s.pulseBefore 2).toNat, words := s.aesWords t }).flag (Fld.LAP_AEST_ST_RUN t) true
    let r := s1.aesOut t false
    let s2 := s1.setAesTx t r.1
    { s2 with lap := { s2.lap with dout := s2.lap.dout ++ r.2 } }

/-- An AES3 transmitter in a tick (R251, R252): the words it sends are taken up at a block's start, and after the last block with its
EN at 0 it sends no more. -/
def State.aesSend (s : State) (t : Nat) (xrun : Bool) : State × List (Nat × List Int) :=
  match (s.aesTx t).since with
  | none => (s, [])
  | some since =>
    let first := s.framesBy since s.time.now
    let block := (s.framesBy since (s.time.now + s.time.tickLen) - 1) / 192
    if !s.on (Fld.LAP_AEST_ST_RUN t) || (s.aesTx t).words = [] then (s, [])
    else if block ≠ (s.aesTx t).block && !s.aesTxOn t then (s.setAesTx t { s.aesTx t with words := [] }, [])
    else
      let r := s.aesOut t xrun
      let y := { r.1 with block := block, pos := first % 192, words := if block = (s.aesTx t).block then r.1.words else s.aesWords t }
      let s1 := s.setAesTx t y
      (if xrun then s1.fifoEvent (8 + t) else s1, r.2)

/-- LAP's work in a tick: receive samples into the fabric, ports that start, and what leaves in this tick. -/
def State.lapMove (s : State) (tdm : List TdmIn) (aes : List AesIn) (txXruns : List Bool) : State :=
  let noTdm : TdmIn := { frames := [], xrun := false }
  let noAes : AesIn := { frames := [], xrun := false }
  let s1 := (List.range 4).foldl (fun t p => t.tdmReceive p (tdm.getD p noTdm)) s
  let s2 := (List.range 4).foldl (fun t r => t.aesReceive r (aes.getD r noAes)) s1
  let s3 := (List.range 4).foldl State.tdmBoundary s2
  let a := (List.range 4).foldl (fun (t : State × List (Nat × List Int)) p =>
    let r := t.1.tdmSend p (tdm.getD p noTdm)
    (r.1, t.2 ++ r.2)) (s3, [])
  let b := (List.range 4).foldl (fun (t : State × List (Nat × List Int)) n =>
    let r := t.1.aesSend n (txXruns.getD n false)
    (r.1, t.2 ++ r.2)) a
  { b.1 with lap := { b.1.lap with dout := b.2 } }

/-- LAP's part of a tick (R14, R242, R243): the front ends, and audio in both directions where the mode has any. Nothing leaves
where LAP does not run. -/
def State.lapPresent (s : State) (tdm : List TdmIn) (aes : List AesIn) (txXruns : List Bool) : State :=
  let still := { s with lap := { s.lap with dout := [] } }
  let t :=
    if !s.lapRuns then still
    else
      let s0 := (List.range 4).foldl (fun t p => t.tdmFront p (tdm.getD p { frames := [], xrun := false })) still
      if s.audioOn then s0.lapMove tdm aes txXruns else s0
  { t with lap := { t.lap with beganAt := s.time.tickStart.toNat, beganTick := s.time.tick.toNat, beganNow := s.time.now } }

/-- The take point (R16): the output buffers of the ports that have started and of the transmitters are latched. -/
def State.lapTake (s : State) : State :=
  let tdm := (List.range 4).flatMap fun p =>
    let st := s.tdmSt p
    if 1 ≤ st && st ≤ 5 then (s.tdm p).tx.map fun x => tdmIo p x.slot else []
  let aes := (List.range 4).flatMap fun t => if s.aesTxOn t || s.on (Fld.LAP_AEST_ST_RUN t) then [aesIo t 0, aesIo t 1] else []
  { s with lap := { s.lap with buf := if s.lapRuns && s.audioOn then (tdm ++ aes).map fun o => (o, s.takenOf o) else [] } }

/-! ### Brims, modes and restarts -/

/-- Whether a running master port would have to drive a frame that R238 does not allow: 512 bits at 96 kHz. -/
def State.bpfBad (s : State) (p : Nat) : Bool :=
  s.tdmMaster p && s.get (Fld.LAP_TDM_CFG_BPF p) = 3 && s.on Fld.FAB_CFG_RATE

/-- A TDM port at a brim (R242 to R246). DEDUCED (assumption 72). A master that runs with 512 bits per frame when the media rate has
become 96 kHz is not allowed to (R238), and goes to CFG_BAD with the cause that a start would find. DEDUCED (assumption 216). -/
def State.tdmBrim (s : State) (p : Nat) : State :=
  let st := s.tdmSt p
  let on := s.tdmOn p
  if st = 0 then (if on && s.audioOn then s.tdmStart p else s)
  else if st = 6 then (if on then s else (s.put (Fld.LAP_TDM_ST_STATE p) 0).put (Fld.LAP_TDM_ST_CAUSE p) 0)
  else if st = 7 then (if !on then s.tdmOff p else if s.audioOn then s.tdmStart p else s)
  else if !s.enabled 0x28 then s.tdmOff p
  else if s.bpfBad p then (((s.tdmOff p).put (Fld.LAP_TDM_ST_STATE p) 6).put (Fld.LAP_TDM_ST_CAUSE p) 1).note 0x28 [p, 1]
  else if st = 5 then s
  else if !on then s.tdmStop p
  else s.tdmMasks p

/-- LAP at a brim: receivers 0 to 3, then TDM ports 0 to 3 (R244); with the block's EN at 0 everything stops (R242). DEDUCED (assumption 68). -/
def State.lapBrim (s : State) : State :=
  if s.domDown domLap then s
  else
    let s1 := (List.range 4).foldl State.tdmBrim ((List.range 4).foldl State.aesBrim s)
    if s.enabled 0x28 then s1 else (List.range 4).foldl State.aesTxOff s1

/-- NIGHTCAP or SHELTER begins (R243, R251). DEDUCED (assumption 72). -/
def State.lapSleep (s : State) : State :=
  (List.range 4).foldl State.aesTxOff ((List.range 4).foldl State.tdmSuspend s)

/-- The LAP domain enters a restart, or SRST puts everything in OFF (R242, R359): ports stop at a frame end and receivers
unlock. -/
def State.lapDown (s : State) : State :=
  let s1 := (List.range 4).foldl (fun t p => if t.tdmSt p = 6 then t else t.tdmOff p) s
  let s2 := (List.range 4).foldl (fun t r => t.aesOff r) s1
  (List.range 4).foldl State.aesTxOff s2

/-! ### The lands -/

/-- What SYN0 is divided by for a master port's BCLK (R238). -/
def State.bclkDiv (s : State) (p : Nat) : Nat := (if s.on Fld.FAB_CFG_RATE then 512 else 1024) / s.tdmBpf p

/-- The BCLK periods of a port's frame: a master's own, or those that a slave has measured (R238, R239). -/
def State.frameLen (s : State) (p : Nat) : Nat := if s.tdmMaster p then s.tdmBpf p else (s.tdm p).bits.getD 0

/-- Whether FS is high in BCLK period `b` of a frame (R237), for frames of `n` periods. -/
def fsShape (fmt n b : Nat) : Bool := match fmt with
  | 1 => n / 2 ≤ b
  | 2 => b < n / 2
  | _ => b = 0

/-- FS of a port in period `b` of its frame (R237): FS_POL inverts it. -/
def State.fsHigh (s : State) (p b : Nat) : Bool :=
  xor (s.on (Fld.LAP_TDM_CFG_FS_POL p)) (fsShape (s.get (Fld.LAP_TDM_CFG_FMT p)) (s.frameLen p) b)

/-- The BCLK periods between FS's leading edge and the first bit of slot 0 (R237). -/
def State.slotLead (s : State) (p : Nat) : Nat := match s.get (Fld.LAP_TDM_CFG_FMT p) with
  | 1 => 1
  | 2 => 0
  | _ => if s.on (Fld.LAP_TDM_CFG_DELAY1 p) then 1 else 0

/-- How many periods behind the first bit of slot 0 a slot begins (R237). -/
def State.slotOffset (s : State) (p n : Nat) : Nat :=
  let f := s.get (Fld.LAP_TDM_CFG_FMT p)
  if f = 1 || f = 2 then n * (s.frameLen p / 2) else n * s.tdmWidth p

/-- Whether the part drives DOUT and FS on BCLK's falling edge, and samples DIN and FS on its rising edge, or both the other way
(R237). -/
def State.drivesFalling (s : State) (p : Nat) : Bool := !s.on (Fld.LAP_TDM_CFG_BCLK_EDGE p)

/-- Bit `i` of a slot's word, the most significant first (R237): 24 bits stand in bits [31:8] of a 32-bit slot, whose bits [7:0]
are 0. -/
def slotBit (width : Nat) (z : Int) (i : Nat) : Bool := i < 24 && i < width && (ofSigned 24 z).testBit (23 - i)

/-- The codes that leave in this tick at an output. -/
def State.doutOf (s : State) (o : Nat) : List Int := match s.lap.dout.find? (·.1 = o) with
  | some x => x.2
  | none => []

/-- The bits of DOUT over the frame `j` of this tick, from the first bit of slot 0 on (R237, R238): `State.slotLead` periods behind FS's
leading edge, and 0 beyond the slots. -/
def State.doutBits (s : State) (p j : Nat) : List Bool := (List.range (s.frameLen p)).map fun i =>
  match (List.range (s.tdmSlots p)).find? (fun n => s.slotOffset p n ≤ i && i < s.slotOffset p n + s.tdmWidth p) with
  | some n => slotBit (s.tdmWidth p) ((s.doutOf (tdmIo p n)).getD j 0) (i - s.slotOffset p n)
  | none => false

/-- The preambles of AES3 (R251, IEC 60958): Z begins a block, X a frame, and Y its second subframe. -/
inductive Preamble where
  | x | y | z
deriving DecidableEq, Repr

/-- A subframe behind its preamble (R248, R251): 24 bits of audio in time slots 4 to 27, then the validity, user and channel status
bits, and the parity of all of them, which is even. -/
structure Subframe where
  preamble : Preamble
  audio : BitVec 24
  validity : Bool
  user : Bool
  status : Bool
  parity : Bool
deriving DecidableEq, Repr

/-- A bit of a block's octets, the first sent lowest (R249). -/
def blockBit (l : List Word) (base n : Nat) : Bool := (l.getD (base + n / 32) 0).getLsbD (n % 32)

/-- Subframe `c` of frame `j` of this tick, as a running transmitter sends it (R251): the validity bit is VFORCE's. -/
def State.subframe (s : State) (t c j : Nat) : Option Subframe :=
  let y := s.aesTx t
  if y.words = [] then none
  else
    let n := (y.pos + j) % 192
    let a := BitVec.ofInt 24 ((s.doutOf (aesIo t c)).getD j 0)
    let v := s.on (Fld.LAP_AEST_CFG_VFORCE t)
    let u := blockBit y.words (12 + 6 * c) n
    let q := blockBit y.words (6 * c) n
    some { preamble := if c = 1 then .y else if n = 0 then .z else .x, audio := a, validity := v, user := u, status := q,
           parity := (((List.range 24).map a.getLsbD) ++ [v, u, q]).foldl xor false }

end Sys2Proof.Machine
end

