-- ==== Sys2Proof/Machine/Log.lean ====
section
/-! DEFINITION. The hatband log (R480 to R484): the log writer and its copies to the LOGQ rings, the freezes, the clear,
and the archive in flash. -/

namespace Sys2Proof.Machine

/-- The severity of an entry, DW2[15:12] (R478). -/
def LogEntry.sev (e : LogEntry) : Nat := Word.field e.d2 15 12

/-- The words of an entry, DW0 first. -/
def LogEntry.words (e : LogEntry) : List Word := [e.d0, e.d1, e.d2, e.d3, e.d4, e.d5, e.d6, e.d7]

/-- An entry of bank 62. -/
def State.logEntry (s : State) (i : Nat) : LogEntry := Store.get (fun _ => LogEntry.zero) s.log.bank i

/-- An entry written at NEXT, which advances (R480, R481). -/
def State.logStore (s : State) (e : LogEntry) : State :=
  let n := s.get Fld.LOG_ST_NEXT
  let s1 := { s with log := { s.log with bank := Store.set (fun _ => LogEntry.zero) s.log.bank n e } }
  let s2 := s1.put Fld.LOG_ST_NEXT ((n + 1) % 4096)
  if n = 4095 then s2.flag Fld.LOG_ST_WRAPPED true else s2

/-- An entry copied to a port's running LOGQ ring, where its severity reaches the ring's MIN_SEV (R420). -/
def State.logCopy (s : State) (p : Port) (e : LogEntry) : State := match s.findRing p 7 with
  | none => s
  | some n =>
    if e.sev < s.get (Fld.HIF_R_TCFG_T p.num n) % 16 then s
    else
      let r := s.pushRecord p n e.words
      if r.2 then r.1.ringError p n else r.1

/-- An entry sent to the LOGQ rings and, from ARCH_SEV on, to the archive's queue (R420, R483). -/
def State.logShare (s : State) (e : LogEntry) : State :=
  let s1 := (s.logCopy .a e).logCopy .b e
  if e.sev ≥ s1.get Fld.LOG_CFG_ARCH_SEV then
    { s1 with log := { s1.log with archPend := s1.log.archPend ++ [e] } }
  else s1

/-- A LOG_CONTROL entry (R481), written at NEXT past the intake: what it records, NEXT, LOG_COUNT, the SEQUENCE of the
entry that triggered. DEDUCED (assumption 121). -/
def State.logControl (s : State) (what org trigger : Nat) : State :=
  let e := s.mkEntry codeLogControl 2 1 org [what, s.get Fld.LOG_ST_NEXT, s.get Fld.LOG_COUNT_COUNT, trigger]
  ((s.wrapInc Fld.LOG_COUNT_COUNT).logShare e).logStore e

/-- The log freezes (R481): the control entry is the last one before; LOG_FROZEN_AT takes LOG_COUNT. DEDUCED (assumption 121). -/
def State.logFreeze (s : State) (what org trigger : Nat) : State :=
  let s1 := (s.put Fld.LOG_FROZEN_AT_COUNT (s.get Fld.LOG_COUNT_COUNT)).logControl what org trigger
  (s1.flag Fld.LOG_ST_TRIG false).flag Fld.LOG_ST_FROZEN true

/-- What an entry written to bank 62 does to a trigger (R481): it counts toward POST, or triggers where its severity
reaches FREEZE_SEV, 6 to 15 never. DEDUCED (assumption 122). -/
def State.logTrigger (s : State) (e : LogEntry) : State :=
  let sev := s.get Fld.LOG_CFG_FREEZE_SEV
  let due (t : State) : State := if t.log.post = 0 then t.logFreeze 2 originPart t.log.trigSeq else t
  if s.on Fld.LOG_ST_TRIG then due { s with log := { s.log with post := s.log.post - 1 } }
  else if sev ≤ 5 && e.sev ≥ sev then
    due (({ s with log := { s.log with post := s.get Fld.LOG_CFG_POST, trigSeq := Word.field e.d2 7 0 } }).flag
      Fld.LOG_ST_TRIG true)
  else s

/-- Once there is room, the entries dropped since the last LOG_OVERFLOW entry are recorded in one (R480). -/
def State.logOverflow (s : State) : State :=
  if s.log.dropped = 0 then s
  else ({ s with log := { s.log with dropped := 0 } }).logNote codeOverflow 2 originPart [s.log.dropped]

/-- An entry written to bank 62, unless the log is frozen (R481). -/
def State.logKeep (s : State) (e : LogEntry) : State :=
  if s.on Fld.LOG_ST_FROZEN then s else (s.logStore e).logTrigger e

/-- The log writer takes one entry from the intake (R480): the copies, and bank 62 unless FROZEN. -/
def State.logWrite (s : State) : State := match s.log.intake with
  | [] => s
  | e :: rest => ((({ s with log := { s.log with intake := rest } }).logShare e).logKeep e).logOverflow

/-- An entry put at the end of the archive, which holds 4,096 (R483). DEDUCED (assumption 123). -/
def archiveAdd (l : List LogEntry) (e : LogEntry) : List LogEntry := (l ++ [e]).drop (l.length + 1 - 4096)

/-- Pending archive entries written at once, on entry to SHELTER and when VIN_WARN sets (R483). -/
def State.flushArchive (s : State) : State :=
  { s with log := { s.log with archive := s.log.archPend.foldl archiveAdd s.log.archive, archPend := [] } }

/-- The archive takes an entry (R483): at most 64 in a second; the excess is counted. DEDUCED (assumption 123). -/
def State.archiveNext (s : State) : State := match s.log.archPend with
  | [] => s
  | e :: rest =>
    let sec := s.time.now / 1000000000
    let count := if sec = s.log.archSecond then s.log.archCount else 0
    let s1 := { s with log := { s.log with archPend := rest, archSecond := sec } }
    if count ≥ 64 then
      ({ s1 with log := { s1.log with archCount := count } }).bump Fld.LOG_CNT_ARCH_SKIP 1
    else { s1 with log := { s1.log with archCount := count + 1, archive := archiveAdd s1.log.archive e } }

/-- LOG_CMD.FREEZE (R481): a log that is frozen stays as it is. DEDUCED (assumption 124). -/
def State.logFreezeCmd (s : State) (org : Nat) : State := if s.on Fld.LOG_ST_FROZEN then s else s.logFreeze 1 org 0

/-- LOG_CMD.UNFREEZE (R481): writing resumes at NEXT, the control entry first. DEDUCED (assumption 124). -/
def State.logUnfreezeCmd (s : State) (org : Nat) : State :=
  if s.on Fld.LOG_ST_FROZEN then (s.flag Fld.LOG_ST_FROZEN false).logControl 3 org 0 else s

/-- The zeroing of LOG_CMD.CLEAR (R481, R484): NEXT and WRAPPED are 0, the log runs, and the control entry is entry 0. -/
def State.logClear (s : State) (org : Nat) : State :=
  let s1 := { s with log := { s.log with bank := [] } }
  (((s1.put Fld.LOG_ST_NEXT 0).flag Fld.LOG_ST_WRAPPED false).flag Fld.LOG_ST_FROZEN false).logControl 4 org 0

/-- LOG_CMD.CLEAR written: in ALARM it is refused unless a sealed order carries it (R484, R376). -/
def State.logClearCmd (s : State) (g : Who) (data : Nat) : State :=
  if s.inAlarm && g ≠ .order then s.refuseReg g 0x020020 data 21 .kw
  else s.logClear g.origin

/-- LOG_ENTRY_WRITE (R480). -/
def execLogEntryWrite (s : State) : Host.Outcome State Fault Refusal := s.run State.logWrite

/-- LOG_ARCHIVE_APPEND (R483). -/
def execLogArchiveAppend (s : State) : Host.Outcome State Fault Refusal := s.run State.archiveNext

/-- LOG_FREEZE (R484). -/
def execLogFreeze (g : Agent) (s : State) : Host.Outcome State Fault Refusal := s.run fun s => s.logFreezeCmd g.who.origin

/-- LOG_UNFREEZE (R484). -/
def execLogUnfreeze (g : Agent) (s : State) : Host.Outcome State Fault Refusal := s.run fun s => s.logUnfreezeCmd g.who.origin

/-- LOG_CLEAR (R484): a KW write. -/
def execLogClear (g : Agent) (s : State) : Host.Outcome State Fault Refusal :=
  s.run fun s => s.keyed g.who 0x020020 4 fun s => s.logClearCmd g.who 4

end Sys2Proof.Machine
end

