-- ==== Sys2Proof/Machine/Mem.lean ====
section
/-! DEFINITION. The cell pool with its quotas and watermarks (R444 to R455), the exchange RAM (R439 to R443) and the
error counts of the banks (R436 to R438). -/

namespace Sys2Proof

/-- The number of an exchange-RAM master among the conflict counters (R443). -/
def ExMaster.num : ExMaster → Nat
  | .hostA => 0 | .hostB => 1 | .mgmt0 => 2 | .mgmt1 => 3 | .crown => 12

end Sys2Proof

namespace Sys2Proof.Machine

/-! ### The cell pool -/

/-- The cells an item of `len` octets occupies (R444). -/
def cellsFor (len : Nat) : Nat := max 1 ((len + 255) / 256)

/-- The group of a queue (R445): 0 RSW, 1 MGMT, 2 HOSTA, 3 HOSTB, 4 PNL. -/
def queueGroup (q : Nat) : Nat :=
  if q < 16 then 0 else if q < 18 then 1 else if q < 21 then 2 else if q < 24 then 3 else 4

/-- A field of word `w` of queue `q` in the MEM indirect space (R455). -/
def Fld.queue (q w hi lo : Nat) : Fld := ⟨indKey 0x48 (8 * q + w), hi, lo⟩

def Fld.qQuota (q : Nat) : Fld := Fld.queue q 0 30 16
def Fld.qRsv (q : Nat) : Fld := Fld.queue q 0 14 0
def Fld.qHi (q : Nat) : Fld := Fld.queue q 1 30 16
def Fld.qLo (q : Nat) : Fld := Fld.queue q 1 14 0
def Fld.qHyst (q : Nat) : Fld := Fld.queue q 2 31 24
def Fld.qPeak (q : Nat) : Fld := Fld.queue q 3 30 16
def Fld.qCross (q : Nat) : Fld := Fld.queue q 3 15 0
def Fld.qEmptyPops (q : Nat) : Fld := Fld.queue q 4 31 16
def Fld.qFlushDiscard (q : Nat) : Fld := Fld.queue q 4 15 0
def Fld.qFlushed (q : Nat) : Fld := Fld.queue q 5 31 0
def Fld.qDrop (q : Nat) : Fld := Fld.queue q 6 31 0
def Fld.qEccDrop (q : Nat) : Fld := Fld.queue q 7 31 0

/-- Bit `q` of MEM_QWM_LEVEL, MEM_QWM_STICKY and MEM_OVERQ. -/
def Fld.qLevel (q : Nat) : Fld := ⟨0x480024, q, q⟩
def Fld.qSticky (q : Nat) : Fld := ⟨0x480028, q, q⟩
def Fld.qOver (q : Nat) : Fld := ⟨0x480030, q, q⟩

/-- The cells of the panel queues: 32 items a cell (R444). -/
def State.panelUse (s : State) (q : Nat) : Nat :=
  ((if q = 24 then s.pnl.rx.length else s.pnl.tx.length) + 31) / 32

/-- The cells charged to a queue (R445). DESIGN CHOICE (assumption 196). -/
def State.qUse (s : State) (q : Nat) : Nat :=
  if q ≥ 24 then s.panelUse q
  else sumOf (s.mem.items.map fun x => if x.holders.contains q then x.cells else 0)

/-- The cells charged to a group: each item once (R445). -/
def State.gUse (s : State) (g : Nat) : Nat :=
  if g = 4 then s.panelUse 24 + s.panelUse 25
  else sumOf (s.mem.items.map fun x => if x.holders.any (fun q => queueGroup q = g) then x.cells else 0)

/-- The free cells (R444). -/
def State.freeCells (s : State) : Nat :=
  16384 - s.get Fld.MEM_POOL_RSV_LOST_CELLS - sumOf (s.mem.items.map PoolItem.cells) - s.gUse 4

/-- The quota of a group (R445). -/
def State.gQuota (s : State) (g : Nat) : Nat :=
  if g = 0 then s.get Fld.MEM_RSW_QUOTA_CELLS
  else if g = 1 then s.get (Fld.qQuota 16) + s.get (Fld.qQuota 17)
  else if g = 2 then s.get (Fld.HIF_QUOTA_CELLS 0)
  else if g = 3 then s.get (Fld.HIF_QUOTA_CELLS 1)
  else s.get (Fld.qQuota 24) + s.get (Fld.qQuota 25)

/-- The over-quota bit of a group, where it has one (R448, R422). -/
def gOver (g : Nat) : Option Fld :=
  if g = 0 then some Fld.MEM_RSW_USE_OVER
  else if g = 2 then some (Fld.HIF_USE_OVER_CELLS 0)
  else if g = 3 then some (Fld.HIF_USE_OVER_CELLS 1)
  else none

/-- Whether a group is over its quota. -/
def State.groupOver (s : State) (g : Nat) : Bool := match gOver g with
  | some f => s.on f
  | none => false

/-- The cells a queue's reserve holds back: a QUOTA below RSV makes RSV act as QUOTA (R449). -/
def State.qReserve (s : State) (q : Nat) : Nat := min (s.get (Fld.qRsv q)) (s.get (Fld.qQuota q))

/-- The sum of effective reserves (R454). -/
def State.rsvSum (s : State) : Nat := sumOf ((List.range 26).map s.qReserve)

/-- The unused reserves of all queues, with `extra` cells already granted to queue `q` (R446). -/
def State.unusedReserve (s : State) (q extra : Nat) : Nat :=
  sumOf ((List.range 26).map fun x => s.qReserve x - (s.qUse x + (if x = q then extra else 0)))

/-- Whether queue `q` is granted one more cell after `extra` cells of the same item (R446). With `fresh` false the cell
is already taken from the free list by another queue that holds the item (R445). DEDUCED (assumptions 22, 23). -/
def State.grant (s : State) (q extra : Nat) (fresh : Bool) : Bool :=
  let g := queueGroup q
  let use := s.qUse q + extra
  let useG := s.gUse g + extra
  let taken := if fresh then extra else 0
  if s.on (Fld.qOver q) || s.groupOver g then false
  else if use < s.qReserve q then true
  else if use ≥ s.get (Fld.qQuota q) || useG ≥ s.gQuota g then false
  else s.freeCells - taken > s.unusedReserve q extra

/-- Whether a queue is granted every cell of an item of `n` cells. -/
def State.grantAll (s : State) (q n : Nat) (fresh : Bool) : Bool :=
  (List.range n).all fun i => s.grant q i fresh

/-- One queue brought up to date after its use has changed (R448, R452): PEAK; LEVEL with its hysteresis, STICKY, CROSS
and event 62; and the over-quota bit, which clears below the quota less its hysteresis. -/
def State.settleQueue (s : State) (q : Nat) : State :=
  let use := s.qUse q
  let hi := s.get (Fld.qHi q)
  let lo := if s.get (Fld.qLo q) ≥ hi then hi - 1 else s.get (Fld.qLo q)
  let s1 := if use > s.get (Fld.qPeak q) then s.put (Fld.qPeak q) use else s
  let s2 := if use + 8 * s1.get (Fld.qHyst q) < s1.get (Fld.qQuota q) && s1.on (Fld.qOver q)
    then s1.flag (Fld.qOver q) false else s1
  if hi = 0 then ((s2.flag (Fld.qLevel q) false).flag (Fld.qSticky q) false).put (Fld.qCross q) 0
  else if s2.on (Fld.qLevel q) then (if use ≤ lo then s2.flag (Fld.qLevel q) false else s2)
  else if use ≥ hi then
    let s3 := ((s2.flag (Fld.qLevel q) true).bump (Fld.qCross q) 1)
    if s3.on (Fld.qSticky q) then s3
    else (s3.flag (Fld.qSticky q) true).raise 62 0x48 [q, use, s3.get (Fld.qCross q)]
  else s2

/-- A group's over-quota bit, which clears below the quota less its hysteresis (R448, R422). -/
def State.settleGroup (s : State) (g hyst : Nat) : State := match gOver g with
  | some f => if s.on f && s.gUse g + 8 * hyst < s.gQuota g then s.flag f false else s
  | none => s

/-- The whole pool brought up to date after a change of what it holds. -/
def State.settlePool (s : State) : State :=
  let s1 := (List.range 26).foldl State.settleQueue s
  let s2 := ((s1.settleGroup 0 (s1.get Fld.MEM_RSW_QUOTA_HYST)).settleGroup 2 (s1.get (Fld.HIF_QUOTA_HYST 0))).settleGroup 3
    (s1.get (Fld.HIF_QUOTA_HYST 1))
  if s2.freeCells < s2.get Fld.MEM_POOL_ST_MIN_FREE then s2.put Fld.MEM_POOL_ST_MIN_FREE s2.freeCells else s2

/-- An item of `n` cells stored for the queues of a list that grant it, one after another (R445 to R447): the item's
number and the queues that hold it; none where every queue refuses. DEDUCED (assumption 23). -/
def State.admitQueues (s : State) (n : Nat) (qs : List Nat) : List Nat :=
  qs.foldl (fun held q => if s.grantAll q n held.isEmpty then held ++ [q] else held) []

/-- An item put into the pool for the queues that hold it. -/
def State.storeItem (s : State) (n : Nat) (held : List Nat) : State :=
  if held.isEmpty then s
  else
    let x := s.mem.nextItem
    State.settlePool { s with mem := { s.mem with items := s.mem.items ++ [{ id := x, cells := n, holders := held }],
                                                  nextItem := x + 1 } }

/-- A further queue that holds an item. -/
def State.joinItem (s : State) (x q : Nat) : State :=
  State.settlePool { s with mem := { s.mem with items := s.mem.items.map fun y =>
    if y.id = x then { y with holders := y.holders ++ [q] } else y } }

/-- A queue's charge for an item removed; the item leaves the pool with its last holder, and a frame that only its NETTX
staging still holds leaves with it (R445, R421). -/
def State.releaseItem (s : State) (x q : Nat) : State :=
  let items := s.mem.items.filterMap fun y =>
    if y.id = x then
      (let h := y.holders.filter (· ≠ q)
       if h.all (fun z => z = 17 || z = 19 || z = 22) then none else some { y with holders := h })
    else some y
  ({ s with mem := { s.mem with items := items } }).settlePool

/-- An item dropped from every queue. -/
def State.dropItem (s : State) (x : Nat) : State :=
  ({ s with mem := { s.mem with items := s.mem.items.filter (·.id ≠ x) } }).settlePool

/-- A queue's refusal of an item counted (R447). -/
def State.refusedCell (s : State) (q : Nat) : State := s.bump (Fld.qDrop q) 1

/-- A pop from an empty queue counted (R451). -/
def State.emptyPop (s : State) (q : Nat) : State := s.bump (Fld.qEmptyPops q) 1

/-- A quota lowered below what is held (R448): its over-quota bit and event 56, once for that lowering. DEDUCED (assumption 176). -/
def State.lowered (s : State) (old new use : Nat) (f : Fld) (dw : List Nat) : State :=
  if new < old && use > new then (s.flag f true).raise 56 (keyCode f.addr) dw else s

/-- Word +0 of a queue written (R446, R448, R449): refused where the sum of RSV would pass 8,192; fixed for the panel
queues; a quota is held at 16,384. DEDUCED (assumption 173). -/
def State.writeQueue0 (s : State) (g : Who) (q : Nat) (w : Word) : State :=
  if q ≥ 24 then s
  else
    let sum := sumOf ((List.range 26).map fun x => if x = q then Word.field w 14 0 else s.get (Fld.qRsv x))
    if sum > 8192 then
      (s.setBlkStatus 0x48 0).logNote codeDiscard 0x48 g.origin [0x80000000 + 0x48000000 + 8 * q, w.toNat]
    else
      let old := s.get (Fld.qQuota q)
      let new := min 16384 (Word.field w 30 16)
      let s1 := (s.put (Fld.qRsv q) (Word.field w 14 0)).put (Fld.qQuota q) new
      (s1.lowered old new (s1.qUse q) (Fld.qOver q) [q, s1.qUse q, new]).settlePool

/-- A word of the queue configuration written through IDATA (R455). -/
def State.writeQueueWord (s : State) (g : Who) (a : Nat) (w : Word) : State :=
  let q := a / 8
  if a % 8 = 0 then s.writeQueue0 g q w
  else if a % 8 = 1 then ((s.put (Fld.qHi q) (Word.field w 30 16)).put (Fld.qLo q) (Word.field w 14 0)).settlePool
  else if a % 8 = 2 then (s.put (Fld.qHyst q) (Word.field w 31 24)).settlePool
  else s

/-- MEM_RSW_QUOTA written (R448): a quota is held at 16,384. DEDUCED (assumption 173). -/
def State.writeRswQuota (s : State) (w : Word) : State :=
  let old := s.get Fld.MEM_RSW_QUOTA_CELLS
  let new := min 16384 (Word.field w 30 16)
  let s1 := (s.put Fld.MEM_RSW_QUOTA_CELLS new).put Fld.MEM_RSW_QUOTA_HYST (Word.field w 15 8)
  (s1.lowered old new (s1.gUse 0) Fld.MEM_RSW_USE_OVER [0x100, s1.gUse 0, new]).settlePool

/-- Whether a watermark land is driven active (R453): enabled, and a queue it names has LEVEL. -/
def State.qwmActive (s : State) (k : Nat) : Bool :=
  s.powered && s.on ⟨0x480018, 2 * k, 2 * k⟩ &&
    (List.range 26).any fun q => s.on ⟨0x48001C + 4 * k, q, q⟩ && s.on (Fld.qLevel q)

/-- The level of a watermark land: POL 1 drives it low when active (R454). -/
def State.qwmLand (s : State) (k : Nat) : Bool := s.qwmActive k != s.on ⟨0x480018, 2 * k + 1, 2 * k + 1⟩

/-! ### The exchange RAM -/

/-- What an octet of the exchange RAM reads as where nothing has been written: 0 (R439). -/
def exchEmpty (_ : Nat) : Byte := 0

/-- The octet at an address of the exchange RAM. -/
def State.exchByte (s : State) (a : Nat) : Byte := Store.get exchEmpty s.mem.exch a

/-- An octet of the exchange RAM written. -/
def State.setExchByte (s : State) (a : Nat) (b : Byte) : State :=
  { s with mem := { s.mem with exch := Store.set exchEmpty s.mem.exch a b } }

/-- The canonical form of the exchange RAM: addresses strictly rising below 64 KiB, no listed octet 0. DESIGN CHOICE (assumption 126). -/
def Memory.wf (m : List Host.Cell) : Bool := Store.wf exchEmpty m && m.all (fun c => c.1 < 65536)

/-- Octet `i` of a word: octet 0 is the least significant and lies at the lowest address, as PCIe carries it. -/
def octet (w : Word) (i : Nat) : Byte := BitVec.ofNat 8 (w.toNat / 2 ^ (8 * i))

/-- The address of octet `i` of the word that an address names. -/
def exchAddr (addr : BitVec 16) (i : Nat) : Nat := addr.toNat / 4 * 4 + i

/-- What the read of a read-modify-write yields for an octet of the word: the stored octet, or a free value where the
word was uncorrectable (R437 gives what a read returns and not what such a write leaves). -/
def State.exchRead (s : State) (addr : BitVec 16) (ecc : EccState) (i : Nat) : Byte :=
  if ecc = .uncorrectable then octet (Config.lostWord s.free) i else s.exchByte (exchAddr addr i)

/-- A word of the exchange RAM updated octet by octet under its byte enables in one access slot (R440, R441). -/
def State.exchUpdate (s : State) (addr : BitVec 16) (be : BitVec 4) (ecc : EccState) (f : Nat → Byte → Byte) : State :=
  [0, 1, 2, 3].foldl (fun t i => t.setExchByte (exchAddr addr i)
    (if be.getLsbD i then f i (s.exchRead addr ecc i) else s.exchRead addr ecc i)) s

/-- The conflict counter of a master (R443, R455). -/
def Fld.conflicts (m : Nat) : Fld := ⟨indKey 0x48 (0x200 + m), 15, 0⟩

/-- Both masters of a pair that reach one word in one cycle count it (R443). DESIGN CHOICE (assumption 26). -/
def State.conflict (s : State) (m : Nat) (met : Option (Fin 16)) : State := match met with
  | some x => (s.bump (Fld.conflicts m) 1).bump (Fld.conflicts x.val) 1
  | none => s

/-- The counts of an exchange RAM word read with an error (R436, R437). DEDUCED (assumption 205). -/
def State.exchEcc (s : State) (ecc : EccState) : State := match ecc with
  | .ok => s
  | .corrected => s.bump Fld.MEM_ECC_ST_CORR_EXR 1
  | .uncorrectable => (s.bump Fld.MEM_ECC_ST_ERR_EXR 1).draw

/-- EXCHANGE_WRITE (R440): a write of all octets reads nothing. -/
def execExchangeWrite (m : ExMaster) (addr : BitVec 16) (be : BitVec 4) (data : Word) (met : Option (Fin 16))
    (ecc : EccState) (s : State) : Host.Outcome State Fault Refusal :=
  s.runExch fun s =>
    let e := if be = 15 then EccState.ok else ecc
    ((s.exchUpdate addr be e fun i _ => octet data i).exchEcc e).conflict m.num met

/-- EXCHANGE_SET (R441): executed by SEMU (R443). -/
def execExchangeSet (_ : ExMaster) (addr : BitVec 16) (be : BitVec 4) (data : Word) (met : Option (Fin 16))
    (ecc : EccState) (s : State) : Host.Outcome State Fault Refusal :=
  s.runExch fun s =>
    ((s.exchUpdate addr be ecc fun i b => b ||| octet data i).exchEcc ecc).conflict 15 met

/-- EXCHANGE_CLEAR (R441): executed by SEMU (R443). -/
def execExchangeClear (_ : ExMaster) (addr : BitVec 16) (be : BitVec 4) (data : Word) (met : Option (Fin 16))
    (ecc : EccState) (s : State) : Host.Outcome State Fault Refusal :=
  s.runExch fun s =>
    ((s.exchUpdate addr be ecc fun i b => b &&& ~~~(octet data i)).exchEcc ecc).conflict 15 met

/-! ### Error counts and repair candidates -/

/-- The counters of a bank (R455). -/
def Fld.bankCorr (b : Nat) : Fld := ⟨indKey 0x48 (0x100 + 2 * b), 31, 16⟩
def Fld.bankWin (b : Nat) : Fld := ⟨indKey 0x48 (0x100 + 2 * b), 15, 0⟩
def Fld.bankUncorr (b : Nat) : Fld := ⟨indKey 0x48 (0x101 + 2 * b), 15, 0⟩

/-- Whether a bank has been replaced already. -/
def State.bankReplaced (s : State) (b : Nat) : Bool :=
  (s.on Fld.PLAT_REPAIR_ST_S0_USED && s.get Fld.PLAT_REPAIR_ST_S0_BANK = b) ||
  (s.on Fld.PLAT_REPAIR_ST_S1_USED && s.get Fld.PLAT_REPAIR_ST_S1_BANK = b)

/-- Whether a bank is powered: in NIGHTCAP and SHELTER, from the power-down on, banks 16 to 58 are down, and so is a spare
that replaces one (R352, R432). A bank that a spare has replaced is powered down (R365, step 3). -/
def State.bankPowered (s : State) (b : Nat) : Bool :=
  let home := if b = 64 then (if s.on Fld.PLAT_REPAIR_ST_S0_USED then s.get Fld.PLAT_REPAIR_ST_S0_BANK else 0)
    else if b = 65 then (if s.on Fld.PLAT_REPAIR_ST_S1_USED then s.get Fld.PLAT_REPAIR_ST_S1_BANK else 0) else b
  s.powered && !s.bankReplaced b && !(s.plat.down && 16 ≤ home && home ≤ 58)

/-- A number put into a rising list without repeats. -/
def insertSorted (n : Nat) : List Nat → List Nat
  | [] => [n]
  | a :: l => if n < a then n :: a :: l else if n = a then a :: l else a :: insertSorted n l

/-- The spare that is free, S0 before S1 (R365). -/
def State.freeSpare (s : State) : Option Nat :=
  if !s.on Fld.PLAT_REPAIR_ST_S0_USED then some 0
  else if !s.on Fld.PLAT_REPAIR_ST_S1_USED then some 1
  else none

/-- The next migration starts where none runs (R365, step 1): the lowest candidate that is powered takes a spare; the
candidates that find none are reported once each. DEDUCED (assumption 25). -/
def State.startRepair (s : State) : State :=
  if s.mem.moving.isSome then s
  else match s.freeSpare with
    | some k =>
      (match s.mem.candidates.find? s.bankPowered with
       | some b =>
         let s1 := { s with mem := { s.mem with candidates := s.mem.candidates.filter (· ≠ b), moving := some (b, k),
                                                copied := false } }
         (s1.flag Fld.PLAT_REPAIR_ST_BUSY true).put Fld.PLAT_REPAIR_ST_SRC_BANK b
       | none => s)
    | none =>
      s.mem.candidates.foldl (fun t b =>
        if t.mem.noSpare.contains b then t
        else (({ t with mem := { t.mem with noSpare := b :: t.mem.noSpare } }).setFlag 25 true).raise 61 0x50 [b, 0, 0, 2]) s

/-- A bank becomes a repair candidate (R365). -/
def State.addCandidate (s : State) (b : Nat) : State :=
  if b ≥ 64 || s.bankReplaced b || (s.mem.moving.map (·.1) = some b) then s
  else ({ s with mem := { s.mem with candidates := insertSorted b s.mem.candidates } }).startRepair

/-- The bank that a correction found in a bank counts against (R438): during a migration, one in the spare that is being filled counts
against the bank that is copied. DEDUCED (assumption 193). -/
def State.countedBank (s : State) (b : Nat) : Nat := match s.mem.moving with
  | some (m, k) => if b = 64 + k then m else b
  | none => b

/-- A correction in a bank (R436, R438): CORR, and the count of the window, which a first correction opens; THRESH within
the window makes the bank a candidate. -/
def State.bankCorrected (s : State) (b : Nat) : State :=
  let s1 := (s.bump (Fld.bankCorr b) 1).put Fld.MEM_ECC_ST_LAST_BANK b
  let s2 := if s1.mem.windows.contains b then s1.bump (Fld.bankWin b) 1
    else (({ s1 with mem := { s1.mem with windows := b :: s1.mem.windows } }).start (.ecc b)).put (Fld.bankWin b) 1
  if s2.get (Fld.bankWin b) ≥ max 1 (s2.get Fld.PLAT_REPAIR_CFG_THRESH) then s2.addCandidate b else s2

/-- An uncorrectable word of a bank (R437): the counter, UNCORR, event 61 with cause UNCORR, and the bank a candidate at
once. DEDUCED (assumption 25). -/
def State.bankUncorrectable (s : State) (b word master : Nat) : State :=
  ((((s.bump (Fld.bankUncorr b) 1).flag Fld.MEM_ECC_ST_UNCORR true).put Fld.MEM_ECC_ST_LAST_BANK b).raiseAs 61 0x48
    (severityOf 61) originPart [b, word, master, 1]).addCandidate b

/-- ECC_WINDOW_END (R438): the window ends after WIN_H hours; the next correction opens another. -/
def execEccWindowEnd (b : Fin 66) (s : State) : Host.Outcome State Fault Refusal :=
  s.run fun s => s.when (s.mem.windows.contains b.val
      && s.ran (.ecc b.val) (s.get Fld.PLAT_REPAIR_CFG_WIN_H * 3600000000000)) fun s =>
    ({ s with mem := { s.mem with windows := s.mem.windows.filter (· ≠ b.val) } }).put (Fld.bankWin b.val) 0

end Sys2Proof.Machine
end

