-- ==== Sys2Proof/Machine/Amp.lean ====
section
/-! DEFINITION. The power stage (R256 to R290): the switching-frequency plan, channel states, latches and retries,
protection, pairs and the spare channel. -/

namespace Sys2Proof.Machine

/-- The reset domain of AMP (R359). -/
def domAmp : Nat := 5

/-! ### The switching-frequency plan -/

/-- The valid protected frequencies in kHz (R264, R288). -/
def State.protectedKhz (s : State) : List Nat := (List.range 16).filterMap fun i =>
  let w := s.rd (indKey 0x30 i)
  let f := Word.field w 11 0
  if w.getLsbD 31 && 100 ≤ f && f ≤ 2700 then some f else none

/-- The least distance in kHz of a frequency's first five harmonics from the protected frequencies (R264). -/
def planDist (prot : List Nat) (f : Nat) : Nat :=
  prot.foldl (fun a p => [1, 2, 3, 4, 5].foldl (fun b h => min b (max (h * f) p - min (h * f) p)) a) 255

/-- The order of the search: 0, 1, −1, 2, −2 and so on to ±160. -/
def planSteps : List Int := 0 :: (List.range 160).flatMap fun (d : Nat) => [((d + 1 : Nat) : Int), -((d + 1 : Nat) : Int)]

/-- The first frequency of a list with the largest distance. -/
def bestOf (prot : List Nat) : List Nat → Nat → Nat
  | [], b => b
  | f :: l, b => bestOf prot l (if planDist prot f > planDist prot b then f else b)

/-- The plan of R264: the frequency in kHz, and whether no candidate complies. -/
def planSearch (prot : List Nat) (pref : Nat) : Nat × Bool :=
  match planSteps.find? fun d => let f := (pref : Int) + d; 360 ≤ f && f ≤ 520 && planDist prot f.toNat ≥ 9 with
  | some d => (((pref : Int) + d).toNat, false)
  | none => (bestOf prot ((List.range 160).map (· + 361)) 360, true)

/-- SYN2 stopped without a loss of lock (R108, R286). -/
def State.syn2Stop (s : State) : State :=
  s.synDown 2

/-- The search of R264: its frequency, and PLAN_FAIL, the outcome of the last search; under MODE = 1 none runs. -/
def State.ampSearch (s : State) (prot : List Nat) : State × Nat :=
  if s.on Fld.AMP_PLAN_MODE then (s, s.get Fld.AMP_PLAN_PREF_KHZ)
  else
    let r := planSearch prot (s.get Fld.AMP_PLAN_PREF_KHZ)
    let s1 := s.flag Fld.AMP_FSW_ST_PLAN_FAIL r.2
    (if r.2 then s1.note 0x30 [r.1] else s1, r.1)

/-- AMP BLK_CTRL.EN = 1 applied (R99, R263, R264): the plan, and SYN2 enabled at 256 times its frequency; one that still runs, and at
another frequency, starts again. DEDUCED (assumption 75). -/
def State.ampPlan (s : State) : State :=
  let prot := s.protectedKhz
  let r := s.ampSearch prot
  let s1 := (r.1.put Fld.AMP_FSW_ST_FSW_KHZ r.2).put Fld.AMP_FSW_ST_MIN_DIST (planDist prot r.2)
  let stays := s.synRuns 2 && s.get (Fld.SYN_FREQ_FREQ_HZ 2) = 256000 * r.2
  let s2 := (s1.flag (Fld.SYN_CFG_EN 2) true).put (Fld.SYN_FREQ_FREQ_HZ 2) (256000 * r.2)
  if s.audioOn && !stays then s2.syn2Stop.searchSyn 2 else s2

/-! ### Channels -/

def State.amp1 (s : State) (c : Nat) : AmpCh := s.amp.ch.getD c AmpCh.reset
def State.setAmp (s : State) (c : Nat) (x : AmpCh) : State := { s with amp := { s.amp with ch := s.amp.ch.set c x } }

/-- A channel's state (R287): 0 OFF, 1 STARTING, 2 MUTED, 3 PLAYING, 4 LATCHED, 5 PROBE, 6 TRIPPED, 7 FAULT. -/
def State.ampSt (s : State) (c : Nat) : Nat := s.get (Fld.AMP_CH_ST_STATE c)
def State.setAmpSt (s : State) (c v : Nat) : State := s.put (Fld.AMP_CH_ST_STATE c) v

/-- Whether a channel belongs to a pair, and the channel that governs it (R277). -/
def State.ampPaired (s : State) (c : Nat) : Bool := (s.get Fld.AMP_CFG_PAR).testBit (c / 2)
def State.ampGov (s : State) (c : Nat) : Nat := if s.ampPaired c then c / 2 * 2 else c

/-- The spare channel, where there is one (R279). -/
def State.spareCh (s : State) : Option Nat :=
  if s.on Fld.AMP_CFG_SPARE_EN && !s.on Fld.AMP_SPARE_ST_SPARE_BAD then some (s.get Fld.AMP_CFG_SPARE_CH) else none

/-- The channel whose settings a channel runs under: its pair's even channel, or the one that the spare covers (R277,
R280). -/
def State.ampSrc (s : State) (c : Nat) : Nat :=
  if s.spareCh = some c && s.amp.settled then s.get Fld.AMP_SPARE_ST_COVERS else s.ampGov c

/-- Whether the Crown plays a channel on the fallback clock (R283): the spare plays for the channel it covers. -/
def State.crownPlays (s : State) (c : Nat) : Bool := s.amp.fallback && s.amp.crownPlay.testBit (s.ampSrc c)

/-- EN of a channel as applied; on the fallback clock the Crown decides, and every other channel stays OFF (R283, R324). -/
def State.ampEn (s : State) (c : Nat) : Bool :=
  if s.amp.fallback then s.crownPlays c else s.on (Fld.AMP_CH_CFG_EN c)

/-- Whether a channel's bridges switch (R266, R267, R270): starting, muted, playing or probing. DEDUCED (assumption 185). -/
def State.ampSwitches (s : State) (c : Nat) : Bool := [1, 2, 3, 5].contains (s.ampSt c)

/-- The current limit of a channel in mA (R268, R270, R277, R280): that of the channel whose settings it runs under, and 4 A in a probe. -/
def State.ilimMa (s : State) (c : Nat) : Nat :=
  if s.ampSt c = 5 then 4000 else s.get (Fld.AMP_CH_CFG_ILIM (s.ampSrc c)) * 1000

/-- The channel that drives line `c` now: the spare while it covers it (R295). -/
def State.lineDriver (s : State) (c : Nat) : Nat :=
  if s.on (Fld.AMP_CH_ST_SPARED c) then s.get Fld.AMP_CFG_SPARE_CH else c

/-- Whether the module holds the active role (R329): an unpaired module always; a paired one in ACTIVE, and in YIELDING,
where its healthy channels keep playing. DEDUCED (assumption 103). -/
def State.activeRole (s : State) : Bool :=
  let r := s.get Fld.PAIR_STATUS_ROLE
  r = 0 || r = 4 || r = 5

/-- Whether the modulators have a clock. -/
def State.modClock (s : State) : Bool := s.amp.fallback || s.synRuns 2

/-- Whether the power stage runs in this mode: on the -P8, enabled, outside its domain's restart, in IDLE, SERVICE, ALARM or
MAINTENANCE (R266, R282). -/
def State.ampRuns (s : State) : Bool := s.isP8 && s.audioOn && s.enabled 0x30 && !s.domDown domAmp

/-- The rail of a channel: VINP_A for channels 0 to 3 (R256). -/
def railOf (c : Nat) : Nat := c / 4
def State.railOk (s : State) (c : Nat) : Bool := !(s.amp.railBad.getD (railOf c) false)

/-- The first row of R282 but for the state. DEDUCED (assumption 76). -/
def State.ampMayStart (s : State) (c : Nat) : Bool :=
  s.ampRuns && s.ampEn c && s.modClock && s.railOk c && !s.on (Fld.AMP_CH_ST_SPARED c)

/-- PLAY_OK (R266, R279, R280, R283); while the multiplexer is about to change, every channel is muted (R127). DEDUCED (assumption 76). -/
def State.playOk (s : State) (c : Nat) : Bool :=
  let own := if s.spareCh = some c then s.amp.settled && !s.amp.releasing else true
  if s.crown.mux.isSome then false
  else if s.amp.fallback then own && s.crownPlays c
  else
    let m := s.mode = modeService || s.mode = modeAlarm || s.mode = modeMaintenance
    let a := s.ampSrc c
    m && own && s.on (Fld.AMP_CH_CFG_EN a) && !s.on (Fld.AMP_CH_CFG_MUTE a) && s.activeRole

/-- An event of this chapter (R289): the channel, the cause, Tj or the rail, and a counter. -/
def State.ampEvent (s : State) (ev c cause dw6 cnt : Nat) : State := s.raise ev 0x30 [c, cause, dw6, cnt]

/-- Tj of a channel, as a detail word. -/
def State.tjWord (s : State) (c : Nat) : Nat := ofSigned 32 (s.getS (Fld.AMP_CH_ST_TJ c))

/-- A channel begins to precharge (R267): 1 ms after a stop of 100 ms or less, 10 ms otherwise. -/
def State.ampPrecharge (s : State) (c : Nat) : State :=
  let x := s.amp1 c
  let short : Bool := match x.stopped with
    | some t => s.time.now ≤ t + 100000000
    | none => false
  s.setAmp c { x with precharge := if short then 1000000 else 10000000, startedAt := s.time.now, gain := Ramp.const 0, since := none,
                      trim := 0 }

/-- A channel starts (R267, R282). -/
def State.ampStart (s : State) (c : Nat) : State := (s.ampPrecharge c).setAmpSt c 1

/-- The test of a line that is in its slot becomes invalid (R293). -/
def State.spoilLine (s : State) (l : Nat) : State := match s.line.slot with
  | some (d, _) => if d = l then { s with line := { s.line with bad := true } } else s
  | none => s

/-- The test that channel `c` drives becomes invalid (R293, R295): of its own line, or of the one that it covers. -/
def State.spoilSlot (s : State) (c : Nat) : State := match s.line.slot with
  | some (d, _) => if s.lineDriver d = c then { s with line := { s.line with bad := true } } else s
  | none => s

/-- Every switch of a channel turned off, if it switches (R267). -/
def State.ampOff (s : State) (c : Nat) : State :=
  let x := s.amp1 c
  s.setAmp c { x with stopped := if s.ampSwitches c then some s.time.now else x.stopped, since := none, gain := Ramp.const 0 }

/-- A channel's switches turn off and it passes to a state, with the cause of R287 (R267). DEDUCED (assumption 77). -/
def State.ampLeave (s : State) (c dest cause : Nat) : State :=
  (((s.ampOff c).spoilSlot c).put (Fld.AMP_CH_ST_CAUSE c) cause).setAmpSt c dest

/-- An ordinary stop carried on (R267, R282): a channel that plays ramps out first, in MUTED; once its gain is zero every switch
turns off. Only a departure from MUTED or PLAYING has a cause, here none (R287). DEDUCED (assumption 77). -/
def State.ampStop (s : State) (c : Nat) : State :=
  let x := s.amp1 c
  let st := s.ampSt c
  if st = 3 then (s.setAmp c { x with gain := s.ramp1ms x.gain.value 0 }).setAmpSt c 2
  else if st = 2 && x.gain.value ≠ 0 then s
  else s.ampLeave c 0 (if st = 1 then s.get (Fld.AMP_CH_ST_CAUSE c) else 0)

/-- The retries left return to RETRY_N (R271). DEDUCED (assumption 78). -/
def State.retriesBack (s : State) (c : Nat) : State :=
  s.put (Fld.AMP_CH_ST_RETRIES c) (s.get (Fld.AMP_CH_CFG_RETRY_N (s.ampSrc c)))

/-- A latched, probing or faulted channel returns to OFF (R282). -/
def State.ampClear (s : State) (c : Nat) : State :=
  let s1 := s.ampOff c
  ((s1.setAmp c { s1.amp1 c with due := none, probing := false, dump := false }).retriesBack c).setAmpSt c 0

/-- A probe ends with a result (R270: 1 SHORT, 2 NORMAL, 3 NONE), and every switch turns off. -/
def State.probeOff (s : State) (c code : Nat) : State :=
  let s1 := s.ampOff c
  ((s1.setAmp c { s1.amp1 c with probing := false }).put (Fld.AMP_CH_ST_PROBE c) code).setAmpSt c 4

/-- A latched channel without retries left, and without a probe to come, passes to FAULT (R271, R282). -/
def State.ampExhaust (s : State) (c : Nat) : State :=
  if s.ampSt c = 4 && s.get (Fld.AMP_CH_ST_RETRIES c) = 0 && !(s.amp1 c).probing && !(s.amp1 c).dump then
    (s.setAmpSt c 7).note 0x30 [c, s.get (Fld.AMP_CH_ST_CAUSE c)]
  else s

/-- Whether a channel's bridges may go on switching: what its row of R282 needs. -/
def State.ampKeeps (s : State) (c : Nat) : Bool := s.ampRuns && s.ampEn c

/-- MUTED and PLAYING follow PLAY_OK, ramping over 1 ms (R267, R282). -/
def State.ampPlay (s : State) (c : Nat) : State :=
  let x := s.amp1 c
  let st := s.ampSt c
  if st = 2 && s.playOk c then (s.setAmp c { x with gain := s.ramp1ms x.gain.value fOne }).setAmpSt c 3
  else if st = 3 && !s.playOk c then (s.setAmp c { x with gain := s.ramp1ms x.gain.value 0 }).setAmpSt c 2
  else s

/-- The transitions of R282 that depend on what stands now: starts, stops, PLAY_OK, the end of a latched channel's chances,
and EN = 0. A probe whose mode, block, clock or rail goes ends with NONE, for the spec gives it no other
outcome. DEDUCED (assumption 245). -/
def State.ampSettle1 (s : State) (c : Nat) : State :=
  let st := s.ampSt c
  if st = 0 then (if s.ampMayStart c then s.ampStart c else s)
  else if st ≤ 3 then
    (if !s.modClock then s.ampLeave c 0 7
     else if !s.ampKeeps c then s.ampStop c
     else s.ampPlay c)
  else if st = 6 then s
  else if !s.on (Fld.AMP_CH_CFG_EN c) && !s.crownPlays c && !s.on (Fld.AMP_CH_ST_SPARED c) then s.ampClear c
  else if st = 5 && !(s.ampRuns && s.modClock && s.railOk c) then (s.probeOff c 3).ampExhaust c
  else s.ampExhaust c

/-- The odd channel of a pair shows its even partner's state (R277). -/
def State.ampMirror (s : State) (c : Nat) : State :=
  if s.ampPaired c && c % 2 = 1 then
    let e := c - 1
    (((s.setAmpSt c (s.ampSt e)).put (Fld.AMP_CH_ST_CAUSE c) (s.get (Fld.AMP_CH_ST_CAUSE e))).put (Fld.AMP_CH_ST_RETRIES c)
      (s.get (Fld.AMP_CH_ST_RETRIES e))).put (Fld.AMP_CH_ST_PROBE c) (s.get (Fld.AMP_CH_ST_PROBE e))
  else s

/-- Every channel settled. DEDUCED (assumption 75). -/
def State.ampSettle (s : State) : State :=
  if !s.isP8 then s
  else
    let s1 := (List.range 8).foldl (fun t c => if t.ampGov c = c then t.ampSettle1 c else t) s
    (List.range 8).foldl State.ampMirror s1

/-- AMP_PRECHARGE_DONE (R267, R282): the precharge has lasted its 10 ms or 1 ms. -/
def State.prechargeDone (s : State) (c : Nat) : State :=
  if s.ampSt c ≠ 1 || s.time.now < (s.amp1 c).startedAt + (s.amp1 c).precharge then s
  else ((s.setAmp c { s.amp1 c with since := some s.time.now }).setAmpSt c 2).ampSettle

/-! ### The current limit, latches, probes and retries -/

/-- AMP_CURRENT_LIMIT (R268, R270): a limited period, its switch current at least ILIM less 10 %; the first after 10 ms without one
starts a limiting run. In a probe it raises no event. -/
def execAmpCurrentLimit (y : SwitchCurrent) (s : State) : Host.Outcome State Fault Refusal :=
  let c := y.c.val
  s.run fun s => s.when (s.ampSwitches c && 10 * y.mA ≥ 9 * s.ilimMa c) fun s =>
    let x := s.amp1 c
    let fresh := rateOk x.limitAt s.time.now
    let s1 := s.setAmp c { x with limitAt := some s.time.now }
    if !fresh then s1
    else
      let s2 := s1.bump (Fld.AMP_CH_CNT_LIMIT_RUNS c) 1
      if s2.ampSt c ≠ 5 && rateOk x.ev36 s2.time.now then
        (s2.setAmp c { s2.amp1 c with ev36 := some s2.time.now }).ampEvent 36 c (s2.get (Fld.AMP_CH_ST_CAUSE c)) (s2.tjWord c)
          (s2.get (Fld.AMP_CH_CNT_LIMIT_RUNS c))
      else s2

/-- The retry interval in ns (R271). -/
def State.retryNs (s : State) (c : Nat) : Nat :=
  if s.inAlarm then 2000000000 else s.get (Fld.AMP_CH_CFG_RETRY_S (s.ampSrc c)) * 1000000000

/-- A channel latches (R269): the energy dump, LATCHES, event 37, and the retry and probe to come. -/
def State.ampLatch (s : State) (c : Nat) (bridge : Bool) : State :=
  let s1 := s.ampLeave c 4 (if bridge then 2 else 1)
  let s2 := s1.setAmp c { s1.amp1 c with latchAt := s.time.now, dump := true, probing := !bridge,
                                         due := some (s.time.now + s.retryNs c) }
  let s3 := (s2.put (Fld.AMP_CH_ST_PROBE c) 0).bump (Fld.AMP_CH_CNT_LATCHES c) 1
  let s4 := if s3.ampPaired c then s3.bump (Fld.AMP_CH_CNT_LATCHES (c + 1)) 1 else s3
  (s4.ampEvent 37 c (if bridge then 2 else 1) (s4.tjWord c) (s4.get (Fld.AMP_CH_CNT_LATCHES c))).ampSettle

/-- AMP_ENERGY_DUMP_END (R269): 10 µs after the latch every switch turns off. -/
def execAmpEnergyDumpEnd (c : Fin 8) (s : State) : Host.Outcome State Fault Refusal :=
  s.run fun s =>
    let e := s.ampGov c
    s.when ((s.amp1 e).dump && (s.amp1 e).latchAt + 10000 ≤ s.time.now) fun s => (s.setAmp e { s.amp1 e with dump := false }).ampSettle

/-- AMP_PROBE_START (R270): one second after a LOAD latch, once a start is allowed; the channel precharges first. -/
def execAmpProbeStart (c : Fin 8) (s : State) : Host.Outcome State Fault Refusal :=
  s.run fun s =>
    let e := s.ampGov c
    let x := s.amp1 e
    s.when (s.ampSt e = 4 && x.probing && !x.dump && s.ampMayStart e && s.time.now ≥ x.latchAt + 1000000000) fun s =>
      let s1 := s.ampPrecharge e
      (List.range 8).foldl State.ampMirror ((s1.setAmp e { s1.amp1 e with probeAt := s.time.now }).setAmpSt e 5)

/-- A probe ends (R270): the result (1 SHORT, 2 NORMAL, 3 NONE) is recorded, and every switch turns off. -/
def State.probeEnd (s : State) (e code : Nat) : State := (s.probeOff e code).ampSettle

/-- AMP_RETRY (R271). -/
def execAmpRetry (c : Fin 8) (s : State) : Host.Outcome State Fault Refusal :=
  s.run fun s =>
    let e := s.ampGov c
    let x := s.amp1 e
    let left := s.get (Fld.AMP_CH_ST_RETRIES e)
    let due : Bool := match x.due with
      | some t => s.time.now ≥ t
      | none => false
    s.when (s.ampSt e = 4 && due && left ≠ 0 && !x.probing && !x.dump && s.ampMayStart e) fun s =>
      let s1 := s.setAmp e { x with due := none }
      let s2 := if left = 15 then s1 else s1.put (Fld.AMP_CH_ST_RETRIES e) (left - 1)
      (List.range 8).foldl State.ampMirror ((s2.bump (Fld.AMP_CH_CNT_RETRIES e) 1).ampStart e)

/-- AMP_RETRY_RESTORE (R271): 60 s in MUTED or PLAYING without a latch. -/
def execAmpRetryRestore (c : Fin 8) (s : State) : Host.Outcome State Fault Refusal :=
  s.run fun s =>
    let e := s.ampGov c
    let due : Bool := match (s.amp1 e).since with
      | some t => s.time.now ≥ t + 60000000000
      | none => false
    s.when ((s.ampSt e = 2 || s.ampSt e = 3) && due) fun s =>
      (List.range 8).foldl State.ampMirror (s.retriesBack e)

/-- AMP_CHANNEL_CLEAR (R282). -/
def State.ampClearMask (s : State) (mask : Nat) : State :=
  ((List.range 8).foldl (fun t c =>
    let st := t.ampSt c
    if mask.testBit c && t.ampGov c = c && (st = 4 || st = 5 || st = 7) && !t.on (Fld.AMP_CH_ST_SPARED c) then t.ampClear c else t) s).ampSettle

/-- AMP_CHANNEL_CLEAR (R3, R282). -/
def execAmpChannelClear (g : Agent) (mask : BitVec 8) (s : State) : Host.Outcome State Fault Refusal :=
  s.run fun s => s.onP8 g.who 0x30002C mask.toNat fun s => s.ampClearMask mask.toNat

/-! ### Protection -/

/-- Whether the mean of a channel's last DC window exceeds its threshold (R274): 80 ticks in µV, against 0.1 V. -/
def State.dcOver (s : State) (c : Nat) : Bool :=
  (s.amp1 c).dcLast.natAbs > s.get (Fld.AMP_CH_PROT_DC_THRESH (s.ampSrc c)) * 8000000

/-- AMP_DC_FAULT (R274). -/
def execAmpDcFault (c : Fin 8) (s : State) : Host.Outcome State Fault Refusal :=
  s.run fun s =>
    let e := s.ampGov c
    s.when ((s.ampSt e = 2 || s.ampSt e = 3) && (s.dcOver c || s.dcOver e)) fun s =>
      ((s.ampLeave e 7 3).ampEvent 41 e 3 (s.tjWord e) 0).ampSettle

/-- A channel trips (R275, R358): its switches turn off within 1 µs. -/
def State.ampTrip (s : State) (c : Nat) : State :=
  let s1 := s.ampLeave c 6 4
  (s1.setAmp c { s1.amp1 c with due := none, probing := false, dump := false }).ampEvent 39 c 4 (s.tjWord c) 0

/-- THERM_WARN of a channel with its temperature shown (R275): event 38 once per onset. -/
def State.ampWarn (s : State) (c : Nat) (tj : Int) : State :=
  let tw : Int := s.get Fld.AMP_THERM_T_WARN
  let s1 := s.putS (Fld.AMP_CH_ST_TJ c) tj
  if tj ≥ tw && !s1.on (Fld.AMP_CH_ST_THERM_WARN c) then
    (s1.flag (Fld.AMP_CH_ST_THERM_WARN c) true).ampEvent 38 c (s1.get (Fld.AMP_CH_ST_CAUSE c)) (s1.tjWord c) 0
  else if tj < tw - 5 then s1.flag (Fld.AMP_CH_ST_THERM_WARN c) false else s1

/-- AMP_THERMAL_TRIP (R275): Tj reaches 135 °C. -/
def execAmpThermalTrip (c : Fin 8) (tj : Int) (s : State) : Host.Outcome State Fault Refusal :=
  s.run fun s =>
    let e := s.ampGov c
    let st := s.ampSt e
    s.when (s.isP8 && tj ≥ 135 && 1 ≤ st && st ≤ 5) fun s =>
      (((s.ampWarn c tj).ampTrip e)).ampSettle

/-- The channels of a rail. -/
def railChannels (r : Nat) : List Nat := (List.range 4).map (· + 4 * r)

/-- AMP_RAIL_FAULT (R276, R290): below 8.5 V, or above 62.0 V, for 10 µs. DEDUCED (assumption 79). -/
def execAmpRailFault (rail : Fin 2) (x : RailOut) (s : State) : Host.Outcome State Fault Refusal :=
  let v := x.v
  s.run fun s => s.when (s.isP8 && !(s.amp.railBad.getD rail.val false) && x.ns ≥ 10000 && (v.toNat < 850 || v.toNat > 6200)) fun s =>
    let cause := if v.toNat < 850 then 5 else 6
    let s1 := (s.put (if rail.val = 0 then Fld.AMP_RAIL_VINP_A else Fld.AMP_RAIL_VINP_B) v.toNat)
    let s2 := { s1 with amp := { s1.amp with railBad := s1.amp.railBad.set rail true, railGood := s1.amp.railGood.set rail none } }
    let s3 := (railChannels rail).foldl (fun t c =>
      let st := t.ampSt c
      if 1 ≤ st && st ≤ 3 then t.ampLeave c 0 cause else t) s2
    (s3.ampEvent 40 (4 * rail) cause v.toNat 0).ampSettle

/-- Whether a rail has lain within 9.0 V to 61.0 V for 10 ms, by its measurements of every tick (R276). -/
def State.railSettled (s : State) (r : Nat) : Bool := match s.amp.railGood.getD r none with
  | some t => t + 10000000 ≤ s.time.now
  | none => false

/-- AMP_RAIL_RESTORE (R276): within 9.0 V to 61.0 V for 10 ms. -/
def execAmpRailRestore (rail : Fin 2) (v : BitVec 16) (s : State) : Host.Outcome State Fault Refusal :=
  s.run fun s => s.when (s.amp.railBad.getD rail.val false && 900 ≤ v.toNat && v.toNat ≤ 6100
      && s.railSettled rail.val) fun s =>
    let s1 := (s.put (if rail.val = 0 then Fld.AMP_RAIL_VINP_A else Fld.AMP_RAIL_VINP_B) v.toNat)
    ({ s1 with amp := { s1.amp with railBad := s1.amp.railBad.set rail false } }).ampSettle

/-! ### The spare -/

/-- Whether a channel has a channel-side fault that calls the spare (R280). -/
def State.callsSpare (s : State) (c spare : Nat) : Bool :=
  let cause := s.get (Fld.AMP_CH_ST_CAUSE c)
  let st := s.ampSt c
  ((st = 4 || st = 7) && (cause = 2 || cause = 3))
    || (st = 6 && cause = 4 && s.getS (Fld.AMP_CH_ST_TJ spare) < s.get Fld.AMP_THERM_T_WARN)

/-- AMP_SPARE_TAKEOVER (R280): the Crown energises the transfer driver; the channel is held in FAULT, or in TRIPPED. -/
def execAmpSpareTakeover (c : Fin 8) (s : State) : Host.Outcome State Fault Refusal :=
  s.run fun s => match s.spareCh with
    | none => s
    | some p =>
      if p = c.val || s.ampPaired c || !s.on (Fld.AMP_CH_CFG_XFER_EN c) || s.on Fld.AMP_SPARE_ST_ACTIVE || s.ampSt p ≠ 2
          || !s.callsSpare c p then s
      else
        let s1 := if s.ampSt c = 6 then s else s.setAmpSt c 7
        let s2 := ((s1.flag (Fld.AMP_CH_ST_SPARED c) true).flag Fld.AMP_SPARE_ST_ACTIVE true).put Fld.AMP_SPARE_ST_COVERS c
        ({ s2 with amp := { s2.amp with xfer := some (s.get (Fld.AMP_CH_CFG_XFER_ZSEL c)), xferAt := s.time.now, settled := false,
                                        releasing := false } }).spoilLine c |>.spoilLine p |>.note 0x30 [c, p]

/-- Whether XFER_MS has passed since the transfer driver changed (R280, R281). -/
def State.xferred (s : State) : Bool := s.amp.xferAt + s.get Fld.AMP_CFG_XFER_MS * 1000000 ≤ s.time.now

/-- AMP_SPARE_SETTLED (R280): XFER_MS after the takeover the spare takes the channel's settings and source. -/
def execAmpSpareSettled (s : State) : Host.Outcome State Fault Refusal :=
  s.run fun s => match s.spareCh with
    | none => s
    | some p =>
      if !s.on Fld.AMP_SPARE_ST_ACTIVE || s.amp.settled || s.amp.releasing || !s.xferred then s
      else (({ s with amp := { s.amp with settled := true } }).retriesBack p).ampSettle

/-- A released spare that has ramped out, or plays nothing, has the driver of its transfer de-energised (R281). -/
def State.spareDrop (s : State) : State := match s.spareCh, s.amp.xfer with
  | some p, some _ =>
    if s.amp.releasing && ((s.amp1 p).gain.value = 0 || s.ampSt p < 2 || s.ampSt p > 3) then
      { s with amp := { s.amp with xfer := none, xferAt := s.time.now } }
    else s
  | _, _ => s

/-- The spare let go (R281): it ramps out first. -/
def State.spareLetGo (s : State) : State :=
  if !s.on Fld.AMP_SPARE_ST_ACTIVE || s.amp.releasing then s
  else ((({ s with amp := { s.amp with releasing := true } }).spoilLine (s.get Fld.AMP_SPARE_ST_COVERS)).ampSettle).spareDrop

/-- AMP_CMD.SPARE_RELEASE written (R281, R285): refused in ALARM unless a sealed order carries it. -/
def State.spareReleaseCmd (s : State) (g : Who) : State :=
  if s.inAlarm && g ≠ .order then s.refuseReg g 0x30002C 0x10000 21 .w1p else s.spareLetGo

/-- AMP_SPARE_RELEASE (R3, R281). -/
def execAmpSpareRelease (g : Agent) (s : State) : Host.Outcome State Fault Refusal :=
  s.run fun s => s.onP8 g.who 0x30002C 0x10000 fun s => s.spareReleaseCmd g.who

/-- AMP_SPARE_RETURN (R281): XFER_MS after the driver was de-energised the spare is free again, and the channel passes to OFF with its retries restored. -/
def execAmpSpareReturn (s : State) : Host.Outcome State Fault Refusal :=
  s.run fun s => s.when (s.on Fld.AMP_SPARE_ST_ACTIVE && s.amp.releasing && s.amp.xfer.isNone && s.xferred) fun s =>
    let c := s.get Fld.AMP_SPARE_ST_COVERS
    let s1 := { s with amp := { s.amp with releasing := false, settled := false } }
    (((s1.flag Fld.AMP_SPARE_ST_ACTIVE false).flag (Fld.AMP_CH_ST_SPARED c) false).ampClear c).ampSettle

/-! ### Every tick -/

/-- The sliding window of 1 s, 8,000 ticks (R259): a tick's mean power joins it, and the oldest leaves. -/
def AmpCh.average (x : AmpCh) (uw : Int) : AmpCh :=
  { x with powers := (uw :: x.powers).take 8000, powSum := x.powSum + uw - (if x.powers.length < 8000 then 0 else x.powers.getLastD 0) }

/-- The DC window of 10 ms, 80 ticks (R274): a tick's mean voltage joins it, and at its end its sum stands. -/
def AmpCh.dcWindow (x : AmpCh) (uv : Int) : AmpCh :=
  if x.dcTicks + 1 < 80 then { x with dcSum := x.dcSum + uv, dcTicks := x.dcTicks + 1 }
  else { x with dcLast := x.dcSum + uv, dcSum := 0, dcTicks := 0 }

/-- The limiter of R259 with the effective limit of R275, against the sum in µW of a second's ticks. DESIGN CHOICE (assumption 74). -/
def State.ampLimiter (s : State) (c : Nat) (tj : Int) (avg : Nat) : State :=
  let p := s.get (Fld.AMP_CH_LEVEL_P_CONT (s.ampSrc c)) * 8000000000
  let tw : Int := s.get Fld.AMP_THERM_T_WARN
  let num : Nat := if tj ≤ tw then 4 * p * (125 - tw).toNat else if tj > 125 then p * (125 - tw).toNat
    else p * (4 * (125 - tw) - 3 * (tj - tw)).toNat
  let den : Nat := 4 * (125 - tw).toNat
  let x := s.amp1 c
  let overrun := avg * den > num
  let below := if avg * den * 10 < num * 9 then x.below + 1 else 0
  if overrun then
    let s1 := (s.setAmp c { x with lim := x.lim + min 750 (Config.limiterFall s.free), below := 0 }).draw
    if s1.on (Fld.AMP_CH_ST_LIMITING c) then s1
    else (s1.flag (Fld.AMP_CH_ST_LIMITING c) true).clipEvent (328 + c) [328 + c]
  else
    let lim := if below > 8000 then x.lim - 125 else x.lim
    (s.setAmp c { x with lim := lim, below := min 8001 below }).flag (Fld.AMP_CH_ST_LIMITING c) (lim ≠ 0)

/-- The mean of a tick's samples, from their sum. -/
def tickMean (l : List Int) : Int := l.foldl (· + ·) 0 / max 1 (l.length : Int)

/-- The mean output power of a tick in µW (R259), of the post-filter voltage and the bridge current. -/
def meanPower (x : AmpIn) : Int := tickMean ((x.volts.zip x.amps).map fun p => p.1 * p.2) / 1000

/-- A sample of the post-filter voltage in µV as the fabric takes it (R262): 1.0 is the channel's FS_VPK, and it saturates. DESIGN
CHOICE (assumption 73): the spec gives the sample no resolution, and it is rounded to single precision. -/
def senseSample (uv : Int) (fs10mV : Nat) : Word := fclamp 0xBF800000 0x3F800000 (fround (uv * fUnit) (fs10mV * 10000))

/-- One channel's tick (R259, R262, R274, R275). -/
def State.ampTick1 (s : State) (c : Nat) (x : AmpIn) : State :=
  let s0 := s.ampWarn c x.tj
  let s1 := s0.setAmp c (((s0.amp1 c).average (meanPower x)).dcWindow (tickMean x.volts))
  let sum := (s1.amp1 c).powSum.toNat
  let s2 := (s1.put (Fld.AMP_CH_MEAS_P_AVG c) (min 0xFFFF (sum / 800000000))).put (Fld.AMP_CH_MEAS_I_PK c) (min 0xFFFF x.iPk)
  let s3 := s2.ampLimiter c x.tj sum
  let s4 := if s3.ampSt c = 6 && x.tj ≤ (s3.get Fld.AMP_THERM_T_WARN : Int) - 10 && !s3.on (Fld.AMP_CH_ST_SPARED c) then
      s3.setAmpSt c 0
    else s3
  if s4.ampSt c = 0 then s4
  else s4.setInput (392 + c) ((List.range s4.k).map fun j =>
    senseSample (x.volts.getD j 0) (s4.get (Fld.AMP_CH_LEVEL_FS_VPK (s4.ampSrc c))))

/-- The odd channel of a pair trims its output while the two mean currents of a tick differ by more than 5 % of ILIM (R277). DESIGN
CHOICE (assumption 247). -/
def State.ampShare (s : State) (ins : List AmpIn) (e : Nat) : State := match ins[e]?, ins[e + 1]? with
  | some a, some b =>
    if s.ampPaired e && s.ampSwitches e && 100 * (tickMean a.amps - tickMean b.amps).natAbs > 5 * s.ilimMa e then
      (s.setAmp (e + 1) { s.amp1 (e + 1) with trim := (s.amp1 (e + 1)).trim + Config.shareTrim s.free }).draw
    else s
  | _, _ => s

/-- Since when a rail has lain within 9.0 V to 61.0 V, with its measurement of this tick (R276). -/
def railSince (now : Nat) (was : Option Nat) (v : Nat) : Option Nat :=
  if v < 900 || v > 6100 then none else some (was.getD now)

/-- The measurements of a tick, the limiter and the thermal states; and the rails (R276); where nothing is told, nothing is measured.
DESIGN CHOICE (assumption 73). -/
def State.ampMeasure (s : State) (ins : List AmpIn) (rails : List (BitVec 16)) : State :=
  if ins.isEmpty then s
  else
    let s0 := (s.put Fld.AMP_RAIL_VINP_A (rails.getD 0 0).toNat).put Fld.AMP_RAIL_VINP_B (rails.getD 1 0).toNat
    let good := [0, 1].map fun r => railSince s.time.now (s.amp.railGood.getD r none) (rails.getD r 0).toNat
    let s1 := { s0 with amp := { s0.amp with railGood := good } }
    let s2 := (List.range 8).foldl (fun (t : State) c => match ins[c]? with
      | some x => t.ampTick1 c x
      | none => t) s1
    [0, 2, 4, 6].foldl (fun (t : State) e => t.ampShare ins e) s2

/-- The gains of the channels one tick further (R267). -/
def State.ampGains (s : State) : State :=
  { s with amp := { s.amp with ch := s.amp.ch.map fun x => { x with gain := x.gain.step s.k } } }

/-- SYN2 stops once every channel is OFF, after AMP's EN = 0 or in NIGHTCAP and SHELTER, and that is no loss of lock (R108, R286,
R352). -/
def State.ampIdle (s : State) : State :=
  if !s.isP8 || (List.range 8).any s.ampSwitches then s
  else if !s.enabled 0x30 then (if s.on (Fld.SYN_CFG_EN 2) then s.syn2Stop.flag (Fld.SYN_CFG_EN 2) false else s)
  else if s.mode = modeNightcap || s.mode = modeShelter then s.syn2Stop
  else s

/-- The power stage's part of a tick: the gains, the measurements and the state machines. -/
def State.ampTick (s : State) (ins : List AmpIn) (rails : List (BitVec 16)) : State :=
  if !s.isP8 || !s.powered then s
  else (((s.ampGains.ampMeasure ins rails).ampSettle).spareDrop).ampIdle

/-! ### Brims, modes and restarts -/

/-- The power stage at a brim (R263, R271, R279, R282, R286); `old` is the state before the application. -/
def State.ampBrim (s old : State) : State :=
  if !s.isP8 then s
  else
    let s1 := if s.enabled 0x30 && !old.enabled 0x30 then
        let bad := s.on Fld.AMP_CFG_SPARE_EN && s.ampPaired (s.get Fld.AMP_CFG_SPARE_CH)
        let t := s.ampPlan.flag Fld.AMP_SPARE_ST_SPARE_BAD bad
        if bad then t.note 0x30 [s.get Fld.AMP_CFG_SPARE_CH] else t
      else s
    let s2 := (List.range 8).foldl (fun t c =>
      if t.on (Fld.AMP_CH_CFG_EN c) && !old.on (Fld.AMP_CH_CFG_EN c) then t.retriesBack c else t) s1
    s2.ampSettle.ampIdle

/-- RETRY_N written while its channel is enabled (R271): the retries taken so far stay taken, unless one of the two policies is without
limit. DESIGN CHOICE (assumption 246). -/
def State.retryPolicy (s old : State) (c : Nat) : State :=
  let n := s.get (Fld.AMP_CH_CFG_RETRY_N c)
  let m := old.get (Fld.AMP_CH_CFG_RETRY_N c)
  if !s.isP8 || n = m || !s.on (Fld.AMP_CH_CFG_EN c) then s
  else
    let t := (List.range 8).foldl (fun (t : State) d =>
      let left := t.get (Fld.AMP_CH_ST_RETRIES d)
      if t.ampSrc d = c then t.put (Fld.AMP_CH_ST_RETRIES d) (if n = 15 then 15 else if left = 15 then n else n - (m - left)) else t) s
    t.ampSettle

/-- Entry to ALARM (R271): retries return to RETRY_N, and a retry due more than 2 s later falls due in 2 s. -/
def State.ampAlarmEntry (s : State) : State :=
  (List.range 8).foldl (fun t c =>
    let x := t.amp1 c
    let due := match x.due with
      | some d => some (min d (t.time.now + 2000000000))
      | none => none
    (t.setAmp c { x with due := due }).retriesBack c) s

/-- Exit from ALARM (R271): a later retry falls due RETRY_S after its latch. -/
def State.ampAlarmExit (s : State) : State :=
  (List.range 8).foldl (fun t c =>
    let x := t.amp1 c
    match x.due with
    | some d => if d > t.time.now then t.setAmp c { x with due := some (x.latchAt + t.retryNs c) } else t
    | none => t) s

/-- BLK_CTRL.SRST of the AMP block, beside the registers (R286): every channel is OFF, from now where it switched, and a test that is in
its slot is invalid (R293). -/
def State.ampSrst (s : State) : State :=
  let ch := (List.range 8).map fun c =>
    { AmpCh.reset with stopped := if s.ampSwitches c then some s.time.now else (s.amp1 c).stopped }
  { s with amp := { s.amp with ch := ch, xfer := none, settled := false, releasing := false },
           line := { s.line with bad := s.line.bad || s.line.slot.isSome } }

/-- How far behind channel 0's a channel's carrier starts, in sixteenths of a switching period (R265): the odd channel of a pair
takes its even partner's place. -/
def State.stagger (s : State) (c : Nat) : Nat := s.ampGov c

end Sys2Proof.Machine
end

