-- ==== Sys2Proof/Machine/Line.lean ====
section
/-! DEFINITION. The loudspeaker line supervisor (R291 to R307): slots and rounds, classification, probes, earth faults,
calibration and drift. -/

namespace Sys2Proof.Machine

/-- The reset domain of LINE (R359). -/
def domLine : Nat := 6

/-- Whether the supervisor runs. -/
def State.lineRuns (s : State) : Bool :=
  s.isP8 && s.powered && s.mode ≠ modeAttest && s.enabled 0x31 && !s.domDown domLine

/-! ### Impedances -/

/-- The whole square root of a number, bit by bit from 2^b down. -/
def isqrtFrom (n : Nat) : Nat → Nat → Nat
  | 0, r => r
  | b + 1, r => let t := r + 2 ^ b; isqrtFrom n b (if t * t ≤ n then t else r)

def isqrt (n : Nat) : Nat := isqrtFrom n 48 0

/-- A magnitude in µΩ. -/
def zMag (z : LineZ) : Nat := isqrt (z.re.natAbs ^ 2 + z.im.natAbs ^ 2)

/-- A magnitude as its registers give it, in 0.01 Ω, saturating (R306). -/
def magReg (z : LineZ) : Nat := min 0xFFFFFF ((zMag z + 5000) / 10000)

/-- 2π in units of 10^-9. -/
def twoPi : Int := 6283185307

/-- The filter capacitor's admittance at the pilot frequency in units of 10^-18 S (R292): 2π·f·C_f, of f in 100 Hz and C_f in nF. DESIGN
CHOICE (assumption 217): the spec gives no rounding of 2π. -/
def State.filterAdm (s : State) (c : Nat) : Int :=
  twoPi * (s.get Fld.LINE_CFG_PILOT_HHZ * 100 * s.get (Fld.LINE_CH_NET_FILT_NF c) : Nat)

/-- The line impedance in µΩ (R292): V ÷ (I − j·2π·f·C_f·V); where no current is left, a free value. DESIGN CHOICE (assumption 217). -/
def lineZ (y : Int) (m : Demod) : LineZ :=
  let dr := m.iRe * 10 ^ 18 + y * m.vIm
  let di := m.iIm * 10 ^ 18 - y * m.vRe
  let n := dr * dr + di * di
  if n = 0 then ⟨(Config.openLine m.vRe m.vIm).1, (Config.openLine m.vRe m.vIm).2⟩
  else ⟨(m.vRe * dr + m.vIm * di) * 10 ^ 24 / n, (m.vIm * dr - m.vRe * di) * 10 ^ 24 / n⟩

/-- The impedance that a test of a line computes from what it demodulates; of a pair, I is the sum of both channels' currents (R295). -/
def State.measuredZ (s : State) (c : Nat) (m : Demod) : LineZ :=
  lineZ (s.filterAdm c) (if s.ampPaired c then { m with iRe := m.iRe + m.oddRe, iIm := m.iIm + m.oddIm } else m)

/-- The difference of two impedances. -/
def zSub (a b : LineZ) : LineZ := ⟨a.re - b.re, a.im - b.im⟩

def State.line1 (s : State) (c : Nat) : LineCh := s.line.ch.getD c LineCh.reset
def State.setLine (s : State) (c : Nat) (x : LineCh) : State := { s with line := { s.line with ch := s.line.ch.set c x } }

/-- The class of an impedance (R296, R298): 1 NORMAL, 2 OPEN, 3 SHORT. -/
def State.lineClass (s : State) (c : Nat) (z : LineZ) : Nat :=
  let m := zMag z
  let r := (s.line1 c).zref.mag
  if s.on (Fld.LINE_CH_ST_CAL_VALID c) then
    let e := s.get (Fld.LINE_CH_NET_EOL_OHM c) * 1000000
    if m * 100 < s.get (Fld.LINE_CH_CFG_SHORT_PCT c) * r then 3
    else if m * 100 ≥ s.get (Fld.LINE_CH_CFG_OPEN_PCT c) * r then 2
    else if s.on (Fld.LINE_CH_CFG_EOL c) && e ≠ 0 && (2 * e + m) * r ≤ 2 * e * m then 2
    else 1
  else if m < 500000 then 3
  else if m > 2000000000 then 2
  else 1

/-- An event of a line (R306): the channel, the class, the measured magnitude and that of Z_ref. -/
def State.lineEvent (s : State) (ev c cls : Nat) (z : LineZ) : State :=
  s.raise ev 0x31 [c, cls, magReg z, s.get (Fld.LINE_CH_ZREF_MAG c)]

/-! ### Slots -/

/-- The line that a channel's pilot reaches (R295). -/
def State.lineOf (s : State) (c : Nat) : Nat :=
  if s.spareCh = some c && s.amp.settled then s.get Fld.AMP_SPARE_ST_COVERS else c

/-- Whether the power stage can inject a pilot at all (R304). -/
def State.pilotOk (s : State) : Bool := s.lineRuns && s.audioOn && !s.amp.fallback && s.synRuns 2

/-- Whether a transfer relay that moves a line, the spare's own among them, is switching (R280, R281, R293). -/
def State.relayMoves (s : State) (c : Nat) : Bool :=
  s.on Fld.AMP_SPARE_ST_ACTIVE && (s.on (Fld.AMP_CH_ST_SPARED c) || s.spareCh = some c) && (!s.amp.settled || s.amp.releasing)

/-- Whether a pilot can be injected into a line now (R294, R304). -/
def State.testable (s : State) (c : Nat) : Bool :=
  let d := s.lineDriver c
  s.pilotOk && (s.ampSt d = 2 || s.ampSt d = 3) && !s.relayMoves c
    && !(s.ampPaired c && c % 2 = 1) && (d ≠ c || s.lineOf c = c)

/-- Whether a line takes part in rounds (R294). -/
def State.routine (s : State) (c : Nat) : Bool := s.on (Fld.LINE_CH_CFG_SUP_EN c) && s.testable c

/-- The status bits that follow from the queues (R304, R305). -/
def State.lineFlags (s : State) : State :=
  let l := s.line
  let s1 := (s.flag Fld.LINE_STATUS_SLOT_BUSY l.slot.isSome).put Fld.LINE_STATUS_SLOT_CH ((l.slot.map (·.1)).getD 0)
  ((s1.flag Fld.LINE_STATUS_CAL_BUSY (l.cal ≠ [] || l.store ≠ [])).flag Fld.LINE_STATUS_WAKE_SWEEP
    (l.sweep ≠ [] || l.slot.map (·.2) = some SlotKind.sweep)).flag Fld.LINE_STATUS_PAUSED
    (s.mode = modeNightcap || s.mode = modeShelter || !(List.range 8).any s.routine)

/-- The step-free instant of the tick boundary at which a slot that is opened now begins (R291). -/
def State.nextBoundary (s : State) : Nat :=
  let into := s.time.counter.toNat - s.time.tickStart.toNat
  s.time.now + (if into = 0 then 0 else s.time.tickLen - into)

/-- A slot begun. -/
def State.openSlot (s : State) (c : Nat) (k : SlotKind) : State :=
  { s with line := { s.line with slot := some (c, k), bad := false, slotAt := s.nextBoundary, clip93 := false, clip94 := false } }

/-- How long a slot lasts in ns: 10 ms of settling, and its integration (R291). -/
def State.slotNs (s : State) : Nat := (10 + s.get Fld.LINE_TIME_INT_MS) * 1000000

/-- Whether a slot has lasted its time (R291). -/
def State.slotDone (s : State) : Bool := s.line.slotAt + s.slotNs ≤ s.time.now

/-- The pilot's frequency in Hz. -/
def State.pilotHz (s : State) : Nat := s.get Fld.LINE_CFG_PILOT_HHZ * 100

/-- The whole cycles of the pilot in a slot (R291): the sine stops at phase zero, at the last one that the slot holds. DEDUCED (assumption
248). -/
def State.slotCycles (s : State) : Nat := s.pilotHz * s.slotNs / 1000000000

/-- The channels that a wake sweep still waits for (R304): those that their settings and state let reach MUTED. -/
def State.sweepLeft (s : State) : List Nat :=
  s.line.sweep.filter fun c => s.on (Fld.LINE_CH_CFG_SUP_EN c) && s.ampEn (s.lineDriver c) && s.ampSt (s.lineDriver c) ≤ 3

/-- The calibration that runs (R302): the first of the queue, while pilots can be injected; a slot of it in which the channel is
not in MUTED or PLAYING is invalid. -/
def State.calNow (s : State) : Option Nat := if s.pilotOk then s.line.cal.head? else none

/-- The next slot, where none runs (R294, R302, R304): a calibration, then TEST_NOW, then a wake sweep, then the round; a
round that falls due while one runs begins when that one has ended. DESIGN CHOICE (assumption 87). -/
def State.nextSlot (s : State) : State :=
  if s.line.slot.isSome then s.lineFlags
  else
    let l := { s.line with sweep := s.sweepLeft }
    match s.calNow with
    | some c => (s.openSlot c .cal).lineFlags
    | none => match l.asked.find? s.testable with
      | some c => ({ s with line := { l with asked := l.asked.filter (· ≠ c) } }.openSlot c .asked).lineFlags
      | none => match l.sweep.find? s.routine with
        | some c => ({ s with line := { l with sweep := l.sweep.filter (· ≠ c) } }.openSlot c .sweep).lineFlags
        | none =>
          let again := !(l.left.any s.routine) && l.inRound && l.due
          let left := if again then List.range 8 else l.left
          match left.find? s.routine with
          | some c =>
            ({ s with line := { l with left := left.filter (· > c), due := l.due && !again, inRound := true } }.openSlot c .round).lineFlags
          | none => ({ s with line := { l with left := [], due := false, inRound := false } }).lineFlags

/-- A slot ended: a pilot in progress runs on to phase zero (R291). DEDUCED (assumption 248). -/
def State.dropSlot (s : State) : State :=
  let past := s.time.now - s.line.slotAt
  let tail := match s.line.slot with
    | some (l, _) => some ⟨l, s.line.slotAt, min s.slotCycles ((s.pilotHz * past + 999999999) / 1000000000)⟩
    | none => s.line.tail
  { s with line := { s.line with slot := none, bad := false, tail := tail } }

/-- The interval of rounds in ns (R294): TEST_S, or ALARM_S in ALARM. -/
def State.roundNs (s : State) : Nat :=
  (if s.inAlarm then s.get Fld.LINE_TIME_ALARM_S else s.get Fld.LINE_CFG_TEST_S) * 1000000000

/-- LINE_ROUND_START (R294): a round falls due, and one in progress finishes first. -/
def execLineRoundStart (s : State) : Host.Outcome State Fault Refusal :=
  s.run fun s => s.when (s.lineRuns && s.audioOn && s.line.roundAt + s.roundNs ≤ s.time.now) fun s0 =>
    let s := { s0 with line := { s0.line with roundAt := s0.time.now } }
    if s.line.inRound then { s with line := { s.line with due := true } }
    else ({ s with line := { s.line with left := List.range 8, inRound := true } }).nextSlot

/-- TEST_NOW bits (R294). DEDUCED (assumption 85). -/
def State.testNow (s : State) (mask : Nat) : State :=
  if !s.lineRuns then s
  else
    let more := (List.range 8).filter fun c => mask.testBit c && s.testable c && !s.line.asked.contains c
    ({ s with line := { s.line with asked := s.line.asked ++ more } }).nextSlot

/-- LINE_TEST_NOW (R3, R294). -/
def execLineTestNow (g : Agent) (mask : BitVec 8) (s : State) : Host.Outcome State Fault Refusal :=
  s.run fun s => s.onP8 g.who 0x310024 mask.toNat fun s => s.testNow mask.toNat

/-! ### Classification and drift -/

/-- A line's class set (R297, R299): the onset of OPEN or SHORT raises event 42 or 43; a return to NORMAL is logged. -/
def State.setClass (s : State) (c cls : Nat) (z : LineZ) : State :=
  let cur := s.get (Fld.LINE_CH_ST_CLASS c)
  let s1 := s.put (Fld.LINE_CH_ST_CLASS c) cls
  if cls = cur then s
  else if cls = 1 then (if cur = 0 then s1 else s1.note 0x31 [c, cls, magReg z, s.get (Fld.LINE_CH_ZREF_MAG c)])
  else (s1.bump (Fld.LINE_CH_CNT_FAULTS c) 1).lineEvent (if cls = 2 then 42 else 43) c cls z

/-- A valid test's class confirmed (R297). -/
def State.confirmClass (s : State) (c cls : Nat) (z : LineZ) : State :=
  let x := s.line1 c
  let n := if x.streak.1 = cls then x.streak.2 + 1 else 1
  let s1 := s.setLine c { x with streak := (cls, n) }
  let cur := s.get (Fld.LINE_CH_ST_CLASS c)
  if n ≥ max 1 (s.get Fld.LINE_CFG_CONFIRM) || (cls = 1 && cur = 0) then s1.setClass c cls z else s1

/-- The tracked value shown, and DRIFT judged (R303). DESIGN CHOICE (assumption 84). -/
def State.judgeDrift (s : State) (c : Nat) (z : LineZ) : State :=
  let x := s.line1 c
  let d := zMag (zSub x.zt x.zref.z)
  let r := x.zref.mag
  let pct := s.get (Fld.LINE_CH_CFG_DRIFT_PCT c)
  let s1 := s.put (Fld.LINE_CH_ZTRK_MAG c) (magReg x.zt)
  if d * 100 > pct * r && !s1.on (Fld.LINE_CH_ST_DRIFT c) then
    (s1.flag (Fld.LINE_CH_ST_DRIFT c) true).lineEvent 45 c (s1.get (Fld.LINE_CH_ST_CLASS c)) z
  else if d * 10000 < 80 * pct * r then s1.flag (Fld.LINE_CH_ST_DRIFT c) false else s1

/-- The tracked value moves (R303). -/
def State.track (s : State) (c : Nat) (z : LineZ) : State :=
  let x := s.line1 c
  let h := s.get Fld.LINE_TIME_TRACK_H * 3600000000000
  let dt := min h (s.time.now - x.moved)
  let move := fun (a b : Int) => a + (b - a) * (dt : Int) / (h : Int)
  (s.setLine c { x with zt := ⟨move x.zt.re z.re, move x.zt.im z.im⟩, moved := s.time.now }).judgeDrift c z

/-- A valid routine test (R293, R296, R297, R303). -/
def State.goodTest (s : State) (c : Nat) (z : LineZ) : State :=
  let cls := s.lineClass c z
  let s1 := (s.put (Fld.LINE_CH_ZMEAS_MAG c) (magReg z)).putS (Fld.LINE_CH_ZPH_MEAS_PH c) (angleOf z.re z.im)
  let s2 := ((s1.bump (Fld.LINE_CH_CNT_TESTS c) 1).flag (Fld.LINE_CH_ST_STALE c) false).setLine c
    { s1.line1 c with lastValid := s1.time.now }
  let s3 := s2.confirmClass c cls z
  if cls = 1 && !s3.inAlarm && s3.on (Fld.LINE_CH_ST_CAL_VALID c) then s3.track c z else s3

/-! ### Calibration -/

/-- A calibration fails with a cause (R302): the old reference stands. -/
def State.calFail (s : State) (c cause : Nat) : State :=
  let l := s.line
  let s1 :=
    if l.cal.head? = some c then { s with line := { l with cal := l.cal.filter (· ≠ c), calZ := [], calBad := 0 } }
    else { s with line := { l with cal := l.cal.filter (· ≠ c) } }
  (s1.put (Fld.LINE_CH_ST_CAL_FAIL c) cause).note 0x31 [c, cause]

/-- The reference that eight values make (R302): of the mean of their magnitudes and the mean of their phases.
DESIGN CHOICE (assumption 84). -/
def calMean (l : List LineZ) : LineRef :=
  let mag := sumOf (l.map zMag) / 8
  let turn : Rat := (l.map fun z => rAngle z.re z.im).foldl (· + ·) 0 / 8
  let z : LineZ := ⟨(mag * rSine (turn + 1 / 4)).floor, (mag * rSine turn).floor⟩
  ⟨mag, z, intPick (36000 * turn) (Config.phaseOf z.re z.im)⟩

/-- A line's reference and its tracked value as the registers show them. -/
def State.showRef (s : State) (c : Nat) (r : LineRef) : State :=
  let m := min 0xFFFFFF ((r.mag + 5000) / 10000)
  (((s.put (Fld.LINE_CH_ZREF_MAG c) m).putS (Fld.LINE_CH_ZPH_REF_PH c) r.ph).put (Fld.LINE_CH_ZTRK_MAG c) m).flag
    (Fld.LINE_CH_ST_CAL_VALID c) true

/-- The eight values of a calibration judged (R298, R302): 2 SPREAD, 3 RANGE; or the reference taken. -/
def State.calJudge (s : State) (c : Nat) (l : List LineZ) : State :=
  let m := l.map zMag
  let sum := sumOf m
  let hi := m.foldl max 0
  let lo := m.foldl min hi
  if (hi - lo) * 800 > 2 * sum then s.calFail c 2
  else if sum < 8 * 500000 || sum > 8 * 2000000000 then s.calFail c 3
  else
    let r := calMean l
    let e := s.get (Fld.LINE_CH_NET_EOL_OHM c) * 1000000
    let weak := s.on (Fld.LINE_CH_CFG_EOL c) && e ≠ 0 && r.mag * 10 < e
    let s1 := (s.setLine c { s.line1 c with zref := r, zt := r.z, moved := s.time.now, streak := (1, 1) }).showRef c r
    let s3 := ((s1.put (Fld.LINE_CH_ST_CAL_FAIL c) 0).flag (Fld.LINE_CH_ST_DRIFT c) false).flag (Fld.LINE_CH_ST_EOL_WEAK c) weak
    let s4 := s3.setClass c 1 r.z
    let s5 := if weak then s4.note 0x31 [c, e / 1000000] else s4
    { s5 with line := { s5.line with cal := s5.line.cal.filter (· ≠ c), calZ := [], calBad := 0,
                                     store := s5.line.store ++ [c] } }

/-- A calibration's slot (R302): eight valid ones make a reference; the ninth invalid one fails it. -/
def State.calSlot (s : State) (c : Nat) (valid : Bool) (z : LineZ) : State :=
  if valid then
    let l := s.line.calZ ++ [z]
    if l.length ≥ 8 then s.calJudge c l else { s with line := { s.line with calZ := l } }
  else if s.line.calBad ≥ 8 then s.calFail c 1
  else { s with line := { s.line with calBad := s.line.calBad + 1 } }

/-- LINE_TEST_SLOT_END (R292, R293). DEDUCED (assumption 83). -/
def execLineTestSlotEnd (t : LineTest) (s : State) : Host.Outcome State Fault Refusal :=
  s.run fun s => match s.line.slot with
    | none => s
    | some (c, k) => s.when s.slotDone fun s =>
      let clipped := if t.eightOhms then s.line.clip94 else s.line.clip93
      let valid := !t.content && !clipped && !s.line.bad && s.testable c
      let z := s.measuredZ c t.m
      let s1 := s.dropSlot
      let s2 := if valid then s1 else s1.bump (Fld.LINE_CH_CNT_INVALID c) 1
      let s3 := if k = .cal then s2.calSlot c valid z else if valid then s2.goodTest c z else s2
      s3.nextSlot

/-- LINE_STALE (R293): no valid test for 3 × TEST_S. -/
def execLineStale (c : Fin 8) (s : State) : Host.Outcome State Fault Refusal :=
  s.run fun s => s.when (s.isP8 && s.time.now ≥ (s.line1 c).lastValid + 3 * s.get Fld.LINE_CFG_TEST_S * 1000000000) fun s =>
    s.flag (Fld.LINE_CH_ST_STALE c) true

/-- CAL bits (R302): accepted in MAINTENANCE for a channel in MUTED or PLAYING; otherwise CAL_REJECT, and logged as a refused write.
DEDUCED (assumption 9). -/
def State.calCmd (s : State) (g : Who) (mask : Nat) : State :=
  if mask % 256 = 0 then s
  else
    let ok := fun c => mask.testBit c && s.mode = modeMaintenance && s.testable c
    let bad := (List.range 8).any fun c => mask.testBit c && !ok c
    let s1 := if bad then (s.flag Fld.LINE_STATUS_CAL_REJECT true).logNote codeDiscard 0x31 g.origin [0x310024, mask % 256 * 256] else s
    let more := (List.range 8).filter fun c => ok c && !s.line.cal.contains c
    ({ s1 with line := { s1.line with cal := s1.line.cal ++ more } }).nextSlot

/-- LINE_CAL (R3, R302). -/
def execLineCal (g : Agent) (mask : BitVec 8) (s : State) : Host.Outcome State Fault Refusal :=
  s.run fun s => s.onP8 g.who 0x310024 (mask.toNat * 256) fun s => s.calCmd g.who mask.toNat

/-- LINE_CAL_STORED (R302): the flash has taken Z_ref; logged. -/
def execLineCalStored (c : Fin 8) (s : State) : Host.Outcome State Fault Refusal :=
  s.run fun s => s.when (s.line.store.contains c.val) fun s =>
    let s1 := { s with line := { s.line with store := s.line.store.filter (· ≠ c.val) }
                       flash := { s.flash with lines := (c.val, (s.line1 c).zref) :: s.flash.lines.filter (·.1 ≠ c.val) } }
    (s1.note 0x31 [c, s.get (Fld.LINE_CH_ZREF_MAG c)]).lineFlags

/-- The calibrations as ATTEST restores them from flash (R302). -/
def State.lineRestore (s : State) : State :=
  s.flash.lines.foldl (fun t x =>
    (t.setLine x.1 { t.line1 x.1 with zref := x.2, zt := x.2.z, moved := t.time.now }).showRef x.1 x.2) s

/-! ### Latches, probes and starts -/

/-- Whether a period is a limited one (R268): the limit acts within ±10 % of ILIM. -/
def limitedPeriod (ilim : Nat) (p : SwitchPeriod) : Bool := (p.limited && 10 * p.mA ≥ 9 * ilim) || 10 * p.mA > 11 * ilim

/-- The cause of a latch from a channel's last 16 switching periods (R269): none of its conditions (none), LOAD (false) or BRIDGE
(true). -/
def latchCause (ilim : Nat) (periods : List SwitchPeriod) : Option Bool :=
  let l := periods.drop (periods.length - 16)
  let full : Bool := l.length = 16
  let third := full && l.all fun p => !p.followed
  let first := full && l.all (limitedPeriod ilim)
  let second : Bool := match l.getLast? with
    | some p => 2 * p.mA > 3 * ilim
    | none => false
  if third then some true else if first || second then some (l.any fun p => !p.followed) else none

/-- AMP_SHORT_LATCH (R269, R299, R302): a latch ends the slot on its channel, and fails its calibration. -/
def execAmpShortLatch (c : Fin 8) (periods : List SwitchPeriod) (s : State) : Host.Outcome State Fault Refusal :=
  s.run fun s => match latchCause (s.ilimMa c) periods with
  | none => s
  | some bridge =>
    let e := s.ampGov c
    s.when (s.ampSt e = 2 || s.ampSt e = 3) fun s =>
      let l := s.lineOf e
      let s1 := s.ampLatch e bridge
      let s2 := if s1.line.slot.map (·.1) = some l then s1.dropSlot else s1
      let s3 := if s2.line.cal.contains l then s2.calFail l 4 else s2
      s3.nextSlot

/-- Whether a probe may end so (R270, R299): a result once its precharge and its integration of 100 ms are over, none after 200 ms, and
at once where an excursion exceeds 6 A. -/
def State.probeOver (s : State) (e : Nat) : ProbeEnd → Bool
  | .measured _ => (s.amp1 e).probeAt + (s.amp1 e).precharge + 100000000 ≤ s.time.now
  | .timeout => (s.amp1 e).probeAt + 200000000 ≤ s.time.now
  | .excursion mA => mA > 6000

/-- AMP_PROBE_END (R270, R299, R305): the probe's class, or none after 200 ms or with LINE disabled; the first SHORT after a latch makes
the line SHORT at once. -/
def execAmpProbeEnd (c : Fin 8) (result : ProbeEnd) (s : State) : Host.Outcome State Fault Refusal :=
  s.run fun s =>
    let e := s.ampGov c
    s.when (s.ampSt e = 5 && s.probeOver e result) fun s =>
      let l := s.lineOf e
      let z := match result with
        | .measured m => s.measuredZ l m
        | _ => ⟨0, 0⟩
      let code := if !s.lineRuns then 3 else match result with
        | .measured _ => if s.lineClass l z = 3 then 1 else 2
        | .timeout => 3
        | .excursion _ => 1
      let s1 := (s.probeEnd e code).note 0x31 [l, code]
      if code = 1 then (s1.setLine l { s1.line1 l with streak := (3, max 1 (s.get Fld.LINE_CFG_CONFIRM)) }).setClass l 3 z else s1

/-- AMP_PRECHARGE_DONE (R267, R304): a channel in a wake sweep is tested as soon as it reaches MUTED. -/
def execAmpPrechargeDone (c : Fin 8) (s : State) : Host.Outcome State Fault Refusal :=
  s.run fun s =>
    let s1 := s.prechargeDone (s.ampGov c)
    if s1.line.sweep = [] then s1.lineFlags else s1.nextSlot

/-! ### Earth faults -/

/-- R_iso in kΩ from the half-amplitude in µV (R300), saturating. -/
def risoOf (a : Nat) : Nat := if a ≥ 5000000 then 0xFFFF else min 0xFFFF (100 * a / (5000000 - a))

/-- The lines that a location steps (R301): in ALARM those in MUTED only. -/
def State.efLines (s : State) : List Nat :=
  (List.range 8).filter fun c => s.ampSt c = 2 || (s.ampSt c = 3 && !s.inAlarm)

/-- A location ends without a line, or has none to step (R301): MODULE_WIDE, in ALARM until that ends. -/
def State.efWide (s : State) (none_ : Bool) : State :=
  ({ s with line := { s.line with wideAlarm := none_ && s.inAlarm } }).flag Fld.LINE_EF_ST_MODULE_WIDE none_

/-- A location begins (R301). -/
def State.efStart (s : State) : State :=
  if s.on Fld.LINE_EF_ST_LOCATING then s
  else
    let l := s.efLines
    let s1 := { s with line := { s.line with steps := l, stepAt := s.time.now } }
    ((s1.flag Fld.LINE_EF_ST_LOC_VALID false).efWide (l = [])).flag Fld.LINE_EF_ST_LOCATING (l ≠ [])

/-- ALARM ends (R301): a fault that read as MODULE_WIDE in it, or whose location still runs, is located anew. DEDUCED (assumption 249). -/
def State.efAlarmEnd (s : State) : State :=
  if s.line.wideAlarm || s.on Fld.LINE_EF_ST_LOCATING then
    let s1 := (s.efWide false).flag Fld.LINE_EF_ST_LOCATING false
    if s1.lineRuns && s1.on Fld.LINE_EF_EN && s1.on Fld.LINE_EF_ST_EARTH_FAULT then s1.efStart else s1
  else s

/-- LINE_EF.EN written (R300): the periods are counted afresh. -/
def State.efEdge (s old : State) : State :=
  if s.on Fld.LINE_EF_EN = old.on Fld.LINE_EF_EN then s
  else { s with line := { s.line with efLow := 0, efHigh := 0, efAt := s.time.now } }

/-- EARTH_FAULT_MEASURE (R300, R307): one period of 2 s; four in a row set or clear the fault, and an onset starts a location. R_iso is
compared as R300 gives it, and its register cuts it to whole kΩ. -/
def execEarthFaultMeasure (a : Nat) (s : State) : Host.Outcome State Fault Refusal :=
  s.run fun s => s.when (s.lineRuns && s.on Fld.LINE_EF_EN && s.line.efAt + 2000000000 ≤ s.time.now) fun s =>
    let r := risoOf a
    let lim := s.get Fld.LINE_EF_EF_KOHM
    let low := if 100 * a < lim * (5000000 - a) then s.line.efLow + 1 else 0
    let high := if 400 * a > 5 * lim * (5000000 - a) then s.line.efHigh + 1 else 0
    let s1 := ({ s with line := { s.line with efLow := min 4 low, efHigh := min 4 high, efAt := s.time.now } }).put Fld.LINE_EF_ST_RISO r
    if low ≥ 4 && !s1.on Fld.LINE_EF_ST_EARTH_FAULT then
      let s2 := s1.flag Fld.LINE_EF_ST_EARTH_FAULT true
      (s2.raise 44 0x31 [r, Word.field (s2.rd Fld.LINE_EF_ST_RISO.addr) 15 8]).efStart
    else if high ≥ 4 && s1.on Fld.LINE_EF_ST_EARTH_FAULT then
      let s2 := s1.flag Fld.LINE_EF_ST_EARTH_FAULT false
      s2.note 0x31 [r, Word.field (s2.rd Fld.LINE_EF_ST_RISO.addr) 15 8]
    else s1

/-- EF_LOCATE (R301). DEDUCED (assumption 86). -/
def State.efLocateCmd (s : State) : State := if s.lineRuns && s.on Fld.LINE_EF_EN then s.efStart else s

/-- EF_LOCATE (R3, R301): LINE_CMD.EF_LOCATE written. -/
def execEfLocate (g : Agent) (s : State) : Host.Outcome State Fault Refusal :=
  s.run fun s => s.onP8 g.who 0x310024 0x20000 State.efLocateCmd

/-- EF_LOCATE_STEP_END (R301): after 4 s, the channel whose step changes D by at least half of 1 V × (1 − A ÷ 5 V) is the faulted
line. -/
def execEfLocateStepEnd (d : Int) (a : Nat) (s : State) : Host.Outcome State Fault Refusal :=
  s.run fun s => s.when (s.on Fld.LINE_EF_ST_LOCATING && s.line.stepAt + 4000000000 ≤ s.time.now) fun s => match s.line.steps with
    | [] => (s.flag Fld.LINE_EF_ST_LOCATING false).efWide true
    | c :: rest =>
      let s1 := { s with line := { s.line with steps := rest.filter s.efLines.contains, stepAt := s.time.now } }
      if 10 * d.natAbs ≥ 5000000 - a && s.efLines.contains c then
        ((({ s1 with line := { s1.line with steps := [] } }).put Fld.LINE_EF_ST_LOC c).flag Fld.LINE_EF_ST_LOC_VALID true).flag
          Fld.LINE_EF_ST_LOCATING false
      else if s1.line.steps = [] then (s1.flag Fld.LINE_EF_ST_LOCATING false).efWide true
      else s1

/-! ### What the lands carry -/

/-- The pilot at unit peak (R291): of its frequency in Hz and the time in ns since its slot began, where its phase is zero. -/
def pilotSine (hz ns : Nat) : Word := sineOf ((hz : Rat) * mkRat ns 1000000000)

/-- The pilot at an instant, of when it starts, its whole cycles and its gain in 0.01 dB (R291). -/
def State.pilotAt (s : State) (t start cycles : Nat) (db : Int) : Word :=
  if start ≤ t && (t - start) * s.pilotHz < cycles * 1000000000 then fmul (dbGain db) (pilotSine s.pilotHz (t - start)) else 0

/-- The pilot that a slot, or one that has ended and runs on to phase zero, adds to a line. -/
def State.slotPilot (s : State) (e t : Nat) : Word :=
  let db : Int := -100 * (s.get Fld.LINE_CFG_LEVEL : Nat)
  let now := match s.line.slot with
    | some (l, _) => if s.lineDriver l = e then s.pilotAt t s.line.slotAt s.slotCycles db else 0
    | none => 0
  match s.line.tail with
  | some x => if s.lineDriver x.line = e then fdot [(now, fOne), (s.pilotAt t x.start x.cycles db, fOne)] else now
  | none => now

/-- The pilot that is added to a channel's modulator input, `ns` after the tick boundary that begins now (R291, R295): its peak is
−LEVEL dB of FS_VPK, and both channels of a pair inject it. A probe's pilot is at −40 dB, behind its precharge (R270). On the fallback
clock there is none (R36, R283). -/
def State.pilotSample (s : State) (c ns : Nat) : Word :=
  let e := s.ampGov c
  let t := s.time.now + ns
  if s.amp.fallback then 0
  else if s.ampSt e = 5 then
    (if s.lineRuns then s.pilotAt t ((s.amp1 e).probeAt + (s.amp1 e).precharge) (s.pilotHz * 2) (-4000) else 0)
  else s.slotPilot e t

/-- The channel whose common mode the present step of a location lowers by 1 V, and whose clip level it lowers by 2 V (R301). -/
def State.stepping (s : State) (c : Nat) : Bool := s.on Fld.LINE_EF_ST_LOCATING && s.line.steps.head? = some c

/-- The common mode of a switching channel's filter in volts (R267, R301): half the rail, and 1 V less in its step of a location. -/
def State.commonMode (s : State) (c : Nat) : Option Rat :=
  let st := s.ampSt c
  if st < 1 || (st > 3 && st ≠ 5) then none
  else
    let rail := s.get (if railOf c = 0 then Fld.AMP_RAIL_VINP_A else Fld.AMP_RAIL_VINP_B)
    some (mkRat (rail : Nat) 200 - if s.stepping c then 1 else 0)

/-- What drives EFS (R300): +5 V or −5 V, a square wave of 0.5 Hz, or nothing. DESIGN CHOICE (assumption 82): the spec gives no phase of
the wave. -/
def State.efsVolts (s : State) : Option Int :=
  if s.lineRuns && s.on Fld.LINE_EF_EN then some (if s.time.now / 1000000000 % 2 = 0 then 5 else -5) else none

/-! ### Brims, modes and restarts -/

/-- Every slot, round and location ends. -/
def State.lineStop (s0 : State) : State :=
  let s := s0.dropSlot
  (({ s with line := { s.line with left := [], inRound := false, due := false, asked := [],
                                   sweep := [], efLow := 0, efHigh := 0, steps := [] } }).flag Fld.LINE_EF_ST_LOCATING false).lineFlags

/-- The supervisor at a brim: EN = 0 ends every slot (R305). -/
def State.lineBrim (s old : State) : State :=
  if !s.isP8 then s
  else if old.enabled 0x31 && !s.enabled 0x31 then s.lineStop
  else
    let s1 := if s.enabled 0x31 && !old.enabled 0x31 then { s with line := { s.line with efAt := s.time.now } } else s.efEdge old
    s1.nextSlot

/-- NIGHTCAP or SHELTER begins or ends (R304): tests pause; on leaving, a wake sweep of every eligible channel waits for its
channels to reach MUTED. -/
def State.lineSleep (s0 : State) : State :=
  let s := s0.dropSlot
  ({ s with line := { s.line with left := [], inRound := false, due := false, asked := [],
                                  sweep := [] } }).lineFlags
def State.lineWake (s : State) : State :=
  let l := (List.range 8).filter fun c =>
    s.on (Fld.LINE_CH_CFG_SUP_EN c) && s.on (Fld.AMP_CH_CFG_EN c) && !(s.ampPaired c && c % 2 = 1)
  ({ s with line := { s.line with sweep := l } }).lineFlags

end Sys2Proof.Machine
end

