-- ==== Sys2Proof/Machine/Seal.lean ====
section
/-! DEFINITION. The cryptography that the seal and Cerkeha rest on: AES-256 (FIPS 197), AES-256-GCM
(NIST SP 800-38D), AES-CMAC and the key derivation of IEEE 802.1X-2020, the key wrap of RFC 3394, SHA-384 (FIPS 180-4), HMAC and HKDF-SHA-384 (RFC 2104, RFC 5869), and AES-256 CTR_DRBG (NIST SP 800-90A). The
spec names these functions and leaves what they are to their standards. PRESUMED (assumption 214). Octets are numbers below 256, and
blocks are numbers with the first octet at the top. -/

namespace Sys2Proof.Machine

/-! ### Octets -/

/-- The octets of a number, the first at the top. -/
def beOctets (n v : Nat) : List Nat := (List.range n).map fun i => v / 2 ^ (8 * (n - 1 - i)) % 256

/-- The number that octets spell, the first at the top. -/
def ofOctets (l : List Nat) : Nat := l.foldl (fun a b => a * 256 + b % 256) 0

/-- A list cut into pieces of `n` items, of which there are at most `fuel`. -/
def chunksOf (n : Nat) : Nat → List Nat → List (List Nat)
  | 0, _ => []
  | fuel + 1, l => if l.isEmpty then [] else l.take n :: chunksOf n fuel (l.drop n)

/-! ### AES-256 -/

/-- The S-box, sixteen entries to a row. -/
def aesRows : List Nat := [
  0x637C777BF26B6FC53001672BFED7AB76, 0xCA82C97DFA5947F0ADD4A2AF9CA472C0, 0xB7FD9326363FF7CC34A5E5F171D83115,
  0x04C723C31896059A071280E2EB27B275, 0x09832C1A1B6E5AA0523BD6B329E32F84, 0x53D100ED20FCB15B6ACBBE394A4C58CF,
  0xD0EFAAFB434D338545F9027F503C9FA8, 0x51A3408F929D38F5BCB6DA2110FFF3D2, 0xCD0C13EC5F974417C4A77E3D645D1973,
  0x60814FDC222A908846EEB814DE5E0BDB, 0xE0323A0A4906245CC2D3AC629195E479, 0xE7C8376D8DD54EA96C56F4EA657AAE08,
  0xBA78252E1CA6B4C6E8DD741F4BBD8B8A, 0x703EB5664803F60E613557B986C11D9E, 0xE1F8981169D98E949B1E87E9CE5528DF,
  0x8CA1890DBFE6426841992D0FB054BB16]

def subByte (x : Nat) : Nat := aesRows.getD (x / 16) 0 / 2 ^ (8 * (15 - x % 16)) % 256

/-- The S-box on each octet of a 32-bit word. -/
def subWord (w : Nat) : Nat := ofOctets ((beOctets 4 w).map subByte)

/-- A word rotated by one octet to the left. -/
def rotWord (w : Nat) : Nat := w % 2 ^ 24 * 256 + w / 2 ^ 24

/-- Multiplication by x in the field of AES. -/
def xtime (x : Nat) : Nat := if x ≥ 128 then (2 * x % 256) ^^^ 0x1B else 2 * x

/-- Words `i` on of the key schedule, appended newest first. -/
def aesExpand : Nat → Nat → Nat → List Nat → List Nat
  | 0, _, _, l => l
  | fuel + 1, i, rcon, l =>
    let t := l.headD 0
    let t1 := if i % 8 = 0 then subWord (rotWord t) ^^^ (rcon * 2 ^ 24) else if i % 8 = 4 then subWord t else t
    aesExpand fuel (i + 1) (if i % 8 = 0 then xtime rcon else rcon) ((l.getD 7 0 ^^^ t1) :: l)

/-- The fifteen round keys of a 256-bit key. -/
def aesKeys (key : Nat) : List Nat :=
  let w := (aesExpand 52 8 1 ((List.range 8).map fun i => key / 2 ^ (32 * i) % 2 ^ 32)).reverse
  (List.range 15).map fun r => (((w.getD (4 * r) 0 * 2 ^ 32 + w.getD (4 * r + 1) 0) * 2 ^ 32 + w.getD (4 * r + 2) 0) * 2 ^ 32
    + w.getD (4 * r + 3) 0)

/-- A column of the state mixed. -/
def mixColumn (l : List Nat) : List Nat :=
  let a := l.getD 0 0
  let b := l.getD 1 0
  let c := l.getD 2 0
  let d := l.getD 3 0
  let t := a ^^^ b ^^^ c ^^^ d
  [a ^^^ t ^^^ xtime (a ^^^ b), b ^^^ t ^^^ xtime (b ^^^ c), c ^^^ t ^^^ xtime (c ^^^ d), d ^^^ t ^^^ xtime (d ^^^ a)]

/-- SubBytes and ShiftRows. -/
def subShift (l : List Nat) : List Nat := (List.range 16).map fun i => subByte (l.getD ((i + 4 * (i % 4)) % 16) 0)

def mixColumns (l : List Nat) : List Nat := (List.range 4).flatMap fun c => mixColumn ((l.drop (4 * c)).take 4)

/-- The rounds of AES on a block. -/
def aesRounds : List Nat → Nat → Nat
  | [], b => b
  | [k], b => ofOctets (subShift (beOctets 16 b)) ^^^ k
  | k :: l, b => aesRounds l (ofOctets (mixColumns (subShift (beOctets 16 b))) ^^^ k)

/-- A block encrypted under a 256-bit key. -/
def aesEncrypt (key block : Nat) : Nat := match aesKeys key with
  | [] => block
  | k :: l => aesRounds l (block ^^^ k)

/-- The inverse of the S-box, sixteen entries to a row. -/
def aesInvRows : List Nat := [
  0x52096AD53036A538BF40A39E81F3D7FB, 0x7CE339829B2FFF87348E4344C4DEE9CB, 0x547B9432A6C2233DEE4C950B42FAC34E,
  0x082EA16628D924B2765BA2496D8BD125, 0x72F8F66486689816D4A45CCC5D65B692, 0x6C704850FDEDB9DA5E154657A78D9D84,
  0x90D8AB008CBCD30AF7E45805B8B34506, 0xD02C1E8FCA3F0F02C1AFBD0301138A6B, 0x3A9111414F67DCEA97F2CFCEF0B4E673,
  0x96AC7422E7AD3585E2F937E81C75DF6E, 0x47F11A711D29C5896FB7620EAA18BE1B, 0xFC563E4BC6D279209ADBC0FE78CD5AF4,
  0x1FDDA8338807C731B11210592780EC5F, 0x60517FA919B54A0D2DE57A9F93C99CEF, 0xA0E03B4DAE2AF5B0C8EBBB3C83539961,
  0x172B047EBA77D626E169146355210C7D]

def invByte (x : Nat) : Nat := aesInvRows.getD (x / 16) 0 / 2 ^ (8 * (15 - x % 16)) % 256

/-- A column of the state unmixed: the columns mix to the identity after four times. -/
def unmixColumn (l : List Nat) : List Nat := mixColumn (mixColumn (mixColumn l))

def unmixColumns (l : List Nat) : List Nat := (List.range 4).flatMap fun c => unmixColumn ((l.drop (4 * c)).take 4)

/-- The inverses of ShiftRows and SubBytes. -/
def unshiftSub (l : List Nat) : List Nat := (List.range 16).map fun i => invByte (l.getD ((i + 12 * (i % 4)) % 16) 0)

/-- The rounds of AES undone on a block, the last round key first. -/
def aesUnrounds : List Nat → Nat → Nat
  | [], b => b
  | [k], b => ofOctets (unshiftSub (beOctets 16 b)) ^^^ k
  | k :: l, b => aesUnrounds l (ofOctets (unmixColumns (beOctets 16 (ofOctets (unshiftSub (beOctets 16 b)) ^^^ k))))

/-- A block decrypted under a 256-bit key. -/
def aesDecrypt (key block : Nat) : Nat := match (aesKeys key).reverse with
  | [] => block
  | k :: l => aesUnrounds l (block ^^^ k)

/-! ### AES-256-GCM -/

/-- The product in the field of GCM: `z` is what has been summed, `v` the second factor shifted, and `x` the first factor, whose
highest bits come first. -/
def gcmMul : Nat → Nat → Nat → Nat → Nat
  | 0, _, _, z => z
  | n + 1, x, v, z =>
    gcmMul n x (if v % 2 = 1 then (v / 2) ^^^ (0xE1 * 2 ^ 120) else v / 2) (if x / 2 ^ n % 2 = 1 then z ^^^ v else z)

/-- GHASH of blocks under a hash key. -/
def ghash (h : Nat) (l : List Nat) : Nat := l.foldl (fun y b => gcmMul 128 (y ^^^ b) h 0) 0

/-- Octets as blocks, the last one filled with zeros. -/
def gcmBlocks (l : List Nat) : List Nat :=
  (chunksOf 16 (l.length / 16 + 1) l).map fun c => ofOctets c * 256 ^ (16 - c.length)

/-- The 16-octet tag of a ciphertext under a key, a nonce of 12 octets and additional data. -/
def gcmTag (key : Nat) (nonce aad cipher : List Nat) : Nat :=
  ghash (aesEncrypt key 0) (gcmBlocks aad ++ gcmBlocks cipher ++ [aad.length * 8 * 2 ^ 64 + cipher.length * 8])
    ^^^ aesEncrypt key (ofOctets nonce * 2 ^ 32 + 1)

/-- Octets encrypted or decrypted in counter mode, from the second counter value on. -/
def gcmCrypt (key : Nat) (nonce l : List Nat) : List Nat :=
  ((chunksOf 16 (l.length / 16 + 1) l).zipIdx.map fun c =>
    (c.1.zip (beOctets 16 (aesEncrypt key (ofOctets nonce * 2 ^ 32 + c.2 + 2)))).map fun x => x.1 ^^^ x.2).flatten

/-- A ciphertext decrypted, where its tag passes. -/
def gcmOpen (key : Nat) (nonce aad cipher : List Nat) (tag : Nat) : Option (List Nat) :=
  if gcmTag key nonce aad cipher = tag then some (gcmCrypt key nonce cipher) else none

/-! ### AES-CMAC and the AES key wrap -/

/-- A value doubled in the field of CMAC. -/
def cmacDouble (v : Nat) : Nat := (2 * v % 2 ^ 128) ^^^ (if v ≥ 2 ^ 127 then 0x87 else 0)

/-- The last block of a CMAC: a whole one or a part, with its subkey. -/
def cmacLast (k1 : Nat) (c : List Nat) : Nat :=
  if c.length = 16 then ofOctets c ^^^ k1
  else ofOctets (c ++ 0x80 :: List.replicate (15 - c.length) 0) ^^^ cmacDouble k1

/-- The chain of a CMAC over blocks. -/
def cmacChain (key k1 : Nat) : List (List Nat) → Nat → Nat
  | [], x => aesEncrypt key (x ^^^ cmacLast k1 [])
  | [c], x => aesEncrypt key (x ^^^ cmacLast k1 c)
  | c :: l, x => cmacChain key k1 l (aesEncrypt key (x ^^^ ofOctets c))

/-- AES-CMAC of octets under a 256-bit key (NIST SP 800-38B). -/
def cmac (key : Nat) (l : List Nat) : Nat :=
  cmacChain key (cmacDouble (aesEncrypt key 0)) (chunksOf 16 (l.length / 16 + 1) l) 0

/-- The key derivation function of IEEE 802.1X-2020: 256 bits from a key, a label and a context. -/
def kdf256 (key : Nat) (label context : List Nat) : Nat :=
  cmac key (1 :: label ++ 0 :: context ++ [1, 0]) * 2 ^ 128 + cmac key (2 :: label ++ 0 :: context ++ [1, 0])

/-- Step `t` of the key wrap of RFC 3394 on A and its registers, which stand in turn. -/
def wrapStep (key : Nat) (x : Nat × List Nat) (t : Nat) : Nat × List Nat := match x.2 with
  | [] => x
  | r :: l =>
    let b := aesEncrypt key (x.1 * 2 ^ 64 + r)
    ((b / 2 ^ 64) ^^^ (t + 1), l ++ [b % 2 ^ 64])

/-- `n` registers of 8 octets wrapped, which makes one register more. -/
def wrapRegs (n key v : Nat) : Nat :=
  let x := (List.range (6 * n)).foldl (wrapStep key)
    (0xA6A6A6A6A6A6A6A6, (List.range n).map fun i => v / 2 ^ (64 * (n - 1 - i)) % 2 ^ 64)
  x.2.foldl (fun a b => a * 2 ^ 64 + b) x.1

/-- 32 octets wrapped: 40 octets. -/
def keyWrap (key v : Nat) : Nat := wrapRegs 4 key v

/-- Step `t` of the unwrap: the register last put aside comes back. -/
def unwrapStep (key : Nat) (x : Nat × List Nat) (t : Nat) : Nat × List Nat := match x.2 with
  | [] => x
  | r :: l =>
    let b := aesDecrypt key ((x.1 ^^^ (t + 1)) * 2 ^ 64 + r)
    (b / 2 ^ 64, l ++ [b % 2 ^ 64])

/-- `n` registers unwrapped, where their integrity holds. -/
def unwrapRegs (n key w : Nat) : Option Nat :=
  let x := (List.range (6 * n)).reverse.foldl (unwrapStep key)
    (w / 2 ^ (64 * n), (List.range n).map fun i => w / 2 ^ (64 * i) % 2 ^ 64)
  if x.1 = 0xA6A6A6A6A6A6A6A6 then some (x.2.reverse.foldl (fun a b => a * 2 ^ 64 + b) 0) else none

/-- 40 octets unwrapped. -/
def keyUnwrap (key w : Nat) : Option Nat := unwrapRegs 4 key w

/-! ### SHA-384, HMAC and HKDF -/

def shaK : List Nat := [
    0x428A2F98D728AE22, 0x7137449123EF65CD, 0xB5C0FBCFEC4D3B2F, 0xE9B5DBA58189DBBC,
    0x3956C25BF348B538, 0x59F111F1B605D019, 0x923F82A4AF194F9B, 0xAB1C5ED5DA6D8118,
    0xD807AA98A3030242, 0x12835B0145706FBE, 0x243185BE4EE4B28C, 0x550C7DC3D5FFB4E2,
    0x72BE5D74F27B896F, 0x80DEB1FE3B1696B1, 0x9BDC06A725C71235, 0xC19BF174CF692694,
    0xE49B69C19EF14AD2, 0xEFBE4786384F25E3, 0x0FC19DC68B8CD5B5, 0x240CA1CC77AC9C65]
  ++ [
    0x2DE92C6F592B0275, 0x4A7484AA6EA6E483, 0x5CB0A9DCBD41FBD4, 0x76F988DA831153B5,
    0x983E5152EE66DFAB, 0xA831C66D2DB43210, 0xB00327C898FB213F, 0xBF597FC7BEEF0EE4,
    0xC6E00BF33DA88FC2, 0xD5A79147930AA725, 0x06CA6351E003826F, 0x142929670A0E6E70,
    0x27B70A8546D22FFC, 0x2E1B21385C26C926, 0x4D2C6DFC5AC42AED, 0x53380D139D95B3DF,
    0x650A73548BAF63DE, 0x766A0ABB3C77B2A8, 0x81C2C92E47EDAEE6, 0x92722C851482353B]
  ++ [
    0xA2BFE8A14CF10364, 0xA81A664BBC423001, 0xC24B8B70D0F89791, 0xC76C51A30654BE30,
    0xD192E819D6EF5218, 0xD69906245565A910, 0xF40E35855771202A, 0x106AA07032BBD1B8,
    0x19A4C116B8D2D0C8, 0x1E376C085141AB53, 0x2748774CDF8EEB99, 0x34B0BCB5E19B48A8,
    0x391C0CB3C5C95A63, 0x4ED8AA4AE3418ACB, 0x5B9CCA4F7763E373, 0x682E6FF3D6B2B8A3,
    0x748F82EE5DEFB2FC, 0x78A5636F43172F60, 0x84C87814A1F0AB72, 0x8CC702081A6439EC]
  ++ [
    0x90BEFFFA23631E28, 0xA4506CEBDE82BDE9, 0xBEF9A3F7B2C67915, 0xC67178F2E372532B,
    0xCA273ECEEA26619C, 0xD186B8C721C0C207, 0xEADA7DD6CDE0EB1E, 0xF57D4F7FEE6ED178,
    0x06F067AA72176FBA, 0x0A637DC5A2C898A6, 0x113F9804BEF90DAE, 0x1B710B35131C471B,
    0x28DB77F523047D84, 0x32CAAB7B40C72493, 0x3C9EBE0A15C9BEBC, 0x431D67C49C100D4C,
    0x4CC5D4BECB3E42B6, 0x597F299CFC657E2A, 0x5FCB6FAB3AD6FAEC, 0x6C44198C4A475817]

def shaInit : List Nat := [
  0xCBBB9D5DC1059ED8, 0x629A292A367CD507, 0x9159015A3070DD17, 0x152FECD8F70E5939,
  0x67332667FFC00B31, 0x8EB44A8768581511, 0xDB0C2E0D64F98FA7, 0x47B5481DBEFA4FA4]

/-- A 64-bit word rotated to the right. -/
def rotr (n w : Nat) : Nat := w / 2 ^ n + w % 2 ^ n * 2 ^ (64 - n)

/-- The message schedule, newest word first. -/
def shaSchedule : Nat → List Nat → List Nat
  | 0, l => l
  | n + 1, l =>
    let a := l.getD 14 0
    let b := l.getD 1 0
    let s0 := rotr 1 a ^^^ rotr 8 a ^^^ (a / 2 ^ 7)
    let s1 := rotr 19 b ^^^ rotr 61 b ^^^ (b / 2 ^ 6)
    shaSchedule n ((l.getD 15 0 + s0 + l.getD 6 0 + s1) % 2 ^ 64 :: l)

/-- One round on the working variables a to h. -/
def shaRound (v : List Nat) (kw : Nat × Nat) : List Nat := match v with
  | [a, b, c, d, e, f, g, h] =>
    let s1 := rotr 14 e ^^^ rotr 18 e ^^^ rotr 41 e
    let ch := (e &&& f) ^^^ ((2 ^ 64 - 1 - e) &&& g)
    let t1 := h + s1 + ch + kw.1 + kw.2
    let s0 := rotr 28 a ^^^ rotr 34 a ^^^ rotr 39 a
    let maj := (a &&& b) ^^^ (a &&& c) ^^^ (b &&& c)
    [(t1 + s0 + maj) % 2 ^ 64, a, b, c, (d + t1) % 2 ^ 64, e, f, g]
  | _ => v

/-- A block of 128 octets taken into the hash value. -/
def shaBlock (h : List Nat) (block : List Nat) : List Nat :=
  let w := ((chunksOf 8 16 block).map ofOctets).reverse
  let v := (shaK.zip (shaSchedule 64 w).reverse).foldl shaRound h
  (h.zip v).map fun x => (x.1 + x.2) % 2 ^ 64

/-- SHA-384: 48 octets. -/
def sha384 (m : List Nat) : List Nat :=
  let pad := m ++ 0x80 :: List.replicate ((239 - m.length % 128) % 128) 0 ++ beOctets 16 (8 * m.length)
  (((chunksOf 128 (pad.length / 128) pad).foldl shaBlock shaInit).take 6).flatMap (beOctets 8)

/-- HMAC-SHA-384 of a message under a key of at most 128 octets. -/
def hmac384 (key m : List Nat) : List Nat :=
  let k := key ++ List.replicate (128 - key.length) 0
  sha384 (k.map (· ^^^ 0x5C) ++ sha384 (k.map (· ^^^ 0x36) ++ m))

/-- The first 32 octets of HKDF-SHA-384, as a number. -/
def hkdf384 (input salt info : List Nat) : Nat := ofOctets ((hmac384 (hmac384 salt input) (info ++ [1])).take 32)

/-! ### AES-256 CTR_DRBG -/

/-- The blocks that follow a counter, encrypted: 48 octets of a DRBG's output and state. -/
def drbgBlocks (key v n : Nat) : List Nat := (List.range n).map fun i => aesEncrypt key ((v + i + 1) % 2 ^ 128)

/-- CTR_DRBG_Update: key and V after 48 octets of provided data. -/
def drbgUpdate (key v data : Nat) : Nat × Nat :=
  let t := ((drbgBlocks key v 3).foldl (fun a b => a * 2 ^ 128 + b) 0) ^^^ (data % 2 ^ 384)
  (t / 2 ^ 128, t % 2 ^ 128)

/-- 32 octets drawn, as a number, and key and V after them. -/
def drbgGenerate (key v : Nat) : Nat × Nat × Nat :=
  ((drbgBlocks key v 2).foldl (fun a b => a * 2 ^ 128 + b) 0, drbgUpdate key ((v + 2) % 2 ^ 128) 0)

end Sys2Proof.Machine
end

