-- ==== Sys2Proof/Machine/Rings.lean ====
section
/-! DEFINITION. What every ring shares: stopping a ring (R405 to R410), and the delivery of received frames into NETRX
rings (R416, R417). -/

namespace Sys2Proof.Machine

/-- The queue of a port's NETRX staging and of its NETTX frames (R445). -/
def rxQueue (p : Port) : Nat := 18 + 3 * p.num
def txQueue (p : Port) : Nat := 19 + 3 * p.num

/-- Whether a ring moves descriptors: it runs, and the port may issue requests (R409). -/
def State.ringMoves (s : State) (p : Port) (n : Nat) : Bool :=
  s.ringRuns p n && s.on (Fld.HIF_PORT_ST_BME p.num)

/-- The causes of a refusal or a stop (R405, R407, R409, R426, R427). -/
def causeOwn : Nat := 7
def causeDma : Nat := 8
def causeHostLost : Nat := 9
def causeBlock : Nat := 10

/-- A per-ring error counter advances, which sets the ring's error bit (R410). -/
def State.ringCount (s : State) (p : Port) (n w : Nat) : State := (s.bump (Fld.ringCnt p.num n w) 1).ringError p n

/-- When event 55 was last raised for a ring. -/
def lastOf (l : List (Nat × Nat)) (n : Nat) : Option Nat := (l.find? (·.1 = n)).map (·.2)

/-- Event 55 (RX_BUFFER_EXHAUST), at most once per 10 ms per ring, with the ring (R417). -/
def State.rxExhaust (s : State) (p : Port) (n : Nat) : State :=
  let x := s.portSt p
  if rateOk (lastOf x.ev55 n) s.time.now then
    (s.setPort p { x with ev55 := (n, s.time.now) :: x.ev55.filter (·.1 ≠ n) }).raise 55 (4 + p.num) [ringNo p n]
  else s

/-- A frame discarded whole for want of a descriptor or of cells (R417). -/
def State.noBuf (s : State) (p : Port) (n : Nat) : State := (s.ringCount p n 2).rxExhaust p n

/-- The frames a port's ring holds leave it: discarded, released, and counted in NOBUF (R426). DEDUCED (assumption 167). -/
def State.dropHeld (s : State) (p : Port) (n : Nat) : State :=
  let mine := (s.portSt p).held.filter (·.ring = n)
  let s1 := s.setPort p { s.portSt p with held := (s.portSt p).held.filter (·.ring ≠ n) }
  mine.foldl (fun t h => (t.releaseItem h.item (rxQueue p)).noBuf p n) s1

/-- A queued frame without the host chain it came from. -/
def orphan (p : Port) (n : Nat) (x : TxFrame) : TxFrame := match x.host with
  | some h => if h.port = p && h.ring = n then { x with host := none } else x
  | none => x

/-- Frames of a ring that stops are still sent, and complete nothing any more; their timestamps go to nobody. -/
def State.orphanTx (s : State) (p : Port) (n : Nat) : State :=
  let others := fun (l : List TsEntry) => l.filter fun e => !(e.host && e.ring = ringNo p n)
  { s with tsqA := others s.tsqA, tsqB := others s.tsqB
           netA := { s.netA with queues := s.netA.queues.map (·.map (orphan p n)), inflight := s.netA.inflight.map (orphan p n) }
           netB := { s.netB with queues := s.netB.queues.map (·.map (orphan p n)), inflight := s.netB.inflight.map (orphan p n) } }

/-- The channels of a PLAY ring that stops conceal in the next processing tick (R191, R418), and lose their feed there (R212); those
that stand concealed are at zero already. -/
def State.fadePlay (s : State) (p : Port) (n : Nat) : State :=
  let r := s.ring p n
  if s.ringType p n ≠ 5 then s
  else
    let b := s.get (Fld.HIF_R_TCFG_B p.num n)
    { s with host := { s.host with fading := s.host.fading ++ (List.range r.last.length).map fun c =>
      (b + c, if r.dry then 0 else r.last.getD c 0) } }

/-- A ring stops with a cause: EN and RUN clear, CAUSE is set, what it was given is abandoned, and a cause other than 0
sets its error bit (R405, R410). The stop is logged with the ring's global number. DEDUCED (assumptions 36, 167). -/
def State.stopRing (s : State) (p : Port) (n cause : Nat) : State :=
  if !s.ringRuns p n then s
  else
    let s0 := (if cause = 0 && (s.ring p n).buf ≠ [] && (s.ringType p n = 6 || s.ringType p n = 7) then s.closeBuffer p n else s).fadePlay p n
    let s1 := (((s0.flag (Fld.HIF_R_CFG_EN p.num n) false).flag (Fld.HIF_R_ST_RUN p.num n) false).put
      (Fld.HIF_R_ST_CAUSE p.num n) cause).dropHeld p n
    let s2 := (s1.setRing p n { Ring.empty with prod := (s1.ring p n).prod }).orphanTx p n
    let s3 := s2.note (4 + p.num) [ringNo p n, cause]
    if cause = 0 then s3 else s3.ringError p n

/-- Whether a descriptor is in progress (R405): a part-used PLAY or CAP buffer, or fetched NETTX frames. -/
def State.ringBusy (s : State) (p : Port) (n : Nat) : Bool :=
  let r := s.ring p n
  match s.ringType p n with
  | 2 => r.fetched ≠ 0
  | 4 => r.used ≠ 0
  | 5 => r.used ≠ 0
  | _ => false

/-- A ring whose EN = 0 has been written stops once nothing of it is in progress (R405). -/
def State.stopIdle (s : State) (p : Port) (n : Nat) : State :=
  if (s.ring p n).stopping && !s.ringBusy p n then s.stopRing p n 0 else s

/-- Every ring of a port stops with a cause (R426, R427). -/
def State.stopRings (s : State) (p : Port) (cause : Nat) : State :=
  (List.range 64).foldl (fun t n => t.stopRing p n cause) s

/-- The octets of a frame as NETRX delivers it (R416): from DA to the last octet before the FCS, without the SecTAG and
ICV (32 octets), the HSR tag and the PRP trailer (6 octets each). -/
def rxOctets (f : Frame) (secured : Bool) : Nat :=
  f.len - 4 - (if secured then 32 else 0) - (if f.hsr.isSome then 6 else 0) - (if f.prp.isSome then 6 else 0)

/-- A descriptor filled with `o` octets of a frame; the first one carries SOP and the ingress timestamp (R49). -/
def fillDesc (d : Desc) (h : RxHeld) (o : Nat) : Desc :=
  let e := { d with done := o }
  if h.left = h.total then
    (match h.stamp with
     | some (t, port) => { (e.set flagSop).set flagTs with time := t / 4, spec := t % 4 + 4 * port }
     | none => { (e.set flagSop).clear flagTs with time := 0, spec := 0 })
  else e

/-- A frame's octets written into the descriptors given, in order; the last filled descriptor stays at the head of the
ring until more is known (R416). -/
def State.rxFill (p : Port) (n : Nat) : Nat → RxHeld → State → State × RxHeld
  | 0, h, s => (s, h)
  | fuel + 1, h, s =>
    if h.left = 0 then (s, h)
    else
      let s1 := match h.filled with
        | some d => if (s.ring p n).given.length > 1 then s.finishDesc p n (d.complete 0 d.done) else s
        | none => s
      let ready := match h.filled with
        | some _ => (s.ring p n).given.length > 1
        | none => true
      if !ready then (s, h)
      else match (s1.ring p n).given with
        | [] => (s1, h)
        | d :: _ =>
          let o := min d.len h.left
          let s2 := s1.emit (.rxData p n o h.frame)
          State.rxFill p n fuel { h with left := h.left - o, filled := some (fillDesc d h o), since := s.time.now } s2

/-- The end of a frame's delivery: EOP with the frame length in DW7 (R416). -/
def State.rxFinish (s : State) (p : Port) (n : Nat) (h : RxHeld) : State :=
  let s1 := match h.filled with
    | some d => s.finishDesc p n { ((d.complete 0 d.done).set flagEop) with dw7 := BitVec.ofNat 32 h.total }
    | none => s
  (s1.setPort p { s1.portSt p with held := (s1.portSt p).held.filter (·.item ≠ h.item) }).releaseItem h.item (rxQueue p)

/-- The frames held for a ring delivered in order as far as descriptors are given (R417). -/
def State.serveRx (p : Port) (n : Nat) : Nat → State → State
  | 0, s => s
  | fuel + 1, s =>
    if !s.ringMoves p n then s
    else match (s.portSt p).held.find? (·.ring = n) with
      | none => s
      | some h =>
        let r := s.rxFill p n ((s.ring p n).given.length + 1) h
        if r.2.left = 0 then State.serveRx p n fuel (r.1.rxFinish p n r.2)
        else r.1.setPort p { r.1.portSt p with
               held := (r.1.portSt p).held.map fun x => if x.item = h.item then r.2 else x }

/-- A frame offered to a NETRX ring (R416, R417): one without a running ring, or whose cells the quota refuses, is
discarded whole; any other waits in the pool until descriptors take it. DEDUCED (assumption 38). -/
def State.offerRx (s : State) (p : Port) (n : Nat) (f : Frame) (secured : Bool) (stamp : Option (Nat × Nat))
    (share : Option Nat) : State :=
  if s.ringType p n ≠ 3 then s.bump (Fld.ind (4 + p.num) 0x210) 1
  else if !s.ringRuns p n then s.noBuf p n
  else
    let q := rxQueue p
    let c := cellsFor f.len
    let old := share.bind fun i => if s.mem.items.any (·.id = i) then some i else none
    if !s.grantAll q c old.isNone then s.noBuf p n
    else
      let x := old.getD s.mem.nextItem
      let o := rxOctets f secured
      let s1 := match old with
        | some i => s.joinItem i q
        | none => s.storeItem c [q]
      let s2 := s1.setPort p { s1.portSt p with held := (s1.portSt p).held ++
        [{ ring := n, left := o, total := o, filled := none, item := x, stamp := stamp, frame := f, since := s1.time.now }] }
      s2.serveRx p n ((s2.portSt p).held.length + 1)

/-- The ring that a port's classifier names for a frame (R416). -/
def State.classify (s : State) (p : Port) (etype : Nat) : Option Nat :=
  let hit := (List.range 16).find? fun i =>
    let w := s.rd (indKey (4 + p.num) (0x200 + i))
    w.getLsbD 31 && Word.field w 15 0 = etype
  match hit with
  | some i => some (Word.field (s.rd (indKey (4 + p.num) (0x200 + i))) 29 24)
  | none => if s.on (Fld.HIF_RXCLS_DEFAULT_EN p.num) then some (s.get (Fld.HIF_RXCLS_DEFAULT_RING p.num)) else none

/-- An unclaimed frame offered to a port's classifier (R416). -/
def State.offerPort (s : State) (p : Port) (f : Frame) (secured : Bool) (stamp : Option (Nat × Nat))
    (share : Option Nat) : State :=
  match s.classify p f.etype with
  | some n => s.offerRx p n f secured stamp share
  | none => s.bump (Fld.ind (4 + p.num) 0x210) 1

/-- An unclaimed frame offered to both ports (R416); the pool stores it once, with the item an egress queue already holds
(R445). -/
def State.offerHosts (s : State) (f : Frame) (secured : Bool) (stamp : Option (Nat × Nat)) (share : Option Nat) : State :=
  let x := some (share.getD s.mem.nextItem)
  (s.offerPort .a f secured stamp x).offerPort .b f secured stamp x

/-- A held frame given up (R417): discarded whole at its start; truncated part-way, the last descriptor written with
EOP, TRUNC and status TRUNC. -/
def State.giveUp (s : State) (p : Port) (h : RxHeld) : State :=
  let s1 := (s.setPort p { s.portSt p with held := (s.portSt p).held.filter (·.item ≠ h.item) }).releaseItem h.item (rxQueue p)
  match h.filled with
  | none => s1.noBuf p h.ring
  | some d =>
    ((s1.finishDesc p h.ring { (((d.complete 5 d.done).set flagEop).set flagTrunc) with dw7 := BitVec.ofNat 32 h.total }).ringCount
      p h.ring 1).rxExhaust p h.ring

/-- NETRX_HOLD_EXPIRE (R417): the first frame that a ring holds has waited HOLD × 8 µs. -/
def execNetrxHoldExpire (p : Port) (ring : Fin 64) (s : State) : Host.Outcome State Fault Refusal :=
  s.run fun s => match (s.portSt p).held.find? (·.ring = ring.val) with
    | some h => s.when (s.time.now ≥ h.since + max 1 (s.get (Fld.HIF_R_TIME_HOLD p.num ring.val)) * 8000) fun s =>
        let s1 := s.giveUp p h
        s1.serveRx p ring.val ((s1.portSt p).held.length + 1)
    | none => s

/-- EVTQ_BUFFER_CLOSE (R420): MOD_US has passed since the first record of the buffer in progress. -/
def execEvtqBufferClose (p : Port) (ring : Fin 64) (s : State) : Host.Outcome State Fault Refusal :=
  s.run fun s => s.when (s.ringMoves p ring.val && (s.ringType p ring.val = 6 || s.ringType p ring.val = 7)
      && (s.ring p ring.val).buf ≠ []
      && s.time.now ≥ (s.ring p ring.val).bufAt.getD 0 + s.get (Fld.HIF_R_TIME_MOD_US p.num ring.val) * 1000) fun s =>
    s.closeBuffer p ring.val

/-- MSIX_MODERATION_END (R408): one message covers the completions inside the window, and opens the next window. -/
def execMsixModerationEnd (p : Port) (ring : Fin 64) (s : State) : Host.Outcome State Fault Refusal :=
  s.run fun s =>
    let r := s.ring p ring.val
    s.when (r.modOpen && s.time.now ≥ r.windowAt + s.get (Fld.HIF_R_TIME_MOD_US p.num ring.val) * 1000) fun s =>
      if r.modDue then (s.setRing p ring.val { r with modDue := false, windowAt := s.time.now }).msixDue p (64 + ring.val)
      else s.setRing p ring.val { r with modOpen := false }

/-- A read by the part returned an error or timed out (R409): the descriptor concerned completes with status DMA, and
the ring stops with cause DMA. Of a NETTX ring it is the next one to be fetched, whose turn has not come where frames
before it are on their way. -/
def State.dmaFail (s : State) (p : Port) (n : Nat) : State :=
  let r := s.ring p n
  let s1 := match r.given[r.fetched]? with
    | none => s
    | some d =>
      if r.fetched = 0 then s.finishDesc p n (d.complete 4 0)
      else
        let i := (s.get (Fld.HIF_R_ST_CONS p.num n) + r.fetched) % 65536
        s.emit (.desc p n i (s.descAddr p n i) (d.complete 4 0))
  s1.stopRing p n causeDma

end Sys2Proof.Machine
end

