-- ==== Sys2Proof/Machine/Egress.lean ====
section
/-! DEFINITION. The network ports' shared operations: timestamps (R46 to R52), duplicate tables (R148), classes, gates,
shapers and admission (R165 to R168), MACsec transmission (R157, R161), and the transmit queues. -/

namespace Sys2Proof.Machine

/-! ### Names -/

def State.net (s : State) : Port → NetOne
  | .a => s.netA
  | .b => s.netB

def State.setNet (s : State) (p : Port) (x : NetOne) : State := match p with
  | .a => { s with netA := x }
  | .b => { s with netB := x }

/-- The counters of R173. -/
def Fld.netCnt (p : Port) (w : Nat) : Fld := Fld.ind (0x10 + p.num) w
def Fld.rswCnt (k w : Nat) : Fld := Fld.ind 0x12 (0x4000 + 16 * k + w)
def Fld.secyCnt (p : Port) (w : Nat) : Fld := Fld.ind 0x13 (8 * p.num + w)

/-- The two PHY reset outputs (R129): asserted in OFF and ATTEST. -/
def State.phyReset (s : State) : Bool := !s.powered || s.mode = modeAttest

/-- Whether the ring switch runs (R129): from the end of ATTEST in every mode, outside a restart of the RING domain, with
the port's and the switch's blocks enabled. In the single topology port B is held down (R139). -/
def State.portRuns (s : State) (p : Port) : Bool :=
  !s.phyReset && !s.domDown 0 && s.enabled (0x10 + p.num) && s.enabled 0x12
    && !(s.get Fld.RSW_CFG_TOPO = 3 && p = .b)

def State.link (s : State) (p : Port) : Bool := s.on (Fld.NET_STATUS_LINK p.num)

/-- The speed of a code of NET_STATUS.SPEED in Mb/s; 0 without a link (R134). -/
def speedMb (c : Nat) : Nat := match c with
  | 1 => 1000 | 2 => 2500 | 3 => 5000 | 4 => 10000 | _ => 0

def State.speed (s : State) (p : Port) : Nat := s.get (Fld.NET_STATUS_SPEED p.num)

def State.topo (s : State) : Nat := s.get Fld.RSW_CFG_TOPO
def topoHsr : Nat := 0
def topoPrp : Nat := 1
def topoBridge : Nat := 2
def topoSingle : Nat := 3

/-- The part's MAC address (R140). -/
def State.mac (s : State) : Nat := s.get Fld.RSW_MAC_HI_MAC_HI * 2 ^ 32 + s.get Fld.RSW_MAC_LO_MAC_LO

def State.nodeValid (s : State) : Bool := s.on Fld.RSW_NODE_VALID

/-- The on-wire time of a frame in ns: its octets with preamble, SFD and gap, at a speed in Mb/s. -/
def frameNs (len mb : Nat) : Nat := (len + 20) * 8000 / mb

/-! ### Limited events -/

/-- `n` faults of kind `k` counted for an event raised at most once per 10 ms, with the counts since the previous raise
packed two to a word (R150, R162). DEDUCED (assumption 35). -/
def limitCount (r : RateLimit) (k n : Nat) : RateLimit :=
  let c := if r.counts.length < 6 then [0, 0, 0, 0, 0, 0] else r.counts
  { r with counts := c.set k (c.getD k 0 + n) }

def packCounts (l : List Nat) : List Nat :=
  [min 65535 (l.getD 0 0) + 65536 * min 65535 (l.getD 1 0), min 65535 (l.getD 2 0) + 65536 * min 65535 (l.getD 3 0),
   min 65535 (l.getD 4 0) + 65536 * min 65535 (l.getD 5 0)]

/-- Event 16 (MACSEC_FAULT) for port `p`: kinds 0 ICV_FAIL, 1 REPLAY_FAIL, 2 NO_SA, 3 UNTAGGED_STRICT,
4 CHECK_ACCEPTED, 5 TX_STOPPED (R162). -/
def State.macsecFault (s : State) (p : Port) (k : Nat) : State :=
  let r := limitCount (s.net p).macsecLimit k 1
  if rateOk r.last s.time.now then
    (s.setNet p { s.net p with macsecLimit := { last := some s.time.now, counts := [] } }).raise 16 0x13
      (p.num :: packCounts r.counts)
  else s.setNet p { s.net p with macsecLimit := r }

/-- Event 17 (FRER_ANOMALY) for port `p`: kinds 0 OUT_OF_WINDOW, 1 DUP_EVICT, 2 FRER_ROGUE, 3 FRER_LOST, 4 FRER_RESET
(R150), of which `n` came at once. -/
def State.frerAnomaly (s : State) (p : Port) (k n : Nat) : State :=
  let r := limitCount (s.net p).frerLimit k n
  if rateOk r.last s.time.now then
    (s.setNet p { s.net p with frerLimit := { last := some s.time.now, counts := [] } }).raise 17 0x12
      (p.num :: packCounts r.counts)
  else s.setNet p { s.net p with frerLimit := r }

/-! ### Timestamps -/

/-- The correction register for a port, its speed and a direction (R48): 0 receive, 1 transmit. -/
def State.latPs (s : State) (p : Port) (dir : Nat) : Int :=
  s.getS (Fld.TIME_LAT_LAT_PS (p.num * 8 + (s.speed p - 1) * 2 + dir))

/-- The system counter in ps. -/
def State.counterPs (s : State) : Int := (s.time.counter.toNat * 1000 + s.time.frac.toNat * 1000 / 65536 : Nat)

/-- A count in ps taken at a port's timestamp point, as a corrected timestamp in quarter nanoseconds (R46, R48): the correction is
subtracted on receive and added on transmit, and the result rounded to the nearest 250 ps. Where within the edge of the counter the
point falls is a free value. DESIGN CHOICE (assumption 208). -/
def State.stampAt (s : State) (p : Port) (dir : Nat) (ps : Int) : Int :=
  (ps + (Config.edgePhase s.free % 16 * 250 : Nat) + (if dir = 0 then -s.latPs p 0 else s.latPs p 1) + 125) / 250

/-- A corrected network timestamp of the system counter (R46, R48). -/
def State.stampOf (s : State) (p : Port) (dir : Nat) : Nat := (s.stampAt p dir s.counterPs).toNat

/-- A corrected network timestamp of the step-free count (R62), by which residence times are taken (R164). -/
def State.freeStamp (s : State) (p : Port) (dir : Nat) : Int := s.stampAt p dir (s.time.now * 1000 : Nat)

def State.tsq (s : State) : Port → List TsEntry
  | .a => s.tsqA
  | .b => s.tsqB

def State.setTsq (s : State) (p : Port) (l : List TsEntry) : State := match p with
  | .a => { s with tsqA := l }
  | .b => { s with tsqB := l }

/-- An entry taken for a frame that requests a timestamp (R50): at most 64 in all and 48 for host frames; otherwise the
queue overflows (R51). With the units disabled none is taken (R39). The answer tells whether an entry was taken. DEDUCED (assumption 204). -/
def State.takeStamp (s : State) (p : Port) (e : TsEntry) : State × Bool :=
  let l := s.tsq p
  if !s.enabled 0x08 then (s, false)
  else if l.length < 64 && (!e.host || (l.filter (·.host)).length < 48) then
    let s1 := s.setTsq p (l ++ [e])
    let used := l.length + 1
    (if used > s1.get (Fld.TIME_TSQ_STATUS_HWM p.num) then s1.put (Fld.TIME_TSQ_STATUS_HWM p.num) used else s1, true)
  else ((s.bump (Fld.TIME_TSQ_OVF_OVF p.num) 1).raise 1 0x08 [p.num, if e.host then 1 else 0], false)

/-- An entry released: collected by its consumer, or aborted. The index of a host frame's entry is that of its EOP descriptor. -/
def State.dropStamp (s : State) (p : Port) (host : Bool) (ring index : Nat) : State :=
  s.setTsq p ((s.tsq p).filter fun e => !(e.host = host && e.ring = ring && e.index = index))

/-! ### Duplicate tables -/

/-- The outcomes of a duplicate check (R148). -/
inductive DupResult where
  | pass | duplicate | outOfWindow
deriving DecidableEq, Repr

/-- The least recently matched instant of a table. -/
def oldestUse (t : List DupEntry) : Nat := (t.map DupEntry.used).foldl min (t.headD ⟨0, 0, 0, 0⟩).used

/-- A table without the first entry matched least recently (R149). -/
def evictOldest (t : List DupEntry) : List DupEntry := t.eraseP (fun e => e.used = oldestUse t)

/-- The check of one entry against a sequence number (R148). -/
def DupEntry.check (e : DupEntry) (q now : Nat) : DupResult × DupEntry :=
  let d := (e.top + 65536 - q % 65536) % 65536
  if d ≥ 32768 then (.pass, { e with top := q % 65536, seen := (e.seen <<< (65536 - d)) ||| 1, used := now })
  else if d ≥ 256 then (.outOfWindow, { e with used := now })
  else if e.seen.getLsbD d then (.duplicate, { e with used := now })
  else (.pass, { e with seen := e.seen ||| (1 <<< d), used := now })

/-- The check of a table (R148, R149): the result, the table after it, and whether an entry was evicted. -/
def dupCheck (t : List DupEntry) (src q now : Nat) : DupResult × List DupEntry × Bool :=
  match t.find? (·.src = src) with
  | some e => let r := e.check q now; (r.1, t.map (fun x => if x.src = src then r.2 else x), false)
  | none =>
    let e : DupEntry := { src := src, top := q % 65536, seen := 1, used := now }
    if t.length ≥ 4096 then (.pass, evictOldest t ++ [e], true) else (.pass, t ++ [e], false)

/-- The duplicate table of port A (0), port B (1) or the local port (2). -/
def State.dupTable (s : State) (k : Nat) : List DupEntry :=
  if k = 0 then s.netA.dup else if k = 1 then s.netB.dup else s.rsw.dup

def State.setDupTable (s : State) (k : Nat) (t : List DupEntry) : State :=
  if k = 0 then { s with netA := { s.netA with dup := t } }
  else if k = 1 then { s with netB := { s.netB with dup := t } }
  else { s with rsw := { s.rsw with dup := t } }

/-- A frame's sequence number entered in table `k` (R148, R149): an insertion that replaces another entry counts in DUP_EVICT and
is an anomaly of port `p` (R150). -/
def State.dupEnter (s : State) (k : Nat) (p : Port) (src q : Nat) : State × DupResult :=
  let r := dupCheck (s.dupTable k) src q s.time.now
  let s1 := s.setDupTable k r.2.1
  (if r.2.2 then (s1.bump (Fld.rswCnt k 4) 1).frerAnomaly p 1 1 else s1, r.1)

/-- A frame checked against table `k`, with the counters and event 17; `p` is the port whose limit applies (R148 to
R150). -/
def State.dupJudge (s : State) (k : Nat) (p : Port) (src q : Nat) : State × DupResult :=
  let r := s.dupEnter k p src q
  match r.2 with
  | .pass => (r.1, .pass)
  | .duplicate => (r.1.bump (Fld.rswCnt k 1) 1, .duplicate)
  | .outOfWindow => ((r.1.bump (Fld.rswCnt k 2) 1).frerAnomaly p 0 1, .outOfWindow)

/-- 802.1CB vector recovery of a receive flow's R-TAG sequence number with history HIST (R146, R150): the first number
is taken; one outside the history is a rogue; one seen is a duplicate; positions that leave the history unseen are
counted as lost. The answer tells whether the frame passes. DEDUCED (assumption 39). -/
def State.frerPass (s : State) (p : Port) (flow q : Nat) : State × Bool :=
  let hist := s.get Fld.RSW_FRER_CFG_HIST
  match s.rsw.frer.find? (·.1 = flow) with
  | none =>
    ({ s with rsw := { s.rsw with frer := (flow, { src := flow, top := q % 65536, seen := 1, used := s.time.now }) :: s.rsw.frer } },
      true)
  | some (_, e) =>
    let put := fun (t : State) (x : DupEntry) =>
      { t with rsw := { t.rsw with frer := t.rsw.frer.map fun y => if y.1 = flow then (flow, x) else y } }
    let d := (e.top + 65536 - q % 65536) % 65536
    if d ≥ 32768 then
      let ahead := 65536 - d
      if ahead ≥ hist then ((s.bump (Fld.rswCnt 2 7) 1).frerAnomaly p 2 1, false)
      else
        let lost := (List.range ahead).countP fun i => !e.seen.getLsbD (hist - 1 - i)
        let s1 := put s { e with top := q % 65536, seen := (e.seen <<< ahead) ||| 1, used := s.time.now }
        (if lost = 0 then s1 else (s1.bump (Fld.rswCnt 2 8) lost).frerAnomaly p 3 lost, true)
    else if d ≥ hist then ((s.bump (Fld.rswCnt 2 7) 1).frerAnomaly p 2 1, false)
    else if e.seen.getLsbD d then (s, false)
    else (put s { e with seen := e.seen ||| (1 <<< d), used := s.time.now }, true)

/-! ### Classes and admission -/

/-- The class of a priority (R165): a map value of 7 acts as 6. -/
def State.pcpClass (s : State) (prio : Nat) : Nat :=
  min 6 (s.get Fld.RSW_PCP_MAP_MAP / 2 ^ (3 * (prio % 8)) % 8)

/-- The priority of a frame: an untagged frame counts as priority 0 (R165). -/
def Frame.prio (f : Frame) : Nat := match f.vlan with
  | some (pcp, _) => pcp
  | none => 0

/-- Whether a frame is a liner frame (R165). -/
def isLiner (f : Frame) : Bool := f.etype = 0x88B5 && f.sub % 256 = 3

/-- The class of a frame in transit (R165). -/
def State.classOf (s : State) (f : Frame) : Nat := if isLiner f then 7 else s.pcpClass (Frame.prio f)

/-- The gate control list settings of a port (R167, R169). -/
def State.qbvEn (s : State) : Port → Bool
  | .a => s.on Fld.RSW_QBV_CFG_EN_A
  | .b => s.on Fld.RSW_QBV_CFG_EN_B

def State.qbvBank (s : State) : Port → Nat
  | .a => s.get Fld.RSW_QBV_CFG_BANK_A
  | .b => s.get Fld.RSW_QBV_CFG_BANK_B

def State.qbvCyc (s : State) : Port → Nat
  | .a => s.get Fld.RSW_QBV_CFG_CYC_A
  | .b => s.get Fld.RSW_QBV_CFG_CYC_B

def qbvActF : Port → Fld
  | .a => Fld.RSW_QBV_ST_ACT_A
  | .b => Fld.RSW_QBV_ST_ACT_B

/-- The two words of entry `e` of a bank of a gate control list (R170): GATES with bit 7 reading 1, and DUR_NS without
bits [2:0]. -/
def gateWord (p : Port) (bank e : Nat) : Nat := indKey 0x12 (p.num * 0x40 + bank * 0x20 + e * 2)

def State.gateOpens (s : State) (p : Port) (bank e c : Nat) : Bool := c = 7 || (s.rd (gateWord p bank e)).getLsbD c

def State.gateDur (s : State) (p : Port) (bank e : Nat) : Nat := Word.field (s.rd (gateWord p bank e + 1)) 19 0 / 8 * 8

/-- The active bank of a port (R169). -/
def State.gateBank (s : State) (p : Port) : Nat := s.get (qbvActF p)

/-- The length of a port's gate cycle in ns (R167). -/
def State.cycleNs (s : State) (p : Port) : Nat := 2 ^ s.qbvCyc p * 125000

/-- The states of the gate of class `c` and how long each lasts, from the start of entry `e` on, within `budget` ns of the cycle
(R167): an entry of duration 0 ends the list, and every gate is then open. -/
def State.gateRuns (s : State) (p : Port) (bank c : Nat) : Nat → Nat → Nat → List (Bool × Nat)
  | 0, _, budget => [(true, budget)]
  | fuel + 1, e, budget =>
    let d := s.gateDur p bank e
    if d = 0 then [(true, budget)]
    else if d ≥ budget then [(s.gateOpens p bank e c, budget)]
    else (s.gateOpens p bank e c, d) :: s.gateRuns p bank c fuel (e + 1) (budget - d)

/-- The gate of class `c` over a whole cycle of a bank. -/
def State.gateCycle (s : State) (p : Port) (bank c : Nat) : List (Bool × Nat) := s.gateRuns p bank c 16 0 (s.cycleNs p)

/-- How long it is until a cycle of a port's list may next begin (R167): to the end of the tick in progress, and through the ticks up
to a number that is a multiple of the cycle length. -/
def State.cycleLeft (s : State) (p : Port) : Nat :=
  (s.time.tickStart.toNat + s.time.tickLen - s.time.counter.toNat)
    + (2 ^ s.qbvCyc p - 1 - s.time.tick.toNat % 2 ^ s.qbvCyc p) * 125000

/-- The gate of class `c` from now to the end of the cycle in progress; before the first cycle of a list every gate is open. -/
def State.gateRest (s : State) (p : Port) (c : Nat) : List (Bool × Nat) :=
  let left := s.cycleLeft p
  match (s.net p).gate with
  | none => [(true, left)]
  | some (e, t) =>
    let rem := t + s.gateDur p (s.gateBank p) e - s.time.now
    if rem ≥ left then [(s.gateOpens p (s.gateBank p) e c, left)]
    else (s.gateOpens p (s.gateBank p) e c, rem) :: s.gateRuns p (s.gateBank p) c (15 - e) (e + 1) (left - rem)

/-- How long a gate stays open from the start of a list of its states. -/
def openFor : List (Bool × Nat) → Nat
  | [] => 0
  | (b, d) :: l => if b then d + openFor l else 0

/-- How long a gate is open in all over a list of its states. -/
def openSum (l : List (Bool × Nat)) : Nat := sumOf ((l.filter Prod.fst).map Prod.snd)

/-- Whether a gate that was open or closed just before opens within `t` ns of a list of its states. -/
def opensWithin (was : Bool) (t : Nat) : List (Bool × Nat) → Bool
  | [] => false
  | (b, d) :: l => (b && !was) || (d < t && opensWithin b (t - d) l)

/-- Whether the gate of class `c` is open. -/
def State.gateOpen (s : State) (p : Port) (c : Nat) : Bool :=
  !s.qbvEn p || (match (s.net p).gate with
    | some (e, _) => s.gateOpens p (s.gateBank p) e c
    | none => true)

/-- How long the gate of class `c` stays open from now on, looking one cycle ahead, which runs on the bank then active (R167). -/
def State.openLeft (s : State) (p : Port) (c : Nat) : Nat :=
  openFor (s.gateRest p c ++ s.gateCycle p (s.qbvBank p) c)

/-- How long the gate of TC5 is open on average in a tick, times the ticks of a cycle, in ns (R137): always with the gates disabled. -/
def State.tc5Open (s : State) (p : Port) : Nat :=
  if s.qbvEn p then openSum (s.gateCycle p (s.gateBank p) 5) else s.cycleNs p

/-- Whether a TC5 window opens within `t` ns (R135): with the gates disabled none opens. -/
def State.tc5Near (s : State) (p : Port) (t : Nat) : Bool :=
  s.qbvEn p && opensWithin (s.gateOpen p 5) t
    (s.gateRest p 5 ++ s.gateCycle p (s.qbvBank p) 5 ++ s.gateCycle p (s.qbvBank p) 5)

/-- Whether the gate stays open long enough for a frame (R166). -/
def State.gateFits (s : State) (p : Port) (c len : Nat) : Bool :=
  c = 7 || !s.qbvEn p || frameNs len (speedMb (s.speed p)) ≤ s.openLeft p c

/-- Whether a class is paused (R171, R172). -/
def State.paused (s : State) (p : Port) (c : Nat) : Bool := c ≠ 7 && (s.get (Fld.NET_STATUS_PAUSED p.num)).testBit c

/-- The shaper's registers of class 5 or 4 of a port (R169). -/
def qavIndex (p : Port) (c : Nat) : Nat := 2 * p.num + (if c = 5 then 0 else 1)

def State.qavOn (s : State) (p : Port) (c : Nat) : Bool :=
  (c = 4 || c = 5) && s.on (Fld.RSW_QAV_EN (qavIndex p c))

/-- The idle slope in kb/s: a slope above the port's speed acts as the speed (R168). -/
def State.slope (s : State) (p : Port) (c : Nat) : Nat :=
  min (s.get (Fld.RSW_QAV_SLOPE_KBPS (qavIndex p c))) (1000 * speedMb (s.speed p))

def NetOne.credit (x : NetOne) (c : Nat) : Int := if c = 5 then x.credit5 else x.credit4
def NetOne.setCredit (x : NetOne) (c : Nat) (v : Int) : NetOne :=
  if c = 5 then { x with credit5 := v } else { x with credit4 := v }

def NetOne.queue (x : NetOne) (c : Nat) : List TxFrame := x.queues.getD c []

/-- The credit of a class reckoned up to now (R168): it is held while the gate is closed; while it is open it rises at idleSlope as long
as frames wait or it is negative, and a positive credit of an empty queue is lost. -/
def State.accrue (s : State) (p : Port) (c : Nat) : State :=
  let x := s.net p
  let sending : Bool := match x.inflight with
    | some t => t.cls = c
    | none => false
  let grown := x.credit c + (s.slope p c * (s.time.now - x.creditAt) : Nat)
  if !s.qavOn p c then s.setNet p (x.setCredit c 0)
  else if sending || !s.gateOpen p c then s
  else s.setNet p (x.setCredit c (if x.queue c = [] && grown > 0 then 0 else grown))

/-- The credits of a port's shapers reckoned up to now. -/
def State.accrueAll (s : State) (p : Port) : State :=
  let s1 := (s.accrue p 4).accrue p 5
  s1.setNet p { s1.net p with creditAt := s1.time.now }

/-- Whether a frame of class `c` and a given length is admitted (R166). -/
def State.admitted (s : State) (p : Port) (c len : Nat) : Bool :=
  s.gateOpen p c && !s.paused p c && (!s.qavOn p c || (s.net p).credit c ≥ 0) && s.gateFits p c len

/-! ### Completion of host frames -/

/-- The completed descriptors at the front of a NETTX ring written in their order (R406), the timestamp in them among the rest, with
which the entry that held it is released (R50). -/
def State.drainTx (p : Port) (n : Nat) : Nat → State → State
  | 0, s => s
  | fuel + 1, s =>
    let c := s.get (Fld.HIF_R_ST_CONS p.num n)
    match (s.ring p n).finished.find? (·.1 = c) with
    | none => s
    | some (_, d) =>
      let s1 := s.setRing p n { s.ring p n with finished := (s.ring p n).finished.filter (·.1 ≠ c),
                                                fetched := (s.ring p n).fetched - 1 }
      State.drainTx p n fuel (((s1.finishDesc p n d).dropStamp .a true (ringNo p n) c).dropStamp .b true (ringNo p n) c)

/-- The timestamp part of an EOP descriptor (R415): DW4-5, DW2[18:16] and TS; or TS_LOST. -/
def stampDesc (d : Desc) (want : Bool) (stamp : Option (Nat × Nat)) : Desc :=
  match stamp with
  | some (t, port) => { (d.set flagTs) with time := t / 4, spec := d.spec / 8 * 8 + t % 4 + 4 * port }
  | none => if want then (d.clear flagTs).set flagTsLost else d

/-- A host frame completed (R415): in its EOP descriptor, with OWN cleared in the others. Words 1 and 2 of a NETTX
ring's counters are ERRORS and TS_LOST (R429). DEDUCED (assumption 169). -/
def State.txComplete (s : State) (h : HostTx) (status : Nat) (stamp : Option (Nat × Nat)) : State :=
  let c := s.get (Fld.HIF_R_ST_CONS h.port.num h.ring)
  let r := s.ring h.port h.ring
  let done := (List.range h.count).filterMap fun k =>
    (r.given[(h.first + k + 65536 - c) % 65536]?).map fun d =>
      ((h.first + k) % 65536,
        if k + 1 = h.count then stampDesc (d.complete status (if status = 0 then h.octets else 0)) h.stamp stamp else d.clear flagOwn)
  let s1 := s.setRing h.port h.ring { r with finished := r.finished ++ done }
  let s2 := if status = 0 then s1 else s1.ringCount h.port h.ring 1
  let s3 := if h.stamp && stamp.isNone then s2.ringCount h.port h.ring 2 else s2
  (s3.drainTx h.port h.ring (done.length + r.finished.length)).stopIdle h.port h.ring

/-! ### The transmit queues -/

/-- The pool queue of a class of a port (R445). -/
def egressQueue (p : Port) (c : Nat) : Nat := 8 * p.num + c

/-- A frame reaches an egress in LPI (R135): the transmit path leaves LPI, and what it sends waits for the wake time. -/
def State.wakeLink (s : State) (p : Port) : State :=
  if s.on (Fld.NET_STATUS_LPI_TX p.num) then
    (s.setNet p { s.net p with wakeAt := s.time.now + Config.wakeNs (s.speed p) }).flag (Fld.NET_STATUS_LPI_TX p.num) false
  else s

/-- Whether the transmit path is awake: out of LPI and past its wake time. -/
def State.awake (s : State) (p : Port) : Bool :=
  !s.on (Fld.NET_STATUS_LPI_TX p.num) && s.time.now ≥ (s.net p).wakeAt

/-- A frame put at the end of its class's queue on a port, the shapers' credit having been reckoned as far as it stood without the
frame (R168). -/
def State.queueFrame (s : State) (p : Port) (t : TxFrame) : State :=
  let s1 := (s.accrueAll p).wakeLink p
  let x := s1.net p
  s1.setNet p { x with queues := x.queues.modify t.cls (· ++ [t]) }

/-- A frame queued for transmission on the ports of a list (R445, R447): its cells are charged to the staging queues of
`pre`, which must all grant, and to each egress queue that grants; an egress queue that refuses counts a DROP. `each`
gives the frame of each port. The answer holds the ports that took it. -/
def State.enqueue (s : State) (cells : Nat) (pre : List Nat) (ps : List Port) (each : Port → TxFrame) : State × List Port :=
  let qs := ps.map fun p => egressQueue p (each p).cls
  let held := s.admitQueues cells (pre ++ qs)
  if !pre.all held.contains then ((pre.filter (!held.contains ·)).foldl State.refusedCell s, [])
  else
    let took := ps.filter fun p => held.contains (egressQueue p (each p).cls)
    let lost := ps.filter fun p => !held.contains (egressQueue p (each p).cls)
    let s1 := lost.foldl (fun t p => t.refusedCell (egressQueue p (each p).cls)) s
    if took.isEmpty then (s1, [])
    else
      let x := s1.mem.nextItem
      (took.foldl (fun t p => t.queueFrame p { each p with item := some x }) (s1.storeItem cells held), took)

/-- The length a frame has on a port: 32 octets longer where MACsec protects the link (R157). -/
def State.protectedLen (s : State) (p : Port) (len : Nat) : Nat :=
  len + (if s.on (Fld.SECY_CFG_EN p.num) then 32 else 0)

/-- The ports that a frame the part originates leaves by (R144, R145, R415): both where the topology has two, port A
alone in the single topology. DEDUCED (assumption 30). -/
def State.originPorts (s : State) : List Port := if s.topo = topoSingle then [.a] else [.a, .b]

/-- The sequence numbers of the part's own frames advanced (R144, R145). -/
def State.nextSeq (s : State) : State :=
  if s.topo = topoHsr then { s with rsw := { s.rsw with hsrSeq := (s.rsw.hsrSeq + 1) % 65536 } }
  else if s.topo = topoPrp then { s with rsw := { s.rsw with prpSeq := (s.rsw.prpSeq + 1) % 65536 } }
  else s

/-- The LAN identifiers of a PRP trailer (R145): A and B as IEC 62439-3 numbers them. PRESUMED (assumption 209). -/
def lanId : Port → Nat
  | .a => 10
  | .b => 11

/-- A frame of the part with the tag of the topology: the HSR tag, or the PRP trailer of the port's LAN, 6 octets each. -/
def State.tagged (s : State) (p : Port) (f : Frame) : Frame :=
  if s.topo = topoHsr then { f with hsr := some s.rsw.hsrSeq, len := f.len + 6 }
  else if s.topo = topoPrp then { f with prp := some (s.rsw.prpSeq, lanId p), len := f.len + 6 }
  else f

/-- Whether the part may originate a frame (R149): in HSR not before FORGET has passed since a reset or restart. DEDUCED (assumption 128). -/
def State.mayOriginate (s : State) : Bool := s.topo ≠ topoHsr || s.rsw.originate

/-- A frame that the part originates (R144, R145, R149): tagged with its own sequence number, entered in the duplicate
table of each egress port in HSR, and queued. In HSR it waits for nothing: while the part may originate no ring frame
the frame is not sent. The answer holds the ports that took it. DEDUCED (assumption 128). -/
def State.originate (s : State) (f : Frame) (cls : Nat) (pre : List Nat) (ps : List Port) (mgmtStamp : Bool)
    (host : Port → Option HostTx) (flow : Option (Nat × Nat)) (oneStep : Bool := false) : State × List Port :=
  if !s.mayOriginate then (s, [])
  else
    let s1 := if s.topo = topoHsr then ps.foldl (fun t p => (t.dupEnter p.num p s.mac s.rsw.hsrSeq).1) s else s
    s1.nextSeq.enqueue (cellsFor (s.tagged .a f).len) pre ps fun p =>
      let g := s.tagged p f
      { cls := cls, frame := { g with len := s.protectedLen p g.len }, mgmtStamp := mgmtStamp, host := host p, item := none,
        poison := false, flow := flow, rx := none, start := 0, oneStep := oneStep }

/-- A frame to a link-local address, which no topology tags, queued on one port (R147). The answer tells whether the port took it. -/
def State.sendLocal (s : State) (p : Port) (f : Frame) (mgmtStamp : Bool) (oneStep : Bool := false) : State × List Port :=
  s.enqueue (cellsFor f.len) [17] [p] fun _ =>
    { cls := 6, frame := f, mgmtStamp := mgmtStamp, host := none, item := none, poison := false, flow := none, rx := none,
      start := 0, oneStep := oneStep }

/-! ### Transmission -/

/-- The largest PN and the rekey threshold (R161). -/
def State.pnMax (s : State) (p : Port) : Nat := if s.on (Fld.SECY_CFG_XPN p.num) then 2 ^ 64 - 1 else 2 ^ 32 - 1
def State.pnWarn (s : State) (p : Port) : Nat :=
  if s.on (Fld.SECY_CFG_XPN p.num) then 0xC000000000000000 else 0xC0000000

/-- The next PN of the transmit SA in use; 0 while none is installed (R157). -/
def State.txPn (s : State) (p : Port) : Nat := ((s.net p).txPn.getD (s.get (Fld.SECY_ST_TX_AN p.num)) none).getD 0

/-- The next transmit PN shown (R163): HI reads 0 without XPN. -/
def State.showTxPn (s : State) (p : Port) : State :=
  let n := s.txPn p
  (s.put (Fld.SECY_TXPN_HI_TXPN_HI p.num) (if s.on (Fld.SECY_CFG_XPN p.num) then n / 2 ^ 32 else 0)).put
    (Fld.SECY_TXPN_LO_TXPN_LO p.num) (n % 2 ^ 32)

/-- The SecTAG that a frame leaves with (R157): none on an unprotected link, and none on an MKPDU. The SCI is the part's MAC address
with a port identifier, 1 for port A and 2 for port B. PRESUMED (assumption 209). -/
def State.secTag (s : State) (p : Port) (f : Frame) : Option SecTag :=
  if s.on (Fld.SECY_CFG_EN p.num) && f.etype ≠ 0x888E then
    some { an := s.get (Fld.SECY_ST_TX_AN p.num), pn := s.txPn p, sci := s.mac * 65536 + p.num + 1 }
  else none

/-- Whether the port's MACsec blocks a frame (R161): the PN is exhausted, or no transmit SA is installed; only MKPDUs
then pass. DEDUCED (assumption 31). -/
def State.secyBlocks (s : State) (p : Port) (f : Frame) : Bool :=
  s.on (Fld.SECY_CFG_EN p.num) && f.etype ≠ 0x888E
    && (s.on (Fld.SECY_ST_TX_STOPPED p.num) || !s.on (Fld.SECY_ST_TX_KEYED p.num))

/-- The transmit PN held against its limits (R161, R163): PN_WARN stands past the threshold, TX_STOPPED at the maximum, whose onset is
a fault. -/
def State.judgePn (s : State) (p : Port) : State :=
  let n := s.txPn p
  let s1 := s.flag (Fld.SECY_ST_PN_WARN p.num) (n > s.pnWarn p)
  if n < s.pnMax p then s1.flag (Fld.SECY_ST_TX_STOPPED p.num) false
  else if s.on (Fld.SECY_ST_TX_STOPPED p.num) then s1
  else (s1.flag (Fld.SECY_ST_TX_STOPPED p.num) true).macsecFault p 5

/-- The PN consumed by a frame (R155, R161). -/
def State.usePn (s : State) (p : Port) (f : Frame) : State :=
  if !s.on (Fld.SECY_CFG_EN p.num) || f.etype = 0x888E then s
  else
    let n := s.txPn p + 1
    ((s.setNet p { s.net p with txPn := (s.net p).txPn.set (s.get (Fld.SECY_ST_TX_AN p.num)) (some n) }).showTxPn p).judgePn p

/-- Whether the part is a transparent clock (R56): in HSR under the AES67 profile, and in bridging in that role. With the timestamp
units disabled (R39) there is nothing to correct by. -/
def State.transparent (s : State) : Bool :=
  let c := s.ptpCombo
  s.ptpRuns && s.enabled 0x08 && c.2.2 = 0 && (c.1 = topoHsr || (c.1 = topoBridge && c.2.1 = 3))

/-- Four octet pairs of a 64-bit field, as a checksum adds them up. -/
def words16 (z : Int) : List Nat := (List.range 4).map fun i => (z / 2 ^ (16 * i) % 65536).toNat

/-- A sum of 16-bit words with the carries added back in. -/
def onesSum (l : List Nat) : Nat :=
  let t := sumOf l % 65536 + sumOf l / 65536
  t % 65536 + t / 65536

/-- A UDP checksum brought up to date for a 64-bit field that changes (R164), as an internet checksum: one that comes out as 0 is sent
as all ones. -/
def csumUpdate (c : BitVec 16) (old new : Int) : BitVec 16 :=
  let v := 65535 - onesSum ((65535 - c.toNat) :: (words16 old).map (65535 - ·) ++ words16 new)
  if v = 0 then 0xFFFF else BitVec.ofNat 16 v

/-- A frame with its correctionField changed (R164): a zero checksum over IPv4 stays zero. -/
def setCorr (f : Frame) (old new : Int) : Frame :=
  { f with corr := some new, csum := f.csum.map fun (v6, c) => (v6, if v6 || c ≠ 0 then csumUpdate c old new else c) }

/-- The correction of R164: the residence time in quarter nanoseconds added in units of 2^-16 ns; a field that reads the
largest value stays. -/
def correct (f : Frame) (quarters : Int) : Frame := match f.corr with
  | some c => if c = 0x7FFFFFFFFFFFFFFF then f else setCorr f c (satSigned 64 (c + quarters * 16384))
  | none => f

/-- The transmit timestamp as originTimestamp holds it (IEEE 1588): seconds in 48 bits, and nanoseconds. -/
def originWords (stamp : Nat) : List Word :=
  let sec := stamp / 4000000000
  [BitVec.ofNat 32 (sec / 2 ^ 32), BitVec.ofNat 32 sec, BitVec.ofNat 32 (stamp / 4 % 1000000000)]

/-- The frame as it leaves: corrected where it is forwarded by a transparent clock (R164); a one-step Sync of the part
carries the transmit timestamp in originTimestamp, the words behind the first of its body, and in correctionField what is below a
nanosecond (R54). DESIGN CHOICE (assumption 41). -/
def State.leaving (s : State) (p : Port) (t : TxFrame) (stamp : Nat) : Frame :=
  match t.rx with
  | some at0 => if s.transparent then correct t.frame (s.freeStamp p 1 - at0) else t.frame
  | none =>
    if t.oneStep && s.enabled 0x08 then
      { t.frame with corr := some ((stamp % 4 * 16384 : Nat) : Int), body := t.frame.body.take 1 ++ originWords stamp }
    else t.frame

/-- A frame removed from the queue of its class on a port. -/
def State.unqueue (s : State) (p : Port) (c : Nat) : State :=
  let x := s.net p
  s.setNet p { x with queues := x.queues.modify c (·.drop 1) }

/-- A queued frame given up: its cells return, and a host frame completes with a status (R52, R185). -/
def State.dropFrame (s : State) (p : Port) (t : TxFrame) (status : Nat) : State :=
  let s1 := match t.item with
    | some x => s.releaseItem x (egressQueue p t.cls)
    | none => s
  match t.host with
  | some h => s1.txComplete h status none
  | none => s1

/-- The index of a chain's EOP descriptor. -/
def HostTx.last (h : HostTx) : Nat := (h.first + h.count + 65535) % 65536

/-- Whether a frame asks for an egress timestamp (R50). -/
def TxFrame.entry (t : TxFrame) : Option TsEntry := match t.host with
  | some h => if h.stamp then some { host := true, ring := ringNo h.port h.ring, index := h.last, stamp := none } else none
  | none => if t.mgmtStamp then some { host := false, ring := 0, index := 0, stamp := none } else none

/-- The messageType of IEEE 1588 that a PTP message's first octet holds. -/
def messageType (f : Frame) : Nat := f.sub / 256 % 16

/-- The kinds of PTP event messages by their messageType. -/
def eventKind (f : Frame) : PtpKind := match messageType f with
  | 1 => .delayReq
  | 2 => .pdelayReq
  | 3 => .pdelayResp
  | _ => .sync

/-- The loss of a management frame's timestamp on a port reported to the PTP stack, which owes the message again on that port (R51,
R53). -/
def State.lostStamp (s : State) (p : Port) (f : Frame) : State :=
  { s with time := { s.time with resend := s.time.resend ++ [(eventKind f, p)] } }

/-- The on-wire octets of an unscheduled frame counted for a direction, true for transmission (R137). -/
def State.countLoad (s : State) (p : Port) (sent : Bool) (cls len : Nat) : State :=
  if cls = 5 then s
  else if sent then s.setNet p { s.net p with octOut := (s.net p).octOut + (len + 20) }
  else s.setNet p { s.net p with octIn := (s.net p).octIn + (len + 20) }

/-- A frame begins transmission on a port (R50, R51, R54, R161, R164): it takes its timestamp entry, its PN and its correction, and is
then in flight. DEDUCED (assumption 40). -/
def State.beginFrame (s : State) (p : Port) (t : TxFrame) : State :=
  if s.secyBlocks p t.frame then (s.bump (Fld.secyCnt p 7) 1).dropFrame p t 3
  else
    let stamp := s.stampOf p 1
    let r := match TxFrame.entry t with
      | some e => s.takeStamp p { e with stamp := some stamp }
      | none => (s, false)
    let f := r.1.leaving p t stamp
    let s1 := ((r.1.usePn p f).emit (.frame p f t.poison (r.1.secTag p f))).draw.countLoad p true t.cls f.len
    let lost := (TxFrame.entry t).isSome && !r.2
    let s2 := if lost && t.host.isNone then s1.lostStamp p t.frame else s1
    let y := { t with frame := f, start := if r.2 then stamp else 0, mgmtStamp := t.mgmtStamp && r.2 }
    (s2.start (.wire p)).setNet p { s2.net p with inflight := some y }

/-- The frame in flight on a port ends (R50, R154, R415): it is counted, its cells return, its timestamp is collected, its shaper pays, and a
host frame completes. -/
def State.endFrame (s : State) (p : Port) : State := match (s.net p).inflight with
  | none => s
  | some t =>
    let s0 := s.accrueAll p
    let x := { s0.net p with inflight := none, idleAt := s0.time.now }
    let mb := speedMb (s0.speed p)
    let bits := (t.frame.len + 20) * 8
    let cost : Int := if mb = 0 then 0 else ((bits * 1000 * (1000 * mb - s0.slope p t.cls) / mb : Nat) : Int)
    let x1 := if s0.qavOn p t.cls then x.setCredit t.cls (x.credit t.cls - cost) else x
    let s1 := (s0.setNet p x1).when (!t.quiet) fun s => s.bump (Fld.netCnt p (if t.poison then 6 else 5)) 1
    let s2 := match t.item with
      | some i => s1.releaseItem i (egressQueue p t.cls)
      | none => s1
    match t.host with
    | some h =>
      let had := (s2.tsq p).any fun e => e.host && e.ring = ringNo h.port h.ring && e.index = h.last
      s2.txComplete h 0 (if had then some (t.start, p.num) else none)
    | none => if t.mgmtStamp then s2.dropStamp p false 0 0 else s2

/-- The frame in flight on a port is aborted (R52, R154): its timestamp entry is released unfilled and counted, a host
frame completes with ABORT and TS_LOST, and what was sent ends poisoned. No command tells whether the abort fell before the frame's
timestamp point: it is taken to have. DESIGN CHOICE (assumption 208). -/
def State.abortFrame (s : State) (p : Port) : State := match (s.net p).inflight with
  | none => s
  | some t =>
    let s1 := (s.setNet p { s.net p with inflight := none, idleAt := s.time.now }).bump (Fld.netCnt p 6) 1
    let s2 := match t.item with
      | some i => s1.releaseItem i (egressQueue p t.cls)
      | none => s1
    match t.host with
    | some h =>
      let had := (s2.tsq p).any fun e => e.host && e.ring = ringNo h.port h.ring && e.index = h.last
      let s3 := if had then (s2.dropStamp p true (ringNo h.port h.ring) h.last).bump (Fld.TIME_TSQ_ABORT_ABORT p.num) 1 else s2
      s3.txComplete h 3 none
    | none =>
      if t.mgmtStamp then
        ((s2.dropStamp p false 0 0).bump (Fld.TIME_TSQ_ABORT_ABORT p.num) 1).lostStamp p t.frame
      else s2

/-- The highest class of a port whose first frame is admitted (R165, R166). -/
def State.selectClass (s : State) (p : Port) : Option (Nat × TxFrame) :=
  [7, 6, 5, 4, 3, 2, 1, 0].findSome? fun c => match (s.net p).queue c with
    | t :: _ => if s.admitted p c t.frame.len then some (c, t) else none
    | [] => none

end Sys2Proof.Machine
end

