-- ==== Sys2Proof/Machine/StrmBase.lean ====
section
/-! DEFINITION. The stream engine's tables as the ring switch and Cerkeha see them too: flow entries (R176, R177), sizes
and load (R174, R186), seal groups (R198, R388 to R390) and the blocks of transmit flows (R187). -/

namespace Sys2Proof.Machine

/-! ### Flow entries -/

/-- A word of the STRM indirect space. -/
def State.strmW (s : State) (w : Nat) : Word := s.rd (indKey 0x18 w)

/-- Word `i` of receive flow `f` and of transmit flow `f` (R176). -/
def State.rxW (s : State) (f i : Nat) : Word := s.strmW (16 * f + i)
def State.txW (s : State) (f i : Nat) : Word := s.strmW (0x800 + 16 * f + i)

/-- The status words (R200). -/
def Fld.rxState (f : Nat) : Fld := ⟨indKey 0x18 (0x3000 + 16 * f), 2, 0⟩
def Fld.rxCause (f : Nat) : Fld := ⟨indKey 0x18 (0x3000 + 16 * f), 7, 4⟩
def Fld.rxConflict (f : Nat) : Fld := ⟨indKey 0x18 (0x3000 + 16 * f), 8, 8⟩
def Fld.rxLastTick (f : Nat) : Fld := ⟨indKey 0x18 (0x3001 + 16 * f), 31, 0⟩
def Fld.txState (f : Nat) : Fld := ⟨indKey 0x18 (0x3800 + 16 * f), 2, 0⟩
def Fld.txCause (f : Nat) : Fld := ⟨indKey 0x18 (0x3800 + 16 * f), 7, 4⟩
def Fld.txBlock (f : Nat) : Fld := ⟨indKey 0x18 (0x3800 + 16 * f), 11, 8⟩
def Fld.txSeq (f : Nat) : Fld := ⟨indKey 0x18 (0x3801 + 16 * f), 15, 0⟩

/-- Counter `w` of a receive flow (0 PKT_OK, 1 LATE_TICKS, 2 LOST_TICKS, 3 EARLY, 4 DUP, 5 REORDER, 6 BAD_PKT, 7 SEAL_FAIL,
8 FILTER_DROP) and of a transmit flow (0 PKT_SENT, 1 MISS_A, 2 MISS_B, 3 BLOCKED_PKTS) (R201). -/
def Fld.rxCnt (f w : Nat) : Fld := Fld.ind 0x18 (0x3002 + 16 * f + w)
def Fld.txCnt (f w : Nat) : Fld := Fld.ind 0x18 (0x3802 + 16 * f + w)

/-- The states of a receive flow (R200): 0 OFF, 1 WAIT, 2 RUN, 3 LOST, 4 CFG_BAD. -/
def State.rxSt (s : State) (f : Nat) : Nat := s.get (Fld.rxState f)
/-- The states of a transmit flow (R200): 0 OFF, 1 RUN, 2 BLOCKED, 3 CFG_BAD. -/
def State.txSt (s : State) (f : Nat) : Nat := s.get (Fld.txState f)

/-- Whether a receive flow is in WAIT, RUN or LOST (R181). -/
def State.rxFlowLive (s : State) (f : Nat) : Bool := 1 ≤ s.rxSt f && s.rxSt f ≤ 3

/-- Whether a transmit flow is in RUN or BLOCKED (R183). -/
def State.txFlowLive (s : State) (f : Nat) : Bool := 1 ≤ s.txSt f && s.txSt f ≤ 2

/-- What word +0 of a flow entry says (R177): EN, SEAL, FRER, RATE, ENC, P and the channels. -/
def flowEn (w : Word) : Bool := w.getLsbD 31
def flowSeal (w : Word) : Bool := w.getLsbD 30
def flowFrer (w : Word) : Bool := w.getLsbD 29
def flowRate (w : Word) : Nat := Word.field w 28 28
def flowL16 (w : Word) : Bool := w.getLsbD 27
def flowP (w : Word) : Nat := 2 ^ Word.field w 26 25
def flowCh (w : Word) : Nat := Word.field w 21 16 + 1
def flowK (w : Word) : Nat := if flowRate w = 1 then 12 else 6
def flowBytes (w : Word) : Nat := if flowL16 w then 2 else 3

/-- A packet's payload length (R174). -/
def payloadLen (w : Word) : Nat := flowCh w * flowK w * flowP w * flowBytes w

def State.rxFlow (s : State) (f : Nat) : RxFlow := Store.get (fun _ => RxFlow.reset) s.strm.rx f
def State.setRx (s : State) (f : Nat) (x : RxFlow) : State :=
  { s with strm := { s.strm with rx := Store.set (fun _ => RxFlow.reset) s.strm.rx f x } }
def State.txFlow (s : State) (f : Nat) : TxFlow := Store.get (fun _ => TxFlow.reset) s.strm.tx f
def State.setTx (s : State) (f : Nat) (x : TxFlow) : State :=
  ({ s with strm := { s.strm with tx := Store.set (fun _ => TxFlow.reset) s.strm.tx f x } }).put (Fld.txSeq f) x.seq

/-! ### Sizes and load -/

/-- The ports that a transmit flow's packets leave by (R184). -/
def State.txPorts (s : State) (f : Nat) : List Port :=
  if s.topo = topoSingle then [.a]
  else if s.topo = topoBridge && !flowFrer (s.txW f 0) then (if (s.txW f 2).getLsbD 15 then [.b] else [.a])
  else [.a, .b]

/-- The length of a transmit flow's frame without the topology's tag and MACsec (R186). DEDUCED (assumption 59). -/
def State.txLen (s : State) (f : Nat) : Nat :=
  let w := s.txW f 0
  payloadLen w + 12 + (if flowSeal w then 20 else 0) + 28 + (if Word.field (s.txW f 2) 11 0 = 0 then 0 else 4) + 14 + 4

/-- The frame's length from DA to FCS on a port (R186). -/
def State.txFrameLen (s : State) (f : Nat) (p : Port) : Nat :=
  s.protectedLen p (s.txLen f + (if s.topo = topoHsr then 6 else 0))

/-- The on-wire size of a packet (R186): the largest over the ports used. -/
def State.txWireLen (s : State) (f : Nat) : Nat := ((s.txPorts f).map (s.txFrameLen f)).foldl max 0 + 20

/-- Whether a flow is enabled as applied: its EN and the block's (R180). -/
def State.rxOn (s : State) (f : Nat) : Bool := s.enabled 0x18 && flowEn (s.rxW f 0)
def State.txOn (s : State) (f : Nat) : Bool := s.enabled 0x18 && flowEn (s.txW f 0)

/-- The part's scheduled load (R186): the packets of every transmit flow that is enabled or has RSV set. -/
def State.ownOctets (s : State) : Nat :=
  (List.range 128).foldl (fun a f => if s.txOn f || (s.txW f 0).getLsbD 24 then a + s.txWireLen f else a) 0

/-! ### Limited events -/

/-- An event of a flow, raised at most once per 10 ms per flow, with the flow's number, the occurrences since the previous
raise, and what else the event tells (R202). DEDUCED (assumption 60). -/
def State.flowEvent (s : State) (ev key flow : Nat) (extra : List Nat) : State :=
  let k := 256 * ev + key
  let r := Store.get (fun _ => RateLimit.reset) s.strm.limits k
  let n := r.counts.headD 0 + 1
  let keep := fun (x : RateLimit) (t : State) =>
    { t with strm := { t.strm with limits := Store.set (fun _ => RateLimit.reset) t.strm.limits k x } }
  if rateOk r.last s.time.now then
    (keep { last := some s.time.now, counts := [] } s).raise ev 0x18 (flow :: n :: extra)
  else keep { r with counts := [n] } s

/-- Event 63 (SECURITY), at most once per 10 ms per cause, each occurrence logged (R396). `key` tells the causes apart. -/
def State.event63 (s : State) (key : Nat) (dw : List Nat) : State :=
  let k := 256 * 63 + key
  let r := Store.get (fun _ => RateLimit.reset) s.strm.limits k
  if rateOk r.last s.time.now then
    ({ s with strm := { s.strm with limits := Store.set (fun _ => RateLimit.reset) s.strm.limits k
                                                { last := some s.time.now, counts := [] } } }).raise 63 0x40 dw
  else s.note 0x40 dw

/-! ### Seal groups -/

/-- The status words of a seal group (R200). -/
def Fld.sealNokey (g : Nat) : Fld := ⟨indKey 0x18 (0x4000 + 4 * g), 8, 8⟩
def Fld.sealEpoch (g : Nat) : Fld := ⟨indKey 0x18 (0x4000 + 4 * g), 7, 0⟩
def Fld.sealSent (g : Nat) : Fld := ⟨indKey 0x18 (0x4001 + 4 * g), 20, 0⟩

/-- Word of seal group `g`, record `r` (R398). -/
def State.sealRec (s : State) (g r : Nat) : Word := s.rd (indKey 0x40 (2 * g + r))

/-- Whether a record covers an epoch (R388). -/
def recCovers (w : Word) (e : Nat) : Bool :=
  w.getLsbD 31 && (e + 256 - Word.field w 15 8) % 256 ≤ Word.field w 6 0

/-- Whether an epoch is installed in a group (R388). -/
def State.sealCovered (s : State) (g e : Nat) : Bool := recCovers (s.sealRec g 0) e || recCovers (s.sealRec g 1) e

/-- Whether a group has the key of its current epoch. -/
def State.sealKeyed (s : State) (g : Nat) : Bool := s.sealCovered g (s.get (Fld.sealEpoch g))

/-- The whole seconds a group's epoch has been in use (R200). DEDUCED (assumption 52). -/
def State.sealAge (s : State) (g : Nat) : Nat := match s.strm.sealAt.find? (·.1 = g) with
  | some x => min 3600 ((s.time.now - x.2) / 1000000000)
  | none => 0

/-- Whether a group's next packet takes the next epoch (R198). -/
def State.sealDue (s : State) (g : Nat) : Bool := s.get (Fld.sealSent g) ≥ 2 ^ 20 || s.sealAge g ≥ 3600

/-- SEAL_LOW (R390): 16 or fewer epochs are left in the record of the current epoch, and no record covers the one after
it; once per record. -/
def State.sealLow (s : State) (g : Nat) : State :=
  let e := s.get (Fld.sealEpoch g)
  [0, 1].foldl (fun t r =>
    let w := t.sealRec g r
    let left := Word.field w 6 0 - (e + 256 - Word.field w 15 8) % 256
    if recCovers w e && left ≤ 16 && !t.sealCovered g ((e + left + 1) % 256) && !t.strm.low.contains (2 * g + r) then
      ({ t with strm := { t.strm with low := (2 * g + r) :: t.strm.low } }).event63 3 [Config.cause63 3, g, r]
    else t) s

/-- A group's epoch begins: its count and age are 0. -/
def State.setEpoch (s : State) (g e : Nat) : State :=
  (({ s with strm := { s.strm with sealAt := s.strm.sealAt.filter (·.1 ≠ g) } }).put (Fld.sealEpoch g) e).put (Fld.sealSent g) 0

/-! ### Blocks -/

/-- The blocks of R187 that stand for a transmit flow: 1 no node, 2 conflict, 4 no key, 8 mode. -/
def State.blocksOf (s : State) (f : Nat) : Nat :=
  let w := s.txW f 0
  let g := Word.field (s.txW f 4) 15 12
  (if s.nodeValid then 0 else 1) + (if flowSeal w && s.on Fld.RSW_NODE_ST_CONFLICT then 2 else 0)
    + (if flowSeal w && !s.sealKeyed g then 4 else 0) + (if s.mode = modeNightcap || s.mode = modeShelter then 8 else 0)

/-- A transmit flow's blocks reckoned afresh (R183, R187, R198): one that begins makes it BLOCKED, logged, and the packets that are not
yet released are not sent, and counted, for none of them begins after the clearing; with every block cleared it is RUN again. A group found without the key it needs sets NOKEY, with event 24, cause 5. BLOCK of a flow in CFG_BAD
follows what stands too (R200). DEDUCED (assumption 60). -/
def State.reblock (s : State) (f : Nat) : State :=
  if s.txSt f = 0 then s
  else if s.txSt f = 3 then s.put (Fld.txBlock f) (s.blocksOf f)
  else
    let b := s.blocksOf f
    let g := Word.field (s.txW f 4) 15 12
    let s1 := s.put (Fld.txBlock f) b
    let s2 := if b / 4 % 2 = 1 && !s1.on (Fld.sealNokey g) then
        (s1.flag (Fld.sealNokey g) true).flowEvent 24 (128 + f) f [5]
      else s1
    if b ≠ 0 then
      let y := s2.txFlow f
      let s3 := (s2.setTx f { y with blocked := true, closed := [] }).bump (Fld.txCnt f 3) y.closed.length
      if s3.txSt f = 1 then (s3.put (Fld.txState f) 2).note 0x18 [0x800 + 16 * f, b] else s3
    else s2.put (Fld.txState f) 1

/-- Every flow's blocks and every group's NOKEY reckoned afresh. -/
def State.reblockAll (s : State) : State :=
  let s1 := (List.range 16).foldl (fun t g => if t.sealKeyed g then t.flag (Fld.sealNokey g) false else t) s
  (List.range 128).foldl State.reblock s1

/-- A group moves to its next epoch (R198), and the blocks follow. -/
def State.nextEpoch (s : State) (g : Nat) : State :=
  ((s.setEpoch g ((s.get (Fld.sealEpoch g) + 1) % 256)).sealLow g).reblockAll

/-- A group's first epoch: the FIRST epoch of the first record that it is given; the spec names none. DEDUCED (assumption 53). -/
def State.beginGroup (s : State) (g : Nat) : State :=
  let w := if (s.sealRec g 0).getLsbD 31 then s.sealRec g 0 else s.sealRec g 1
  if s.strm.begun.contains g || !w.getLsbD 31 then s
  else { s with strm := { s.strm with begun := g :: s.strm.begun } }.setEpoch g (Word.field w 15 8)

/-- Record `n` = 2g + r of a group has changed since `old` (R389): where that leaves its current epoch uncovered the group moves to the
FIRST epoch of its other record, with its count and age at 0. A group without one, and one that waits for a key already, is BLOCKED
until that key is installed (R198). -/
def State.regroup (old s : State) (n : Nat) : State :=
  let g := n / 2
  let s1 := s.beginGroup g
  let other := s1.sealRec g (1 - n % 2)
  let s2 := if old.sealKeyed g && !s1.sealKeyed g && other.getLsbD 31 then s1.setEpoch g (Word.field other 15 8) else s1
  (s2.sealLow g).reblockAll

/-- SEAL_EPOCH_ADVANCE (R198). -/
def execSealEpochAdvance (g : Fin 16) (s : State) : Host.Outcome State Fault Refusal :=
  s.run fun s => s.when (s.sealDue g.val) fun s => s.nextEpoch g.val

end Sys2Proof.Machine
end

