-- ==== Sys2Proof/Machine/Net.lean ====
section
/-! DEFINITION. The network ports and the ring switch: reception and forwarding (R133, R144 to R160), transmission
(R165), links and their speed (R132, R135 to R138), the node table (R140 to R143), ring supervision (R151), MKA (R158 to
R161), gates (R167) and pause (R171, R172), and the PTP stack's messages (R53, R57). -/

namespace Sys2Proof.Machine

/-! ### Reception -/

/-- Whether a frame is to a link-local address or is an MKPDU or MAC control frame, which no port forwards (R147). -/
def linkLocal (f : Frame) : Bool :=
  (0x0180C2000000 ≤ f.dst && f.dst ≤ 0x0180C200000F) || f.etype = 0x888E || f.etype = 0x8808

/-- Whether a destination is a group address. -/
def isGroup (dst : Nat) : Bool := dst / 2 ^ 40 % 2 = 1

/-- The management groups (R144): those of PTP, of the node announcement and of IEC 62439-3 supervision. The spec names
what they include and not the addresses of PTP and supervision: PRESUMED. PRESUMED (assumption 29). -/
def isMgmtGroup (dst : Nat) : Bool :=
  dst = 0x034B55000001 || dst = 0x011B19000000 || dst = 0x0180C200000E || dst = 0x01005E000181 || dst = 0x01005E00006B
    || (0x01154E000100 ≤ dst && dst ≤ 0x01154E0001FF)

/-- The MAC address of a multicast IPv4 address (RFC 1112, R177). -/
def multicastMac (ip : Nat) : Nat := 0x01005E000000 + ip % 0x800000

/-- Whether a destination is the group of a receive flow (R144). -/
def State.isFlowGroup (s : State) (dst : Nat) : Bool :=
  (List.range 128).any fun f =>
    s.rxFlowLive f && (let ip := (s.strmW (16 * f + 1)).toNat; ip / 2 ^ 28 = 14 && dst = multicastMac ip)

/-- Whether a destination is a valid entry of the group table (R170). -/
def State.inGroupTable (s : State) (dst : Nat) : Bool :=
  (List.range 64).any fun e =>
    let lo := s.rd (indKey 0x12 (0x100 + 2 * e))
    let hi := s.rd (indKey 0x12 (0x101 + 2 * e))
    hi.getLsbD 31 && dst = Word.field hi 15 0 * 2 ^ 32 + lo.toNat

/-- Whether a group address is subscribed (R144). -/
def State.subscribed (s : State) (dst : Nat) : Bool :=
  dst = 0xFFFFFFFFFFFF || isMgmtGroup dst || s.isFlowGroup dst || s.inGroupTable dst

/-- Whether a frame is a datagram of a receive flow's address and port (R188). -/
def State.streamClaims (s : State) (f : Frame) : Bool := match f.udp with
  | none => false
  | some (_, dst, port) => (List.range 128).any fun k =>
      s.rxFlowLive k && (s.strmW (16 * k + 1)).toNat = dst && Word.field (s.strmW (16 * k)) 15 0 = port

/-- Whether the management firmware claims a frame (R416): PTP, MKPDUs, EtherType 0x88B5 and IEC 62439-3 supervision
frames. PRESUMED (assumption 29). -/
def mgmtClaims (f : Frame) : Bool :=
  f.etype = 0x88F7 || f.etype = 0x888E || f.etype = 0x88B5 || f.etype = 0x88FB
    || (match f.udp with
        | some (_, _, port) => port = 319 || port = 320
        | none => false)

/-- The octets of a frame beyond MACsec's 32 (R157). -/
def plainLen (f : Frame) (m : RxMark) : Nat := f.len - (if m.sec.isSome then 32 else 0)

/-- The faults found at or after a frame's end (R154). -/
inductive RxFault where
  | none | lost | oversize | runt | fcs | icv | replay
deriving DecidableEq, Repr

/-- Whether the SecTAG check discards a frame at once, whatever VALIDATE says (R160): an AN without an SA; and under
Strict an unprotected frame other than an MKPDU or MAC control frame. Such a frame counts in none of RX_OVERSIZE, RX_RUNT and
RX_FCS_ERR (R133), whatever else is wrong with it. DESIGN CHOICE (assumption 237), DEDUCED (assumption 31). -/
def State.secyDrop (s : State) (p : Port) (f : Frame) (m : RxMark) : Option Nat := match m.sec with
  | some (an, _, _) =>
    if s.on (Fld.SECY_CFG_EN p.num) && (s.get (Fld.SECY_ST_RX_AN_VALID p.num)).testBit an then none else some 2
  | none =>
    if s.on (Fld.SECY_CFG_EN p.num) && s.get (Fld.SECY_CFG_VALIDATE p.num) ≠ 1 && f.etype ≠ 0x888E && f.etype ≠ 0x8808
    then some 3 else none

/-- The lowest acceptable receive PN under an AN: the next PN less the replay window (R163). -/
def State.lowestPn (s : State) (p : Port) (an : Nat) : Nat :=
  (s.net p).rxPn.getD an 1 - s.get (Fld.SECY_CFG_REPLAY_WIN p.num)

/-- The lowest acceptable receive PN shown, under the AN that the receive channel uses. -/
def State.showRxPn (s : State) (p : Port) (an : Nat) : State :=
  let n := s.lowestPn p an
  ((s.setNet p { s.net p with rxAn := an }).put (Fld.SECY_RXPN_HI_RXPN_HI p.num) (if s.on (Fld.SECY_CFG_XPN p.num) then n / 2 ^ 32 else 0)).put
    (Fld.SECY_RXPN_LO_RXPN_LO p.num) (n % 2 ^ 32)

/-- The checks of a whole frame in their order (R133, R154, R156, R160): link, length, FCS, ICV, replay. A frame counts by the first
that it fails: one too long or too short does not count in RX_POISONED too where its FCS is complemented. DESIGN CHOICE
(assumption 237). -/
def State.rxFault (s : State) (p : Port) (f : Frame) (m : RxMark) : RxFault :=
  if m.linkLost then .lost
  else if f.len > s.get (Fld.NET_MAXFRAME_MAX p.num) then .oversize
  else if f.len < 64 then .runt
  else if !m.fcsOk then .fcs
  else match m.sec with
    | some (an, pn, icv) => if !icv then .icv else if pn < s.lowestPn p an then .replay else .none
    | none => .none

/-- Under Check, frames that fail their ICV or replay check, and unprotected ones, are accepted and counted (R160). -/
def State.checkMode (s : State) (p : Port) : Bool := s.get (Fld.SECY_CFG_VALIDATE p.num) = 1

/-- The counts of a received frame's outcome, the receive PN, and whether the frame is whole and good. Under Check, unprotected MKPDUs
and MAC control frames, which Strict lets pass, do not count in CHECK_ACCEPTED. DESIGN CHOICE (assumption 237). -/
def State.judgeRx (s : State) (p : Port) (f : Frame) (m : RxMark) : State × Bool :=
  let accept := fun (t : State) => (t.bump (Fld.netCnt p 0) 1, true)
  let learn := fun (t : State) (an pn : Nat) =>
    let x := t.net p
    (t.setNet p { x with rxPn := x.rxPn.set an (max (x.rxPn.getD an 1) (pn + 1)) }).showRxPn p an
  match s.rxFault p f m with
  | .lost => (s, false)
  | .oversize => (s.bump (Fld.netCnt p 3) 1, false)
  | .runt => (s.bump (Fld.netCnt p 4) 1, false)
  | .fcs => (s.bump (Fld.netCnt p (if m.poisoned then 2 else 1)) 1, false)
  | .icv =>
    if s.checkMode p then accept ((s.bump (Fld.secyCnt p 4) 1).macsecFault p 4)
    else ((s.bump (Fld.secyCnt p 0) 1).macsecFault p 0, false)
  | .replay =>
    if s.checkMode p then accept ((s.bump (Fld.secyCnt p 4) 1).macsecFault p 4)
    else ((s.bump (Fld.secyCnt p 1) 1).macsecFault p 1, false)
  | .none => match m.sec with
    | some (an, pn, _) => accept (learn s an pn)
    | none =>
      if s.on (Fld.SECY_CFG_EN p.num) && s.checkMode p && f.etype ≠ 0x888E && f.etype ≠ 0x8808
      then accept ((s.bump (Fld.secyCnt p 4) 1).macsecFault p 4) else accept s

/-- The counter of SECY that a poisoned cut-through frame advances besides (R154). -/
def poisonCounter : RxFault → Option Nat
  | .icv => some 5
  | .replay => some 6
  | _ => none

/-- The length at which a cut-through frame ends (R154): a duplicate at 64 octets, one that its link fails or that is too
short padded to 64, one too long at the longest frame. -/
def cutLen (fault : RxFault) (dup : DupResult) (len longest : Nat) : Nat :=
  if dup ≠ .pass then 64
  else match fault with
    | .lost | .runt => max 64 len
    | .oversize => min longest len
    | _ => len

/-- Whether a frame is forwarded cut-through to port `q` (R152, R153): allowed, at an egress no faster than the ingress
that is idle and awake (R135), its class admitted for the longest frame, no frame of a higher class waiting; and its
decision point reached. -/
def State.cutsThrough (s : State) (p q : Port) (f : Frame) (cls : Nat) : Bool :=
  s.on Fld.RSW_CFG_CUT && (s.topo = topoHsr || s.topo = topoBridge) && f.len ≥ 32
    && speedMb (s.speed q) ≤ speedMb (s.speed p) && (s.net q).inflight.isNone && s.awake q
    && s.admitted q cls (s.get (Fld.NET_MAXFRAME_MAX q.num))
    && (List.range 8).all fun c => c ≤ cls || (s.net q).queue c = []

/-- A duplicate check against a port's table where the topology and the frame have a sequence number (R144). -/
def State.dupFor (s : State) (k : Nat) (p : Port) (src : Nat) (seq : Option Nat) : State × DupResult := match seq with
  | some q => s.dupJudge k p src q
  | none => (s, .pass)

/-- A frame passed on to the other port (R144, R146, R148, R152, R154): cut through, and poisoned where a fault is found
after it has begun; or stored once whole and good. A frame cut through reached its ingress point the time of the pipeline before it
begins at the egress (R153), which both timestamps of R46 frame as they do for a stored one (R164). The answer's second part is the
pool item of a stored frame. DESIGN CHOICE (assumptions 28, 41), DEDUCED (assumption 33). -/
def State.passOn (s : State) (p : Port) (f : Frame) (m : RxMark) (ok : Bool) : State × Option Nat :=
  let q := p.other
  let s := s.accrueAll q
  let cls := s.classOf f
  if !s.link q || !s.portRuns q then (s, none)
  else
    let seq := if s.topo = topoHsr then f.hsr else none
    let out := { f with len := s.protectedLen q (plainLen f m) }
    if s.cutsThrough p q f cls then
      let d := s.dupFor q.num p f.src seq
      let bad := !ok || d.2 ≠ .pass
      let s1 := d.1.bump (Fld.rswCnt q.num 5) 1
      let s2 := match (if ok then none else poisonCounter (s1.rxFault p f m)) with
        | some w => s1.bump (Fld.secyCnt p w) 1
        | none => s1
      let fault := s1.rxFault p f m
      (s2.beginFrame q { cls := cls, frame := { out with len := cutLen fault d.2 out.len (s.get (Fld.NET_MAXFRAME_MAX p.num)) },
                         mgmtStamp := false, host := none, item := none, poison := bad, flow := none,
                         rx := some (s2.freeStamp p 0 - Config.cutLatency s2.free), start := 0,
                         quiet := (poisonCounter fault).isSome && !ok && d.2 = .pass }, none)
    else if !ok then (s, none)
    else
      let d := s.dupFor q.num p f.src seq
      if d.2 ≠ .pass then (d.1, none)
      else
        let x := d.1.mem.nextItem
        let r := (d.1.bump (Fld.rswCnt q.num 6) 1).enqueue (cellsFor f.len) [] [q] fun _ =>
          { cls := cls, frame := out, mgmtStamp := false, host := none, item := none, poison := false, flow := none,
            rx := some (s.freeStamp p 0), start := 0 }
        if r.2.isEmpty then (r.1.bump (Fld.netCnt p 13) 1, none) else (r.1, some x)

/-- Whether the MAC consumes a frame (R147): PAUSE and PFC, by the opcode that follows EtherType 0x8808 (IEEE 802.3). Other MAC
control frames go to the local port. -/
def macConsumes (f : Frame) : Bool := f.etype = 0x8808 && (f.sub = 0x0001 || f.sub = 0x0101)

/-- Whether the stack may be master (R56, R57): SLAVE_ONLY bars the ordinary clock, and leaves a boundary clock and a time-aware
relay free, which send on what they receive. -/
def State.mayMaster (s : State) : Bool :=
  !s.on Fld.TIME_PTP_CFG_SLAVE_ONLY || (s.ptpCombo.1 = topoBridge && s.ptpCombo.2.1 ≠ 1 && s.ptpCombo.2.1 ≠ 3)

/-- Whether a master is better than the part's own clock (IEEE 1588's comparison, as far as its terms stand in R57): by priority1,
then priority2, then address. PRESUMED (assumption 224). -/
def State.betterMaster (s : State) (p1 p2 mac : Nat) : Bool :=
  let a := s.get Fld.TIME_PTP_PRIO_PRIORITY1
  let b := s.get Fld.TIME_PTP_PRIO_PRIORITY2
  p1 < a || (p1 = a && (p2 < b || (p2 = b && mac < s.mac)))

/-- An Announce message of the stack's domain that the firmware reads (R57, R531): its sender is selected as the grandmaster where the
part may not be master or the sender is better; until a measurement comes the servo only measures, and a clock of the part that was
MASTER (6) there is UNCALIBRATED (8). PRESUMED (assumptions 224, 233). -/
def State.announceHeard (s : State) (p : Port) (f : Frame) : State :=
  let w := fun i => (f.body.getD i 0).toNat
  if f.etype = 0x88F7 && messageType f = 11 && s.ptpRuns && w 0 = s.get Fld.TIME_PTP_CFG_DOMAIN
      && (!s.mayMaster || s.betterMaster (w 1) (w 2) f.src)
      && !(s.on Fld.TIME_PTP_STATUS_GM_PRESENT && s.get Fld.TIME_PTP_STATUS_SERVO ≠ servoMaster) then
    ((({ s with time := { s.time with confirm := 0, stepDelta := none, measured := false } }).flag
      Fld.TIME_PTP_STATUS_GM_PRESENT true).servoPut servoMeasuring).moveState [6] 8 (s.pstate p)
  else s

/-- A good frame that reaches the local port (R144 to R147, R160, R416): past the local duplicate check, it goes to the
stream engine, to the firmware through queue 16, or to the hosts' classifiers. -/
def State.deliverLocal (s : State) (p : Port) (f : Frame) (m : RxMark) (item : Option Nat) : State :=
  let seq := if s.topo = topoHsr then f.hsr else if s.topo = topoPrp then f.prp.map Prod.fst else none
  let d := s.dupFor 2 p f.src seq
  if d.2 ≠ .pass then d.1
  else if macConsumes f then d.1
  else if d.1.streamClaims f then d.1
  else if mgmtClaims f then
    (if d.1.grantAll 16 (cellsFor f.len) item.isNone then (d.1.emit (.toFirmware f)).announceHeard p f else d.1.refusedCell 16)
  else d.1.offerHosts f m.sec.isSome (if d.1.enabled 0x08 then some (d.1.stampOf p 0, p.num) else none) item

/-- Whether a frame's VLAN is in the forward set (R146): an untagged or priority-tagged frame counts as VLAN 1. -/
def State.forwards (s : State) (f : Frame) : Bool :=
  let v := match f.vlan with
    | some (_, vid) => if vid = 0 then 1 else vid
    | none => 1
  (s.rd (indKey 0x12 (0x200 + v / 32))).getLsbD (v % 32)

/-- Whether a frame goes to the local port, by its destination (R144). -/
def State.forLocal (s : State) (f : Frame) : Bool := f.dst = s.mac || (isGroup f.dst && s.subscribed f.dst)

/-- Where a frame goes once received (R144 to R147): the part's own source reaches the local port in no topology with a ring or a
bridge. DEDUCED (assumption 33). -/
def State.route (s : State) (p : Port) (f : Frame) (m : RxMark) (ok : Bool) : State :=
  if s.topo = topoHsr && f.src = s.mac then s.bump (Fld.rswCnt p.num 0) 1
  else if linkLocal f then (if ok then s.deliverLocal p f m none else s)
  else if s.topo = topoHsr then
    (if f.hsr.isNone then s.bump (Fld.rswCnt p.num 3) 1
     else
       let r := if f.dst = s.mac then (s, none) else s.passOn p f m ok
       if ok && r.1.forLocal f then r.1.deliverLocal p f m r.2 else r.1)
  else if s.topo = topoBridge then
    (let r := if f.dst ≠ s.mac && s.forwards f then s.passOn p f m ok else (s, none)
     if ok && f.src ≠ s.mac && r.1.forLocal f then r.1.deliverLocal p f m r.2 else r.1)
  else if ok && s.forLocal f then s.deliverLocal p f m none
  else s

/-- FRAME_RECEIVE (R144). DESIGN CHOICE (assumption 24). -/
def execFrameReceive (p : Port) (f : Frame) (m : RxMark) (s : State) : Host.Outcome State Fault Refusal :=
  s.run fun s => s.when (s.portRuns p && s.link p) fun s => match s.secyDrop p f m with
    | some k => (s.bump (Fld.secyCnt p k) 1).macsecFault p k
    | none =>
      let r := ((s.flag (Fld.NET_STATUS_LPI_RX p.num) false).countLoad p false (s.classOf f) f.len).judgeRx p f m
      (r.1.route p f m r.2).draw

/-! ### Transmission -/

/-- Whether a port's wire is free: nothing is in flight, or the frame in flight has had its time on the wire. -/
def State.wireFree (s : State) (p : Port) : Bool := match (s.net p).inflight with
  | some t => s.ran (.wire p) (frameNs t.frame.len (speedMb (s.speed p)))
  | none => true

/-- FRAME_TRANSMIT (R165): the frame in flight ends, and the highest admitted class's first frame begins, once the egress is awake
(R135). DESIGN CHOICE (assumption 28). -/
def execFrameTransmit (p : Port) (s : State) : Host.Outcome State Fault Refusal :=
  s.run fun s => s.when (s.portRuns p && s.link p && s.wireFree p) fun s =>
    let s1 := (s.endFrame p).accrueAll p
    match (if s1.awake p then s1.selectClass p else none) with
    | some (c, t) => (s1.unqueue p c).beginFrame p t
    | none => s1

/-- LPI_ENTER (R135): with EEE negotiated, no frame queued or in transmission, the transmit path idle for IDLE_US, and no TC5 window
that opens within the speed's wake time. -/
def execLpiEnter (p : Port) (s : State) : Host.Outcome State Fault Refusal :=
  s.run fun s =>
    let x := s.net p
    s.when (s.portRuns p && s.link p && s.on (Fld.NET_EEE_EN p.num) && s.on (Fld.NET_STATUS_EEE_ACTIVE p.num)
        && !s.on (Fld.NET_STATUS_LPI_TX p.num) && x.inflight.isNone && x.queues.all (· = [])
        && s.time.now ≥ x.idleAt + max 1 (s.get (Fld.NET_EEE_IDLE_US p.num)) * 1000
        && !s.tc5Near p (Config.wakeNs (s.speed p))) fun s =>
      (s.flag (Fld.NET_STATUS_LPI_TX p.num) true).bump (Fld.netCnt p 10) 1

/-! ### Node announcements -/

/-- The body of R141, octets 0 to 39 as ten words, most significant octet first. -/
def State.frameBody (s : State) (ty count octets flags node : Nat) : List Word :=
  let spd := s.speed .b * 16 + s.speed .a
  [BitVec.ofNat 32 (0x01000000 + ty * 0x10000 + flags * 0x1000 + node), BitVec.ofNat 32 (s.mac / 2 ^ 16),
   BitVec.ofNat 32 (s.mac % 2 ^ 16 * 2 ^ 16 + spd * 256), s.time.tick, BitVec.ofNat 32 count,
   BitVec.ofNat 32 (octets % 2 ^ 24), 0, 0, 0, 0]

/-- Whether a port is in PENDING, RETRAIN or SETTLE (R134, R138). -/
def State.changing (s : State) (p : Port) : Bool := (s.net p).speedState ≠ .steady

/-- The flags of octets 2-3: RETRAIN, CONFLICT, ALARM (R141). -/
def State.annFlags (s : State) : Nat :=
  (if s.changing .a || s.changing .b then 8 else 0) + (if s.on Fld.RSW_NODE_ST_CONFLICT then 4 else 0)
    + (if s.inAlarm then 2 else 0)

/-- A frame of EtherType 0x88B5 from the part: DA, SA, an IEEE 802.1Q tag where the frame's kind is sent with a priority (R141),
EtherType, body and FCS. -/
def State.ownFrame (s : State) (dst ty : Nat) (pcp : Option Nat) (body : List Word) : Frame :=
  { dst := dst, src := s.mac, vlan := pcp.map (·, 0), etype := 0x88B5, sub := 0x0100 + ty,
    len := max 64 (18 + (if pcp.isSome then 4 else 0) + 4 * body.length),
    hsr := none, prp := none, rtag := none, udp := none, corr := none, body := body }

/-- The count of frames of a TYPE sent, advanced. -/
def State.countSent (s : State) (i : Nat) : State :=
  { s with rsw := { s.rsw with sentCounts := s.rsw.sentCounts.modify i (fun n => (n + 1) % 2 ^ 32) } }

/-- A node announcement sent (R141), where the node number is valid (R140) and the part may originate frames (R149). Octets 16 to 19
count the frames sent before it: the first one carries 0. DESIGN CHOICE (assumption 210). -/
def State.announce (s : State) : State :=
  if !s.nodeValid || !s.mayOriginate then s
  else
    let b := s.frameBody 1 (s.rsw.sentCounts.getD 0 0) s.ownOctets s.annFlags (s.get Fld.RSW_NODE_NODE)
    ((s.originate (s.ownFrame 0x034B55000001 1 (some 6) b) 6 [17] s.originPorts false (fun _ => none) none).1).countSent 0

/-- Whether the management firmware runs: it has started (R370, step 6), and MGMT is not restarting (R359). -/
def State.mgmtRuns (s : State) : Bool := s.powered && s.mode ≠ modeAttest && s.plat.fwUp && !s.domDown 8

/-- NODE_ANNOUNCE_SEND (R141): every 1 s. -/
def execNodeAnnounceSend (s : State) : Host.Outcome State Fault Refusal :=
  s.run fun s => s.when (s.mgmtRuns && s.ran .announce 1000000000) fun s => (s.start .announce).announce

/-- The key of the second word of node-table entry `n` (R170). -/
def nodeKey (n : Nat) : Nat := indKey 0x12 (0x1000 + 2 * n)

/-- The entries of the node table in use that satisfy a test of their second word (R142). -/
def State.nodesWhere (s : State) (f : Word → Bool) : Nat :=
  s.regs.countP fun (k, w) =>
    indKey 0x12 0x1000 ≤ k && k < indKey 0x12 0x3000 && (k - indKey 0x12 0x1000) % 2 = 1 && w.getLsbD 31 && f w

/-- A speed change given up or ended (R138): back in STEADY, the flag cleared. -/
def State.toSteady (s : State) (p : Port) : State :=
  (s.setNet p { s.net p with speedState := .steady }).flag (Fld.NET_STATUS_RETRAIN p.num) false

/-- A change that is only PENDING is given up. -/
def State.cancelPending (s : State) (p : Port) : State :=
  if (s.net p).speedState = .pending then s.toSteady p else s

/-- The entry of an announcement's node filled (R142): the first address heard stays; the ports are those on which the copies
of the last announcement came, which its count of octets 16 to 19 tells apart (R141). DEDUCED (assumption 202). -/
def State.fillNode (s : State) (p : Port) (m : Announce) : State :=
  let n := m.node.toNat
  let old := s.rd (nodeKey n + 1)
  let keep := old.getLsbD 31
  let lo := if keep then s.rd (nodeKey n) else BitVec.ofNat 32 m.mac
  let hi := if keep then Word.field old 15 0 else m.mac / 2 ^ 32 % 65536
  let again := keep && s.rsw.nodeCounts.any fun x => x.1 = n && x.2 = m.count.toNat
  let ports := (if again then Word.field old 30 29 else 0) ||| (p.num + 1)
  let w := BitVec.ofNat 32 (2 ^ 31 + ports * 2 ^ 29 + (if m.retrain then 2 ^ 28 else 0) + (if m.conflict then 2 ^ 27 else 0) + hi)
  let s1 := (s.wr (nodeKey n) lo).wr (nodeKey n + 1) w
  { s1 with rsw := { s1.rsw with nodeOctets := (n, m.octets.toNat) :: s1.rsw.nodeOctets.filter (·.1 ≠ n),
                                 nodeCounts := (n, m.count.toNat) :: s1.rsw.nodeCounts.filter (·.1 ≠ n) } }

/-- A node-number conflict found (R143): at its onset the flag, the count, event 18 and the other address. -/
def State.nodeConflict (s : State) (mac : Nat) : State :=
  if s.on Fld.RSW_NODE_ST_CONFLICT then s
  else (((s.flag Fld.RSW_NODE_ST_CONFLICT true).bump Fld.RSW_NODE_ST_CONFLICTS 1).raise 18 0x12
    [s.get Fld.RSW_NODE_NODE, mac / 2 ^ 32, mac % 2 ^ 32]).reblockAll

/-- NODE_ANNOUNCE_RECEIVE (R142, R143, R138). -/
def execNodeAnnounceReceive (p : Port) (m : Announce) (s : State) : Host.Outcome State Fault Refusal :=
  s.run fun s => s.when (s.mgmtRuns && s.portRuns p && m.mac ≠ s.mac) fun s =>
    let s1 := (s.fillNode p m).start (.node m.node.toNat)
    let mine := s1.nodeValid && m.node.toNat = s1.get Fld.RSW_NODE_NODE
    let s2 := if mine then (s1.nodeConflict m.mac).start .conflict else s1
    if m.retrain && m.node.toNat < s2.get Fld.RSW_NODE_NODE then (s2.cancelPending .a).cancelPending .b else s2

/-- NODE_ENTRY_EXPIRE (R142): an entry that has heard nothing for 3 s is freed. -/
def execNodeEntryExpire (n : BitVec 12) (s : State) : Host.Outcome State Fault Refusal :=
  s.run fun s => s.when (s.ran (.node n.toNat) 3000000000) fun s =>
    let s1 := (s.wr (nodeKey n.toNat) 0).wr (nodeKey n.toNat + 1) 0
    { s1 with rsw := { s1.rsw with nodeOctets := s1.rsw.nodeOctets.filter (·.1 ≠ n.toNat),
                                   nodeCounts := s1.rsw.nodeCounts.filter (·.1 ≠ n.toNat) } }

/-- NODE_CONFLICT_CLEAR (R143): 3 s after the last conflicting announcement; logged. -/
def execNodeConflictClear (s : State) : Host.Outcome State Fault Refusal :=
  s.run fun s => s.when (s.on Fld.RSW_NODE_ST_CONFLICT && s.ran .conflict 3000000000) fun s =>
    ((s.flag Fld.RSW_NODE_ST_CONFLICT false).note 0x12 [s.get Fld.RSW_NODE_NODE]).reblockAll

/-- The scheduled octets per tick of the domain, saturating (R142, R169). -/
def State.schedSum (s : State) : Nat :=
  min 0xFFFFFF (s.ownOctets + sumOf (s.rsw.nodeOctets.map (·.2)))

/-! ### Ring supervision -/

/-- CHK_MS in ns (R151). -/
def State.checkNs (s : State) : Nat := s.get Fld.RSW_RING_CFG_CHK_MS * 1000000

/-- RING_CHECK_SEND (R141): every CHK_MS, in HSR only, on both ring ports, to the part's own address. The checks that R151 judges are kept. -/
def execRingCheckSend (s : State) : Host.Outcome State Fault Refusal :=
  s.runF fun s => s.when (s.mgmtRuns && s.topo = topoHsr && s.mayOriginate && s.ran .ringCheck s.checkNs) fun s =>
    let s := s.start .ringCheck
    let n := s.rsw.sentCounts.getD 1 0
    let b := s.frameBody 2 n 0 s.annFlags (s.get Fld.RSW_NODE_NODE)
    let s1 := ((s.originate (s.ownFrame s.mac 2 (some 6) b) 6 [17] [.a, .b] false (fun _ => none) none).1).countSent 1
    { s1 with rsw := { s1.rsw with checks := (⟨n, s.time.now, .waiting, .waiting⟩ :: s1.rsw.checks).take 4 } }

/-- The ring opens (R151): event 12 with the port or missing direction; a pending speed change is given up (R136, R138). -/
def State.ringBreak (s : State) (p : Port) : State :=
  if s.topo = topoHsr && s.on Fld.RSW_RING_ST_CLOSED then
    let s1 := s.flag Fld.RSW_RING_ST_CLOSED false
    let s2 := ({ s1 with rsw := { s1.rsw with checks := [] } }).raise 12 0x12 [p.num]
    (s2.cancelPending .a).cancelPending .b
  else s

/-- In other topologies the ring has no state (R151): CLOSED reads 0, and no event is raised. -/
def State.ringLeaves (s : State) : State :=
  if s.topo = topoHsr then s
  else { s.flag Fld.RSW_RING_ST_CLOSED false with rsw := { s.rsw with checks := [] } }

/-- A closed ring ends SETTLE (R138). -/
def State.endSettle (s : State) (p : Port) : State := if (s.net p).speedState = .settle then s.toSteady p else s

/-- The copy of a check that returns on a port. -/
def RingCheck.copy (c : RingCheck) : Port → CopyState
  | .a => c.a
  | .b => c.b

def RingCheck.setCopy (c : RingCheck) (p : Port) (v : CopyState) : RingCheck := match p with
  | .a => { c with a := v }
  | .b => { c with b := v }

/-- Whether three checks in a row satisfy a test. -/
def threeChecks (f : RingCheck → Bool) : List RingCheck → Bool
  | a :: b :: c :: l => (f a && f b && f c) || threeChecks f (b :: c :: l)
  | _ => false

/-- RING_CHECK_RECEIVE (R151): a copy that comes back on port A was sent on port B, and the other way round. One that returns within
CHK_MS counts for its check; with both links up, both copies of three consecutive checks close the ring. -/
def execRingCheckReceive (x : CheckCopy) (s : State) : Host.Outcome State Fault Refusal :=
  let p := x.p
  s.runF fun s => s.when (s.mgmtRuns && s.topo = topoHsr && s.link p) fun s =>
    let l := s.rsw.checks.map fun c =>
      if c.count = x.count.toNat && c.copy p = .waiting && s.time.now ≤ c.sentAt + s.checkNs then c.setCopy p .returned else c
    let s1 := { s with rsw := { s.rsw with checks := l } }
    if !s1.on Fld.RSW_RING_ST_CLOSED && s1.link .a && s1.link .b && threeChecks (fun c => c.a = .returned && c.b = .returned) l then
      let s2 := (({ s1 with rsw := { s1.rsw with closedAt := s1.time.now } }).flag Fld.RSW_RING_ST_CLOSED true).raise 13 0x12 []
      (s2.endSettle .a).endSettle .b
    else s1

/-- RING_CHECK_TIMEOUT (R151): the copies due on a port for longer than CHK_MS have failed; with those of three consecutive checks the
ring opens. -/
def execRingCheckTimeout (p : Port) (s : State) : Host.Outcome State Fault Refusal :=
  s.runF fun s => s.when (s.mgmtRuns && s.topo = topoHsr) fun s =>
    let l := s.rsw.checks.map fun c =>
      if c.copy p = .waiting && s.time.now ≥ c.sentAt + s.checkNs then c.setCopy p .missed else c
    let s1 := { s with rsw := { s.rsw with checks := l } }
    if threeChecks (fun c => c.copy p = .missed) l then s1.ringBreak p else s1

/-- FORGET in ns (R149, R169): 0 acts as 1. -/
def State.forgetNs (s : State) : Nat := max 1 (s.get Fld.RSW_DUP_CFG_FORGET) * 10000000

/-- DUP_ENTRY_FORGET (R149): an entry that no frame has matched for FORGET is freed. -/
def execDupEntryForget (t : Fin 3) (src : Nat) (s : State) : Host.Outcome State Fault Refusal :=
  s.run fun s => s.setDupTable t.val
    ((s.dupTable t.val).filter fun e => !(e.src = src && s.time.now ≥ e.used + s.forgetNs))

/-- RING_ORIGINATE_RESUME (R149): FORGET after a reset or a restart of the ring subsystem; the sequence numbers start at 0. -/
def execRingOriginateResume (s : State) : Host.Outcome State Fault Refusal :=
  s.run fun s => s.when (!s.domDown 0 && !s.rsw.originate && s.ran .originate s.forgetNs) fun s =>
    { s with rsw := { s.rsw with originate := true, hsrSeq := 0, prpSeq := 0 } }

/-- FRER_RECOVERY_RESET (R146, R150): a flow of which no frame has passed for RESET_MS begins afresh. The reset belongs to no port, and
counts toward port A's event 17. DESIGN CHOICE (assumption 239). -/
def execFrerRecoveryReset (flow : Fin 128) (s : State) : Host.Outcome State Fault Refusal :=
  s.run fun s => s.when (s.rsw.frer.any fun e =>
      e.1 = flow.val && s.time.now ≥ e.2.used + s.get Fld.RSW_FRER_CFG_RESET_MS * 1000000) fun s =>
    (({ s with rsw := { s.rsw with frer := s.rsw.frer.filter (·.1 ≠ flow.val) } }).bump (Fld.rswCnt 2 9) 1).frerAnomaly .a 4 1

/-- SUPERVISION_SEND (R147): every 2 s, as a DANH in HSR and as a DANP in PRP; the address and EtherType are those of IEC 62439-3. -/
def execSupervisionSend (s : State) : Host.Outcome State Fault Refusal :=
  s.run fun s => s.when (s.mgmtRuns && (s.topo = topoHsr || s.topo = topoPrp) && s.ran .supervision 2000000000) fun s =>
    let s := s.start .supervision
    let f : Frame := { dst := 0x01154E000100, src := s.mac, vlan := none, etype := 0x88FB, sub := 0, len := 64, hsr := none,
                       prp := none, rtag := none, udp := none, corr := none,
                       body := [BitVec.ofNat 32 (if s.topo = topoHsr then 23 else 20), BitVec.ofNat 32 (s.mac / 2 ^ 16),
                                BitVec.ofNat 32 (s.mac % 2 ^ 16 * 2 ^ 16)] }
    (s.originate f 6 [17] s.originPorts false (fun _ => none) none).1

/-! ### Links and their speed -/

/-- The speeds SPEED_ALLOW allows, lowest first, as codes; 0 acts as all (R134). -/
def State.allowed (s : State) (p : Port) : List Nat :=
  let a := s.get (Fld.NET_CFG_SPEED_ALLOW p.num)
  [1, 2, 3, 4].filter fun c => a = 0 || a.testBit (c - 1)

/-- The highest of a list of speed codes. -/
def topSpeed (l : List Nat) : Nat := l.foldl max 0

/-- The guards of R136, without the one on other nodes' announcements. -/
def State.speedGuards (s : State) (p : Port) : Bool :=
  s.on (Fld.NET_CFG_AUTO_SPEED p.num) && s.get (Fld.NET_CFG_SERDES p.num) ≠ 1 && s.topo = topoHsr
    && s.on Fld.RSW_RING_ST_CLOSED && s.time.now ≥ s.rsw.closedAt + 10000000000
    && !s.changing p.other && !s.inAlarm && !(s.net p).suspended

/-- The downshift threshold: a value at or above UP_PCT acts as UP_PCT ÷ 2 (R134). -/
def State.downPct (s : State) (p : Port) : Nat :=
  let up := s.get (Fld.NET_SPD_UP_PCT p.num)
  if s.get (Fld.NET_SPD_DOWN_PCT p.num) ≥ up then up / 2 else s.get (Fld.NET_SPD_DOWN_PCT p.num)

/-- The larger of the unscheduled on-wire octets of either direction since the target speed was last computed, a second ago (R137). -/
def State.lastLoad (s : State) (p : Port) : Nat := max (s.net p).octIn (s.net p).octOut

/-- The largest such load over QUIET_S. -/
def State.quietLoad (s : State) (p : Port) : Nat :=
  (((s.lastLoad p) :: (s.net p).loads).take (s.get (Fld.NET_SPD_QUIET_S p.num))).foldl max 0

/-- The target speed of R137, as a code: the loads are octets in a second, and the window that of a cycle of the gate list. -/
def State.targetSpeed (s : State) (p : Port) : Nat :=
  let last := s.lastLoad p * 8
  let quiet := s.quietLoad p * 8
  let tooTight := fun (mb : Nat) => s.schedSum * 8000 * 2 ^ s.qbvCyc p > s.tc5Open p * mb
  let fits := fun (c load : Nat) => !tooTight (speedMb c) && load * 100 ≤ s.downPct p * speedMb c * 1000000
  let now := s.speed p
  let al := s.allowed p
  if last * 100 > s.get (Fld.NET_SPD_UP_PCT p.num) * speedMb now * 1000000 || tooTight (speedMb now) then
    ((al.filter fun c => c > now && fits c last).head?).getD (topSpeed al)
  else
    let t := ((al.filter fun c => fits c quiet).head?).getD (topSpeed al)
    if t > now then now else t

/-- The loads of a second put behind those before it, as far as the largest QUIET_S reaches (R134, R137). -/
def State.nextLoad (s : State) (p : Port) : State :=
  s.setNet p { s.net p with loads := (s.lastLoad p :: (s.net p).loads).take 3600, octIn := 0, octOut := 0, loadAt := s.time.now }

/-- A port in STEADY whose target differs from its speed enters PENDING where the guards of R136 hold, with an announcement at once;
in PENDING a guard that fails gives the change up (R138). -/
def State.speedJudge (s : State) (p : Port) : State :=
  let x := s.net p
  let owner := x.narrowed || s.speed p ≥ topSpeed ([1, 2, 3, 4].filter fun c => x.advert.testBit (c - 1))
  if x.speedState = .pending && !s.speedGuards p then s.toSteady p
  else if x.speedState = .steady && s.speedGuards p && s.nodesWhere (·.getLsbD 28) = 0 && owner && s.targetSpeed p ≠ s.speed p then
    (((s.setNet p { x with speedState := .pending, target := s.targetSpeed p }).start (.speed p)).flag
      (Fld.NET_STATUS_RETRAIN p.num) true).announce
  else s

/-- SPEED_TARGET_EVAL (R136 to R138): once a second, of a port whose link is up. The firmware computes R137's target; a command with
another is no evaluation of its. DESIGN CHOICE (assumption 230). -/
def execSpeedTargetEval (p : Port) (target : BitVec 3) (s : State) : Host.Outcome State Fault Refusal :=
  s.run fun s => s.when (s.mgmtRuns && s.portRuns p && s.link p && s.time.now ≥ (s.net p).loadAt + 1000000000
      && target.toNat = s.targetSpeed p) fun s =>
    (s.speedJudge p).nextLoad p

/-- The PHY's advertisement written through MDC/MDIO, with or without a restart of negotiation (R131). -/
def State.advertise (s : State) (p : Port) (mask : Nat) (restart : Bool) : State :=
  (s.setNet p { s.net p with advert := mask }).emit (.note 0x131 [p.num, mask, if restart then 1 else 0])

/-- SPEED_ALLOW as it acts. -/
def State.allowMask (s : State) (p : Port) : Nat :=
  if s.get (Fld.NET_CFG_SPEED_ALLOW p.num) = 0 then 15 else s.get (Fld.NET_CFG_SPEED_ALLOW p.num)

/-- SPEED_PENDING_END (R138): 2 s have passed in PENDING. -/
def execSpeedPendingEnd (p : Port) (s : State) : Host.Outcome State Fault Refusal :=
  s.run fun s => s.when ((s.net p).speedState = .pending && s.ran (.speed p) 2000000000) fun s =>
    if !s.speedGuards p then s.toSteady p
    else
      let x := s.net p
      let top := x.target = topSpeed (s.allowed p)
      ((s.setNet p { x with speedState := .retrain, oldSpeed := s.speed p, narrowed := !top }).start (.speed p)).advertise p
        (if top then s.allowMask p else 2 ^ (x.target - 1)) true

/-- A retrain that failed (R138): the advertisement restored, for which negotiation begins again, automatic management suspended on the
port; logged. DESIGN CHOICE (assumption 236). -/
def State.retrainFailed (s : State) (p : Port) : State :=
  let s1 := (s.toSteady p).advertise p (s.allowMask p) true
  ((s1.setNet p { s1.net p with suspended := true, narrowed := false }).start (.suspend p)).note (0x10 + p.num) [(s.net p).target]

/-- SPEED_RETRAIN_TIMEOUT (R138): no link for 10 s. -/
def execSpeedRetrainTimeout (p : Port) (s : State) : Host.Outcome State Fault Refusal :=
  s.run fun s => s.when ((s.net p).speedState = .retrain && s.ran (.speed p) 10000000000) fun s => s.retrainFailed p

/-- SPEED_SETTLE_TIMEOUT (R138): 10 s have passed in SETTLE. -/
def execSpeedSettleTimeout (p : Port) (s : State) : Host.Outcome State Fault Refusal :=
  s.run fun s => s.when (s.ran (.speed p) 10000000000) fun s => s.endSettle p

/-- SPEED_SUSPEND_EXPIRE (R138): after 1 h. -/
def execSpeedSuspendExpire (p : Port) (s : State) : Host.Outcome State Fault Refusal :=
  s.run fun s => s.when (s.ran (.suspend p) 3600000000000) fun s => s.setNet p { s.net p with suspended := false }

/-- EEE_ACTIVE set or cleared: each change raises event 19 (R135). -/
def State.setEee (s : State) (p : Port) (b : Bool) : State :=
  if s.on (Fld.NET_STATUS_EEE_ACTIVE p.num) = b then s
  else (s.flag (Fld.NET_STATUS_EEE_ACTIVE p.num) b).raise 19 (0x10 + p.num) [p.num, if b then 1 else 0]

/-- The link of a port goes down (R132, R151, R154): its frame in flight is aborted. -/
def State.linkDown (s : State) (p : Port) : State :=
  if !s.link p then s
  else
    let s1 := (((s.flag (Fld.NET_STATUS_LINK p.num) false).put (Fld.NET_STATUS_SPEED p.num) 0).flag
      (Fld.NET_STATUS_LPI_TX p.num) false).flag (Fld.NET_STATUS_LPI_RX p.num) false
    let s2 := ((s1.bump (Fld.netCnt p 11) 1).raise (10 + p.num) (0x10 + p.num) [0, 0]).abortFrame p
    (s2.setEee p false).ringBreak p

/-- What a link that comes up means to a speed change in RETRAIN (R138): up at the target is SETTLE with event 15, up at
another speed ends the attempt. -/
def State.retrained (s : State) (p : Port) (speed : Nat) : State :=
  let x := s.net p
  if x.speedState ≠ .retrain then s
  else if speed = x.target then
    (((s.setNet p { x with speedState := .settle }).start (.speed p)).bump (Fld.netCnt p 12) 1).raise 15 (0x10 + p.num) [p.num, x.oldSpeed, speed]
  else s.retrainFailed p

/-- EEE as a link that is up negotiates it, and LPI on its receive path (R134, R135). -/
def State.linkEee (s : State) (p : Port) (eee lpi : Bool) : State :=
  let on := eee && s.on (Fld.NET_EEE_EN p.num)
  ((s.setEee p on).flag (Fld.NET_STATUS_LPI_RX p.num) (lpi && on)).flag (Fld.NET_STATUS_LPI_TX p.num)
    (on && s.on (Fld.NET_STATUS_LPI_TX p.num))

/-- NET_EEE written (R135): with EN = 0 the part negotiates no LPI and its transmit path leaves it; with EN = 1 the link partner's
answer comes with a LINK_CHANGE. -/
def State.writeEee (s : State) (p : Port) : State :=
  if s.on (Fld.NET_EEE_EN p.num) then s else s.linkEee p false false

/-- LINK_CHANGE (R130, R132, R135): a link that comes up at a speed, under 10GBASE-R at 10 Gb/s alone; at the speed at which it is up
already only EEE and LPI can change. -/
def execLinkChange (p : Port) (speed : BitVec 3) (eee : PartnerEee) (s : State) : Host.Outcome State Fault Refusal :=
  s.runF fun s =>
    if speed = 0 then s.linkDown p
    else s.when (s.portRuns p && speed.toNat ≤ 4 && (s.get (Fld.NET_CFG_SERDES p.num) ≠ 1 || speed = 4)) fun s =>
      if s.link p && s.speed p = speed.toNat then s.linkEee p eee.on eee.lpi
      else
        let s0 := s.linkDown p
        let s1 := ((s0.flag (Fld.NET_STATUS_LINK p.num) true).put (Fld.NET_STATUS_SPEED p.num) speed.toNat).raise
          (10 + p.num) (0x10 + p.num) [1, speed.toNat]
        (s1.linkEee p eee.on eee.lpi).retrained p speed.toNat

/-- The PHY advertises what SPEED_ALLOW allows, and restarts negotiation where that excludes the running speed (R131). -/
def State.advertiseAllowed (s : State) (p : Port) : State :=
  let s1 := s.advertise p (s.allowMask p) (s.link p && !(s.allowed p).contains (s.speed p))
  s1.setNet p { s1.net p with narrowed := false }

/-- NET_CFG.SPEED_ALLOW written (R131, R136): under USXGMII the PHY advertises the new speeds, which ends a narrowing, and one that
excludes the running speed restarts negotiation at once. -/
def State.writeSpeedAllow (s : State) (p : Port) (v : Nat) : State :=
  let s1 := s.put (Fld.NET_CFG_SPEED_ALLOW p.num) v
  if s1.get (Fld.NET_CFG_SERDES p.num) = 1 || s1.allowMask p = s.allowMask p then s1 else s1.advertiseAllowed p

/-- NET_CFG.SERDES written, `was` the mode before (R130, R131): a port that comes to USXGMII advertises what SPEED_ALLOW holds. -/
def State.serdesWritten (s : State) (p : Port) (was : Nat) : State :=
  if was = 1 && s.get (Fld.NET_CFG_SERDES p.num) ≠ 1 then s.advertiseAllowed p else s

/-- What a new topology does to the ports and the ring (R139, R151): in the single topology port B is held down. -/
def State.topoPorts (s : State) : State :=
  (if s.topo = topoSingle then s.linkDown .b else s).ringLeaves

/-! ### MKA -/

/-- CAK_A and CAK_B of CERK_KEYS (R397). -/
def Fld.cakHeld (p : Nat) : Fld := ⟨Fld.CERK_KEYS_CAK_A.addr, p, p⟩

/-- Whether MKA can key a port: a CAK is held (R393), and Cerkeha, whose key store the SAKs come from (R158), is not restarting
(R36). -/
def State.mkaKeys (s : State) (p : Port) : Bool := s.on (Fld.cakHeld p.num) && !s.domDown 7

/-- Words and octets: the first octet of a word at its top. -/
def keyOctets (l : List Word) : List Nat := l.flatMap fun w => beOctets 4 w.toNat
def beWords (n v : Nat) : List Word := (List.range n).map fun i => BitVec.ofNat 32 (v / 2 ^ (32 * (n - 1 - i)))

/-- A key drawn from the DRBG (R369), which is seeded for its first request and again after every 2^20. DEDUCED (assumption 222). -/
def State.drawKey (s : State) : State × Nat :=
  let c := s.cerk
  let x := if c.requests % 2 ^ 20 = 0 then drbgUpdate c.drbgKey c.drbgV (Config.entropy s.free).toNat else (c.drbgKey, c.drbgV)
  let g := drbgGenerate x.1 x.2
  let s1 := if c.requests % 2 ^ 20 = 0 then s.draw else s
  ({ s1 with cerk := { s1.cerk with drbgKey := g.2.1, drbgV := g.2.2, requests := c.requests + 1 } }, g.1)

/-- The key that IEEE 802.1X-2020 derives from a port's CAK under a label (R387): its record is the CKN and the CAK. PRESUMED (assumption 214). -/
def State.cakKey (s : State) (p : Port) (label : List Nat) : Nat :=
  let body := ((s.cerk.caks.find? (·.1 = p.num)).map (·.2)).getD []
  kdf256 (ofOctets (keyOctets (body.drop 4))) (([0x49, 0x45, 0x45, 0x45, 0x38, 0x30, 0x32, 0x31, 0x20]) ++ label)
    (keyOctets (body.take 4))

/-- The ICK and the KEK of a port. -/
def State.ick (s : State) (p : Port) : Nat := s.cakKey p [0x49, 0x43, 0x4B]
def State.kek (s : State) (p : Port) : Nat := s.cakKey p [0x4B, 0x45, 0x4B]

/-- A new receive SA installed under an AN (R159, step 1) with its SAK: one that waited there for its deletion is gone. PRESUMED (assumption 32). -/
def State.installRx (s : State) (p : Port) (an : Fin 4) (sak : Nat) : State :=
  let x := s.net p
  (((s.setNet p { x with rxPn := x.rxPn.set an.val 1, saks := x.saks.set an.val (some sak),
                         oldAns := x.oldAns.filter (·.1 ≠ an.val) }).put (Fld.SECY_ST_RX_AN_VALID p.num)
    (s.get (Fld.SECY_ST_RX_AN_VALID p.num) ||| 2 ^ an.val)).flag (Fld.SECY_ST_RX_KEYED p.num) true).showRxPn p an.val

/-- The transmit AN changes once the peer has confirmed it (R159, step 2): the PN of the new SA starts at 1, so that
PN_WARN and TX_STOPPED clear, and the SA in use until now waits for its deletion. A confirmation of the AN in use, or of one that
waits for its deletion, is of no new SA and changes nothing. PRESUMED (assumption 32). -/
def State.switchTx (s : State) (p : Port) (an : Fin 4) : State :=
  let keyed := s.on (Fld.SECY_ST_TX_KEYED p.num)
  let cur := s.get (Fld.SECY_ST_TX_AN p.num)
  if (keyed && cur = an.val) || (s.net p).oldAns.any (·.1 = an.val) then s
  else
    let x := s.net p
    let s1 := s.setNet p { x with txPn := x.txPn.set an.val (some 1), offered := none,
                                  oldAns := if keyed then x.oldAns ++ [(cur, s.time.now)] else x.oldAns }
    ((((s1.put (Fld.SECY_ST_TX_AN p.num) an.val).flag (Fld.SECY_ST_TX_KEYED p.num) true).flag (Fld.SECY_ST_PN_WARN p.num) false).flag
      (Fld.SECY_ST_TX_STOPPED p.num) false).showTxPn p

/-- Whether the part, as key server of a live session, is to distribute a SAK: past the rekey threshold (R161), for a new session
(R387), and where the port is not keyed yet. DEDUCED (assumption 211). -/
def State.sakDue (s : State) (p : Port) : Bool :=
  (s.net p).server && s.mkaKeys p && s.on (Fld.SECY_ST_LIVE p.num) && (s.net p).offered.isNone
    && (s.on (Fld.SECY_ST_PN_WARN p.num) || (s.net p).session || !s.on (Fld.SECY_ST_TX_KEYED p.num))

/-- A SAK generated and distributed (R161, R387) under the next AN, whose receive SA the part installs (R159, step 1). -/
def State.distribute (s : State) (p : Port) : State :=
  if s.sakDue p then
    let an : Fin 4 := ⟨(s.get (Fld.SECY_ST_TX_AN p.num) + 1) % 4, Nat.mod_lt _ (by decide)⟩
    let x := s.drawKey
    (x.1.setNet p { x.1.net p with offered := some an.val, session := false }).installRx p an x.2
  else s

/-- The addresses, EtherType and body of an MKPDU, over which its ICV is reckoned (R387). -/
def State.mkpduOctets (s : State) (body : List Word) : List Nat :=
  beOctets 6 0x0180C2000003 ++ beOctets 6 s.mac ++ [0x88, 0x8E] ++ keyOctets body

/-- What an MKPDU of the part tells (R158, R387): the AN of the SAK that it distributes, as AN + 1, and the SAK wrapped; or 0. -/
def State.mkpduBody (s : State) (p : Port) : List Word := match (s.net p).offered with
  | none => [0]
  | some an => BitVec.ofNat 32 (an + 1) :: beWords 10 (keyWrap (s.kek p) (((s.net p).saks.getD an none).getD 0))

/-- An MKPDU of the part (R158): what it tells and its ICV under the ICK (R387). DEDUCED (assumption 211). -/
def State.mkpdu (s : State) (p : Port) : Frame :=
  let body := s.mkpduBody p ++ beWords 4 (cmac (s.ick p) (s.mkpduOctets (s.mkpduBody p)))
  { dst := 0x0180C2000003, src := s.mac, vlan := none, etype := 0x888E, sub := 0, len := max 64 (18 + 4 * body.length),
    hsr := none, prp := none, rtag := none, udp := none, corr := none, body := body }

/-- MKA_HELLO (R158, R161): every 2 s an MKPDU on a protected port. -/
def execMkaHello (p : Port) (s : State) : Host.Outcome State Fault Refusal :=
  s.run fun s => s.when (s.mgmtRuns && s.on (Fld.SECY_CFG_EN p.num) && s.ran (.hello p) 2000000000) fun s =>
    let s1 := (s.start (.hello p)).distribute p
    (s1.sendLocal p (s1.mkpdu p) false).1

/-- Whether the ICV at the end of an MKPDU is the one that the port's ICK gives it (R387). -/
def State.icvOk (s : State) (p : Port) (m : Mkpdu) : Bool :=
  let o := m.octets.map (·.toNat)
  16 ≤ o.length && cmac (s.ick p) (o.take (o.length - 16)) = ofOctets (o.drop (o.length - 16))

/-- What an MKPDU tells is taken (R158): the live peer and the key server. -/
def State.hearMka (s : State) (p : Port) (m : Mkpdu) : State :=
  let s1 := if m.live then (s.start (.peer p)).flag (Fld.SECY_ST_LIVE p.num) true else s
  s1.setNet p { s1.net p with server := m.server }

/-- A SAK received (R387): Cerkeha unwraps it, and it passes into the SecY, where its integrity holds. -/
def State.receiveSak (s : State) (p : Port) (m : Mkpdu) : State := match m.install with
  | none => s
  | some (an, w) => match keyUnwrap (s.kek p) w.toNat with
    | none => s
    | some sak => (s.setNet p { s.net p with session := false }).installRx p an sak

/-- MKPDU_RECEIVE (R158, R159, R161, R387): without a CAK, MKA cannot key the port (R393), and rekeying waits while Cerkeha restarts
(R36); an MKPDU whose ICV fails is not heard. DEDUCED (assumption 211). -/
def execMkpduReceive (p : Port) (m : Mkpdu) (s : State) : Host.Outcome State Fault Refusal :=
  s.run fun s => s.when (s.mgmtRuns && s.portRuns p && s.on (Fld.SECY_CFG_EN p.num) && s.on (Fld.cakHeld p.num) && s.icvOk p m) fun s =>
    let s1 := s.hearMka p m
    if !s1.mkaKeys p then s1
    else
      let s2 := s1.receiveSak p m
      match m.confirm with
      | some an => if (s2.get (Fld.SECY_ST_RX_AN_VALID p.num)).testBit an.val then s2.switchTx p an else s2
      | none => s2

/-- The PN registers and limits of a port after its settings change (R161, R163). -/
def State.showPns (s : State) (p : Port) : State :=
  let s1 := (s.showTxPn p).showRxPn p (s.net p).rxAn
  if s1.on (Fld.SECY_ST_TX_KEYED p.num) then s1.judgePn p else s1

/-- The SAs of an AN deleted (R159, step 3): with the receive SA its transmit SA and the SAK go. -/
def State.deleteSa (p : Port) (s : State) (a : Nat) : State :=
  let v := s.get (Fld.SECY_ST_RX_AN_VALID p.num)
  let w := if v.testBit a then v - 2 ^ a else v
  let x := s.net p
  ((s.setNet p { x with oldAns := x.oldAns.filter (·.1 ≠ a), txPn := x.txPn.set a none, saks := x.saks.set a none }).put
    (Fld.SECY_ST_RX_AN_VALID p.num) w).flag (Fld.SECY_ST_RX_KEYED p.num) (w ≠ 0)

/-- OLD_SA_DELETE (R159, step 3): what was in use until 2 s ago or longer. -/
def execOldSaDelete (p : Port) (s : State) : Host.Outcome State Fault Refusal :=
  s.run fun s => (((s.net p).oldAns.filter fun x => s.time.now ≥ x.2 + 2000000000).map Prod.fst).foldl (State.deleteSa p) s

/-- MKA_PEER_LOSS (R158): 6 s without the live peer; the installed SAs stay. -/
def execMkaPeerLoss (p : Port) (s : State) : Host.Outcome State Fault Refusal :=
  s.run fun s => s.when (s.ran (.peer p) 6000000000) fun s => s.flag (Fld.SECY_ST_LIVE p.num) false

/-! ### Gates -/

/-- An entry of the gate control list takes effect, or the list has ended (R167). So does a list that has run all its 16 entries before
the cycle ends: every gate is then open until the next cycle, as after an entry of 0. DESIGN CHOICE (assumption 240). -/
def State.enterGate (s : State) (p : Port) (e : Nat) : State :=
  let x := s.net p
  s.setNet p { x with gate := if e < 16 && s.gateDur p (s.gateBank p) e ≠ 0 then some (e, s.time.now) else none }

/-- QBV_CYCLE_START (R167): at a tick boundary whose number is a multiple of the cycle length; a pending bank change takes
effect. -/
def execQbvCycleStart (p : Port) (s : State) : Host.Outcome State Fault Refusal :=
  s.run fun s => s.when (s.qbvEn p && s.time.tick.toNat % 2 ^ s.qbvCyc p = 0 && s.time.counter = s.time.tickStart) fun s =>
    let s0 := s.accrueAll p
    let s1 := (s0.put (qbvActF p) (s0.qbvBank p)).setNet p { s0.net p with cycleAt := s0.time.now }
    s1.enterGate p 0

/-- QBV_ENTRY_END (R167): an entry runs for its DUR_NS. -/
def execQbvEntryEnd (p : Port) (s : State) : Host.Outcome State Fault Refusal :=
  s.run fun s => s.when (s.qbvEn p) fun s => match (s.net p).gate with
    | some (e, t) => s.when (s.time.now ≥ t + s.gateDur p (s.gateBank p) e) fun s => (s.accrueAll p).enterGate p (e + 1)
    | none => s

/-- With EN_p = 0 every gate is open (R167): the entry in force is dropped at the brim. -/
def State.gateBrim (s : State) : State :=
  let f := fun (t : State) (p : Port) => if t.qbvEn p then t else t.setNet p { t.net p with gate := none }
  f (f s .a) .b

/-- Whether a word of the RSW indirect space belongs to an active bank of a gate control list (R167). -/
def State.gateLocked (s : State) (w : Nat) : Bool :=
  w < 0x80 && w % 0x40 / 0x20 = s.get (qbvActF (if w < 0x40 then Port.a else Port.b))

/-! ### Pause -/

def State.holdoff (s : State) (p : Port) (c : Nat) : Bool := (s.get (Fld.NET_STATUS_HOLDOFF p.num)).testBit c

/-- Bit `c` of PAUSED or HOLDOFF. -/
def pausedBit (p : Port) (c : Nat) : Fld := ⟨(Fld.NET_STATUS_PAUSED p.num).addr, 16 + c, 16 + c⟩
def holdoffBit (p : Port) (c : Nat) : Fld := ⟨(Fld.NET_STATUS_HOLDOFF p.num).addr, 24 + c, 24 + c⟩

/-- What a pause frame does to one class that obeys it (R172): its quanta of 512 bit times are loaded, and the watchdog starts as the
class stops. DEDUCED (assumption 34). -/
def State.pauseClass (p : Port) (quanta : BitVec 16) (s : State) (c : Nat) : State :=
  if s.holdoff p c then s.bump (Fld.netCnt p 8) 1
  else
    let s1 := s.startAt (.pause p c) (s.time.now + quanta.toNat * 512000 / speedMb (s.speed p))
    (if s.paused p c then s1 else s1.start (.watch p c)).flag (pausedBit p c) (quanta ≠ 0)

/-- PAUSE_RECEIVE (R171, R172): a PAUSE acts on the seven classes while PAUSE_EN is 1, a PFC on its priority's class while
its PFC_EN bit is 1; a frame that no class obeys is counted. -/
def execPauseReceive (p : Port) (pfc : Option (BitVec 3)) (quanta : BitVec 16) (s : State) :
    Host.Outcome State Fault Refusal :=
  s.run fun s => s.when (s.portRuns p && s.link p) fun s =>
    let s1 := s.bump (Fld.netCnt p 7) 1
    match pfc with
    | none =>
      if s1.on (Fld.NET_CFG_PAUSE_EN p.num) then (List.range 7).foldl (State.pauseClass p quanta) s1
      else s1.bump (Fld.netCnt p 8) 1
    | some pr =>
      let c := s1.pcpClass pr.toNat
      if (s1.get (Fld.NET_CFG_PFC_EN p.num)).testBit c then s1.pauseClass p quanta c else s1.bump (Fld.netCnt p 8) 1

/-- PAUSE_QUANTA_EXPIRE (R172): the quanta last loaded have run out. -/
def execPauseQuantaExpire (p : Port) (c : Fin 7) (s : State) : Host.Outcome State Fault Refusal :=
  s.run fun s => s.when (s.ran (.pause p c.val) 0) fun s => s.flag (pausedBit p c.val) false

/-- PAUSE_WATCHDOG (R172): paused for NET_PWD.WD, in units of 0.5 ms of which 0 acts as 1, a class goes to HOLDOFF with event 14.
Values above 100, which R134 gives no clamp, run as they are, up to 63.5 ms. DESIGN CHOICE (assumption 234). -/
def execPauseWatchdog (p : Port) (c : Fin 7) (s : State) : Host.Outcome State Fault Refusal :=
  s.run fun s => s.when (s.paused p c.val && s.ran (.watch p c.val) (max 1 (s.get (Fld.NET_PWD_WD p.num)) * 500000)) fun s =>
    ((((s.start (.holdoff p c.val)).flag (pausedBit p c.val) false).flag (holdoffBit p c.val) true).bump (Fld.netCnt p 9) 1).raise 14 (0x10 + p.num)
      [p.num, c.val]

/-- PAUSE_HOLDOFF_END (R172): after 100 ms. -/
def execPauseHoldoffEnd (p : Port) (c : Fin 7) (s : State) : Host.Outcome State Fault Refusal :=
  s.run fun s => s.when (s.ran (.holdoff p c.val) 100000000) fun s => s.flag (holdoffBit p c.val) false

/-! ### The PTP stack's messages -/

/-- The messageType of IEEE 1588: Sync 0, Delay_Req 1, Pdelay_Req 2, Pdelay_Resp 3, Announce 11. -/
def ptpType : PtpKind → Nat
  | .sync => 0 | .delayReq => 1 | .pdelayReq => 2 | .pdelayResp => 3 | .announce => 11

/-- The delay mechanism of the stack's combination (R56): end-to-end under the AES67 profile, peer delay under 802.1AS. -/
def State.delayKind (s : State) (k : PtpKind) : Bool := match k with
  | .sync => true
  | .announce => true
  | .delayReq => s.ptpCombo.2.2 = 0
  | .pdelayReq => s.ptpCombo.2.2 = 1
  | .pdelayResp => s.ptpCombo.2.2 = 1

/-- Whether a message comes from a master (R57). -/
def masterKind : PtpKind → Bool
  | .sync => true | .announce => true | .delayReq => false | .pdelayReq => false | .pdelayResp => false

/-- Where the stack's messages go (IEEE 1588, IEEE 802.1AS): those of the peer delay, and all under 802.1AS, to an address that no
port forwards. PRESUMED (assumption 29). -/
def State.ptpLocal (s : State) (k : PtpKind) : Bool := k = .pdelayReq || k = .pdelayResp || s.ptpCombo.2.2 = 1

/-- A message of the stack. Its first word is the domain; an Announce carries the priorities, and an event message the place of its
originTimestamp (R54). DESIGN CHOICE (assumption 42). -/
def State.ptpFrame (s : State) (k : PtpKind) : Frame :=
  { dst := if s.ptpLocal k then 0x0180C200000E else 0x011B19000000, src := s.mac, vlan := none, etype := 0x88F7,
    sub := s.ptpCombo.2.2 * 4096 + ptpType k * 256 + 2, len := 68, hsr := none, prp := none, rtag := none, udp := none,
    corr := if k = .announce then none else some 0
    body := BitVec.ofNat 32 (s.get Fld.TIME_PTP_CFG_DOMAIN) :: (if k = .announce then
        [BitVec.ofNat 32 (s.get Fld.TIME_PTP_PRIO_PRIORITY1), BitVec.ofNat 32 (s.get Fld.TIME_PTP_PRIO_PRIORITY2)]
      else [0, 0, 0]) }

/-- The interval at which the part sends Sync as a master, in ns (R57): a LOG_SYNC outside -7 to 0 acts as -3. -/
def State.syncNs (s : State) : Nat :=
  let l := s.getS Fld.TIME_PTP_CFG_LOG_SYNC
  1000000000 / 2 ^ (if -7 ≤ l ∧ l ≤ 0 then l.natAbs else 3)

/-- The ports that a message which the stack sends on port `p` leaves by (R56, R144, R145): those of the topology where the ordinary
clock stands on the local port; else that port alone, in PRP with the LAN's trailer and a sequence number of the part's own that the
other LAN does not see. DESIGN CHOICE (assumption 238). -/
def State.ptpPorts (s : State) (p : Port) : List Port := if s.localClock then s.originPorts else [p]

/-- The messages queued are no longer owed (R53). -/
def State.resent (s : State) (kind : PtpKind) (ps : List Port) : State :=
  { s with time := { s.time with resend := s.time.resend.filter fun x => !(x.1 = kind && ps.contains x.2) } }

/-- The stack's part as it sends as a master (R59, R531): with no other grandmaster selected the part's own clock is the domain's; the
clock that sends is MASTER (6). -/
def State.actAsMaster (s : State) (p : Port) : State :=
  (if s.on Fld.TIME_PTP_STATUS_GM_PRESENT then s
   else (s.flag Fld.TIME_PTP_STATUS_GM_PRESENT true).servoPut servoMaster).put (s.pstate p) 6

/-- PTP_MESSAGE_SEND (R53, R54, R57, R531): a Sync or Announce comes from a master. A two-step event message asks for a timestamp, a
one-step Sync takes none. A message whose timestamp was lost is owed until this command has queued it again on the port that lost it.
DESIGN CHOICE (assumption 42). -/
def execPtpMessageSend (kind : PtpKind) (p : Port) (s : State) : Host.Outcome State Fault Refusal :=
  s.run fun s => s.when (s.mgmtRuns && s.ptpRuns && s.portRuns p && s.link p && (!masterKind kind || s.mayMaster)
      && s.delayKind kind && (kind ≠ .sync || s.ran (.ptp .sync p) s.syncNs)) fun s =>
    let ps := if s.ptpLocal kind then [p] else s.ptpPorts p
    let s0 := ps.foldl (fun t q => t.start (.ptp kind q)) s
    let s1 := if masterKind kind then s0.actAsMaster p else s0
    let one := kind = .sync && s1.on Fld.TIME_PTP_CFG_ONE_STEP
    let ask := kind ≠ .announce && !one
    let r := if s1.ptpLocal kind then s1.sendLocal p (s1.ptpFrame kind) ask one
      else s1.originate (s1.ptpFrame kind) 6 [17] ps ask (fun _ => none) none one
    r.1.resent kind r.2

end Sys2Proof.Machine
end

