-- ==== Sys2Proof/Machine/Crown.lean ====
section
/-! DEFINITION. The Crown's inputs and content (R312 to R324): the triggers, the alarm table and its entries, the gate
selection, the tones and messages, and what the gates play. -/

namespace Sys2Proof.Machine

/-! ### Records and events of the Crown -/

/-- A change of state that the Crown logs. -/
def State.crownNote (s : State) (sub : Nat) (dw : List Nat) : State := s.logNote codeState sub originCrown dw

/-- An event that the Crown raises. -/
def State.crownRaise (s : State) (ev sub : Nat) (dw : List Nat) : State := s.raiseAs ev sub (severityOf ev) originCrown dw

/-! ### The alarm table -/

/-- Word `i` of entry `e` (R314). -/
def State.entryWord (s : State) (e i : Nat) : Word := s.rd (indKey 0x38 (4 * e + i))

def State.entrySrc (s : State) (e : Nat) : Nat := Word.field (s.entryWord e 0) 27 24
def State.entryPrio (s : State) (e : Nat) : Nat := Word.field (s.entryWord e 0) 23 20
def State.entryNames (s : State) (e c : Nat) : Bool := c < 8 && (s.entryWord e 0).getLsbD (8 + c)
def State.entryZsel (s : State) (e : Nat) : Nat := Word.field (s.entryWord e 1) 31 16
def State.entryRly (s : State) (e : Nat) : Nat := Word.field (s.entryWord e 1) 11 8
def State.entryA (s : State) (e : Nat) : Nat := Word.field (s.entryWord e 1) 7 0
def State.entryB (s : State) (e : Nat) : Nat := Word.field (s.entryWord e 2) 31 24
def State.entryDur (s : State) (e : Nat) : Nat := Word.field (s.entryWord e 2) 15 0

/-- An entry latches where LATCH is 1, and from the panel and host software always (R314). -/
def State.entryLatches (s : State) (e : Nat) : Bool :=
  (s.entryWord e 0).getLsbD 30 || s.entrySrc e = 8 || s.entrySrc e = 9

/-- The tone of an entry's FALLBACK field; one that holds no tone acts as EVAC_T3 (R323). -/
def State.entryFallback (s : State) (e : Nat) : Nat :=
  let f := Word.field (s.entryWord e 2) 23 16
  if 1 ≤ f && f ≤ 8 then f else 1

/-- LEVEL in 0.01 dB (R314): from −6,000 to 0. -/
def State.entryLevel (s : State) (e : Nat) : Int := max (-6000) (min 0 (toSigned 16 (Word.field (s.entryWord e 3) 15 0)))

/-- The content codes (R314). -/
def codeLive : Nat := 0xFE
def isTone (c : Nat) : Bool := 1 ≤ c && c ≤ 8
def isMsg (c : Nat) : Bool := 0x10 ≤ c && c ≤ 0x4F
def codeKnown (c : Nat) : Bool := c = 0 || isTone c || isMsg c || c = codeLive

/-- Whether an entry may be active at all (R314): its source and both its content codes are among those named. -/
def State.entryFit (s : State) (e : Nat) : Bool := s.entrySrc e ≤ 9 && codeKnown (s.entryA e) && codeKnown (s.entryB e)

/-- Whether an entry may become active (R314). DEDUCED (assumption 95). -/
def State.entryReady (s : State) (e : Nat) : Bool := (s.entryWord e 0).getLsbD 31 && s.entryFit e

/-- The CRC-32 of IEEE 802.3: a bit, an octet, a list of octets. -/
def crcBit (c : BitVec 32) : BitVec 32 := if c.getLsbD 0 then (c >>> 1) ^^^ 0xEDB88320 else c >>> 1
def crcOctet (c : BitVec 32) (o : Nat) : BitVec 32 :=
  let x := c ^^^ BitVec.ofNat 32 (o % 256)
  crcBit (crcBit (crcBit (crcBit (crcBit (crcBit (crcBit (crcBit x)))))))
def crc32 (l : List Nat) : BitVec 32 := ~~~(l.foldl crcOctet 0xFFFFFFFF)

/-- The CRC-32 of the alarm table (R314): 64 words, each from bits [7:0] to bits [31:24]. -/
def State.tableCrc (s : State) : Word :=
  crc32 ((List.range 64).flatMap fun i =>
    let w := (s.rd (indKey 0x38 i)).toNat
    [w % 256, w / 256 % 256, w / 65536 % 256, w / 16777216])

/-! ### Active entries -/

/-- The entries that satisfy a test, as a mask. -/
def entryMask (p : Nat → Bool) : Nat := bitmap ((List.range 16).filter p)

def State.entries (s : State) : Nat := s.get Fld.CROWN_ACTIVE_ENTRIES
def State.entryOn (s : State) (e : Nat) : Bool := s.entries.testBit e

/-- ENTRIES brought up to date: what this module's own sources and the partner's record hold active (R315, R333). DEDUCED (assumptions 94, 95). -/
def State.showEntries (s : State) : State :=
  s.put Fld.CROWN_ACTIVE_ENTRIES (entryMask fun e =>
    (s.crown.own.testBit e || (s.get Fld.CROWN_ACTIVE_PARTNER).testBit e) && s.entryFit e)

/-- The entries that this module's own sources hold active, set. -/
def State.setOwn (s : State) (m : Nat) : State := ({ s with crown := { s.crown with own := m } }).showEntries

/-- An entry started (R315). -/
def State.startEntry (s : State) (e : Nat) : State :=
  if s.entryReady e then s.setOwn (s.crown.own ||| 2 ^ e) else s

/-- A trigger's state (R342): 0 NORMAL, 1 ACTIVE, 2 OPEN, 3 SHORT. -/
def Fld.trigState (n : Nat) : Fld := ⟨Fld.CROWN_TRIG_ST_STATE.addr, 2 * n + 1, 2 * n⟩

/-- Whether an entry's trigger is ACTIVE: the panel and host software have none. -/
def State.trigActive (s : State) (e : Nat) : Bool :=
  s.entrySrc e ≤ 7 && s.get (Fld.trigState (s.entrySrc e)) = 1

/-- A reset of the latched entries (R316): one whose trigger is ACTIVE stays, and the ignored reset is logged with it. -/
def State.resetEntries (s : State) : State :=
  let held := (List.range 16).filter fun e => s.crown.own.testBit e && s.entryLatches e && s.trigActive e
  let s1 := s.setOwn (entryMask fun e => s.crown.own.testBit e && (!s.entryLatches e || s.trigActive e))
  held.foldl (fun t e => t.crownNote 0x38 [e]) s1

/-! ### Triggers -/

/-- The band of a resistance in mΩ (R312): 0 NORMAL, 1 ACTIVE, 2 OPEN, 3 SHORT, 4 a gap between bands. DESIGN CHOICE (assumption 93). -/
def trigBand (mohm : Nat) : Nat :=
  if mohm < 150000 then 3
  else if mohm ≤ 1500000 then 1
  else if mohm < 3000000 then 4
  else if mohm ≤ 7500000 then 0
  else if mohm ≤ 15000000 then 4
  else 2

/-- The state that a run of `n` samples in a band leads to (R312), with the debounce in ms. -/
def trigNext (old band n deb : Nat) : Nat :=
  if band ≤ 1 then (if n ≥ deb + 1 then band else old)
  else if n ≥ 1001 then (if band = 3 then 3 else 2)
  else old

/-- A trigger's state set (R312, R315, R316): a change to or from OPEN or SHORT is logged; a trigger that becomes ACTIVE
starts its entries; one that is NORMAL ends its entries that do not latch. -/
def State.setTrig (s : State) (n new : Nat) : State :=
  let old := s.get (Fld.trigState n)
  let s1 := s.put (Fld.trigState n) new
  let s2 := if old ≠ new && (old ≥ 2 || new ≥ 2) then s1.crownNote 0x38 [n, old, new] else s1
  let mine := (List.range 16).filter fun e => s2.entrySrc e = n
  if new = 1 && old ≠ 1 then mine.foldl State.startEntry s2
  else if new = 0 then s2.setOwn (entryMask fun e => s2.crown.own.testBit e && (!mine.contains e || s2.entryLatches e))
  else s2

/-- One trigger sampled (R312): a disabled input reads NORMAL. -/
def State.trigSample (s : State) (n mohm : Nat) : State :=
  if !s.on (Fld.CROWN_TRIG_EN n) then
    ({ s with crown := { s.crown with trig := s.crown.trig.set n (0, 0) } }).setTrig n 0
  else
    let old := s.crown.trig.getD n (0, 0)
    let b := trigBand mohm
    let run := if old.1 = b then min (old.2 + 1) 1001 else 1
    let s1 := { s with crown := { s.crown with trig := s.crown.trig.set n (b, run) } }
    s1.setTrig n (trigNext (s.get (Fld.trigState n)) b run (s.get (Fld.CROWN_TRIG_DEB_MS n)))

/-- TRIG_SAMPLE (R312); a trigger without a measurement reads as open. -/
def execTrigSample (mohm : List Nat) (s : State) : Host.Outcome State Fault Refusal :=
  s.run fun s => (List.range 8).foldl (fun (t : State) n => t.trigSample n (mohm.getD n 0xFFFFFFFF)) s

/-- CROWN_CMD written (R315): ENTRY is kept, and START starts an entry whose SRC is 9; one for another entry is logged. -/
def State.crownCmd (s : State) (g : Who) (w : Word) : State :=
  let e := Word.field w 3 0
  let s1 := s.put Fld.CROWN_CMD_ENTRY e
  if !w.getLsbD 8 then s1
  else if s1.entrySrc e = 9 then (s1.startEntry e).command g 0x38002C w.toNat
  else s1.logNote codeDiscard 0x38 g.origin [0x38002C, w.toNat]

/-- ALARM_START_CMD (R315). -/
def execAlarmStartCmd (g : Agent) (value : BitVec 32) (s : State) : Host.Outcome State Fault Refusal :=
  s.run fun s => s.crownCmd g.who value

/-! ### Content -/

/-- A stored message, where one of that number is held. -/
def State.message (s : State) (m : Nat) : Option MsgRec := s.flash.msgs.find? (·.num = m)

/-- The code of the turn (R323). -/
def State.turnCode (s : State) (e : Nat) (q : SeqSt) : Nat := if q.partB then s.entryB e else s.entryA e

/-- Where a sequence begins: a content of none is skipped (R314). -/
def State.firstTurn (s : State) (e now : Nat) : SeqSt := { partB := s.entryA e = 0 && s.entryB e ≠ 0, since := now, fall := none }

/-- The sequence of an entry: where it has not begun, its beginning. -/
def State.seqOf (s : State) (e : Nat) : SeqSt := match s.crown.seqs.find? (·.1 = e) with
  | some x => x.2
  | none => s.firstTurn e s.time.now

def State.setSeq (s : State) (e : Nat) (q : SeqSt) : State :=
  { s with crown := { s.crown with seqs := (e, q) :: s.crown.seqs.filter (·.1 ≠ e) } }

/-- How long a tone that plays once lasts, in ns (R321, R323). -/
def toneNs (c : Nat) : Option Nat := if c = 6 then some 1500000000 else if c = 7 then some 5000000000 else none

/-- How long a turn lasts, in ns (R323): A_DUR, or as long as its content to its natural end; a message that is not valid plays as the
FALLBACK tone, whose own turn counts. A continuous tone and LIVE have no end. -/
def State.turnNs (s : State) (e : Nat) (q : SeqSt) : Option Nat :=
  let c := s.turnCode e q
  if !q.partB && s.entryDur e ≠ 0 then some (s.entryDur e * 100000000)
  else if isMsg c then
    (match s.message (c - 0x10) with
     | some m => some (m.samples.length * 62500)
     | none => toneNs (s.entryFallback e))
  else toneNs c

/-- Whether a turn is over (R323). -/
def State.turnEnds (s : State) (e : Nat) (q : SeqSt) : Bool := match s.turnNs e q with
  | some d => s.time.now ≥ q.since + d
  | none => false

/-- The next turn (R314, R323): A, then B, then A again, a content of none skipped. -/
def State.nextTurn (s : State) (e : Nat) : State :=
  let q := s.seqOf e
  let other := if q.partB then s.entryA e else s.entryB e
  s.setSeq e { partB := if other = 0 then q.partB else !q.partB, since := s.time.now, fall := none }

/-- CONTENT_TURN_END (R323). -/
def execContentTurnEnd (entry : Fin 16) (s : State) : Host.Outcome State Fault Refusal :=
  s.run fun s =>
    s.when (s.crown.seqs.any (·.1 = entry.val) && s.entryOn entry && s.turnEnds entry (s.seqOf entry)) fun s => s.nextTurn entry

/-- Whether the CRC-32 of a message's block differs from its block table's (R322, R323): the samples' octets, each sample's high octet
first. -/
def MsgRec.badBlock (m : MsgRec) (b : Nat) : Bool :=
  b < m.table.length && crc32 (((m.samples.drop (2048 * b)).take 2048).flatMap fun x => [x.toNat / 256, x.toNat % 256]) ≠ m.table.getD b 0

/-- Whether a block of the message in an entry's turn that plays within a time in ns from now fails its CRC; a block plays for 128 ms. -/
def State.blockBad (s : State) (e ns : Nat) : Bool :=
  let q := s.seqOf e
  let age := s.time.now - q.since
  match s.message (s.turnCode e q - 0x10) with
  | some m => s.crown.seqs.any (·.1 = e) && isMsg (s.turnCode e q) && (m.badBlock (age / 128000000) || m.badBlock ((age + ns) / 128000000))
  | none => false

/-- A block of the message in its turn fails its CRC (R323): the FALLBACK tone plays to the end of that turn. -/
def State.blockFail (s : State) (e : Nat) : State :=
  let q := s.seqOf e
  let c := s.turnCode e q
  if !s.crown.seqs.any (·.1 = e) || !isMsg c || (s.message (c - 0x10)).isNone || q.fall.isSome then s
  else
    let s1 := s.setSeq e { q with fall := some s.time.now }
    let s2 := { s1 with flash := { s1.flash with
      msgs := s1.flash.msgs.map fun (m : MsgRec) => if m.num = c - 0x10 then { m with bad := true } else m } }
    (s2.bump Fld.CROWN_CNT_MSG_FAULTS 1).crownNote 0x38 [c - 0x10]

/-! ### Gate selection -/

def gateNormal : Nat := 0
def gateCrown : Nat := 1
def gateMute : Nat := 2

/-- Channel `c` of CROWN_GATE. -/
def Fld.gate (c : Nat) : Fld := ⟨Fld.CROWN_GATE_SEL.addr, 2 * c + 1, 2 * c⟩

/-- The entry that decides a channel (R319): the lowest PRIO, then the lowest number. -/
def State.decider (s : State) (c : Nat) : Option Nat :=
  (List.range 16).foldl (fun a e =>
    if s.entryOn e && s.entryNames e c then
      match a with
      | none => some e
      | some b => if s.entryPrio e < s.entryPrio b then some e else a
    else a) none

/-- Whether the module takes its selections from the liner: the standby of a pair (R319), until it is ACTIVE. -/
def State.followsLiner (s : State) : Bool := s.get Fld.PAIR_STATUS_ROLE = 2 || s.get Fld.PAIR_STATUS_ROLE = 3

/-- What the last active record says of a channel: its selection, deciding entry and content code. -/
def State.peerGate (s : State) (c : Nat) : Option (Nat × Nat × Nat) := match s.pair.heard with
  | some x => (x.act.bind fun a => a.gates[c]?)
  | none => none

/-- The selection of a channel (R319, R320, R333). -/
def State.gateSel (s : State) (c : Nat) : Nat :=
  if s.followsLiner then (match s.peerGate c with
    | some g => g.1
    | none => s.get (Fld.gate c))
  else if !s.on Fld.CROWN_STATUS_ALARM then gateNormal
  else match s.decider c with
    | none => if s.on Fld.CROWN_POLICY_MUTE_OTHERS then gateMute else gateNormal
    | some e =>
      if s.turnCode e (s.seqOf e) = codeLive && !s.on Fld.CROWN_STATUS_LIVE_FALLBACK then gateNormal else gateCrown

/-- What the Crown decides of a channel now: the selection, the entry and its turn. -/
def State.gateDecision (s : State) (c : Nat) : GateSel :=
  let e := if s.followsLiner then (s.peerGate c).map (·.2.1) else if s.on Fld.CROWN_STATUS_ALARM then s.decider c else none
  { sel := s.gateSel c, entry := e, turn := e.bind fun e => (s.crown.seqs.find? (·.1 = e)).map (·.2) }

/-- The selections decided at the end of a lane cycle (R317). -/
def State.decideGates (s : State) : State :=
  { s with crown := { s.crown with decided := (List.range 8).map s.gateDecision } }

/-- The selections put into force (R317, R319): those that the last lane cycle decided, and in a standby the liner's (R333); a held vote
keeps the last ones (R311). -/
def State.writeGates (s : State) : State :=
  if s.crown.held then s
  else
    let l := if s.followsLiner then (List.range 8).map s.gateDecision else s.crown.decided
    let s1 := { s with crown := { s.crown with force := l } }
    (List.range 8).foldl (fun t c => t.put (Fld.gate c) (l.getD c GateSel.normal).sel) s1

/-- Whether a channel that an entry decides has LIVE in its turn. -/
def State.anyLive (s : State) : Bool := (List.range 8).any fun c => match s.decider c with
  | some e => s.turnCode e (s.seqOf e) = codeLive
  | none => false

/-! ### What the gates play -/

/-- A burst of a tone's pattern (R321): the time in ns since it began, its length where it ends, and the phase in cycles that its
frequency has run through. -/
structure Burst where
  age : Nat
  len : Option Nat
  cycles : Rat
deriving DecidableEq, Repr

/-- How the tones' frequencies stand to the ones that R321 names, to which they hold within ±100 ppm. -/
def toneRate : Rat := 1 + max (-(1 / 10000)) (min (1 / 10000) Config.toneError)

/-- A burst of one frequency in Hz (R321). -/
def Burst.of (hz age : Nat) (len : Option Nat) : Burst :=
  { age := age, len := len, cycles := (hz : Rat) * mkRat age 1000000000 * toneRate }

/-- When note `i` of ATTENTION begins, in ns (R321): three notes of 0.4 s, one after the other, within 1.5 s, of which the spec does not
say where they lie. DESIGN CHOICE (assumption 96). -/
def noteStart (i : Nat) : Nat := i * 400000000 + min 300000000 (sumOf ((List.range (i + 1)).map Config.noteGap))

/-- The cycles of BITONE after a time in ns (R321): 440 Hz and 554 Hz by turns of 0.5 s, with continuous phase. -/
def bitoneCycles (ns : Nat) : Rat :=
  let r := ns % 1000000000
  (497 * (ns / 1000000000) : Nat) + mkRat (if r < 500000000 then 440 * r else 220000000000 + 554 * (r - 500000000) : Nat) 1000000000

/-- The burst of a tone's pattern that sounds at a time in ns since the pattern began (R321), where one does. -/
def toneBurst (code ns : Nat) : Option Burst :=
  let half := 500000000
  match code with
  | 1 => let t := ns % 4000000000; if t < 5 * half && t % (2 * half) < half then some (Burst.of 970 (t % (2 * half)) (some half)) else none
  | 2 =>
    let t := ns % 4000000000
    if t < 3500000000 then some { Burst.of 0 t (some 3500000000) with cycles := sweepCycles t * toneRate } else none
  | 3 => let t := ns % 2000000000; if t < 1000000000 then some (Burst.of 1000 t (some 1000000000)) else none
  | 4 => some (Burst.of 970 ns none)
  | 5 => some { Burst.of 0 ns none with cycles := bitoneCycles ns * toneRate }
  | 6 => ((List.range 3).find? fun i => noteStart i ≤ ns && ns < noteStart i + 400000000).map fun i =>
      Burst.of ([523, 659, 784].getD i 0) (ns - noteStart i) (some 400000000)
  | 7 => if ns < 5000000000 then some (Burst.of 660 ns (some 5000000000)) else none
  | 8 => some (Burst.of 1000 ns none)
  | _ => none

/-- The raised-cosine edge of a burst, 5 ms long (R321): (1 − cos(π·t ÷ 5 ms)) ÷ 2. -/
def burstEdge (ns : Nat) : Word :=
  if ns ≥ 5000000 then fOne
  else fdot [(0x3F000000, fOne), (0xBF000000, sineOf (mkRat ns 10000000 + 1 / 4))]

/-- A sample of a burst at unit level: a sine that starts at phase zero, with both its edges. -/
def Burst.sample (b : Burst) : Word :=
  let up := fmul (burstEdge b.age) (sineOf b.cycles)
  match b.len with
  | some l => fmul (burstEdge (l - b.age)) up
  | none => up

/-- The amplitude of a level in 0.01 dB (R314). -/
def levelGain (l : Int) : Word := if l = 0 then fOne else dbGain l

/-- A sample of a content at a time in ns since it began (R321, R323): TEST plays 20 dB lower; a message past its last
sample is silent. -/
def State.crownSample (s : State) (x : Played) (ns : Nat) : Word :=
  if isTone x.code then
    (match toneBurst x.code ns with
     | some b => fmul (levelGain (if x.code = 8 then x.level - 2000 else x.level)) b.sample
     | none => 0)
  else if isMsg x.code then
    (match s.message (x.code - 0x10) with
     | some m => if ns * 16 / 1000000 < m.samples.length then fmul (levelGain x.level) (Config.interpolate m.samples ns) else 0
     | none => 0)
  else 0

/-- A channel's NORMAL source as latched (R14, R314): on the -P8 output 328 + c, on the -L0 the output its channel word
names. -/
def State.channelOutput (s : State) (c : Nat) : Nat :=
  if s.isP8 then 328 + c else Word.field (s.rd (indKey 0x38 (0x200 + c))) 8 0

/-- What an entry plays on its channels in a turn (R320, R321, R323). DEDUCED (assumption 98). -/
def State.entryPlays (s : State) (e : Nat) (q : SeqSt) : Played :=
  let c := s.turnCode e q
  let f := s.entryFallback e
  let l := s.entryLevel e
  if c = codeLive then { src := gateCrown, code := f, since := max q.since s.crown.liveAt, level := l }
  else match q.fall with
    | some t => { src := gateCrown, code := f, since := t, level := l }
    | none =>
      if isMsg c && (s.message (c - 0x10)).isNone then { src := gateCrown, code := f, since := q.since, level := l }
      else { src := gateCrown, code := c, since := q.since, level := l }

/-- The turn that a selection in force plays: the one that it was decided with, even where the sequence has moved on since, with the
failure of a block known now; where the sequence had not begun, its present turn. -/
def State.turnInForce (s : State) (e : Nat) (turn : Option SeqSt) : SeqSt := match turn with
  | none => s.seqOf e
  | some q =>
    let now := s.seqOf e
    if now.partB = q.partB && now.since = q.since then now else q

/-- What a channel's gate plays with the selection in force. -/
def State.gatePlays (s : State) (c : Nat) : Played :=
  let g := s.crown.force.getD c GateSel.normal
  let silent : Played := { src := g.sel, code := 0, since := 0, level := 0 }
  if g.sel = gateCrown then (g.entry.map fun e => s.entryPlays e (s.turnInForce e g.turn)).getD silent else silent

/-- What an entry plays on the fallback clock (R324): with LIVE its FALLBACK tone, from the change of the clock on where LIVE_FALLBACK does
not stand. -/
def State.fallbackPlays (s : State) (e : Nat) : Played :=
  let q := s.seqOf e
  let p := s.entryPlays e q
  if s.turnCode e q = codeLive && !s.on Fld.CROWN_STATUS_LIVE_FALLBACK then { p with since := max q.since s.crown.fallAt } else p

/-- What the channels play on the fallback clock brought up to date: a channel without an entry ends with what it played. -/
def State.keepFallback (s : State) : State :=
  if !s.amp.fallback then s
  else
    let l := (List.range 8).map fun c => ((s.decider c).map s.fallbackPlays).getD (s.crown.fall.getD c Played.none)
    { s with crown := { s.crown with fall := l } }

/-- The tick of samples that a gate's source brings; the Crown's begin at the take point. -/
def State.playedSamples (s : State) (c : Nat) (x : Played) : List Word :=
  if x.src = gateNormal then padTo s.k ((s.takenOf (s.channelOutput c)).map fromCode24)
  else if x.src = gateCrown then (List.range s.k).map fun j => s.crownSample x (s.time.now - x.since + j * 125000 / s.k)
  else List.replicate s.k 0

/-- One channel's gate at the take point (R19, R323): a change of source or content crossfades over the tick. -/
def State.gateChannel (s : State) (c : Nat) : List Word × Played :=
  let old := s.crown.played.getD c Played.none
  let new := s.gatePlays c
  (if old = new then s.playedSamples c new else crossfade s.k (s.playedSamples c old) (s.playedSamples c new), new)

/-- The sequences that begin at this take point (R323): of the entries that decide a channel in the selections in force. -/
def State.beginSeqs (s : State) : State :=
  if !s.on Fld.CROWN_STATUS_ALARM || s.followsLiner then s
  else (List.range 8).foldl (fun (t : State) c => match (t.crown.force.getD c GateSel.normal).entry with
    | some e => if t.crown.seqs.any (·.1 = e) || !t.entryOn e then t else t.setSeq e (t.firstTurn e t.time.now)
    | none => t) s

/-- The blocks that play within a time in ns checked before they do (R323). -/
def State.checkBlocks (s : State) (ns : Nat) : State :=
  (List.range 16).foldl (fun (t : State) e => if t.blockBad e ns then t.blockFail e else t) s

/-- A sample of the fabric as a rational number. -/
def ratOf (w : Word) : Rat := mkRat (fval w) (2 ^ 149)

/-- The amplitude to which the limiter has lowered a channel (R259). -/
def State.limiterAmp (s : State) (c : Nat) : Word := dbAmp (fround (-((s.amp1 c).lim : Int) * fUnit) 1000000)

/-- Sample `j` that a modulator plays (R257, R277, R280, R283): of the channel whose settings it runs under, as the gate put it out, or
straight from the Crown at 50 kHz on the fallback clock, times its play gain and the limiter's; and the pilot added behind the limiter
(R291). -/
def State.modSample (s : State) (c j : Nat) : Word :=
  let e := s.ampSrc c
  let x := if s.amp.fallback then
      (let p := s.crown.fall.getD e Played.none
       if p.src = gateCrown then s.crownSample p (s.time.now - p.since + j * 20000) else 0)
    else samp (s.amp.mod.getD e []) j
  let y := fmul (fmul x ((s.amp1 (s.ampGov c)).gain.at j)) (s.limiterAmp (s.ampGov c))
  fdot [(y, fOne), (s.pilotSample c (j * 125000 / s.k), fOne)]

/-- The sum of programme and pilot that sample `j` asks of a channel, in volts: the sample times FS_VPK (R257, R291). -/
def State.sumVolts (s : State) (c j : Nat) : Rat := ratOf (s.modSample c j) * mkRat (s.get (Fld.AMP_CH_LEVEL_FS_VPK (s.ampSrc c)) : Nat) 100

/-- The clip level of a channel in volts (R257, R301): 0.93 of the rail, or 0.94 where the load is of 8 Ω and above, and 2 V lower in a
step of a location. -/
def State.clipVolts (s : State) (c : Nat) (eightOhms : Bool) : Rat :=
  let rail := s.get (if railOf c = 0 then Fld.AMP_RAIL_VINP_A else Fld.AMP_RAIL_VINP_B)
  mkRat (rail * (if eightOhms then 94 else 93) : Nat) 10000 - if s.stepping c then 2 else 0

/-- The differential switch-node voltage in volts that sample `j` gives in the next tick (R257, R266, R277): the sum, trimmed where the
channels of a pair share the current, and clipped; zero in STARTING, in a probe's precharge too, and none where the bridges do not switch.
DESIGN CHOICE (assumption 81): the loop and the waveform are left out. -/
def State.switchNode (s : State) (c j : Nat) (eightOhms : Bool) : Option Rat :=
  if !s.ampSwitches c then none
  else
    let clip := s.clipVolts c eightOhms
    let v := if s.ampSt c = 1 then 0 else s.sumVolts c j + mkRat (s.amp1 c).trim 1000000
    some (if v > clip then clip else if v < -clip then -clip else v)

/-- When sample `j` reaches the switch nodes, in ns behind the next boundary (R257, R283): j ÷ fs, at 50 kHz on the fallback clock, and
12 µs. -/
def State.nodeDelay (s : State) (j : Nat) : Nat := (if s.amp.fallback then j * 20000 else j * 125000 / s.k) + 12000

/-- The samples of the tick that begins, held against the clip level on the line that is in its slot (R293): judged at fs, sample by
sample, on both channels of a pair. -/
def State.clipWatch (s : State) : State := match s.line.slot with
  | some (l, _) =>
    if s.amp.fallback || s.time.now < s.line.slotAt || s.slotDone then s
    else
      let d := s.lineDriver l
      let chans := if s.ampPaired d then [d, d + 1] else [d]
      let hit := fun (e : Bool) => chans.any fun c => (List.range s.k).any fun j =>
        s.sumVolts c j > s.clipVolts c e || s.sumVolts c j < -s.clipVolts c e
      { s with line := { s.line with clip93 := s.line.clip93 || hit false, clip94 := s.line.clip94 || hit true } }
  | none => s

/-- The gates at the take point (R16, R19, R283): the -P8's modulators take the gates' outputs, unless they run on the
fallback clock; the -L0's gates replace the samples latched for the outputs that its channel words name, from 256 to
327. Of two channel words that name the same output the higher-numbered channel's result stands, for the spec does not say which
gate feeds it. DESIGN CHOICE (assumptions 101, 212). -/
def State.gateTake (s0 : State) : State :=
  let s := s0.beginSeqs.checkBlocks 125000
  let l := (List.range 8).map s.gateChannel
  let s1 := { s with crown := { s.crown with played := l.map (·.2) } }
  if s.isP8 then { s1 with amp := { s1.amp with mod := if s.amp.fallback then List.replicate 8 [] else l.map (·.1) } }
  else
    let gated := (List.range 8).filter fun c =>
      let o := s.channelOutput c
      256 ≤ o && o ≤ 327 && (s.crown.played.getD c Played.none ≠ Played.none || (l.getD c ([], Played.none)).2 ≠ Played.none)
    gated.foldl (fun (t : State) c =>
      let o := s.channelOutput c
      let w := ((l.getD c ([], Played.none)).1).map fun x => (toCode24 x).1
      { t with fab := { t.fab with taken := (o, w) :: t.fab.taken.filter (·.1 ≠ o) } }) s1

end Sys2Proof.Machine
end

