-- ==== Sys2Proof/Machine/Pair.lean ====
section
/-! DEFINITION. The Crown's lanes, alarm state, fallback clock and outputs, and the duty/standby pairing (R308 to R311, R317,
R320, R324 to R336). -/

namespace Sys2Proof.Machine

/-! ### PNL_DE -/

/-- The bit rate of the link: other values of BAUD act as 1 (R344). -/
def State.panelBaud (s : State) : Nat := [9600, 19200, 38400, 57600, 115200].getD (s.get Fld.PNL_CFG_BAUD) 19200

/-- A bit time of the link in ns. -/
def State.bitNs (s : State) : Nat := 1000000000 / s.panelBaud

/-- Whether a sound lane asserts PNL_DE (R337): from one bit time before the first start bit to one bit time after the last stop bit. -/
def State.deOwn (s : State) : Bool := !s.pnl.sending.isEmpty || s.time.now < s.pnl.deTill

/-- PNL_DE, by the vote of the lanes (R309, R337, R344). -/
def State.panelDe (s : State) : Bool := s.voted s.deOwn.toNat (fun x => x.pnlDe.toNat) = 1

/-! ### Lanes -/

/-- The states of a lane (R310, R342). -/
def laneVoting : Nat := 0
def laneRepair : Nat := 1
def laneRetired : Nat := 2

/-- The repairs of lane `l` in the last hour, in CROWN_LANES. -/
def Fld.laneRepairs (l : Nat) : Fld := ⟨Fld.CROWN_LANES_LANE.addr, 8 * l + 7, 8 * l + 4⟩

def State.lane (s : State) (l : Nat) : Nat := s.get (Fld.laneState l)

/-- The lanes that vote. -/
def State.voting (s : State) : List Nat := (List.range 3).filter fun l => s.lane l = laneVoting

/-- The repairs of the last hour shown (R310). -/
def State.showRepairs (s : State) : State :=
  let recent := s.crown.laneTimes.map fun l => l.filter fun t => s.time.now < t + 3600000000000
  let s1 := { s with crown := { s.crown with laneTimes := recent } }
  (List.range 3).foldl (fun t l => t.put (Fld.laneRepairs l) (min 15 (recent.getD l []).length)) s1

/-- A lane sent to a state, its count of differing cycles cleared. -/
def State.sendLane (s : State) (l st : Nat) : State :=
  { (s.put (Fld.laneState l) st) with crown := { s.crown with laneBad := s.crown.laneBad.set l 0 } }

/-- A lane leaves the vote (R310): event 48; its fourth repair within an hour retires it. DEDUCED (assumption 91). -/
def State.laneOut (s : State) (l items : Nat) : State :=
  let s1 := s.crownRaise 48 0x38 [l, items]
  match (s.crown.laneTimes.getD l []).drop 2 with
  | [] => s1.sendLane l laneRepair
  | _ :: _ => (s1.sendLane l laneRetired).crownNote 0x38 [l, items]

/-- The content positions that a lane holds (R308): of each channel the part of the sequence and the ms within it. -/
def State.contentPos (s : State) (c : Nat) : Bool × Nat := match s.decider c with
  | some e => ((s.seqOf e).partB, (s.time.now - (s.seqOf e).since) / 1000000)
  | none => (false, 0)

/-- What a sound lane holds at the end of a cycle (R308). -/
def State.laneOwn (s : State) : LaneCopy :=
  let gate := fun (c : Nat) => (s.crown.decided.getD c GateSel.normal).sel % 4 * 4 ^ c
  { alarm := s.on Fld.CROWN_STATUS_ALARM, entries := BitVec.ofNat 16 s.entries, gates := BitVec.ofNat 16 (sumOf ((List.range 8).map gate)),
    zsel := BitVec.ofNat 16 (s.get Fld.CROWN_FIELD_ZSEL), rly := BitVec.ofNat 4 (s.get Fld.CROWN_FIELD_RLY),
    alarmN := s.on Fld.CROWN_FIELD_ALARM_N, faultN := s.on Fld.CROWN_FIELD_FAULT_N,
    role := BitVec.ofNat 3 (s.get Fld.PAIR_STATUS_ROLE), cuff := s.on Fld.PAIR_STATUS_CUFF_DRIVE,
    pairclk := s.on Fld.PAIR_CFG_EN && (s.get Fld.PAIR_STATUS_ROLE = 3 || s.get Fld.PAIR_STATUS_ROLE = 4), mux := s.amp.fallback,
    pos := (List.range 8).map s.contentPos, pnlDe := s.deOwn }

/-- Lane `l`'s copy of the Crown state: the sound one, or another where it shows that. -/
def State.laneCopy (s : State) (l : Nat) : LaneCopy := (s.crown.shown.getD l none).getD s.laneOwn

/-- The lanes whose copy differs from that of every other voting lane (R310, R311). -/
def State.laneDiffers (s : State) : Nat :=
  bitmap (s.voting.filter fun l =>
    let others := s.voting.filter (· ≠ l)
    others ≠ [] && others.all fun m => s.laneCopy m ≠ s.laneCopy l)

/-- The items in which the voting lanes' copies differ, in the order of R308's list. DEDUCED (assumption 111). -/
def State.laneItems (s : State) : Nat :=
  let l := s.voting.map s.laneCopy
  let part : Nat → LaneCopy → LaneCopy → Bool := fun i a b => match i with
    | 0 => a.alarm ≠ b.alarm || a.entries ≠ b.entries
    | 1 => a.gates ≠ b.gates
    | 2 => a.zsel ≠ b.zsel || a.rly ≠ b.rly || a.alarmN ≠ b.alarmN || a.faultN ≠ b.faultN || a.pnlDe ≠ b.pnlDe
    | 3 => a.role ≠ b.role || a.cuff ≠ b.cuff || a.pairclk ≠ b.pairclk
    | 4 => a.mux ≠ b.mux
    | _ => a.pos ≠ b.pos
  bitmap ((List.range 6).filter fun i => l.any fun a => l.any fun b => part i a b)

/-- The lanes judged at the end of a cycle while three vote (R310): the second cycle in a row in which a lane differs. DEDUCED (assumption 92). -/
def State.judgeLanes (s : State) (differs items : Nat) : State :=
  let bad := (List.range 3).map fun l => if differs.testBit l && s.voting.length = 3 then s.crown.laneBad.getD l 0 + 1 else 0
  let s1 := { s with crown := { s.crown with laneBad := bad } }
  (List.range 3).foldl (fun (t : State) l => if bad.getD l 0 ≥ 2 && t.voting.length = 3 then t.laneOut l items else t) s1

/-- Whether the vote holds its last values in this cycle (R311): fewer than three lanes vote, and they disagree. -/
def State.voteHeld (s : State) (differs : Nat) : Bool :=
  s.voting.length < 3 && s.voting.any (fun l => differs.testBit l)

/-- Whether a disagreement cannot be repaired (R311): the third lane is RETIRED, or one lane remains. -/
def State.beyondRepair (s : State) : Bool :=
  s.voting.length < 2 || (List.range 3).any (fun l => s.lane l = laneRetired)

/-- LANE_REPAIR_DONE (R310): the lane's copy is that of a voting lane. -/
def execLaneRepairDone (lane : Fin 3) (s : State) : Host.Outcome State Fault Refusal :=
  s.runF fun s => s.when (s.lane lane = laneRepair) fun s =>
    let s1 := { s with crown := { s.crown with
      laneTimes := s.crown.laneTimes.modify lane (fun l => s.time.now :: l), laneBad := s.crown.laneBad.set lane 0,
      shown := s.crown.shown.set lane none } }
    ((s1.put (Fld.laneState lane) laneVoting).bump Fld.CROWN_CNT_REPAIRS 1).showRepairs

/-- Whether an oscillator's count differs from another's by more than 1,000 ppm. -/
def oscDiffers (a b : Nat) : Bool := 1000 * ((a : Int) - b).natAbs > b

/-- LANE_OSC_CHECK (R309): the edges that the lanes' oscillators made in 10 ms; a lane that differs from both of the others counts as
disagreeing until the next check. -/
def execLaneOscCheck (edges : List Nat) (s : State) : Host.Outcome State Fault Refusal :=
  s.runF fun s =>
    let off := (List.range 3).filter fun l => (List.range 3).all fun m => m = l || oscDiffers (edges.getD l 0) (edges.getD m 0)
    { s with crown := { s.crown with laneOsc := bitmap off } }

/-! ### Fault summary and field outputs -/

/-- Whether no host port serves the part (R426): both LOST, or one LOST and the other in NONE with no ring running. -/
def State.hostless (s : State) : Bool :=
  let st := fun p : Port => s.get (Fld.HIF_PORT_ST_STATE p.num)
  let idle := fun p : Port => st p = 0 && (List.range 64).all fun n => !s.ringRuns p n
  (st .a = 2 && st .b = 2) || (st .a = 2 && idle .b) || (st .b = 2 && idle .a)

/-- Whether an alarm-tagged overrun has occurred within the last second (R320, R326). -/
def State.overrunRecent (s : State) : Bool := s.crown.overruns.any fun t => s.time.now < t + 1000000000

/-- The fault summary (R326). -/
def State.faultSummary (s : State) : Nat :=
  let r8 := List.range 8
  bitmap ((List.range 13).filter fun b => match b with
    | 0 => r8.any fun n => s.on (Fld.CROWN_TRIG_EN n) && s.get (Fld.trigState n) ≥ 2
    | 1 => r8.any fun c => s.get (Fld.LINE_CH_ST_CLASS c) ≥ 2
    | 2 => s.on Fld.LINE_EF_ST_EARTH_FAULT
    | 3 => r8.any fun c => s.on (Fld.AMP_CH_CFG_EN c) && (s.ampSt c = 4 || s.ampSt c = 6 || s.ampSt c = 7)
    | 4 => s.amp.railBad.any id || s.on Fld.PLAT_SUPPLY_VIN_WARN || s.on Fld.PLAT_SUPPLY_PFW
    | 5 => (List.range 3).any fun l => s.lane l = laneRetired
    | 6 => s.on Fld.CROWN_STATUS_CROWN_FAIL
    | 7 => s.on Fld.CROWN_STATUS_SCHED_LOST
    | 8 => s.overrunRecent
    | 9 => s.flash.msgs.any (·.bad)
    | 10 => s.on Fld.PAIR_STATUS_PEER_LOST || s.on Fld.PAIR_STATUS_CUFF_FAULT || s.on Fld.PAIR_STATUS_MISMATCH
    | 11 => s.get Fld.REFS_SEL_STATUS_STATE = 4
    | 12 => s.hostless
    | _ => false)

/-- The OR of a field over the active entries. -/
def State.orEntries (s : State) (f : Nat → Nat) : Nat :=
  (List.range 16).foldl (fun a e => if s.entryOn e then a ||| f e else a) 0

/-- Whether the changeover relay is energised (R325): from a claim on, and, as R329 and R335 have it, until a yielding module passes to
STANDBY. DEDUCED (assumption 250). -/
def State.changeover (s : State) : Bool :=
  let r := s.get Fld.PAIR_STATUS_ROLE
  s.on Fld.PAIR_CFG_EN && s.on Fld.PAIR_CFG_XFER_EN && !s.on Fld.PAIR_CFG_DUTY && (r = 3 || r = 4 || r = 5)

/-- The ZSEL outputs (R325, R333). DEDUCED (assumption 105). -/
def State.zselOut (s : State) : Nat :=
  let spare := match s.amp.xfer with
    | some z => 2 ^ (z % 16)
    | none => 0
  s.get Fld.CROWN_HOST_OUT_ZSEL_HOST ||| s.orEntries s.entryZsel ||| spare ||| (if s.followsLiner then s.pair.zsel else 0)

/-- The RLY outputs without the changeover relay driver, and with it (R325, R333). -/
def State.rlyShared (s : State) : Nat :=
  s.get Fld.CROWN_HOST_OUT_RLY_HOST ||| s.orEntries s.entryRly ||| (if s.followsLiner then s.pair.rly else 0)

def State.rlyOut (s : State) : Nat :=
  s.rlyShared ||| (if s.changeover then 2 ^ s.get Fld.PAIR_CFG_XFER_RLY else 0)

/-- Whether the standby drives FAULT_N for its partner (R333). DEDUCED (assumption 105). -/
def State.peerFaults (s : State) : Bool := s.followsLiner && (match s.pair.heard with
  | some x => x.faults ≠ 0
  | none => false)

/-- The fault summary and the field outputs brought up to date (R325, R326); with CROWN_FAIL, and while the vote holds, the outputs hold
(R311). -/
def State.driveField (s : State) : State :=
  let f := s.faultSummary
  let s1 := s.put Fld.CROWN_STATUS_FAULTS f
  if s.on Fld.CROWN_STATUS_CROWN_FAIL || s.crown.held then s1
  else
    (((s1.put Fld.CROWN_FIELD_ZSEL s.zselOut).put Fld.CROWN_FIELD_RLY s.rlyOut).flag
      Fld.CROWN_FIELD_ALARM_N (!s.on Fld.CROWN_STATUS_ALARM)).flag Fld.CROWN_FIELD_FAULT_N (f = 0 && !s.peerFaults)

/-- CROWN_HOST_OUT written (R325): the outputs follow, unless the vote holds them. -/
def State.writeHostOut (s : State) (w : Word) : State :=
  let s1 := (s.put Fld.CROWN_HOST_OUT_ZSEL_HOST (Word.field w 31 16)).put Fld.CROWN_HOST_OUT_RLY_HOST (Word.field w 11 8)
  s1.driveField

/-! ### The alarm state -/

/-- Entry to ALARM and exit from it (R317). -/
def State.alarmDecide (s0 : State) : State :=
  let s := s0.showEntries
  let al := s.on Fld.CROWN_STATUS_ALARM
  let want := s.entries ≠ 0
  if want && !al then ((s.flag Fld.CROWN_STATUS_ALARM true).bump Fld.CROWN_CNT_ALARMS 1).crownRaise 46 0x38 []
  else if !want && al then
    ({ (s.flag Fld.CROWN_STATUS_ALARM false) with crown := { s.crown with seqs := [] } }).crownRaise 47 0x38 []
  else s

/-- LIVE's fallback (R320): set while SCHED_LOST or a recent alarm-tagged overrun meets a channel whose entry is LIVE. DEDUCED (assumption 99). -/
def State.liveDecide (s : State) : State :=
  let on := s.on Fld.CROWN_STATUS_LIVE_FALLBACK
  let live := s.on Fld.CROWN_STATUS_ALARM && s.anyLive
  if live && !on && (s.on Fld.CROWN_STATUS_SCHED_LOST || s.overrunRecent) then
    { (s.flag Fld.CROWN_STATUS_LIVE_FALLBACK true) with crown := { s.crown with liveAt := s.time.now } }
  else if on && !live then s.flag Fld.CROWN_STATUS_LIVE_FALLBACK false
  else s

/-- LIVE_FALLBACK_RETURN (R320): both conditions clear for 1 s; that of an overrun within the last 1 s is clear 1 s after the
last overrun. DEDUCED (assumption 99). -/
def execLiveFallbackReturn (s : State) : Host.Outcome State Fault Refusal :=
  s.runF fun s =>
    s.when (s.on Fld.CROWN_STATUS_LIVE_FALLBACK && !s.on Fld.CROWN_STATUS_SCHED_LOST && !s.overrunRecent
        && s.time.now ≥ s.crown.schedClear + 1000000000
        && s.crown.overruns.all (fun t => s.time.now ≥ t + 2000000000)) fun s =>
      s.flag Fld.CROWN_STATUS_LIVE_FALLBACK false

/-! ### The fallback clock -/

/-- The channels that the Crown plays on the fallback clock (R324): those whose deciding entry has content. -/
def State.fallbackChannels (s : State) : Nat :=
  bitmap ((List.range 8).filter fun c => match s.decider c with
    | some e => s.entryA e ≠ 0 || s.entryB e ≠ 0
    | none => false)

/-- Whether the Crown wants the fallback clock (R324). -/
def State.wantsFallback (s : State) : Bool :=
  s.isP8 && s.on Fld.CROWN_STATUS_ALARM && s.activeRole && (s.on (Fld.SYN_ST_GATED 2) || s.on Fld.CROWN_STATUS_SCHED_LOST)

/-- Whether every bridge is muted, as a change of the multiplexer needs (R127): no channel plays and every gain is zero, or
1.125 ms have passed since the ramp out was ordered. DEDUCED (assumption 100). -/
def State.muxReady (s : State) (since : Nat) : Bool :=
  s.time.now ≥ since + 1125000 || (List.range 8).all fun c => (s.ampSt c ≠ 3) && (s.amp1 c).gain.value = 0

/-- A change of the multiplexer ordered. -/
def State.muxOrder (s : State) (dest : Bool) : State :=
  ({ s with crown := { s.crown with mux := some (s.time.now, dest) } }).ampSettle

/-- The multiplexer changed (R127, R283, R324); on the fallback clock the slot in progress ends, for pilots pause (R36). -/
def State.muxChange (s : State) (dest : Bool) : State :=
  let still := s.amp.ch.map fun x => { x with gain := Ramp.const 0 }
  let s1 := { s with crown := { s.crown with mux := none, fallAt := s.time.now },
                     amp := { s.amp with ch := still, fallback := dest, crownPlay := if dest then s.fallbackChannels else 0 } }
  let s2 := (s1.flag Fld.CROWN_STATUS_FALLBACK dest).ampSettle
  if dest then s2.dropSlot.lineFlags else s2

/-- The fallback clock decided (R324): taken, given back when ALARM ends, and the change of the multiplexer carried out. DEDUCED (assumption 102). -/
def State.fallbackDecide (s : State) : State :=
  let s1 := match s.crown.mux with
    | some _ => s
    | none =>
      if !s.amp.fallback && s.wantsFallback then s.muxOrder true
      else if s.amp.fallback && (!s.on Fld.CROWN_STATUS_ALARM || !s.activeRole) then s.muxOrder false
      else if s.amp.fallback && s.amp.crownPlay ≠ s.fallbackChannels then
        ({ s with amp := { s.amp with crownPlay := s.fallbackChannels } }).ampSettle
      else s
  match s1.crown.mux with
  | some (t, dest) => if s1.muxReady t then s1.muxChange dest else s1
  | none => s1

/-- FALLBACK_CLOCK_RETURN (R324): SYN2 has been locked, and SCHED_LOST clear, for 10 s; not while the multiplexer's vote holds (R311). -/
def execFallbackClockReturn (s : State) : Host.Outcome State Fault Refusal :=
  s.runF fun s =>
    s.when (s.amp.fallback && !s.on Fld.CROWN_STATUS_CROWN_FAIL && !s.crown.held && s.crown.mux.isNone && s.on (Fld.SYN_ST_LOCK 2) && !s.on Fld.CROWN_STATUS_SCHED_LOST
        && s.time.now ≥ s.crown.schedClear + 10000000000 && s.ran (.synLock 2) 10000000000) fun s => s.muxOrder false

/-! ### Roles -/

def roleUnpaired : Nat := 0
def roleStartup : Nat := 1
def roleStandby : Nat := 2
def roleClaiming : Nat := 3
def roleActive : Nat := 4
def roleYielding : Nat := 5

def State.role (s : State) : Nat := s.get Fld.PAIR_STATUS_ROLE
def State.setRole (s : State) (r : Nat) : State := s.put Fld.PAIR_STATUS_ROLE r

/-- Whether a channel stands in cause AMP (R330). -/
def State.ampCause (s : State) (c : Nat) : Bool :=
  let st := s.ampSt c
  let k := s.get (Fld.AMP_CH_ST_CAUSE c)
  s.on (Fld.AMP_CH_CFG_EN c) && !s.on (Fld.AMP_CH_ST_SPARED c)
    && ((st = 4 && k = 2) || (st = 7 && (k = 2 || k = 3)) || st = 6)

/-- Whether a rail fault stands on a rail that feeds an enabled channel (R330). -/
def State.railCause (s : State) : Bool :=
  (List.range 8).any fun c => s.on (Fld.AMP_CH_CFG_EN c) && !s.railOk c

/-- When a rail fault that counts for cause SUPPLY began, kept up to date. -/
def State.railWatch (s : State) : State :=
  let t := if s.railCause then some (s.crown.railAt.getD s.time.now) else none
  { s with crown := { s.crown with railAt := t } }

/-- The give-up causes that stand (R330). -/
def State.causes (s : State) : Nat :=
  bitmap ((List.range 8).filter fun b => match b with
    | 0 => s.isP8 && (List.range 8).any s.ampCause
    | 1 => s.on Fld.PLAT_SUPPLY_PFW || (match s.crown.railAt with
        | some t => s.time.now ≥ t + 100000000
        | none => false)
    | 2 => (s.crown.overruns.filter fun t => s.time.now < t + 1000000000).length ≥ 2
    | 3 => s.on Fld.CROWN_STATUS_CROWN_FAIL
    | 4 => s.on Fld.CROWN_STATUS_SCHED_LOST
    | 5 => s.hostless
    | 7 => s.pair.proofCause
    | _ => false)

/-- The causes that PAIR_GIVEUP enables; bit 7 is always enabled (R343). -/
def State.enabledCauses (s : State) : Nat := s.causes &&& (s.get Fld.PAIR_GIVEUP_MASK ||| 0x80)

/-- Whether a standby is READY (R331). -/
def State.standbyReady (s : State) : Bool :=
  s.role = roleStandby && s.enabledCauses = 0 && !s.on Fld.CROWN_STATUS_CROWN_FAIL && !s.on Fld.PAIR_STATUS_MISMATCH
    && s.mode ≠ modeShelter
    && (if s.isP8 then (List.range 8).all fun c => !s.on (Fld.AMP_CH_CFG_EN c) || s.ampSt c = 2
        else (List.range 8).all fun c =>
          let o := s.channelOutput c
          !(256 ≤ o && o ≤ 327) || s.lap.buf.any (·.1 = o))

/-- Whether the partner is READY (R331): its last standby record says so and is at most 16 ms old. -/
def State.peerReady (s : State) : Bool := match s.pair.stby with
  | some x => x.ready && s.time.now ≤ s.pair.stbyAt + 16000000
  | none => false

/-- The lowest bit set of a mask of causes. -/
def lowestBit (m : Nat) : Nat := ((List.range 8).find? m.testBit).getD 0

/-- The cause that this module yields for now (R329, R336): within 1 s of ACTIVE only CROWN and SUPPLY, and PROOF not while
ALARM stands. DESIGN CHOICE (assumption 104). -/
def State.yieldCause (s : State) : Option Nat :=
  let m := (List.range 8).filter fun b => s.enabledCauses.testBit b
    && (s.time.now ≥ s.pair.activeAt + 1000000000 || b = 1 || b = 3) && (b ≠ 7 || !s.on Fld.CROWN_STATUS_ALARM)
  m.head?

/-- ACTIVE to YIELDING (R329, R335): CUFF is released and PAIRCLK turned to receive. -/
def State.yieldRole (s : State) : State :=
  if s.role ≠ roleActive || !s.peerReady then s
  else match s.yieldCause with
    | none => s
    | some b =>
      let s1 := ((s.setRole roleYielding).flag Fld.PAIR_STATUS_CUFF_DRIVE false).put Fld.PAIR_LAST_CAUSE (b + 1)
      { s1 with pair := { s1.pair with yieldAt := s1.time.now } }

/-- PEER_LOST set, with event 51's cause 1 (R333). -/
def State.losePeer (s : State) : State :=
  if s.on Fld.PAIR_STATUS_PEER_LOST then s
  else (s.flag Fld.PAIR_STATUS_PEER_LOST true).crownRaise 51 0x39 [1, s.get Fld.PAIR_CFG_PEER_NODE]

/-- The partner's table CRC compared (R333). -/
def State.compareCrc (s : State) (crc : Word) : State :=
  let own := s.tableCrc
  if crc ≠ own then
    (if s.on Fld.PAIR_STATUS_MISMATCH then s
     else (s.flag Fld.PAIR_STATUS_MISMATCH true).crownRaise 51 0x39 [3, s.get Fld.PAIR_CFG_PEER_NODE, crc.toNat, own.toNat])
  else if s.on Fld.PAIR_STATUS_MISMATCH then (s.flag Fld.PAIR_STATUS_MISMATCH false).crownNote 0x39 [3, s.get Fld.PAIR_CFG_PEER_NODE]
  else s

/-- PAIR_CFG.EN applied (R329): STARTUP on, UNPAIRED off. -/
def State.pairEnable (s : State) (was : Bool) : State :=
  let on := s.on Fld.PAIR_CFG_EN
  if on = was then s
  else
    let s1 := (((((s.setRole (if on then roleStartup else roleUnpaired)).flag Fld.PAIR_STATUS_CUFF_DRIVE false).flag
      Fld.PAIR_STATUS_PROOF false).flag Fld.PAIR_STATUS_PEER_LOST false).flag Fld.PAIR_STATUS_MISMATCH false).flag
      Fld.PAIR_STATUS_PEER_READY false
    let s2 := (({ s1 with pair := { PairSt.reset with liner := s.pair.liner } }).start .cuff).put Fld.PAIR_STATUS_LINER_AGE 0xFF
    ((s2.put Fld.CROWN_ACTIVE_PARTNER 0).showEntries).ampSettle

/-! ### Proof swaps -/

/-- Event 50 with its RESULT (R336, R479): 1 PASS, 2 FAIL_CLAIM, 3 FAIL_FAULT. DEDUCED (assumption 111). -/
def State.proofResult (s : State) (r : Nat) : State :=
  (s.put Fld.PAIR_PROOF_RESULT r).raiseAs 50 0x39 (if r = 1 then 0 else 3) originCrown [r]

/-- A proof swap over at the module that runs it. -/
def State.proofOver (s : State) : State :=
  ({ s with pair := { s.pair with stage := .none, proofCause := false } }).flag Fld.PAIR_STATUS_PROOF false

/-- PROOF_SWAP (R336): begun by the active module in MAINTENANCE, outside ALARM, with a READY partner; otherwise logged. -/
def State.proofCmd (s : State) (g : Who) : State :=
  if s.role = roleActive && s.mode = modeMaintenance && !s.on Fld.CROWN_STATUS_ALARM && s.peerReady
      && s.pair.stage = .none && !s.on Fld.PAIR_STATUS_PROOF then
    ((({ s with pair := { s.pair with stage := .yielding, proofCause := true, inTime := false } }).flag Fld.PAIR_STATUS_PROOF
      true).put Fld.PAIR_PROOF_RESULT 0).command g 0x390020 1
  else s.logNote codeDiscard 0x39 g.origin [0x390020, 1]

def execProofSwap (g : Agent) (s : State) : Host.Outcome State Fault Refusal := s.runF fun s => s.proofCmd g.who

/-- The window's end at the module that runs the swap (R336): PROOF_END goes into its standby records. -/
def State.endWindow (s : State) : State := { s with pair := { s.pair with stage := .ended } }

/-- PROOF_END (R336): at the original module while the window runs; at the partner, which yields with cause PROOF while the
original is READY; otherwise logged. -/
def State.proofEndCmd (s : State) (g : Who) : State :=
  if s.pair.stage = .window || s.pair.stage = .judged then s.endWindow.command g 0x390020 2
  else if s.on Fld.PAIR_STATUS_PROOF && s.pair.stage = .none && s.role = roleActive && s.peerReady then
    ({ s with pair := { s.pair with proofCause := true } }).command g 0x390020 2
  else s.logNote codeDiscard 0x39 g.origin [0x390020, 2]

def execProofEnd (g : Agent) (s : State) : Host.Outcome State Fault Refusal := s.runF fun s => s.proofEndCmd g.who

/-- WIN_S in ns (R343): 0 acts as 1. -/
def State.windowNs (s : State) : Nat := max 1 (s.get Fld.PAIR_PROOF_WIN_S) * 1000000000

/-- PROOF_WINDOW_END (R336): WIN_S has passed since the partner's first active record, and no ALARM stands; a permanent window has no
such end. -/
def execProofWindowEnd (s : State) : Host.Outcome State Fault Refusal :=
  s.runF fun s => s.when (s.pair.stage = .window && s.get Fld.PAIR_PROOF_WIN_S ≠ 0xFFFF && s.ran .proof s.windowNs
    && !s.on Fld.CROWN_STATUS_ALARM) State.endWindow

/-- PROOF_PERMANENT_JUDGE (R336): 1 s after the partner became active. -/
def execProofPermanentJudge (s : State) : Host.Outcome State Fault Refusal :=
  s.runF fun s => s.when (s.pair.stage = .window && s.get Fld.PAIR_PROOF_WIN_S = 0xFFFF && s.ran .proof 1000000000) fun s =>
    ({ s with pair := { s.pair with stage := .judged } }).proofResult (if s.pair.inTime then 1 else 2)

/-- A cause that arises at the original module while the partner holds the role (R336): FAIL_FAULT at once. DEDUCED (assumption 110). -/
def State.proofWatch (s : State) : State :=
  if s.role = roleStandby && (s.pair.stage = .window || s.pair.stage = .ended) && s.enabledCauses ≠ 0 then
    (s.proofOver).proofResult 3
  else s

/-- The original module claims again (R336): the result of the swap; `quick` where the claim keeps within the gap of R335. DEDUCED
(assumption 109). -/
def State.proofClaim (s : State) (quick : Bool) : State :=
  match s.pair.stage with
  | .none => s.flag Fld.PAIR_STATUS_PROOF false
  | .judged => s.proofOver
  | .yielding => s.proofOver
  | .window | .ended =>
    let byProof := s.pair.yieldCause = 8 || s.pair.yieldCause = 0
    (s.proofOver).proofResult (if !byProof then 3 else if s.pair.inTime && quick then 1 else 2)

/-! ### Claims, grants and yields -/

/-- A claim (R329, R334): CUFF and PAIRCLK are driven, the changeover relay energised, event 49. The partner's latched
entries become this module's own, and its spare-transfer ZSEL bits are released. DEDUCED (assumption 94). -/
def State.claim (s : State) (cause : Nat) (rise : Option Nat) : State :=
  let spare := match s.pair.heard with
    | some x => (x.act.map fun a => a.spareZsel.toNat).getD 0
    | none => 0
  let p := s.get Fld.CROWN_ACTIVE_PARTNER
  let own := s.crown.own ||| entryMask fun e => p.testBit e && s.entryLatches e
  let s1 := { s with pair := { s.pair with zsel := s.pair.zsel &&& (0xFFFF ^^^ spare), settled := false, rise := rise, named := 0 } }
  let s2 := (((s1.setRole roleClaiming).flag Fld.PAIR_STATUS_CUFF_DRIVE true).put Fld.PAIR_LAST_CAUSE cause).bump
    Fld.PAIR_CNT_SWITCHOVERS 1
  let quick : Bool := match rise with
    | some t => s.time.now ≤ t + 2100000
    | none => false
  ((((s2.setOwn own).start .claim).crownRaise 49 0x39 []).proofClaim quick).driveField

/-- Whether CUFF has read high, or low, for a time (R329): it is sampled every 10 µs, and the lane cycles of this model tell of a change
at most 100 µs after it. DEDUCED (assumption 219). -/
def State.cuffFor (s : State) (high : Bool) (ns : Nat) : Bool :=
  s.on Fld.PAIR_STATUS_CUFF = high && s.ran .cuff (ns - 100000)

/-- PAIR_STARTUP_DECIDE (R329): CUFF low for 2 ms; or high for 2 ms in the duty module, and for 52 ms in the other. -/
def execPairStartupDecide (high : Bool) (s : State) : Host.Outcome State Fault Refusal :=
  s.runF fun s => s.when (s.role = roleStartup && !s.crown.held
      && s.cuffFor high (if high && !s.on Fld.PAIR_CFG_DUTY then 52000000 else 2000000)) fun s =>
    if high then s.claim 0 (some s.time.now) else (s.setRole roleStandby).ampSettle

/-- PAIR_CLAIM (R329): CUFF high for 2 ms. -/
def execPairClaim (s : State) : Host.Outcome State Fault Refusal :=
  s.runF fun s => s.when (s.role = roleStandby && !s.crown.held && s.cuffFor true 2000000) fun s =>
    s.claim s.pair.yieldCause (some (s.since .cuff))

/-- PAIR_LINER_CLAIM (R329): the record carries YIELD and CUFF has stayed low for 10 ms. -/
def execPairLinerClaim (s : State) : Host.Outcome State Fault Refusal :=
  s.runF fun s => s.when (s.role = roleStandby && !s.crown.held && s.cuffFor false 10000000 && (match s.pair.heard with
      | some x => x.yielding
      | none => false)) fun s =>
    ((s.flag Fld.PAIR_STATUS_CUFF_FAULT true).crownRaise 51 0x39 [2, s.get Fld.PAIR_CFG_PEER_NODE]).claim 0x10 none

/-- The active role granted (R329), with the gap that the claim measures: from CUFF rising to full level, 6.25 µs, the
ramp of 1 ms and 12 µs after the exchange (R335). DEDUCED (assumption 106). -/
def State.grantRole (s : State) : State :=
  if s.role = roleClaiming && s.pair.settled then
    let s1 := { s.setRole roleActive with pair := { s.pair with settled := false, activeAt := s.time.now, rise := none } }
    let s2 := match s.pair.rise with
      | some t => s1.put Fld.PAIR_LAST_GAP (min 0xFFFF ((s.time.now + 1018250 - t) / 10000))
      | none => s1
    s2.ampSettle
  else s

/-- PAIR_SETTLE_DONE (R329): SETTLE_MS after the claim the role is granted at the next brim exchange, or at once while SCHED_LOST stands. DESIGN CHOICE (assumption 108). -/
def execPairSettleDone (s : State) : Host.Outcome State Fault Refusal :=
  s.runF fun s => s.when (s.role = roleClaiming && s.ran .claim (s.get Fld.PAIR_CFG_SETTLE_MS * 1000000)) fun s =>
    let s1 := { s with pair := { s.pair with settled := true } }
    if s1.on Fld.CROWN_STATUS_SCHED_LOST then s1.grantRole else s1

/-- The module becomes a standby that follows its partner (R329): the field outputs keep their last values until the first
record. -/
def State.toStandby (s : State) : State :=
  let rly := s.rlyShared
  let s1 := { s with pair := { s.pair with zsel := s.zselOut, rly := rly, heard := none, named := 0,
                                           proofCause := false, missed := 0, yieldCause := 0 } }
  ((s1.setRole roleStandby).driveField).ampSettle

/-- PAIR_YIELD_RELEASE (R329): CUFF low for 100 µs; event 49. -/
def execPairYieldRelease (s : State) : Host.Outcome State Fault Refusal :=
  s.runF fun s => s.when (s.role = roleYielding && !s.crown.held && s.cuffFor false 0 && s.time.now ≥ s.pair.yieldAt + 100000) fun s =>
    s.toStandby.crownRaise 49 0x39 []

/-- PAIR_YIELD_FAIL (R329): CUFF high for 20 ms: the module drives it low again, and has entered ACTIVE anew. A proof swap ends with FAIL_CLAIM. -/
def execPairYieldFail (s : State) : Host.Outcome State Fault Refusal :=
  s.runF fun s => s.when (s.role = roleYielding && !s.crown.held && s.cuffFor true 20000000) fun s =>
    let s1 := ((s.setRole roleActive).flag Fld.PAIR_STATUS_CUFF_DRIVE true).crownNote 0x39 [s.get Fld.PAIR_LAST_CAUSE]
    let s2 := { s1 with pair := { s1.pair with proofCause := false, activeAt := s.time.now } }
    (if s.pair.stage = .yielding then s2.proofOver.proofResult 2 else s2).ampSettle

/-! ### The lane cycle -/

/-- The triggers that any remaining lane reads as ACTIVE start their entries after CROWN_FAIL (R311): ALARM_N and the
entries' ZSEL and RLY bits are driven, and every other output holds. -/
def State.failCycle (s : State) (active : Nat) : State :=
  let mine := (List.range 16).filter fun e => s.entrySrc e ≤ 7 && active.testBit (s.entrySrc e)
  let s1 := mine.foldl State.startEntry s
  let s2 := if s1.entries ≠ 0 && !s1.on Fld.CROWN_STATUS_ALARM then
      ((s1.flag Fld.CROWN_STATUS_ALARM true).bump Fld.CROWN_CNT_ALARMS 1).crownRaise 46 0x38 []
    else s1
  if s2.entries = 0 then s2.driveField
  else ((s2.driveField.flag Fld.CROWN_FIELD_ALARM_N false).put Fld.CROWN_FIELD_ZSEL (s2.get Fld.CROWN_FIELD_ZSEL ||| s2.orEntries s2.entryZsel)).put
    Fld.CROWN_FIELD_RLY (s2.get Fld.CROWN_FIELD_RLY ||| s2.orEntries s2.entryRly)

/-- The CUFF line (R329): low while this module drives it. -/
def State.readCuff (s0 : State) (line : Bool) : State :=
  let high := line && !s0.on Fld.PAIR_STATUS_CUFF_DRIVE
  let s := if s0.on Fld.PAIR_STATUS_CUFF = high then s0 else s0.start .cuff
  let s1 := s.flag Fld.PAIR_STATUS_CUFF high
  if high then s1.flag Fld.PAIR_STATUS_CUFF_FAULT false else s1

/-- The causes shown, and what an active module does about them (R329, R330). -/
def State.pairCycle (s : State) : State :=
  let s1 := (s.put Fld.PAIR_STATUS_CAUSES s.causes).flag Fld.PAIR_STATUS_PEER_READY s.peerReady
  s1.yieldRole.proofWatch

/-- What a sound lane decides in a cycle (R308, R317); while no brim comes it acts at once, and its sequences begin. -/
def State.soundCycle (s : State) (x : LaneIn) : State :=
  let s1 := ((List.range 16).filter fun e => x.failed.any (·.val = e)).foldl State.blockFail s
  let s2 := s1.alarmDecide.liveDecide.fallbackDecide
  let s3 := s2.pairCycle.driveField.decideGates
  let s4 := if s3.on Fld.CROWN_STATUS_SCHED_LOST then s3.writeGates.beginSeqs.grantRole else s3
  if s4.amp.fallback || s4.on Fld.CROWN_STATUS_SCHED_LOST then (s4.checkBlocks 100000).keepFallback else s4

/-- The outputs that stand in registers formed by the vote (R309), where some lane's copy is another or was. -/
def State.takeVote (s : State) : State :=
  if s.crown.shown.all (·.isNone) then s
  else
    let own := s.laneOwn
    let v := fun (f : LaneCopy → Nat) => s.voted (f own) f
    let gates := v fun x => x.gates.toNat
    let s1 := { s with crown := { s.crown with
      decided := (List.range 8).map fun c => { s.crown.decided.getD c GateSel.normal with sel := gates / 4 ^ c % 4 } } }
    let s2 := ((s1.put Fld.CROWN_FIELD_ZSEL (v fun x => x.zsel.toNat)).put Fld.CROWN_FIELD_RLY (v fun x => x.rly.toNat)).flag
      Fld.CROWN_FIELD_ALARM_N (v (fun x => x.alarmN.toNat) = 1)
    let s3 := (s2.flag Fld.CROWN_FIELD_FAULT_N (v (fun x => x.faultN.toNat) = 1)).flag Fld.PAIR_STATUS_CUFF_DRIVE
      (v (fun x => x.cuff.toNat) = 1)
    let mux : Bool := v (fun x => x.mux.toNat) = 1
    if s.isP8 && mux ≠ s.amp.fallback then s3.muxChange mux else s3

/-- CUFF as the role drives it, where the last cycle's vote may have left it otherwise. -/
def State.healVote (s : State) : State :=
  if s.crown.shown.all (·.isNone) then s
  else s.flag Fld.PAIR_STATUS_CUFF_DRIVE (s.role = roleClaiming || s.role = roleActive)

/-- CROWN_LANE_CYCLE (R308 to R311): each lane's copy is what a sound lane decides unless it shows another; lanes that differ are judged;
where the vote stands, the outputs follow it, and otherwise they hold. DESIGN CHOICE (assumption 88), DEDUCED (assumptions 89, 90). -/
def execCrownLaneCycle (x : LaneIn) (s : State) : Host.Outcome State Fault Refusal :=
  s.runF fun s =>
    let s0 := (s.healVote.showRepairs).railWatch.readCuff x.cuff
    if s0.on Fld.CROWN_STATUS_CROWN_FAIL then (s0.failCycle x.active.toNat).pairCycle
    else
      let s1 := { s0 with crown := { s0.crown with held := false } }.soundCycle x
      let t := { s1 with crown := { s1.crown with shown := (List.range 3).map fun l => x.shown.getD l none } }
      let differs := t.laneDiffers ||| t.crown.laneOsc
      if !t.voteHeld differs then
        (t.judgeLanes differs t.laneItems).takeVote
      else
        let h := { s0 with crown := { s0.crown with shown := t.crown.shown, held := true, laneBad := [0, 0, 0] } }
        if h.beyondRepair then
          (((h.flag Fld.CROWN_STATUS_CROWN_FAIL true).crownNote 0x38 [differs, t.laneItems]).failCycle x.active.toNat).pairCycle
        else h

/-! ### Records -/

/-- The selection, deciding entry and content code of a channel, and its part and position in ms (R332). -/
def State.gateWordOf (s : State) (c : Nat) : (Nat × Nat × Nat) × (Bool × Nat) := match s.decider c with
  | some e => ((s.get (Fld.gate c), e, s.turnCode e (s.seqOf e)), s.contentPos c)
  | none => ((s.get (Fld.gate c), 0, 0), s.contentPos c)

/-- The proof bits and RESULT that a record carries (R332, R336). -/
def State.baseRec (s : State) : PairRec :=
  { ready := s.standbyReady, yielding := s.role = roleYielding,
    proof := s.pair.stage ≠ .none, proofEnd := s.pair.stage = .ended,
    result := BitVec.ofNat 2 (s.get Fld.PAIR_PROOF_RESULT), faults := BitVec.ofNat 16 s.faultSummary, tick := s.time.tick,
    entries := BitVec.ofNat 16 s.crown.own, mode := BitVec.ofNat 8 s.mode, cause := 0, crc := s.tableCrc, act := none }

/-- The zone word of zone `z` (R213). -/
def zoneKey (z : Nat) : Nat := indKey 0x20 (0x8000 + z)

/-- The active record (R332). -/
def State.activeRec (s : State) : PairRec :=
  let spare := match s.amp.xfer with
    | some z => 2 ^ (z % 16)
    | none => 0
  { s.baseRec with
    ready := false, entries := BitVec.ofNat 16 s.entries,
    cause := BitVec.ofNat 8 (if s.role = roleYielding then s.get Fld.PAIR_LAST_CAUSE else 0)
    act := some
      { gates := (List.range 8).map fun c => (s.gateWordOf c).1, pos := (List.range 8).map fun c => (s.gateWordOf c).2,
        zsel := BitVec.ofNat 16 (s.get Fld.CROWN_FIELD_ZSEL), rly := BitVec.ofNat 4 (s.rlyShared &&& (0xF ^^^ 2 ^ s.get Fld.PAIR_CFG_XFER_RLY)),
        spare := if s.on Fld.AMP_SPARE_ST_ACTIVE then some (Fin.ofNat 8 (s.get Fld.AMP_SPARE_ST_COVERS)) else none,
        spareZsel := BitVec.ofNat 16 spare,
        gains := (List.range 64).map fun z => BitVec.ofNat 16 (Word.field (s.rd (zoneKey z)) 15 0),
        mutes := BitVec.ofNat 64 ((List.range 64).foldl (fun a z => if (s.rd (zoneKey z)).getLsbD 31 then a + 2 ^ z else a) 0) } }

def bit (b : Bool) (v : Nat) : Nat := if b then v else 0

/-- Octets 20 onward of a record (R332). -/
def pairOctets (x : PairRec) : List Nat :=
  let head := [if x.act.isSome then 1 else 2,
      bit x.ready 128 + bit x.yielding 64 + bit x.proof 32 + bit x.proofEnd 16 + x.result.toNat * 4]
    ++ beOctets 2 x.faults.toNat ++ beOctets 4 x.tick.toNat ++ beOctets 2 x.entries.toNat ++ [x.mode.toNat, x.cause.toNat]
    ++ beOctets 4 x.crc.toNat
  match x.act with
  | none => head ++ [0, 0, 0, 0]
  | some a =>
    head ++ (a.gates.flatMap fun g => [g.1 * 64 + g.2.1, g.2.2])
      ++ (a.pos.flatMap fun p => beOctets 4 (bit p.1 (2 ^ 31) + p.2 % 2 ^ 31))
      ++ beOctets 2 a.zsel.toNat ++ [a.rly.toNat]
      ++ [match a.spare with
          | some c => 128 + c.val
          | none => 0]
      ++ beOctets 2 a.spareZsel.toNat ++ [0, 0] ++ (a.gains.flatMap fun g => beOctets 2 g.toNat) ++ beOctets 8 a.mutes.toNat

/-- Octets as words, most significant octet first. -/
def wordsOfOctets : List Nat → List Word
  | a :: b :: c :: d :: l => BitVec.ofNat 32 (a * 0x1000000 + b * 0x10000 + c * 0x100 + d) :: wordsOfOctets l
  | _ => []

/-- A record sent in TC7 on both ring ports to the partner's address in the node table (R331, R332); the changeover relay
driver is sent as 0. A partner that the table does not hold is sent nothing. DEDUCED (assumption 112). -/
def State.sendRec (s : State) (x : PairRec) : State :=
  let n := s.get Fld.PAIR_CFG_PEER_NODE
  let hi := s.rd (nodeKey n + 1)
  let dst := Word.field hi 15 0 * 2 ^ 32 + (s.rd (nodeKey n)).toNat
  if !s.nodeValid || !s.mayOriginate || !hi.getLsbD 31 then s
  else
    let b := (s.frameBody 3 (s.rsw.sentCounts.getD 2 0) 0 s.annFlags (s.get Fld.RSW_NODE_NODE)).take 5 ++ wordsOfOctets (pairOctets x)
    ((s.originate (s.ownFrame dst 3 none b) 7 [] s.originPorts false (fun _ => none) none).1).countSent 2

/-- The liner composed (R16, R331): by a paired module that holds the active role. DEDUCED (assumption 103). -/
def State.composeLiner (s : State) : State :=
  if s.role = roleActive || s.role = roleYielding then
    let x := s.activeRec
    ({ s with pair := { s.pair with liner := some x } }).sendRec x
  else s

/-- STANDBY_RECORD_SEND (R331): every 1 ms. -/
def execStandbyRecordSend (s : State) : Host.Outcome State Fault Refusal :=
  s.runF fun s => s.when (s.role = roleStandby && s.ran .record 1000000) fun s => (s.start .record).sendRec s.baseRec

/-- The proof bits of a record taken by the partner of a swap (R336): PROOF shown while the original sets it; RESULT taken
from the first record that carries it, with event 50; PROOF_END makes an active partner yield while the original is
READY. -/
def State.proofBits (s : State) (x : PairRec) : State :=
  if s.pair.stage ≠ .none then s
  else
    let was := s.on Fld.PAIR_STATUS_PROOF
    let s1 := s.flag Fld.PAIR_STATUS_PROOF x.proof
    let s2 := if x.proof && !was then s1.put Fld.PAIR_PROOF_RESULT 0 else s1
    let r := x.result.toNat
    let s3 := if (was || x.proof) && r ≠ 0 && s2.get Fld.PAIR_PROOF_RESULT ≠ r then s2.proofResult r else s2
    if x.proofEnd && x.ready && s3.role = roleActive then { s3 with pair := { s3.pair with proofCause := true } }
    else if was && !x.proof then { s3 with pair := { s3.pair with proofCause := false } } else s3

/-- A standby record taken by the active module (R331, R333). -/
def State.takeStandby (s : State) (x : PairRec) : State :=
  let e := x.entries.toNat
  let own := s.crown.own ||| entryMask fun n => e.testBit n && s.entryLatches n
  let s1 := { s with pair := { s.pair with stby := some x, stbyAt := s.time.now, named := 0 } }
  let s2 := (s1.put Fld.CROWN_ACTIVE_PARTNER e).setOwn own
  let s3 := ((s2.flag Fld.PAIR_STATUS_PEER_LOST false).flag Fld.PAIR_STATUS_PEER_READY x.ready).put Fld.PAIR_STATUS_LINER_AGE 0
  (s3.compareCrc x.crc).proofBits x

/-- STANDBY_RECORD_RECEIVE (R331). -/
def execStandbyRecordReceive (x : PairRec) (s : State) : Host.Outcome State Fault Refusal :=
  s.runF fun s => s.when (x.act.isNone && (s.role = roleActive || s.role = roleYielding)) fun s => s.takeStandby x

/-- LINER_LOSS (R333): 16 exchanges in a row without a record. -/
def execLinerLoss (s : State) : Host.Outcome State Fault Refusal :=
  s.runF fun s => s.when (s.role = roleStandby && s.pair.missed ≥ 16) State.losePeer

/-- When the active module last heard its standby, or became active (R333). -/
def State.stbySince (s : State) : Nat := max s.pair.stbyAt s.pair.activeAt

/-- STANDBY_RECORD_LOSS (R333): 16 ms without a record. -/
def execStandbyRecordLoss (s : State) : Host.Outcome State Fault Refusal :=
  s.runF fun s => s.when ((s.role = roleActive || s.role = roleYielding) && s.time.now ≥ s.stbySince + 16000000) State.losePeer

/-- Whether a record's tick is older than another's. -/
def tickOlder (a b : Word) : Bool := (a - b).msb

/-- The content positions of a record (R333, R334): each deciding entry's sequence stands at the position given, plus the
time since the record's tick. -/
def State.takePositions (s : State) (x : PairRec) (a : PairActive) : State :=
  let age := (s.time.tick - x.tick).toNat % 2 ^ 31 * 125000
  (List.range 8).foldl (fun (t : State) c => match a.gates[c]?, a.pos[c]? with
    | some g, some p =>
      let since := t.time.now - (p.2 * 1000000 + age)
      if g.2.2 = 0 then t
      else
        let fall := match (t.crown.seqs.find? (·.1 = g.2.1)) with
          | some q => if q.2.partB = p.1 then q.2.fall else none
          | none => none
        t.setSeq g.2.1 { partB := p.1, since := since, fall := fall }
    | _, _ => t) s

/-- The zone words of a record written to the shadow (R333): applied at the next brim. -/
def State.takeZones (s : State) (a : PairActive) : State :=
  (List.range 64).foldl (fun (t : State) z => match a.gains[z]? with
    | some g =>
      let w := t.lastWritten (zoneKey z)
      let n := Word.withField (Word.withField w 15 0 g.toNat) 31 31 (if a.mutes.getLsbD z then 1 else 0)
      if n = w then t else t.shadowWrite (zoneKey z) n
    | none => t) s

/-- An active record taken by the standby (R333). -/
def State.takeActive (s : State) (x : PairRec) (a : PairActive) : State :=
  let first := s.pair.stage = .yielding
  let stage := if first then ProofStage.window else s.pair.stage
  let quick := s.time.now ≤ s.pair.yieldAt + 3440000 + s.get Fld.PAIR_CFG_SETTLE_MS * 1000000
  let rly := a.rly.toNat &&& (0xF ^^^ 2 ^ s.get Fld.PAIR_CFG_XFER_RLY)
  let s1 := { s with pair := { s.pair with heard := some x, zsel := a.zsel.toNat, rly := rly, stage := stage, missed := 0,
                                           yieldCause := if x.yielding then x.cause.toNat else s.pair.yieldCause,
                                           inTime := if first then quick else s.pair.inTime } }
  let s2 := (((if first then s1.start .proof else s1).put Fld.CROWN_ACTIVE_PARTNER x.entries.toNat).put Fld.PAIR_STATUS_LINER_AGE 0).flag Fld.PAIR_STATUS_PEER_LOST false
  let s3 := (s2.alarmDecide.takePositions x a).takeZones a
  ((s3.compareCrc x.crc).proofBits x).driveField

/-- Whether this module is the one that gives way where both are active (R329): the one with DUTY = 0, and with equal DUTY the one with
the higher node number. DESIGN CHOICE (assumption 107). -/
def State.givesWay (s : State) : Bool :=
  let duty := s.on Fld.PAIR_CFG_DUTY
  if duty = Config.peerDuty then s.get Fld.RSW_NODE_NODE > s.get Fld.PAIR_CFG_PEER_NODE else !duty

/-- The liner at a brim exchange (R329, R333, R343): LINER_AGE advances; the standby takes the newest active record, or counts its absence;
an active module that its partner's records name twice gives way where it is the one that does. DESIGN CHOICE (assumption 107). -/
def State.linerExchange (s0 : State) (x : Option PairRec) : State :=
  let r := s0.role
  let s := if r = roleUnpaired then s0 else s0.put Fld.PAIR_STATUS_LINER_AGE (min 0xFF (s0.get Fld.PAIR_STATUS_LINER_AGE + 1))
  let old := match x, s.pair.heard with
    | some n, some h => tickOlder n.tick h.tick
    | _, _ => false
  match (if old then none else x).bind (fun n => n.act.map fun a => (n, a)) with
  | some (n, a) =>
    if r = roleStandby then s.takeActive n a
    else if r = roleActive then
      let k := s.pair.named + 1
      if k ≥ 2 && s.givesWay && !s.crown.held then
        ((s.flag Fld.PAIR_STATUS_CUFF_DRIVE false).toStandby).crownNote 0x39 [s.get Fld.PAIR_CFG_PEER_NODE]
      else { s with pair := { s.pair with named := k } }
    else s
  | none =>
    if r = roleStandby || r = roleClaiming then
      ({ s with pair := { s.pair with missed := s.pair.missed + 1 } }).bump Fld.PAIR_CNT_LINER_MISS 1
    else s

/-- The active module's count of missing standby records (R343): one for each 1 ms, judged every eighth tick. DEDUCED (assumption 114). -/
def State.standbyMissed (s : State) : State :=
  if (s.role = roleActive || s.role = roleYielding) && s.time.tick.toNat % 8 = 0 && s.time.now ≥ s.stbySince + 1000000 then
    s.bump Fld.PAIR_CNT_LINER_MISS 1
  else s

/-- The Crown's exchange at a brim (R16, R20, R317, R329): SCHED_LOST clears, the liner is taken, the selections for the
next take point are written, and a settled claim is granted. -/
def State.crownExchange (s : State) (x : Option PairRec) : State :=
  let s1 := if s.on Fld.CROWN_STATUS_SCHED_LOST then
      ({ (s.flag Fld.CROWN_STATUS_SCHED_LOST false) with crown := { s.crown with schedClear := s.time.now } }).crownNote 0x38 [0]
    else s
  let s2 := (s1.linerExchange x).standbyMissed
  if s2.on Fld.CROWN_STATUS_CROWN_FAIL then s2.grantRole else s2.writeGates.grantRole

/-- BLK_CTRL.SRST of PAIR (R343), beside the registers: nothing; of CROWN (R342): the field outputs follow CROWN_HOST_OUT. -/
def State.crownSrst (s : State) : State := s.driveField

end Sys2Proof.Machine
end

