-- ==== Sys2Proof/Machine/Strm.lean ====
section
/-! DEFINITION. The stream engine: reception and placement (R188, R189, R199), delivery and concealment (R181, R191 to
R194), packets (R183 to R185, R195 to R197), and what a brim, a step and a restart do to it. -/

namespace Sys2Proof.Machine

/-- The reset domain of the stream engine (R359). -/
def domStrm : Nat := 1

/-- LINK_OFF in force, L. -/
def State.linkOff (s : State) : Nat := s.get Fld.STRM_CFG_LINK_OFF

/-- The signed distance of two tick numbers (R42). -/
def tickDiff (a b : Nat) : Int := toSigned 32 (a + 2 ^ 32 - b % 2 ^ 32)

/-- LOST_TICKS: 0 acts as 1 (R180). -/
def State.lostTicks (s : State) : Nat := max 1 (s.get Fld.STRM_CFG_LOST_TICKS)

/-- The extension element ID of the seal: 0 and 15 act as 7 (R180). -/
def State.extId (s : State) : Nat :=
  let v := s.get Fld.STRM_CFG_EXT_ID
  if v = 0 || v = 15 then 7 else v

/-! ### A packet's octets -/

/-- Octet `n` of a packet, and the 16 and 32 bits that begin there, most significant octet first. -/
def pktAt (k : RtpPacket) (n : Nat) : Nat := (k.octets.getD n 0).toNat
def pkt16 (k : RtpPacket) (n : Nat) : Nat := pktAt k n * 256 + pktAt k (n + 1)
def pkt32 (k : RtpPacket) (n : Nat) : Nat := pkt16 k n * 65536 + pkt16 k (n + 2)

/-- The fields of the RTP header (R174): X, payload type, sequence number, timestamp and SSRC. -/
def pktX (k : RtpPacket) : Bool := pktAt k 0 / 16 % 2 = 1
def pktPt (k : RtpPacket) : Nat := pktAt k 1 % 128
def pktSeq (k : RtpPacket) : Nat := pkt16 k 2
def pktTs (k : RtpPacket) : Nat := pkt32 k 4
def pktSsrc (k : RtpPacket) : Nat := pkt32 k 8

/-- How long the header is with its extension (RFC 3550). -/
def pktHead (k : RtpPacket) : Nat := if pktX k then 16 + 4 * pkt16 k 14 else 12

/-- The header checks of R174: version 2, no padding, a CSRC count of 0, and a header that the packet holds whole. -/
def pktHeaderOk (k : RtpPacket) : Bool :=
  pktAt k 0 / 64 = 2 && pktAt k 0 / 32 % 2 = 0 && pktAt k 0 % 16 = 0 && pktHead k ≤ k.octets.length

/-- The octets behind the header. -/
def pktPayload (k : RtpPacket) : List (BitVec 8) := k.octets.drop (pktHead k)

/-- Where the element of an ID begins among the elements of the one-byte form (RFC 8285), from octet `n` on and before octet
`stop`: an ID of 0 is padding, and one of 15 ends the search. -/
def findElement (k : RtpPacket) (id : Nat) : Nat → Nat → Nat → Option Nat
  | 0, _, _ => none
  | fuel + 1, n, stop =>
    if n ≥ stop then none
    else
      let b := pktAt k n
      if b / 16 = 0 then findElement k id fuel (n + 1) stop
      else if b / 16 = 15 then none
      else if b / 16 = id then some n
      else findElement k id fuel (n + 2 + b % 16) stop

/-- Where the element with EXT_ID begins in a packet (R195): none with X clear, or with a header extension of another form. -/
def sealAt (k : RtpPacket) (id : Nat) : Option Nat :=
  if pktX k && pkt16 k 12 = 0xBEDE then findElement k id (pktHead k) 16 (pktHead k) else none

/-! ### The seal's tag -/

/-- The key of an epoch (R388). -/
def epochKey (record : List Word) (g e : Nat) : Nat :=
  hkdf384 (keyOctets record) [] [0x45, 0x56, 0x4F, 0x47, 0x4F, 0x4E, g, e]

/-- The nonce of a sealed packet (R196). -/
def sealNonce (node f ts seq : Nat) : List Nat :=
  beOctets 2 (node * 16) ++ [f, 0] ++ beOctets 4 ts ++ beOctets 2 seq ++ [0, 0]

/-- The 8-octet tag of a packet (R197) whose octets hold zeros where the tag belongs. -/
def sealTag (record : List Word) (g e : Nat) (nonce aad : List Nat) : Nat := gcmTag (epochKey record g e) nonce aad [] / 2 ^ 64

/-- The key record of a group that covers an epoch. -/
def State.sealKey (s : State) (g e : Nat) : List Word :=
  Store.get (fun _ => []) s.strm.keys (2 * g + if recCovers (s.sealRec g 0) e then 0 else 1)

/-! ### Reception -/

/-- The signed distance in samples from the first sample of the tick in progress (R45). -/
def State.mediaDist (s : State) (k off ts : Nat) : Int := toSigned 32 (ts + 2 ^ 64 - off - k * s.time.tick.toNat)

/-- The media tick of a media count relative to the tick in progress, and its position within that tick (R45). -/
def State.mediaTick (s : State) (k off ts : Nat) : Nat := ofSigned 32 (s.time.tick.toNat + s.mediaDist k off ts / (k : Int))
def State.sampleIndex (s : State) (k off ts : Nat) : Nat := (s.mediaDist k off ts % (k : Int)).toNat

/-- The samples of one tick of a payload, by channel (R174): big-endian, interleaved by sampling instant. The payload's first sample
stands at position `idx` of the first tick (R45); a position that the packet has no sample for reads zero. DEDUCED (assumption 213). -/
def tickSamples (w : Word) (payload : List (BitVec 8)) (idx i : Nat) : List (List Word) :=
  let b := flowBytes w
  let at1 := fun (n : Nat) => (payload.getD n 0).toNat
  (List.range (flowCh w)).map fun c => (List.range (flowK w)).map fun j =>
    let o := ((i * flowK w + j - idx) * flowCh w + c) * b
    if i * flowK w + j < idx then 0
    else if b = 2 then fromCode 16 (toSigned 16 (at1 o * 256 + at1 (o + 1)))
    else fromCode24 (toSigned 24 (at1 o * 65536 + at1 (o + 1) * 256 + at1 (o + 2)))

/-- One tick of a packet judged (R188): late, early, a duplicate, or stored. -/
def State.placeTick (f x : Nat) (samples : List (List Word)) (s : State) : State :=
  let t := s.time.tick.toNat
  let ph := s.time.counter.toNat - s.time.tickStart.toNat
  let e := tickDiff x t
  let l : Int := s.linkOff
  let y := s.rxFlow f
  if e < 2 - l || (e = 2 - l && ph ≥ 123750) then
    let s1 := (s.setRx f { y with late := true, early := false }).bump (Fld.rxCnt f 1) 1
    if y.late then s1 else s1.flowEvent 21 f f []
  else if e > 64 - l then
    let s1 := (s.setRx f { y with early := true, late := false }).bump (Fld.rxCnt f 3) 1
    if y.early then s1 else s1.flowEvent 23 f f []
  else
    let y1 := { y with late := false, early := false }
    if y.buf.any (·.1 = x) then (s.setRx f y1).bump (Fld.rxCnt f 4) 1
    else
      let newest := match y.buf with
        | [] => true
        | _ => y.buf.all fun b => tickDiff x b.1 > 0
      let s1 := s.setRx f { y1 with buf := y.buf ++ [(x, samples)] }
      if newest then s1.put (Fld.rxLastTick f) x else s1

/-- Whether the tag of a packet's seal element is the one of its key (R197, R199): the element begins at octet `n`. -/
def State.tagOk (s : State) (k : RtpPacket) (n : Nat) : Bool :=
  let g := pktAt k (n + 1) % 16
  let e := pktAt k (n + 2)
  let o := k.octets.map (·.toNat)
  let aad := o.take (n + 6) ++ List.replicate 8 0 ++ o.drop (n + 14)
  sealTag (s.sealKey g e) g e (sealNonce (pkt16 k (n + 3) / 16) (pktAt k (n + 5) % 128) (pktTs k) (pktSeq k)) aad
    = ofOctets ((o.drop (n + 6)).take 8)

/-- The cause for which a sealed flow refuses a packet (R199); 0 for a seal that verifies. -/
def State.sealCause (s : State) (f : Nat) (k : RtpPacket) : Nat :=
  let grp := Word.field (s.rxW f 4) 15 12
  match sealAt k s.extId with
  | none => 1
  | some n =>
    if pktAt k (n + 1) / 16 ≠ 1 || pktAt k n % 16 ≠ 12 || pktAt k (n + 1) % 16 ≠ grp then 2
    else if !s.sealCovered grp (pktAt k (n + 2)) then 3
    else if !s.tagOk k n then 4 else 0

/-- A packet's sequence number by the rule of RFC 3550 (R188, appendix A.1 of the RFC): fewer than 3,000 ahead of the highest one taken
it is the new highest; fewer than 100 behind it counts in REORDER; anywhere else it is taken only where the one before it has come
the same way. -/
def State.takeSeq (s : State) (f seq : Nat) : State :=
  let y := s.rxFlow f
  match y.top with
  | none => s.setRx f { y with top := some seq }
  | some q =>
    let d := (seq + 65536 - q) % 65536
    if d < 3000 then s.setRx f { y with top := some seq }
    else if d > 65436 then s.bump (Fld.rxCnt f 5) 1
    else if y.badSeq = some seq then s.setRx f { y with top := some seq, badSeq := none }
    else s.setRx f { y with badSeq := some ((seq + 1) % 65536) }

/-- A packet of a flow past the ring switch's recovery (R174, R188, R199). DEDUCED (assumption 57). -/
def State.acceptPacket (s : State) (f : Nat) (k : RtpPacket) : State :=
  let w := s.rxW f 0
  if !pktHeaderOk k || (pktPayload k).length ≠ payloadLen w then s.bump (Fld.rxCnt f 6) 1
  else
    let c := if flowSeal w then s.sealCause f k else 0
    if c ≠ 0 then (s.bump (Fld.rxCnt f 7) 1).flowEvent 24 f f [c]
    else
      let s1 := (s.bump (Fld.rxCnt f 0) 1).takeSeq f (pktSeq k)
      let x := s1.mediaTick (flowK w) (s1.rxW f 5).toNat (pktTs k)
      let idx := s1.sampleIndex (flowK w) (s1.rxW f 5).toNat (pktTs k)
      (List.range (flowP w)).foldl (fun t i => t.placeTick f ((x + i) % 2 ^ 32) (tickSamples w (pktPayload k) idx i)) s1

/-- Whether a packet meets a flow's DST_IP and UDP_PORT, and whether it meets its other filters too (R188). -/
def State.rxNames (s : State) (f : Nat) (k : RtpPacket) : Bool :=
  (s.rxW f 1).toNat = k.dst && Word.field (s.rxW f 0) 15 0 = k.port
def State.rxPasses (s : State) (f : Nat) (k : RtpPacket) : Bool :=
  Word.field (s.rxW f 4) 11 0 = k.vid && ((s.rxW f 2).toNat = 0 || (s.rxW f 2).toNat = k.src)
    && ((s.rxW f 4).getLsbD 31 || (s.rxW f 3).toNat = pktSsrc k) && Word.field (s.rxW f 4) 22 16 = pktPt k

/-- A packet for the stream engine (R188): it belongs to the lowest-numbered flow that it matches, and it counts in FILTER_DROP
of every flow whose DST_IP and UDP_PORT it names while it fails another filter. `p` is none for the part's own loopback
(R189). -/
def State.streamPacket (s : State) (p : Option Port) (k : RtpPacket) : State :=
  let named := (List.range 128).filter fun f => s.rxFlowLive f && s.rxNames f k
  let s := (named.filter fun f => !s.rxPasses f k).foldl (fun (t : State) f => t.bump (Fld.rxCnt f 8) 1) s
  match named.find? (s.rxPasses · k) with
  | none => s
  | some f =>
    match p, k.rtag with
    | some q, some n =>
      if flowFrer (s.rxW f 0) then
        let r := s.frerPass q f n
        if r.2 then r.1.acceptPacket f k else r.1
      else s.acceptPacket f k
    | _, _ => s.acceptPacket f k

/-- Whether the stream engine passes audio: the mode (R181), its EN and its domain. -/
def State.strmRuns (s : State) : Bool := s.audioOn && s.enabled 0x18 && !s.domDown domStrm

/-- STREAM_PACKET_RECEIVE (R188): in NIGHTCAP and SHELTER packets are discarded. -/
def execStreamPacketReceive (p : Port) (k : RtpPacket) (s : State) : Host.Outcome State Fault Refusal :=
  s.run fun s => s.when (s.strmRuns && s.portRuns p) fun s => s.streamPacket (some p) k

/-! ### Delivery -/

/-- The receive slots fed in this tick: the map in force, and the slots given up that still wait for their crosspoints
(R194). -/
def State.feeding (s : State) : List (Nat × Nat × Nat) :=
  s.strm.rxMap ++ s.strm.linger.filter fun e => !s.released e.1

/-- One flow's samples put on its slots. -/
def State.deliverFlow (s : State) (f : Nat) (samples : List (List Word)) (ramp : Bool) : State :=
  (s.feeding.filter fun e => e.2.1 = f).foldl (fun t e =>
    let x := samples.getD e.2.2 []
    t.setInput e.1 (if ramp || s.strm.fresh.contains e.1 then rampIn s.k x else x)) s

/-- One receive flow in a processing tick (R181, R188, R191, R193). -/
def State.flowTick (s : State) (f : Nat) : State :=
  if !s.rxFlowLive f then s
  else
    let due := (s.time.tick.toNat + 2 ^ 32 + 1 - s.linkOff) % 2 ^ 32
    let y := s.rxFlow f
    let st := s.rxSt f
    let data := if s.domDown domStrm then none else (y.buf.find? (·.1 = due)).map (·.2)
    let rest := y.buf.filter fun b => tickDiff b.1 due > 0
    match data with
    | some d =>
      let s1 := s.setRx f { y with buf := rest, last := d.map (samp · (s.k - 1)), gap := 0, apart := y.apart - 1, dry := false }
      let s2 := s1.deliverFlow f d (y.dry || st ≠ 2)
      if st = 2 then s2 else (s2.put (Fld.rxState f) 2).flowEvent 26 f f []
    | none =>
      let s1 := if st = 2 && !y.dry then s.deliverFlow f (y.last.map (rampOutOf s.k)) false else s
      if y.apart > 0 then s1.setRx f { y with buf := rest, apart := y.apart - 1, dry := true, gap := 0 }
      else
        let s2 := (s1.setRx f { y with buf := rest, gap := y.gap + 1, dry := true }).bump (Fld.rxCnt f 2) 1
        if st = 2 && y.gap = 0 then s2.flowEvent 22 f f [] else s2

/-- A transmit flow at a tick boundary: a packet begins in a tick whose number is a multiple of P (R183, R184). DEDUCED (assumption 54). -/
def State.txBegin (s : State) (f : Nat) : State :=
  if !s.txFlowLive f || s.domDown domStrm then s
  else if s.time.tick.toNat % flowP (s.txW f 0) = 0 then
    s.setTx f { s.txFlow f with first := some s.time.tick.toNat, got := [], blocked := s.txSt f = 2 }
  else s

/-- The stream engine's part of the Present phase. In a mode that blocks every flow (R187) the packets that are not sent begin all the
same, to be counted (R183), until the engine is powered down. -/
def State.strmPresent (s : State) : State :=
  if !s.powered || !s.enabled 0x18 || s.plat.down then s
  else if !s.audioOn then (List.range 128).foldl State.txBegin s
  else
    let s1 := (List.range 128).foldl State.flowTick s
    let s2 := { s1 with strm := { s1.strm with fresh := [], linger := s1.strm.linger.filter fun e => !s1.released e.1 } }
    (List.range 128).foldl State.txBegin s2

/-- FLOW_LOST (R181): LOST_TICKS processing ticks without data. -/
def execFlowLost (flow : Fin 128) (s : State) : Host.Outcome State Fault Refusal :=
  s.run fun s => s.when ((s.rxSt flow.val = 1 || s.rxSt flow.val = 2) && (s.rxFlow flow.val).gap ≥ s.lostTicks) fun s =>
    (s.put (Fld.rxState flow.val) 3).flowEvent 20 flow.val flow.val []

/-! ### Packets -/

/-- Octets packed big-endian into words, the last one filled with zeros. -/
def packOctets : List Nat → List Word
  | a :: b :: c :: d :: l => BitVec.ofNat 32 (((a % 256 * 256 + b % 256) * 256 + c % 256) * 256 + d % 256) :: packOctets l
  | [] => []
  | l => [BitVec.ofNat 32 (((l.getD 0 0 % 256 * 256 + l.getD 1 0 % 256) * 256 + l.getD 2 0 % 256) * 256)]

/-- A 24-bit code as the octets of a sample (R174): L16 carries the 16 most significant bits. DEDUCED (assumption 58). -/
def codeOctets (l16 : Bool) (z : Int) : List Nat :=
  let v := ofSigned 24 z
  if l16 then [v / 65536, v / 256 % 256] else [v / 65536, v / 256 % 256, v % 256]

/-- The payload of gathered ticks: interleaved by sampling instant (R174). -/
def payloadOf (w : Word) (got : List (List (List Int))) : List Nat :=
  got.flatMap fun tick => (List.range (flowK w)).flatMap fun j => (List.range (flowCh w)).flatMap fun c =>
    codeOctets (flowL16 w) ((tick.getD c []).getD j 0)

/-- The seal element (R195) with a tag in its octets 10 to 17. -/
def sealElement (ext grp epoch node f tag : Nat) : List Nat :=
  [0xBE, 0xDE, 0, 4, ext * 16 + 12, 16 + grp, epoch, node / 16, node % 16 * 16, f]
    ++ beOctets 8 tag ++ [0, 0]

/-- The octets of a packet from its RTP header on (R174, R184, R195, R197). -/
def State.rtpOctets (s : State) (f m seq : Nat) (payload : List Nat) : List Nat :=
  let w := s.txW f 0
  let g := Word.field (s.txW f 4) 15 12
  let ts := (flowK w * m + (s.txW f 5).toNat) % 2 ^ 32
  let head := [0x80 + (if flowSeal w then 0x10 else 0), Word.field (s.txW f 4) 22 16] ++ beOctets 2 seq ++ beOctets 4 ts
    ++ beOctets 4 (s.txW f 3).toNat
  if flowSeal w then
    let e := s.get (Fld.sealEpoch g)
    let node := s.get Fld.RSW_NODE_NODE
    let tag := sealTag (s.sealKey g e) g e (sealNonce node f ts seq) (head ++ sealElement s.extId g e node f 0 ++ payload)
    head ++ sealElement s.extId g e node f tag ++ payload
  else head ++ payload

/-- The frame of a packet (R177): the addresses, the 802.1Q tag where VID is not 0, and the body with the UDP source port
and the TTL before the RTP octets. In bridging with FRER it carries the flow's next R-TAG number. -/
def State.streamFrame (s : State) (f : Nat) (octets : List Nat) : Frame :=
  let dst := (s.txW f 1).toNat
  let w2 := s.txW f 2
  let vid := Word.field w2 11 0
  let ttl := Word.field (s.txW f 4) 7 0
  { dst := if dst / 2 ^ 28 = 14 then multicastMac dst else Word.field (s.txW f 8) 15 0 * 2 ^ 32 + (s.txW f 7).toNat
    src := s.mac, vlan := if vid = 0 then none else some (Word.field w2 14 12, vid), etype := 0x0800, sub := 0x4500,
    len := s.txLen f, hsr := none, prp := none,
    rtag := if s.topo = topoBridge && flowFrer (s.txW f 0) then some (Store.get (fun _ => 0) s.rsw.frerSeq f) else none,
    udp := some (s.get Fld.STRM_IPV4_ADDR, dst, Word.field (s.txW f 0) 15 0), corr := none,
    body := BitVec.ofNat 32 (Word.field w2 31 16 * 65536 + (if ttl = 0 then 64 else ttl)) :: packOctets octets }

/-- The part's own packet as a receive flow of the part takes it (R189). -/
def State.ownPacket (s : State) (f : Nat) (octets : List Nat) : RtpPacket :=
  { src := s.get Fld.STRM_IPV4_ADDR, dst := (s.txW f 1).toNat, port := Word.field (s.txW f 0) 15 0,
    vid := Word.field (s.txW f 2) 11 0, rtag := none, octets := octets.map (BitVec.ofNat 8) }

/-- The seal of a packet (R198): the group's next epoch where the current one is used up, then the count and the time in
use. DEDUCED (assumption 52). -/
def State.sealPacket (s : State) (f : Nat) : State :=
  if !flowSeal (s.txW f 0) then s
  else
    let g := Word.field (s.txW f 4) 15 12
    let s1 := if s.sealDue g then s.nextEpoch g else s
    if s1.txSt f = 2 then s1
    else
      let s2 := s1.put (Fld.sealSent g) (s1.get (Fld.sealSent g) + 1)
      if s2.strm.sealAt.any (·.1 = g) then s2
      else { s2 with strm := { s2.strm with sealAt := (g, s2.time.now) :: s2.strm.sealAt } }

/-- A packet closed at the take point of its last tick (R184): blocked, it counts in BLOCKED_PKTS; otherwise it takes its
number, its timestamp and its seal, and waits for its release; a receive flow of the part that it names takes it now. DEDUCED (assumption 54). -/
def State.closePacket (s : State) (f m : Nat) (got : List (List (List Int))) : State :=
  let x := s.txFlow f
  let idle := s.setTx f { x with first := none, got := [], blocked := false }
  if x.blocked then idle.bump (Fld.txCnt f 3) 1
  else
    let s1 := idle.sealPacket f
    if s1.txSt f = 2 then s1.bump (Fld.txCnt f 3) 1
    else
      let seq := x.seq
      let octets := s1.rtpOctets f m seq (payloadOf (s1.txW f 0) got)
      let frame := s1.streamFrame f octets
      let own := s1.ownPacket f octets
      let tagNo := (Store.get (fun _ => 0) s1.rsw.frerSeq f + 1) % 65536
      let s2 := if frame.rtag.isSome then
          { s1 with rsw := { s1.rsw with frerSeq := Store.set (fun _ => 0) s1.rsw.frerSeq f tagNo } }
        else s1
      let s3 := s2.setTx f { s2.txFlow f with seq := (seq + 1) % 65536, closed := (s2.txFlow f).closed ++ [(m, frame)] }
      if (List.range 128).any (fun g => s3.rxFlowLive g && s3.rxNames g own) then s3.streamPacket none own else s3

/-- The codes a transmit channel carries in this tick (R179, R194): its slot's, ramped in where the entry is new, or
zero. -/
def State.channelCodes (s : State) (f c : Nat) : List Int := match s.strm.txMap.find? fun e => e.1 = f && e.2.1 = c with
  | some e =>
    let l := s.takenOf e.2.2
    if s.strm.txFresh.contains (f, c) then (rampIn s.k (l.map fromCode24)).map fun w => (toCode24 w).1 else l
  | none => []

/-- A transmit flow at the take point (R184). -/
def State.flowTake (s : State) (f : Nat) : State :=
  if !s.txFlowLive f then s
  else
    let x := s.txFlow f
    match x.first with
    | none => s
    | some m =>
      let got := x.got ++ [(List.range (flowCh (s.txW f 0))).map (s.channelCodes f)]
      if got.length ≥ flowP (s.txW f 0) then s.closePacket f m got else s.setTx f { x with got := got }

/-- The stream engine's part of the take point. -/
def State.strmTake (s : State) : State :=
  if !s.powered || !s.enabled 0x18 || s.plat.down || s.domDown domStrm then s
  else
    let s1 := (List.range 128).foldl State.flowTake s
    { s1 with strm := { s1.strm with txFresh := [] } }

/-- TX_OFF_NS of a transmit flow, without its bits [2:0] (R177). -/
def State.txOffset (s : State) (f : Nat) : Nat := Word.field (s.txW f 6) 16 0 / 8 * 8

/-- Whether the release of a packet of tick `m` is due (R184): at the boundary of tick m + P plus TX_OFF_NS. -/
def State.releaseDue (s : State) (f m : Nat) : Bool :=
  let d := tickDiff s.time.tick.toNat (m + flowP (s.txW f 0))
  d > 0 || (d = 0 && s.time.counter.toNat ≥ s.time.tickStart.toNat + s.txOffset f)

/-- STREAM_PACKET_RELEASE (R183, R184): the oldest closed packet whose release is due goes to TC5 of its ports; while the flow is
BLOCKED it is not sent, and counts in BLOCKED_PKTS. During a restart of the domain no packet is sent (R359). -/
def execStreamPacketRelease (flow : Fin 128) (s : State) : Host.Outcome State Fault Refusal :=
  s.run fun s =>
    let f := flow.val
    let x := s.txFlow f
    match x.closed with
    | [] => s
    | (m, frame) :: rest =>
      let s1 := s.setTx f { x with closed := rest }
      if s.domDown domStrm || !s.releaseDue f m then s
      else if s.txSt f = 2 then s1.bump (Fld.txCnt f 3) 1
      else
        let r := s1.originate frame 5 [] (s.txPorts f) false (fun _ => none) (some (f, s.time.now))
        if r.2.isEmpty then r.1 else r.1.bump (Fld.txCnt f 0) 1

/-- Whether a queued frame is a packet of a flow. -/
def ofFlow (f : Nat) (t : TxFrame) : Bool := match t.flow with
  | some (g, _) => g = f
  | none => false

/-- TX_SCHED_MISS (R185): the first packet of the flow still in the port's TC5 queue 125 µs after its release is
discarded there; the counter, and event 27 with the port. -/
def execTxSchedMiss (p : Port) (flow : Fin 128) (s : State) : Host.Outcome State Fault Refusal :=
  s.run fun s =>
    let f := flow.val
    match ((s.net p).queue 5).find? (ofFlow f) with
    | none => s
    | some t =>
      let at0 := match t.flow with
        | some (_, r) => r
        | none => 0
      if s.time.now < at0 + 125000 then s
      else
        let x := s.net p
        let s1 := (s.setNet p { x with queues := x.queues.modify 5 (·.erase t) }).dropFrame p t 0
        (s1.bump (Fld.txCnt f (1 + p.num)) 1).flowEvent 27 (128 + f) f [p.num]

/-! ### Checks -/

/-- The channels of the flows of a direction that are neither in OFF nor in CFG_BAD (R180). -/
def State.rxChannels (s : State) : Nat :=
  (List.range 128).foldl (fun a f => if s.rxFlowLive f then a + flowCh (s.rxW f 0) else a) 0
def State.txChannels (s : State) : Nat :=
  (List.range 128).foldl (fun a f => if s.txFlowLive f then a + flowCh (s.txW f 0) else a) 0

/-- The channel limit of R175. -/
def State.channelLimit (s : State) : Nat := if s.on Fld.FAB_CFG_RATE then 128 else 256

/-- The checks of R182 for a receive flow and for a transmit flow, with the channels of the others; 0 where all pass. -/
def State.rxCheck (s : State) (f others : Nat) : Nat :=
  let w := s.rxW f 0
  if flowRate w ≠ s.get Fld.FAB_CFG_RATE then 1
  else if s.linkOff < flowP w + 1 then 2
  else if others + flowCh w > s.channelLimit then 4 else 0
def State.txCheck (s : State) (f others : Nat) : Nat :=
  let w := s.txW f 0
  if flowRate w ≠ s.get Fld.FAB_CFG_RATE then 1
  else if (s.txPorts f).any (fun p => s.txFrameLen f p > s.get (Fld.NET_MAXFRAME_MAX p.num)) then 3
  else if others + flowCh w > s.channelLimit then 4
  else if s.get Fld.STRM_IPV4_ADDR = 0 then 5 else 0

/-- A flow put in CFG_BAD with its cause, logged (R182). -/
def State.rxBad (s : State) (f c : Nat) : State :=
  ((s.setRx f RxFlow.reset).put (Fld.rxState f) 4).put (Fld.rxCause f) c |>.note 0x18 [16 * f, c]
def State.txBad (s : State) (f c : Nat) : State :=
  ((s.setTx f { s.txFlow f with first := none, got := [], blocked := false }).put (Fld.txState f) 3).put (Fld.txCause f) c
    |>.note 0x18 [0x800 + 16 * f, c]

/-- A receive flow that runs under the enables and the settings in force (R181, R182): stopped, or checked again. -/
def State.rxHalt (s : State) (f : Nat) : State :=
  if s.rxSt f = 0 then s
  else if !s.rxOn f then ((s.setRx f RxFlow.reset).put (Fld.rxState f) 0).put (Fld.rxCause f) 0
  else if s.rxSt f = 4 then s
  else
    let c := s.rxCheck f (s.rxChannels - flowCh (s.rxW f 0))
    if c ≠ 0 then s.rxBad f c else s

/-- A receive flow in OFF whose EN is 1: checked, and started where the checks pass (R181, R182). -/
def State.rxStart (s : State) (f : Nat) : State :=
  if s.rxSt f ≠ 0 || !s.rxOn f then s
  else
    let c := s.rxCheck f s.rxChannels
    if c ≠ 0 then s.rxBad f c else (s.setRx f RxFlow.reset).put (Fld.rxState f) 1

/-- The checks of R182 that a later change breaks for a transmit flow that runs: the fabric rate's, and at a write of NET_MAXFRAME
(`sized`) the size; LINK_OFF checks receive flows alone. 0 where none is broken. -/
def State.txBroken (s : State) (f : Nat) (sized : Bool) : Nat :=
  let c := s.txCheck f (s.txChannels - flowCh (s.txW f 0))
  if c = 5 || (c = 3 && !sized) then 0 else c

/-- A transmit flow that runs likewise (R182, R183): a packet still being filled when it stops is not sent. -/
def State.txHalt (sized : Bool) (s : State) (f : Nat) : State :=
  if s.txSt f = 0 then s
  else if !s.txOn f then
    (((s.setTx f { s.txFlow f with first := none, got := [], blocked := false }).put (Fld.txState f) 0).put (Fld.txCause f) 0).put
      (Fld.txBlock f) 0
  else if s.txSt f = 3 then s
  else
    let c := s.txBroken f sized
    if c ≠ 0 then s.txBad f c else s

/-- A transmit flow in OFF whose EN is 1 (R182, R183). -/
def State.txStart (s : State) (f : Nat) : State :=
  if s.txSt f ≠ 0 || !s.txOn f then s
  else
    let c := s.txCheck f s.txChannels
    if c ≠ 0 then s.txBad f c else (s.put (Fld.txState f) 1).reblock f

/-- Every flow: those that stop or break a check first, then the ones that start, in the order of their numbers, receive flows first
(R182). `sized` where NET_MAXFRAME has been written. -/
def State.enableFlows (s : State) (sized : Bool) : State :=
  let l := List.range 128
  l.foldl State.txStart (l.foldl State.rxStart (l.foldl (State.txHalt sized) (l.foldl State.rxHalt s)))

/-! ### Maps -/

/-- Channel map entry `c` of a flow from its words at `base` (R179). -/
def State.mapEntry (s : State) (base f c : Nat) : Nat :=
  let w := s.strmW (base + 32 * f + c / 2)
  if c % 2 = 0 then Word.field w 15 0 else Word.field w 31 16

/-- Whether a network slot exists at the media rate (R175). -/
def State.slotExists (s : State) (n : Nat) : Bool := !s.on Fld.FAB_CFG_RATE || n < 128

/-- The ACTIVE receive entries of the flows that run, in order (R175, R179). DEDUCED (assumption 55). -/
def State.rxEntries (s : State) : List (Nat × Nat × Nat) :=
  ((List.range 128).filter s.rxFlowLive).flatMap fun f =>
    (List.range (flowCh (s.rxW f 0))).filterMap fun c =>
      let e := s.mapEntry 0x1000 f c
      if e / 2 ^ 15 % 2 = 1 then some (e % 256, f, c) else none

/-- The entries that keep their slots: the lower flow's, and within a flow the lower channel's (R175). -/
def State.rxKept (s : State) : List (Nat × Nat × Nat) :=
  s.rxEntries.foldl (fun a e => if s.slotExists e.1 && !a.any (·.1 = e.1) then a ++ [e] else a) []

/-- The ACTIVE transmit entries of the flows that run, by flow, channel and slot. DEDUCED (assumption 55). -/
def State.txActive (s : State) : List (Nat × Nat × Nat) :=
  ((List.range 128).filter s.txFlowLive).flatMap fun f =>
    (List.range (flowCh (s.txW f 0))).filterMap fun c =>
      let e := s.mapEntry 0x2000 f c
      if e / 2 ^ 15 % 2 = 1 then some (f, c, e % 256) else none

/-- Those of them whose slots exist (R175). -/
def State.txEntries (s : State) : List (Nat × Nat × Nat) := s.txActive.filter fun e => s.slotExists e.2.2

/-- MAP_CONFLICT of every flow, and the entries that act as inactive, each logged with its map word and slot as it begins to
(R175, R200). -/
def State.markConflicts (s : State) (kept : List (Nat × Nat × Nat)) : State :=
  let rx := s.rxEntries.filter fun e => !kept.contains e
  let tx := s.txActive.filter fun e => !s.slotExists e.2.2
  let bad := rx.map (fun e => ((0x1000, e.2.1, e.2.2), e.1)) ++ tx.map (fun e => ((0x2000, e.1, e.2.1), e.2.2))
  let new := bad.filter fun x => !s.strm.conflicts.contains x.1
  let s1 := new.foldl (fun (t : State) x => t.note 0x18 [x.1.1 + 32 * x.1.2.1 + x.1.2.2 / 2, x.2]) s
  let s2 := { s1 with strm := { s1.strm with conflicts := bad.map Prod.fst } }
  (List.range 128).foldl (fun t f => t.flag (Fld.rxConflict f) (rx.any (·.2.1 = f))) s2

/-- The maps as a brim leaves them (R194): new slots are fed and ramped in; a slot given up goes on being fed until its
crosspoints have closed, where its flow still runs. DEDUCED (assumption 56). -/
def State.applyMaps (s : State) : State :=
  let new := s.rxKept
  let old := s.strm.rxMap
  let gone : List (Nat × Nat × Nat) := old.filter fun e => !(new.any fun x => x.1 = e.1)
  let come : List (Nat × Nat × Nat) := new.filter fun e => !(old.contains e)
  let tx := s.txEntries
  let still := (s.strm.linger ++ gone).filter fun e => s.rxFlowLive e.2.1 && !(new.any fun x => x.1 = e.1)
  let ramps := (tx.filter (!s.strm.txMap.contains ·)).map fun e => (e.1, e.2.1)
  let s1 := { s with strm := { s.strm with
      rxMap := new, txMap := tx, fresh := come.map Prod.fst, txFresh := ramps, linger := still } }
  let s2 := gone.foldl (fun (t : State) e => t.unfeed e.1) s1
  (come.foldl (fun (t : State) e => t.feed e.1) s2).markConflicts new

/-! ### LINK_OFF, modes, steps and restarts -/

/-- LINK_OFF changed at a brim from `l0` (R193): a larger one sets the next ticks apart, behind those that an earlier change has set
apart; a smaller one takes back as many of them, and passes stored ticks over. DEDUCED (assumption 213). -/
def State.linkOffChange (s : State) (l0 : Nat) : State :=
  let l := s.linkOff
  if l = l0 then s
  else (List.range 128).foldl (fun t f =>
    if !t.rxFlowLive f then t
    else if l > l0 then t.setRx f { t.rxFlow f with apart := (t.rxFlow f).apart + (l - l0) }
    else
      let due := (t.time.tick.toNat + 2 ^ 32 + 2 - l) % 2 ^ 32
      let y := t.rxFlow f
      let lost := y.buf.countP fun b => tickDiff b.1 due < 0
      (t.setRx f { y with buf := y.buf.filter (fun b => tickDiff b.1 due ≥ 0), apart := y.apart - (l0 - l) }).bump (Fld.rxCnt f 1) lost) s

/-- What a brim's application does to the stream engine; `old` is the state before it. -/
def State.strmBrim (s old : State) : State :=
  (((s.linkOffChange old.linkOff).enableFlows false).reblockAll).applyMaps

/-- Entry to NIGHTCAP or SHELTER (R181, R187): receive flows wait, with empty buffers; transmit flows are blocked. -/
def State.strmSleep (s : State) : State :=
  ((List.range 128).foldl (fun t f =>
    if t.rxFlowLive f then (t.setRx f RxFlow.reset).put (Fld.rxState f) 1 else t) s).reblockAll

/-- A step (R192, R198): stored ticks whose processing tick has passed on the new grid are discarded and counted; the gap
count restarts; a packet being filled is discarded, and a closed one is due; a backward step takes every group to its next epoch. -/
def State.strmStep (s : State) (longTick : Nat) (backward : Bool) : State :=
  let s1 := (List.range 128).foldl (fun t f =>
    let y := t.rxFlow f
    let passed := fun (b : Nat × List (List Word)) => tickDiff (b.1 + t.linkOff - 1) longTick < 0
    let t1 := (t.setRx f { y with buf := y.buf.filter fun b => !passed b, gap := 0 }).bump (Fld.rxCnt f 1) (y.buf.countP passed)
    let z := t1.txFlow f
    let due := (longTick + 2 ^ 32 - flowP (t1.txW f 0)) % 2 ^ 32
    t1.setTx f { z with first := none, got := [], closed := z.closed.map fun c => (due, c.2) }) s
  if backward then (List.range 16).foldl State.nextEpoch s1 else s1

/-- The stream domain stops for a restart (R359): no packet is sent, those that wait for their release included. -/
def State.strmStop (s : State) : State :=
  (List.range 128).foldl (fun t f => t.setTx f { t.txFlow f with first := none, got := [], closed := [] }) s

/-- The stream domain comes back from a restart (R198, R359): receive flows wait, transmit flows begin a packet afresh,
and every group takes its next epoch. -/
def State.strmResume (s : State) : State :=
  (List.range 16).foldl State.nextEpoch ((List.range 128).foldl (fun t f =>
    if t.rxFlowLive f then (t.setRx f RxFlow.reset).put (Fld.rxState f) 1 else t) s.strmStop)

/-- BLK_CTRL.SRST of the STRM block (R180, R184, R198), beside the registers: every flow's EN clears, every flow is OFF,
sequence numbers return to 0, and every group takes its next epoch. -/
def State.strmSrst (s : State) : State :=
  let s1 := (List.range 128).foldl (fun t f =>
    let t1 := ((t.flag ⟨indKey 0x18 (16 * f), 31, 31⟩ false).flag ⟨indKey 0x18 (0x800 + 16 * f), 31, 31⟩ false)
    let t2 := ((t1.setRx f RxFlow.reset).setTx f TxFlow.reset)
    ((t2.wr (Fld.rxState f).addr 0).wr (Fld.txState f).addr 0)) s
  ((List.range 16).foldl State.nextEpoch s1).applyMaps

end Sys2Proof.Machine
end

