-- ==== Sys2Proof/Machine/Curve.lean ====
section
/-! DEFINITION. The curve P-384 (NIST SP 800-186): the check of an ECDSA signature over SHA-384 (FIPS 186-5) and the shared secret of
ECDH (NIST SP 800-56A), which sealed orders and images rest on (R381, R382). The spec names them and leaves what they are to their
standards. PRESUMED (assumption 214). Points are Jacobian coordinates; a point with z = 0 is the point at infinity. -/

namespace Sys2Proof.Machine

/-- The prime of the field, the order of the base point, and the coefficient b. -/
def curveP : Nat := 2 ^ 384 - 2 ^ 128 - 2 ^ 96 + 2 ^ 32 - 1
def curveN : Nat := 0xFFFFFFFFFFFFFFFFFFFFFFFFFFFFFFFFFFFFFFFFFFFFFFFFC7634D81F4372DDF581A0DB248B0A77AECEC196ACCC52973
def curveB : Nat := 0xB3312FA7E23EE7E4988E056BE3F82D19181D9C6EFE8141120314088F5013875AC656398D8A2ED19D2A85C8EDD3EC2AEF

/-- A point of the curve. -/
structure CurvePt where
  x : Nat
  y : Nat
  z : Nat
deriving DecidableEq, Repr

def CurvePt.zero : CurvePt := { x := 1, y := 1, z := 0 }

/-- The base point. -/
def CurvePt.base : CurvePt :=
  { x := 0xAA87CA22BE8B05378EB1C71EF320AD746E1D3B628BA79B9859F741E082542A385502F25DBF55296C3A545E3872760AB7,
    y := 0x3617DE4A96262C6F5D9E98BF9292DC29F8F41DBD289A147CE9DA3113B5F0B8C00A60B1CE1D7E819D7A431D7C90EA0E5F, z := 1 }

/-- Arithmetic in the field. -/
def psub (a b : Nat) : Nat := (a + curveP - b % curveP) % curveP
def pmul (a b : Nat) : Nat := a * b % curveP

/-- A power modulo `m`, over the lowest `n` bits of the exponent. -/
def powMod (m a e : Nat) : Nat → Nat
  | 0 => 1 % m
  | n + 1 =>
    let x := powMod m a (e / 2) n
    if e % 2 = 1 then x * x % m * a % m else x * x % m

/-- The inverse modulo a prime. -/
def invMod (m a : Nat) : Nat := powMod m a (m - 2) 384

/-- A point added to itself. -/
def CurvePt.double (q : CurvePt) : CurvePt :=
  let d := pmul q.z q.z
  let g := pmul q.y q.y
  let b := pmul q.x g
  let a := pmul 3 (pmul (psub q.x d) ((q.x + d) % curveP))
  let x := psub (pmul a a) (8 * b)
  { x := x, y := psub (pmul a (psub (4 * b) x)) (8 * pmul g g), z := pmul 2 (pmul q.y q.z) }

/-- Two points added. -/
def CurvePt.add (q r : CurvePt) : CurvePt :=
  if q.z = 0 then r
  else if r.z = 0 then q
  else
    let zq := pmul q.z q.z
    let zr := pmul r.z r.z
    let u := pmul q.x zr
    let h := psub (pmul r.x zq) u
    let s := pmul q.y (pmul zr r.z)
    let t := psub (pmul r.y (pmul zq q.z)) s
    if h = 0 then (if t = 0 then q.double else CurvePt.zero)
    else
      let h2 := pmul h h
      let h3 := pmul h2 h
      let v := pmul u h2
      let x := psub (pmul t t) (h3 + 2 * v)
      { x := x, y := psub (pmul t (psub v x)) (pmul s h3), z := pmul h (pmul q.z r.z) }

/-- A multiple of a point, over the lowest `n` bits of the factor. -/
def CurvePt.times (q : CurvePt) (k : Nat) : Nat → CurvePt
  | 0 => CurvePt.zero
  | n + 1 =>
    let x := (CurvePt.times q (k / 2) n).double
    if k % 2 = 1 then x.add q else x

/-- The x-coordinate of a point other than infinity. -/
def CurvePt.affineX (q : CurvePt) : Nat := let i := invMod curveP q.z; pmul q.x (pmul i i)

/-- A public key in uncompressed form (97 octets), where it is a point of the curve. -/
def pointOf (l : List Nat) : Option CurvePt :=
  let x := ofOctets ((l.drop 1).take 48)
  let y := ofOctets ((l.drop 49).take 48)
  if l.length = 97 && l.headD 0 = 4 && x < curveP && y < curveP && pmul y y = (x ^ 3 + (curveP - 3) * x + curveB) % curveP
  then some { x := x, y := y, z := 1 } else none

/-- Whether r and s sign a message under a public key. -/
def ecdsaOk (key message : List Nat) (r s : Nat) : Bool := match pointOf key with
  | none => false
  | some q =>
    let w := invMod curveN s
    let e := ofOctets (sha384 message)
    let v := (CurvePt.base.times (e * w % curveN) 384).add (q.times (r * w % curveN) 384)
    0 < r && r < curveN && 0 < s && s < curveN && v.z ≠ 0 && v.affineX % curveN = r

/-- The shared secret Z of a private key and a public key (R381): the x-coordinate of their product. -/
def ecdh (priv : Nat) (key : List Nat) : Option Nat := match pointOf key with
  | none => none
  | some q => let v := q.times priv 384; if v.z = 0 then none else some v.affineX

end Sys2Proof.Machine
end

