-- ==== Sys2Proof/Machine/Trust.lean ====
section
/-! DEFINITION. Signatures: the payload of a command, signature blocks (R382), and the signers that the life cycle accepts (R374, R391). -/

namespace Sys2Proof.Machine

/-! ### Octets of a command -/

/-- The octets of a descriptor's buffer (R411, R412): octet 4w + i of the buffer stands in bits [8i + 7:8i] of its word w. DEDUCED (assumption 228). -/
def descOctets (d : Desc) : List Nat := (List.range d.len).map fun i => (d.data.getD (i / 4) 0).toNat / 2 ^ (8 * (i % 4)) % 256

/-- The payload of a chain (R412). -/
def chainPayload (l : List Desc) : List Nat := l.flatMap descOctets

/-- The number that `n` octets from octet `i` on spell, the first at the top. -/
def octetsAt (l : List Nat) (i n : Nat) : Nat := ofOctets ((l.drop i).take n)

/-- A public key's 25 words and its 97 octets (R398). -/
def keyWords (l : List Nat) : List Word := (List.range 25).map fun w =>
  BitVec.ofNat 32 (sumOf ((List.range 4).map fun i => l.getD (4 * w + i) 0 * 2 ^ (8 * i)))
def wordOctets (l : List Word) : List Nat := (List.range 97).map fun i => (l.getD (i / 4) 0).toNat / 2 ^ (8 * (i % 4)) % 256

/-! ### Signature blocks -/

/-- What stands before the signature block at the end of octets (R382), and SIGNER in that block. -/
def unsigned (l : List Nat) : List Nat := l.take (l.length - 104)
def signerOf (l : List Nat) : Nat := l.getD (l.length - 99) 0

/-- Whether octets end in a signature block of a public key (R382). -/
def signedBy (key : List Word) (l : List Nat) : Bool :=
  let n := l.length - 104
  104 ≤ l.length && octetsAt l n 4 = 0x4B534947 && l.getD (n + 4) 0 = 1
    && ecdsaOk (wordOctets key) (unsigned l) (octetsAt l (n + 8) 48) (octetsAt l (n + 56) 48)

/-- The public key of a site root slot. -/
def State.rootKey (s : State) (n : Nat) : List Word := ((s.otp.roots.find? (·.1 = n)).map (·.2)).getD []

/-- Whether the current site root has signed octets (R374, R386). -/
def State.siteSigned (s : State) (l : List Nat) : Bool := match s.otp.root with
  | some r => signerOf l = r + 1 && signedBy (s.rootKey r) l
  | none => false

/-- Whether the factory root has signed octets. -/
def State.factorySigned (s : State) (l : List Nat) : Bool := signerOf l = 0 && signedBy s.otp.factory l

/-! ### Images -/

/-- How the signatures of a firmware image verify (R391): whether the factory block does, and the site block, where the image has one. -/
structure FwCheck where
  factory : Bool
  site : Option Bool
deriving DecidableEq, Repr

/-- The signatures that a firmware image needs in the life-cycle state (R374). -/
def State.fwRule (s : State) (x : FwCheck) : Bool := match s.otp.cycle with
  | 0 => x.factory
  | 1 => x.factory && x.site.getD true
  | 2 => x.factory && x.site.getD false
  | 3 => x.factory
  | _ => false

/-- How the signatures of a firmware image verify (R391): a factory block, and behind it, where the last block names a site root, a
site block that covers both. -/
def State.fwCheck (s : State) (l : List Nat) : FwCheck :=
  if signerOf l = 0 then { factory := s.factorySigned l, site := none }
  else { factory := s.factorySigned (unsigned l), site := some (s.siteSigned l) }

/-- How the signatures of a bank's image verify at ATTEST (R391), against the site root that is then current: a stored image that a
retired slot has signed fails (R386). The factory's own image carries the factory's block. DESIGN CHOICE (assumption 138). -/
def State.fwVerdict (s : State) (x : FwStored) : FwCheck := match x.octets with
  | none => { factory := true, site := none }
  | some l => s.fwCheck l

/-- Whether graphs and messages are accepted at all in the life-cycle state (R374). -/
def State.siteImages (s : State) : Bool := s.otp.cycle = 1 || s.otp.cycle = 2

end Sys2Proof.Machine
end

