-- ==== Sys2Proof/Machine/Plat.lean ====
section
/-! DEFINITION. Modes (R347 to R354), supply and temperature (R355 to R358), reset domains (R359 to R361), firmware banks
(R362 to R364), bank repair (R365), and ATTEST (R348, R370 to R372). -/

namespace Sys2Proof.Machine

def State.setPlat (s : State) (x : PlatSt) : State := { s with plat := x }

/-! ### SHELTER causes -/

/-- The SHELTER causes as bits of TOP_SHELTER (R349, R366). -/
def bitCommand : Nat := 0
def bitVinUv : Nat := 1
def bitVinOv : Nat := 2
def bitThermal : Nat := 3
def bitPfw : Nat := 4
def bitAttest : Nat := 5

def State.hasCause (s : State) (b : Nat) : Bool := s.plat.causes.testBit b

/-- A cause that joins the set, and one that leaves it (R349). -/
def State.addCause (s : State) (b : Nat) : State := { s with plat := { s.plat with causes := s.plat.causes ||| 2 ^ b } }
def State.dropCause (s : State) (b : Nat) : State :=
  if s.hasCause b then { s with plat := { s.plat with causes := s.plat.causes - 2 ^ b } } else s

/-- SHELTER_CAUSE (R349): the highest standing cause in the order ATTEST, THERMAL, VIN_OV, VIN_UV, PFW, COMMAND. -/
def State.shelterCause (s : State) : Nat :=
  if s.mode ≠ modeShelter then 0
  else match [bitAttest, bitThermal, bitVinOv, bitVinUv, bitPfw, bitCommand].find? s.hasCause with
    | some b => b + 1
    | none => 0

/-- TOP_SHELTER.CAUSES (R366): 0 outside SHELTER. -/
def State.shelterCauses (s : State) : Nat := if s.mode = modeShelter then s.plat.causes else 0

/-! ### Firmware banks -/

/-- The version of a bank's valid image, where it holds one. -/
def State.fwImage (s : State) (b : Nat) : Option Nat := (s.flash.fw.getD b none).map (·.version)

/-- PLAT_FW_ST and PLAT_FW_VER as bank `b` runs (R362, R367). -/
def State.showFw (s : State) (b : Nat) : State :=
  (((s.put Fld.PLAT_FW_ST_ACT_BANK b).put Fld.PLAT_FW_VER_ACT_VER ((s.fwImage b).getD 0)).flag Fld.PLAT_FW_ST_IDLE_VALID
    (s.fwImage (1 - b)).isSome).put Fld.PLAT_FW_VER_IDLE_VER ((s.fwImage (1 - b)).getD 0)

/-- An armed switch disarmed (R363, R367). -/
def State.fwDisarm (s : State) : State := (s.flag Fld.PLAT_FW_ST_ARMED false).flag Fld.PLAT_FW_ST_PRELOADED false

/-- Execution passes to the other bank (R363, step 5). -/
def State.fwPass (s : State) : State := s.fwDisarm.showFw (1 - s.get Fld.PLAT_FW_ST_ACT_BANK)

/-- PLAT_FW_CMD.SWITCH admitted by its key (R363): in MAINTENANCE with a valid idle image, in a brim that has not begun;
otherwise nothing is armed. DEDUCED (assumption 140). -/
def State.fwSwitchCmd (s : State) (g : Who) : State :=
  if s.on Fld.PLAT_FW_ST_ARMED || s.mode ≠ modeMaintenance || !s.on Fld.PLAT_FW_ST_IDLE_VALID then
    s.logNote codeDiscard 0x50 g.origin [0x500030, 1]
  else if s.brimMissed (s.get Fld.PLAT_FW_TICK_BRIM_TICK) then s.flag Fld.PLAT_FW_ST_MISSED true
  else (s.flag Fld.PLAT_FW_ST_ARMED true).command g 0x500030 1

/-- Brim step 3 for the firmware (R363, R364): a fallback, or an armed and preloaded switch whose brim has come; LATE where
it has passed. -/
def State.fwBrim (s : State) : State :=
  let d := (s.get Fld.PLAT_FW_TICK_BRIM_TICK + 2 ^ 32 - s.time.tick.toNat) % 2 ^ 32
  if s.plat.fallBack then
    let s1 := ({ s with plat := { s.plat with fallBack := false } }).fwPass
    ((((s1.flag Fld.PLAT_FW_ST_PROBATION false).flag Fld.PLAT_FW_ST_FALLEN_BACK true).setFlag 27 true).raise 53 0x50 [3]).note
      0x50 [s1.get Fld.PLAT_FW_ST_ACT_BANK]
  else if s.on Fld.PLAT_FW_ST_ARMED && s.on Fld.PLAT_FW_ST_PRELOADED && (d = 0 || d ≥ 2 ^ 31) then
    let s1 := ((s.fwPass).start .probation).flag Fld.PLAT_FW_ST_PROBATION true
    (if d = 0 then s1 else s1.flag Fld.PLAT_FW_ST_LATE true).note 0x50 [s1.get Fld.PLAT_FW_ST_ACT_BANK]
  else s

/-! ### Changing the mode -/

/-- What ends the audio of a mode (R352): receive flows wait, transmit flows are blocked, LAP ports are suspended, line tests
pause, the graph stops, and every channel makes an ordinary stop, or with `fast` a stop on a fault. SYN2 stops once every
channel is OFF. DEDUCED (assumption 135). -/
def State.sleepAudio (s : State) (fast : Bool) : State :=
  let s1 := if fast && s.isP8 then (List.range 8).foldl (fun (t : State) c =>
      if t.ampGov c = c && 1 ≤ t.ampSt c && t.ampSt c ≤ 3 then t.ampLeave c 0 (if t.ampSt c = 1 then t.get (Fld.AMP_CH_ST_CAUSE c) else 0)
      else t) s
    else s
  ((((s1.strmSleep).lapSleep).lineSleep).ampSettle.ampIdle).zeroGraph false

/-- What begins it again (R353, step 5): AMP runs its plan and enables SYN2, the graph starts from zero state, ports and flows
start; with `wake`, as NIGHTCAP or SHELTER is left, a sweep of the lines (R304). -/
def State.wakeAudio (s : State) (wake : Bool) : State :=
  let s1 := if s.isP8 && s.enabled 0x30 then s.ampPlan else s
  let s2 := if wake then (s1.zeroGraph true).lineWake else s1.zeroGraph true
  ((s2.lapBrim).reblockAll).ampSettle

/-- ALARM begins (R271, R138, R363): the power stage's retries, a pending speed change, an armed firmware switch. -/
def State.alarmBegins (s : State) : State :=
  let s1 := ((s.ampAlarmEntry).cancelPending .a).cancelPending .b
  if s1.on Fld.PLAT_FW_ST_ARMED then (s1.fwDisarm).flag Fld.PLAT_FW_ST_MISSED true else s1

/-- Whether a mode is one of the audio modes. -/
def isAudioMode (m : Nat) : Bool := m = modeIdle || m = modeService || m = modeAlarm || m = modeMaintenance

/-- The mode changes at a brim (R348): logged with the old and new mode and the trigger (0 the end of ATTEST or of a wake, 1 a
request, 2 the Crown, 3 a SHELTER cause), and what the change brings with it. DEDUCED (assumption 132). -/
def State.setMode (s : State) (m org trigger : Nat) : State :=
  let old := s.mode
  if m = old then s
  else
    let s1 := (s.put Fld.TOP_MODE_STATUS_MODE m).logNote codeState 0 org [old, m, trigger, s.plat.causes]
    let s2 := if old = modeAlarm then s1.ampAlarmExit.servoRelease.efAlarmEnd else if m = modeAlarm then s1.alarmBegins else s1
    let s3 := if m = modeShelter then (s2.saveModels).flushArchive else s2
    if isAudioMode m then (if isAudioMode old then s3.ampSettle else s3.wakeAudio (old = modeNightcap || old = modeShelter))
    else if isAudioMode old then
      s3.sleepAudio (m = modeShelter && (s.hasCause bitThermal || s.hasCause bitVinUv || s.hasCause bitVinOv))
    else s3

/-- ALARM entered from a mode, which RETURN records, NIGHTCAP as IDLE (R348). -/
def State.toAlarm (s : State) (ret : Nat) : State :=
  (s.put Fld.TOP_MODE_STATUS_RETURN (if ret = modeService || ret = modeMaintenance then ret else modeIdle)).setMode
    modeAlarm originCrown 2

/-- SHELTER entered, or kept with a running wake given up (R349, R352). -/
def State.toShelter (s : State) (org trigger : Nat) : State :=
  ({ s with plat := { s.plat with wake := 0 } }).setMode modeShelter org trigger

/-- A wake begins (R353), toward a mode. -/
def State.startWake (s : State) (dest : Nat) : State := { s with plat := { s.plat with wake := 1, wakeTo := dest } }

/-! ### Requests -/

/-- A refused request (R350): REQ_REJECT, and a log entry with the target and who made it. DEDUCED (assumption 129). -/
def State.rejectReq (s : State) (target org : Nat) : State :=
  (s.flag Fld.TOP_MODE_STATUS_REQ_REJECT true).logNote codeDiscard 0 org [0x24, target]

/-- A request refused because the part is in ALARM and no sealed order carries it (R350): REQ_REJECT, and event 60. -/
def State.rejectInAlarm (s : State) (target org : Nat) : State :=
  ((s.flag Fld.TOP_MODE_STATUS_REQ_REJECT true).countDiscard org).raiseAs 60 0 2 org
    [0x24, 2 ^ 31 + target, refusalWord 15 21, Acc.w1p.position]

/-- The targets that R348 has a transition to from a mode, or that are the mode itself; in ALARM those that an order may name
(R350). -/
def modeTargets (m : Nat) : List Nat :=
  if m = modeIdle || m = modeService || m = modeMaintenance || m = modeAlarm then
    [modeNightcap, modeIdle, modeService, modeMaintenance, modeShelter]
  else if m = modeNightcap then [modeNightcap, modeIdle, modeService, modeMaintenance]
  else if m = modeShelter then [modeIdle, modeShelter]
  else []

/-- Whether the pairing refuses a target (R350): SHELTER or NIGHTCAP while the module holds the ACTIVE role and its partner is
ready. -/
def State.pairRefuses (s : State) (target : Nat) : Bool :=
  (target = modeShelter || target = modeNightcap) && target ≠ s.mode && s.role = roleActive && s.on Fld.PAIR_STATUS_PEER_READY

/-- TOP_MODE_CMD.GO written with a TARGET (R350). While a wake runs the request waits, to be judged at its end. DEDUCED (assumption 129). -/
def State.requestMode (s : State) (g : Who) (target : Nat) : State :=
  let s0 := s.put Fld.TOP_MODE_CMD_TARGET target
  if s0.inAlarm && g ≠ .order then s0.rejectInAlarm target g.origin
  else if s0.plat.wake = 0 && (!(modeTargets s0.mode).contains target || s0.pairRefuses target) then s0.rejectReq target g.origin
  else if target > 7 || target < 2 || target = modeAlarm then s0.rejectReq target g.origin
  else { s0 with plat := { s0.plat with req := some { target := target, origin := g.origin, order := g = .order } } }

/-- A request at its brim (R350), with no wake running. One that waited through a wake which ended in ALARM is judged as a
request in ALARM: an order's applies, another's is refused with event 60. DEDUCED (assumption 129). -/
def State.applyReq (s : State) (r : ModeReq) : State :=
  let s0 := { s with plat := { s.plat with req := none } }
  let t := r.target
  if s0.inAlarm && !r.order then s0.rejectInAlarm t r.origin
  else if !(modeTargets s0.mode).contains t || s0.pairRefuses t then s0.rejectReq t r.origin
  else if s0.inAlarm then
    (if t = modeShelter then (s0.addCause bitCommand).toShelter r.origin 1 else s0.put Fld.TOP_MODE_STATUS_RETURN t)
  else if s0.mode = modeShelter then
    (if t = modeShelter then s0.addCause bitCommand
     else
       let s1 := s0.dropCause bitCommand
       if s1.plat.causes = 0 then s1 else s1.logNote codeCommand 0 r.origin [0x24, t])
  else if t = s0.mode then s0
  else if s0.mode = modeNightcap then s0.startWake t
  else if t = modeShelter then (s0.addCause bitCommand).toShelter r.origin 1
  else s0.setMode t r.origin 1

/-! ### The mode at a brim -/

/-- The request that waits is refused because ALARM takes effect (R350). -/
def State.refuseWaiting (s : State) : State := match s.plat.req with
  | some r => ({ s with plat := { s.plat with req := none } }).rejectReq r.target r.origin
  | none => s

/-- COMMAND and PFW leave the set when the Crown enters ALARM; PFW is then a held action (R349). -/
def State.crownFrees (s : State) : State :=
  let held := s.hasCause bitPfw || s.plat.pfwHeld
  let s1 := (s.dropCause bitCommand).dropCause bitPfw
  { s1 with plat := { s1.plat with pfwHeld := held } }

/-- A wake whose banks are zeroed completes (R349, R353): in ALARM where the Crown is in ALARM, else in the mode it was for.
Where the Crown enters ALARM in this very brim (`rose`), the request that waited is refused (R350). DEDUCED (assumption 134). -/
def State.endWake (s : State) (rose : Bool) : State :=
  if s.plat.wake ≠ 3 then s
  else
    let s1 := { s with plat := { s.plat with wake := 0 } }
    if s1.on Fld.CROWN_STATUS_ALARM then (if rose then s1.refuseWaiting else s1).toAlarm modeIdle
    else s1.setMode s1.plat.wakeTo originPart 0

/-- What PFW_ACT asks for (R356): 1 requests NIGHTCAP, 2 is SHELTER with cause PFW. -/
def State.pfwAct (s : State) : State :=
  let act := s.get Fld.PLAT_SUPPLY_CFG_PFW_ACT
  if act = 2 then s.addCause bitPfw
  else if act ≠ 1 then s
  else if s.plat.wake = 0 && (!(modeTargets s.mode).contains modeNightcap || s.pairRefuses modeNightcap) then
    s.rejectReq modeNightcap originPart
  else { s with plat := { s.plat with req := some { target := modeNightcap, origin := originPart, order := false } } }

/-- The action that ALARM held is due, PFW_N being still asserted (R349, R356). -/
def State.pfwDue (s : State) : Bool := s.plat.pfwHeld && s.on Fld.PLAT_SUPPLY_PFW

/-- ALARM ends (R348, R356): into RETURN, or into what a held PFW action asks for. -/
def State.leaveAlarm (s : State) : State :=
  let s1 := { s with plat := { s.plat with pfwHeld := false } }
  if s.pfwDue && s.get Fld.PLAT_SUPPLY_CFG_PFW_ACT = 2 then (s1.addCause bitPfw).toShelter originPart 3
  else
    let s2 := s1.setMode (s1.get Fld.TOP_MODE_STATUS_RETURN) originCrown 2
    if s.pfwDue then s2.pfwAct else s2

/-- A PFW action that the Crown's ALARM held, where the Crown is QUIET again before the part was in ALARM itself (in SHELTER, or
during a wake): it is taken at the brim at which the Crown's ALARM has ended (R349, R356). DEDUCED (assumption 136). -/
def State.pfwBack (s : State) : State :=
  s.when (s.plat.pfwHeld && !s.inAlarm && !s.on Fld.CROWN_STATUS_ALARM) fun s =>
    let s1 := { s with plat := { s.plat with pfwHeld := false } }
    if s.pfwDue then s1.pfwAct else s1

/-- The request that waits, where no wake runs. DEDUCED (assumption 131). -/
def State.takeReq (s : State) : State := match s.plat.req with
  | some r => if s.plat.wake = 0 then s.applyReq r else s
  | none => s

/-- ALARM ends, unless an order has just taken the part out of it. -/
def State.leaveQuiet (s : State) : State := if s.inAlarm then s.leaveAlarm else s

/-- What the Crown's state does to the mode (R348). DEDUCED (assumption 136). -/
def State.crownMode (s : State) : State :=
  if s.inAlarm then (if s.on Fld.CROWN_STATUS_ALARM then s.takeReq else s.takeReq.leaveQuiet)
  else if s.on Fld.CROWN_STATUS_ALARM && s.mode ≠ modeShelter then
    (if s.mode = modeNightcap then (if s.plat.wake = 0 then s.refuseWaiting.startWake modeIdle else s)
     else s.refuseWaiting.toAlarm s.mode)
  else s.takeReq

/-- The end of ATTEST (R348): SHELTER where a cause stands, else ALARM or IDLE. DEDUCED (assumption 133). -/
def State.leaveAttest (s : State) : State :=
  let s1 := s.put Fld.TOP_MODE_STATUS_RETURN modeIdle
  if s.plat.causes ≠ 0 then s1.toShelter originPart 3
  else if s.on Fld.CROWN_STATUS_ALARM then s1.toAlarm modeIdle
  else s1.setMode modeIdle originPart 0

/-- The mode at a brim (R348, R349), behind the Crown's exchange: causes first, then a wake's end, the Crown, the request, and
the start of a wake out of SHELTER once its set is empty. DEDUCED (assumptions 130, 133, 134). -/
def State.modeBrim (s : State) : State :=
  let rose := s.on Fld.CROWN_STATUS_ALARM && !s.plat.crownWas
  let s0 := { s with plat := { s.plat with crownWas := s.on Fld.CROWN_STATUS_ALARM } }
  if !s0.powered then s0
  else if s0.mode = modeAttest then (if s0.plat.attested then s0.leaveAttest else s0)
  else
    let s1 := if rose && s0.mode = modeShelter then (if s0.plat.wake = 0 then s0.refuseWaiting else s0).crownFrees else s0.pfwBack
    let s2 := if s1.plat.causes = 0 || (s1.mode = modeShelter && s1.plat.wake = 0) then s1 else s1.toShelter originPart 3
    let s3 := (s2.endWake rose).crownMode
    if s3.mode = modeShelter && s3.plat.causes = 0 && s3.plat.wake = 0 then s3.startWake modeIdle else s3

/-! ### Mode commands -/

/-- MODE_REQUEST (R350). -/
def execModeRequest (g : Agent) (target : BitVec 4) (s : State) : Host.Outcome State Fault Refusal :=
  s.run fun s => s.requestMode g.who target.toNat

/-- POWER_DOWN_DONE (R352): every channel has stopped before. DEDUCED (assumption 135). -/
def execPowerDownDone (s : State) : Host.Outcome State Fault Refusal :=
  s.run fun s => s.when ((s.mode = modeNightcap || s.mode = modeShelter) && s.plat.wake = 0 && !(List.range 8).any s.ampSwitches) fun s =>
    { s with plat := { s.plat with down := true } }

/-- WAKE_REGULATORS_READY (R353, step 3). -/
def execWakeRegulatorsReady (s : State) : Host.Outcome State Fault Refusal :=
  s.run fun s => s.when (s.plat.wake = 1) fun s => { s.start .zeroing with plat := { s.plat with wake := 2 } }

/-- WAKE_BANKS_ZEROED (R353, step 4; R434): zeroing takes 393.216 µs; the banks are released; a repair that waited for them may start (R365). -/
def execWakeBanksZeroed (s : State) : Host.Outcome State Fault Refusal :=
  s.runF fun s => s.when (s.plat.wake = 2 && s.ran .zeroing 393216) fun s => ({ s with plat := { s.plat with wake := 3, down := false } }).startRepair

/-! ### Supply -/

/-- The state of a part in OFF (R348): everything at reset but what the module and its flash hold. -/
def State.offState (s : State) : State :=
  ({ State.reset with variant := s.variant, out := s.out, free := s.free, flash := s.flash, otp := s.otp, pending := s.pending,
                      log := { LogSt.reset with archive := s.log.archive } }).put Fld.TOP_MODE_STATUS_MODE modeOff

def State.showVin (s : State) (v : BitVec 16) : State := s.put Fld.PLAT_SUPPLY_VIN_CTL v.toNat

/-- POWER_VALID (R348): OFF becomes ATTEST, which is logged as every change of mode is. -/
def execPowerValid (v : BitVec 16) (s : State) : Host.Outcome State Fault Refusal :=
  .next (s.when (!s.powered && v.toNat ≥ 880) fun s =>
    ((s.offState.put Fld.TOP_MODE_STATUS_MODE modeAttest).logNote codeState 0 originPart [modeOff, modeAttest, 0, 0]).showVin v)

/-- VIN_CTL_LOSS (R355): below 6.0 V the part goes to OFF. -/
def execVinCtlLoss (v : BitVec 16) (s : State) : Host.Outcome State Fault Refusal :=
  s.runExch fun s => s.when (v.toNat < 600) State.offState

/-- VIN_CTL_WARN (R355): below 9.0 V; event 40 once per onset; pending archive entries are written (R483). DEDUCED (assumption 137). -/
def execVinCtlWarn (v : BitVec 16) (s : State) : Host.Outcome State Fault Refusal :=
  s.runF fun s => s.when (v.toNat < 900) fun s =>
    let s1 := s.showVin v
    if s1.on Fld.PLAT_SUPPLY_VIN_WARN then s1
    else ((s1.flag Fld.PLAT_SUPPLY_VIN_WARN true).raise 40 0x50 []).flushArchive

/-- VIN_CTL_WARN_RESTORE (R355): at or above 9.2 V. -/
def execVinCtlWarnRestore (v : BitVec 16) (s : State) : Host.Outcome State Fault Refusal :=
  s.runF fun s => s.when (v.toNat ≥ 920) fun s => (s.showVin v).flag Fld.PLAT_SUPPLY_VIN_WARN false

/-- VIN_CTL_UNDERVOLTAGE (R355): below 8.0 V; SHELTER at the brim. -/
def execVinCtlUndervoltage (v : BitVec 16) (s : State) : Host.Outcome State Fault Refusal :=
  s.run fun s => s.when (v.toNat < 800) fun s => (s.showVin v).addCause bitVinUv

/-- VIN_CTL_OVERVOLTAGE (R355): above 62.0 V; SHELTER at the brim. -/
def execVinCtlOvervoltage (v : BitVec 16) (s : State) : Host.Outcome State Fault Refusal :=
  s.run fun s => s.when (v.toNat > 6200) fun s => ((s.showVin v).flag Fld.PLAT_SUPPLY_VIN_OV true).addCause bitVinOv

/-- VIN_CTL_RESTORE (R349, R355): VIN_UV from 9.0 V upward, VIN_OV from 61.0 V downward. -/
def execVinCtlRestore (v : BitVec 16) (s : State) : Host.Outcome State Fault Refusal :=
  s.run fun s =>
    let s1 := s.showVin v
    let s2 := if v.toNat ≥ 900 then s1.dropCause bitVinUv else s1
    if v.toNat ≤ 6100 then (s2.flag Fld.PLAT_SUPPLY_VIN_OV false).dropCause bitVinOv else s2

/-- PFW_ASSERT (R356): event 40 once per onset; the Crown's fault summary and cause SUPPLY follow the bit. DEDUCED (assumption 136). -/
def execPfwAssert (s : State) : Host.Outcome State Fault Refusal :=
  s.runF fun s => s.when (!s.on Fld.PLAT_SUPPLY_PFW) fun s =>
    ((({ s with plat := { s.plat with pfwDone := false } }).start .pfw).flag Fld.PLAT_SUPPLY_PFW true).raise 40 0x50 []

/-- PFW_RELEASE (R356): a held action lapses. -/
def execPfwRelease (s : State) : Host.Outcome State Fault Refusal :=
  s.runF fun s => s.when (s.on Fld.PLAT_SUPPLY_PFW) fun s =>
    (({ s with plat := { s.plat with pfwHeld := false } }).start .pfwOff).flag Fld.PLAT_SUPPLY_PFW false

/-- PFW_DELAY_EXPIRE (R356): PFW_N has stayed asserted for PFW_DELAY_S, and PFW_ACT is taken, or held in ALARM and during a wake that an alarm has begun. -/
def execPfwDelayExpire (s : State) : Host.Outcome State Fault Refusal :=
  s.run fun s => s.when (s.on Fld.PLAT_SUPPLY_PFW && !s.plat.pfwDone
      && s.ran .pfw (s.get Fld.PLAT_SUPPLY_CFG_PFW_DELAY_S * 1000000000)) fun s =>
    let s := { s with plat := { s.plat with pfwDone := true } }
    let act := s.get Fld.PLAT_SUPPLY_CFG_PFW_ACT
    if (act = 1 || act = 2) && (s.inAlarm || (s.on Fld.CROWN_STATUS_ALARM && s.mode ≠ modeShelter)) then
      { s with plat := { s.plat with pfwHeld := true } }
    else s.pfwAct

/-- PFW_SHELTER_RESTORE (R349): PFW_N has been released for 10 s. -/
def execPfwShelterRestore (s : State) : Host.Outcome State Fault Refusal :=
  s.run fun s => s.when (!s.on Fld.PLAT_SUPPLY_PFW && s.ran .pfwOff 10000000000) fun s => s.dropCause bitPfw

/-! ### Temperature -/

/-- Since when a condition has held, brought up to date. -/
def State.holdsSince (s : State) (t : Option Nat) (c : Bool) : Option Nat := if c then some (t.getD s.time.now) else none

/-- Whether a condition has held for a time. -/
def State.heldNs (s : State) (t : Option Nat) (ns : Nat) : Bool := match t with
  | some t => s.time.now ≥ t + ns
  | none => false

/-- TEMP_SAMPLE (R358): the registers, the peak since the last read, TEMP_WARN, and since when the module is too hot, or cool again. -/
def execTempSample (die base : Int) (s : State) : Host.Outcome State Fault Refusal :=
  s.run fun s =>
    let peak := if s.plat.peakRead then die else max die (s.getS Fld.PLAT_TEMP_T_DIE_PEAK)
    let s1 := ((s.putS Fld.PLAT_TEMP_T_DIE die).putS Fld.PLAT_TEMP_T_BASE base).putS Fld.PLAT_TEMP_T_DIE_PEAK peak
    let s2 := { s1 with plat := { s1.plat with peakRead := false,
                                               hotAt := s.holdsSince s.plat.hotAt (die ≥ 135 || base ≥ 115),
                                               coolAt := s.holdsSince s.plat.coolAt (die ≤ 115 && base ≤ 95) } }
    if die ≥ 120 || base ≥ 105 then s2.setFlag 24 true
    else if die < 115 && base < 100 then s2.setFlag 24 false
    else s2

/-- Every enabled channel trips (R275, R358). -/
def State.tripAll (s : State) : State :=
  if !s.isP8 then s
  else ((List.range 8).foldl (fun (t : State) c =>
    if t.ampGov c = c && t.ampEn c && t.ampSt c ≠ 6 then t.ampTrip c else t) s).ampSettle

/-- MODULE_THERMAL_SHUTDOWN (R358): too hot for 100 ms, every enabled channel trips, and SHELTER with cause THERMAL follows. -/
def execModuleThermalShutdown (s : State) : Host.Outcome State Fault Refusal :=
  s.run fun s => s.when (!s.hasCause bitThermal && s.heldNs s.plat.hotAt 100000000) fun s =>
    s.tripAll.addCause bitThermal

/-- THERMAL_RESTORE (R358): cool again for 10 s. -/
def execThermalRestore (s : State) : Host.Outcome State Fault Refusal :=
  s.run fun s => s.when (s.heldNs s.plat.coolAt 10000000000) fun s => s.dropCause bitThermal

/-! ### Reset domains -/

/-- BUSY of a domain (R367). -/
def Fld.rstBusy (d : Nat) : Fld := ⟨Fld.PLAT_RST_ST_BUSY.addr, d, d⟩

def State.setPhase (s : State) (d v : Nat) : State := { s with plat := { s.plat with phase := s.plat.phase.set d v } }

/-- A domain's restart begins (R360, step 1). DEDUCED (assumptions 141, 142). -/
def State.beginRestart (s : State) (d : Nat) : State :=
  if s.on (Fld.rstBusy d) then s else (s.flag (Fld.rstBusy d) true).setPhase d 1

/-- The domains that a mask of 9 bits names. -/
def domains (mask : Nat) : List Nat := (List.range 9).filter fun d => mask.testBit d

/-- PLAT_RST_CMD admitted by its key (R360): FAB and AMP in ALARM without an order, and CLK outside MAINTENANCE and SHELTER,
are refused; a domain that is BUSY is ignored and logged; the others restart together. DEDUCED (assumption 141). -/
def State.restartCmd (s : State) (g : Who) (mask : Nat) : State :=
  let no21 := (domains mask).filter fun d => (d = 3 || d = 5) && s.inAlarm && g ≠ .order
  let no24 := (domains mask).filter fun d => d = 2 && s.mode ≠ modeMaintenance && s.mode ≠ modeShelter
  let rest := (domains mask).filter fun d => !no21.contains d && !no24.contains d
  let busy := rest.filter fun d => s.on (Fld.rstBusy d)
  let go := rest.filter fun d => !busy.contains d
  let s1 := if no21.isEmpty then s else s.refuseReg g 0x500020 mask 21 .kw
  let s2 := if no24.isEmpty then s1 else s1.refuseReg g 0x500020 mask 24 .kw
  let s3 := if busy.isEmpty then s2 else s2.logNote codeDiscard 0x50 g.origin [0x500020, bitmap busy]
  if go.isEmpty then s3 else (go.foldl State.beginRestart s3).command g 0x500020 mask

/-- DOMAIN_RESTART (R360). -/
def execDomainRestart (g : Agent) (mask : BitVec 9) (s : State) : Host.Outcome State Fault Refusal :=
  s.runF fun s => s.when (mask ≠ 0) fun s => s.keyed g.who 0x500020 mask.toNat fun s => s.restartCmd g.who mask.toNat

/-- DOMAIN_RESTART_READY (R360, step 4). -/
def execDomainRestartReady (d : Fin 9) (s : State) : Host.Outcome State Fault Refusal :=
  s.run fun s => s.when (s.plat.phase.getD d.val 0 = 3) fun s => s.setPhase d.val 4

/-- The CLK domain stops (R359): selector, core PLLs and synthesizers, without a loss of lock; the links drop, and the counter
runs on the bypass clock. -/
def State.clkStop (s : State) : State :=
  let s1 := (s.flag Fld.SYN_CPLL_STATUS_LOCK_M false).flag Fld.SYN_CPLL_STATUS_LOCK_N false
  let s2 := (List.range 6).foldl State.synDown s1
  ((({ s2 with time := { s2.time with onSyn1 := false } }).linkDown .a).linkDown .b).ampSettle

/-- The selector resumes in ACQUIRING on the last active reference, with phase absorption (R84, R359). -/
def State.clkResume (s : State) (phase : List Int) : State := match s.activeRef with
  | some a => if s.refQual a then s.switchTo a phase else s.selectRef phase
  | none => s.selectRef phase

/-- What a domain's outputs do as its restart begins (R359). -/
def State.enterRestart (phase : List Int) (s : State) (d : Nat) : State := match d with
  | 0 => (s.linkDown .a).linkDown .b
  | 1 => s.strmStop
  | 2 => s.clkStop
  | 4 => s.lapDown
  | 5 => s.ampSettle
  | 6 => s.lineStop
  | 8 => s.ref0Lost phase
  | _ => s

/-- The ring switch's logic as a restart leaves it (R359, R149): registers, tables and security associations stand; duplicate tables,
recovery, ring checks and gates begin afresh, and the part originates nothing for FORGET. DEDUCED (assumption 221). -/
def State.ringResume (s : State) : State :=
  let port := fun (x : NetOne) => { x with dup := [], gate := none, credit4 := 0, credit5 := 0 }
  { s.start .originate with netA := port s.netA, netB := port s.netB,
                            rsw := { s.rsw with originate := false, dup := [], frer := [], checks := [] } }

/-- What follows a domain's restart (R359). -/
def State.resumeDomain (phase : List Int) (s : State) (d : Nat) : State := match d with
  | 0 => s.ringResume
  | 8 => { s with plat := { s.plat with warnAt := none } }
  | 1 => s.strmResume.reblockAll
  | 2 => s.clkResume phase
  | 3 => s.zeroGraph true
  | 4 => s.lapBrim
  | 5 => s.ampSettle
  | _ => s

/-- The restarts at a brim (R360, steps 2 and 5): ready domains resume, each counted and logged, and commanded ones begin. -/
def State.domBrim (s : State) (phase : List Int) : State :=
  let ready := (List.range 9).filter fun d => s.plat.phase.getD d 0 = 4
  let begun := (List.range 9).filter fun d => s.plat.phase.getD d 0 = 1
  let s1 := ready.foldl (fun (t : State) d =>
    ((((t.setPhase d 0).flag (Fld.rstBusy d) false).resumeDomain phase d).bump Fld.PLAT_RST_ST_COUNT 1).note 0x50 [d]) s
  begun.foldl (fun (t : State) d => (t.setPhase d 2).enterRestart phase d) s1

/-- The restarts at the take point (R360, step 3): a domain whose outputs have entered theirs is in reset. -/
def State.domTake (s : State) : State :=
  { s with plat := { s.plat with phase := s.plat.phase.map fun v => if v = 2 then 3 else v } }

/-- An automatic restart of MGMT, logged (R361); the third within 1 h falls back to a valid idle bank. DEDUCED (assumption 143). -/
def State.autoRestart (s : State) (why : Nat) : State :=
  let recent := s.time.now :: s.plat.autos.filter fun t => s.time.now < t + 3600000000000
  let s1 := ({ s with plat := { s.plat with autos := recent } }).beginRestart 8
  (if recent.length ≥ 3 && s1.on Fld.PLAT_FW_ST_IDLE_VALID then
    { s1 with plat := { s1.plat with fallBack := true, autos := [] } } else s1).note 0x50 [8, why]

/-- WATCHDOG_WARN (R361): the firmware has not served the watchdog for half of TIMEOUT_MS. -/
def execWatchdogWarn (s : State) : Host.Outcome State Fault Refusal :=
  s.run fun s => s.when (!s.on (Fld.rstBusy 8)) fun s =>
    ({ s with plat := { s.plat with warnAt := some s.time.now } }).raise 53 0x50 [1]

/-- WATCHDOG_TIMEOUT (R361): the other half of TIMEOUT_MS has passed since the warning. -/
def execWatchdogTimeout (s : State) : Host.Outcome State Fault Refusal :=
  s.runF fun s => s.when (!s.on (Fld.rstBusy 8) && s.heldNs s.plat.warnAt (s.get Fld.PLAT_WDOG_TIMEOUT_MS * 500000)) fun s =>
    ({ s with plat := { s.plat with warnAt := none } }).autoRestart 1

/-- LOCKSTEP_MISMATCH (R361). -/
def execLockstepMismatch (s : State) : Host.Outcome State Fault Refusal :=
  s.runF fun s => s.when (!s.on (Fld.rstBusy 8)) fun s => s.autoRestart 2

/-! ### Firmware and repair commands -/

/-- FW_SWITCH (R363): a KW write. -/
def execFwSwitch (g : Agent) (s : State) : Host.Outcome State Fault Refusal :=
  s.run fun s => s.keyed g.who 0x500030 1 fun s => s.fwSwitchCmd g.who

/-- FW_SWITCH_CANCEL (R367). -/
def execFwSwitchCancel (_ : Agent) (s : State) : Host.Outcome State Fault Refusal :=
  s.run fun s => s.when (s.on Fld.PLAT_FW_ST_ARMED) State.fwDisarm

/-- FW_PRELOAD_DONE (R363). -/
def execFwPreloadDone (s : State) : Host.Outcome State Fault Refusal :=
  s.run fun s => s.when (s.on Fld.PLAT_FW_ST_ARMED) fun s => s.flag Fld.PLAT_FW_ST_PRELOADED true

/-- FW_PROBATION_END (R364): after 10 s an image that has reported itself healthy becomes the boot bank; otherwise the part falls back at the next brim. DEDUCED (assumption 139). -/
def execFwProbationEnd (healthy : Bool) (s : State) : Host.Outcome State Fault Refusal :=
  s.run fun s => s.when (s.on Fld.PLAT_FW_ST_PROBATION && s.ran .probation 10000000000) fun s =>
    if healthy then
      (({ s with flash := { s.flash with boot := s.get Fld.PLAT_FW_ST_ACT_BANK } }).flag Fld.PLAT_FW_ST_PROBATION false).setFlag 27 false
    else { s with plat := { s.plat with fallBack := true } }

/-- PLAT_REPAIR_CMD with GO admitted by its key (R365). -/
def State.repairCmd (s : State) (g : Who) (bank : Nat) : State := (s.addCandidate bank).command g 0x500044 (2 ^ 31 + bank)

/-- REPAIR_REQUEST (R365): BANK is RW, GO is KW. -/
def execRepairRequest (g : Agent) (bank : BitVec 6) (s : State) : Host.Outcome State Fault Refusal :=
  s.runF fun s => (s.put Fld.PLAT_REPAIR_CMD_BANK bank.toNat).keyed g.who 0x500044 (2 ^ 31 + bank.toNat)
    fun s => s.repairCmd g.who bank.toNat

/-- REPAIR_COPY_DONE (R365, step 2). -/
def execRepairCopyDone (s : State) : Host.Outcome State Fault Refusal :=
  s.run fun s => s.when s.mem.moving.isSome fun s => { s with mem := { s.mem with copied := true } }

/-- A spare shown as replacing a bank (R367). DEDUCED (assumption 146). -/
def State.mapSpare (s : State) (k b : Nat) : State :=
  if k = 0 then (s.flag Fld.PLAT_REPAIR_ST_S0_USED true).put Fld.PLAT_REPAIR_ST_S0_BANK b
  else (s.flag Fld.PLAT_REPAIR_ST_S1_USED true).put Fld.PLAT_REPAIR_ST_S1_BANK b

/-- The address map switches at a brim (R365, step 3): from then on the old bank is powered down (`State.bankPowered`). What it
held stands in the spare; of bank 63 no second copy stays, its wipe taking what is left. DEDUCED (assumption 146). -/
def State.repairBrim (s : State) : State := match s.mem.moving with
  | some (b, k) => if s.mem.copied && !s.bankReplaced b then s.mapSpare k b else s
  | none => s

/-- REPAIR_MAP_STORED (R365, step 4): event 61, and the next candidate. -/
def execRepairMapStored (s : State) : Host.Outcome State Fault Refusal :=
  s.runF fun s => match s.mem.moving with
    | some (b, k) =>
      s.when (s.bankReplaced b) fun s =>
        let s1 := { s with mem := { s.mem with moving := none, copied := false },
                           flash := { s.flash with spares := s.flash.spares.set k (some b) } }
        (((s1.flag Fld.PLAT_REPAIR_ST_BUSY false).put Fld.PLAT_REPAIR_ST_SRC_BANK 0).raise 61 0x50 [b, k, 0, 3]).startRepair
    | none => s

/-! ### ATTEST -/

/-- A rejected image (R391, R396): counted, and event 63 with the image's type and number. -/
def State.imgReject (s : State) (ty num : Nat) : State :=
  (s.bump Fld.CERK_CNT_IMG_REJECT 1).event63 0 [Config.cause63 0, ty * 256 + num]

/-- CERK_LC and the other registers that read OTP (R397, R140). -/
def State.showOtp (s : State) : State :=
  let o := s.otp
  let s1 := ((((s.put Fld.CERK_LC_STATE o.cycle).put Fld.CERK_LC_ROOTS_USED (bitmap o.burned)).flag Fld.CERK_LC_ROOT_VALID
    o.root.isSome).put Fld.CERK_LC_ROOT_SLOT (o.root.getD 0)).flag Fld.CERK_LC_JTAG_OFF o.jtagOff
  let s2 := (s1.put Fld.CERK_SERIAL_HI_SERIAL_HI (o.serial / 2 ^ 32)).put Fld.CERK_SERIAL_LO_SERIAL_LO o.serial
  ((s2.put Fld.RSW_MAC_HI_MAC_HI (o.mac / 2 ^ 32)).put Fld.RSW_MAC_LO_MAC_LO o.mac).put Fld.CERK_CERT_LEN_LEN o.chainLen

/-- CERK_ORD_SEQ as the last accepted SEQ (R397). -/
def State.showSeq (s : State) : State :=
  (s.put Fld.CERK_ORD_SEQ_HI_SEQ_HI (s.flash.seq / 2 ^ 32)).put Fld.CERK_ORD_SEQ_LO_SEQ_LO s.flash.seq

/-- Seal record `n` = 2g + r installed with FIRST, COUNT − 1 and key (R388, R398). -/
def State.installSeal (s : State) (n first count : Nat) (key : List Word) : State :=
  ((({ s with strm := { s.strm with keys := Store.insert n key (Store.erase n s.strm.keys),
                                    low := s.strm.low.filter (· ≠ n) } }).wr (indKey 0x40 n)
    (BitVec.ofNat 32 (2 ^ 31 + first % 256 * 256 + count % 128))).flag ⟨Fld.CERK_KEYS_SEAL.addr, 16 + n / 2, 16 + n / 2⟩ true)

/-- The SEQ values that an archive's entries of rejected orders hold (R372, R396): those that raised event 63, and those that its limit
of 10 ms left logged alone. DEDUCED (assumption 145). -/
def loggedSeqs (l : List LogEntry) : List Nat := l.filterMap fun e =>
  let code := Word.field e.d2 23 16
  let alone := code = codeState && Word.field e.d2 31 24 = 0x40 && Word.field e.d2 11 8 = originPart
  if (code = 63 || alone) && [4, 5, 6, 9].contains e.d4.toNat then some (e.d5.toNat + e.d6.toNat * 2 ^ 32) else none

/-- The parameter area treated as absent (R372): only orders above every logged SEQ are accepted then. -/
def State.paramLost (s : State) : State :=
  { s with flash := { s.flash with hmodels := [], lines := [], msgs := [], spares := [none, none], seals := [], caks := [],
                                   seq := 0 },
           cerk := { s.cerk with floor := some ((loggedSeqs s.log.archive).foldl max 0) } }

/-- The CAKs of the parameter area unwrapped (R370, R387): one whose integrity fails is absent. -/
def State.savedCaks (s : State) : List (Nat × List Word) := s.flash.caks.filterMap fun c =>
  (unwrapRegs 6 (Config.flashKey s.otp.kekSeed) c.2).map fun v => (c.1, beWords 12 v)

/-- A seal record of the parameter area unwrapped and installed. -/
def State.savedSeal (s : State) (x : Nat × Nat × Nat × Nat) : State :=
  match unwrapRegs 4 (Config.flashKey s.otp.kekSeed) x.2.2.2 with
  | some v => s.installSeal x.1 x.2.1 x.2.2.1 (beWords 8 v)
  | none => s

/-- What step 5 of R370 restores: models, calibrations, the repair map, the order counter and the keys, unwrapped, whose seal records are
judged by R390 at once. -/
def State.restoreParams (s : State) : State :=
  let s1 := (s.restoreModels.lineRestore).showSeq
  let s2 := [0, 1].foldl (fun (t : State) k => match s.flash.spares.getD k none with
    | some b => t.mapSpare k b
    | none => t) s1
  let s3 := s.savedCaks.foldl (fun (t : State) c => t.flag (Fld.cakHeld c.1) true)
    { s2 with cerk := { s2.cerk with caks := s.savedCaks } }
  let s4 := s.flash.seals.foldl State.savedSeal s3
  (List.range 16).foldl (fun (t : State) g => (t.beginGroup g).sealLow g) s4

/-- The firmware's part (R104, R370, step 6): the band table and the SYN enable, where they are not yet written. DEDUCED (assumption 144). -/
def State.startClocks (s : State) (bands : List Word) : State :=
  if s.enabled 0x0A then s
  else
    let s1 := (List.range 64).foldl (fun (t : State) i => match bands[i]? with
      | some w => t.wr (indKey 0x0A i) w
      | none => t) s
    s1.flag (Fld.blkEn 0x0A) true

/-- The last active graph, checked against the site root that is current, restored and admitted (R231, R370, step 7; R374, R386, R391). -/
def State.restoreGraph (s : State) (ok : Bool) : State := match s.flash.graph with
  | none => s
  | some (g, l) =>
    let r := s.loadGraph g l (ok && s.siteSigned l && s.siteImages)
    if r.2 = 1 then (r.1.swapGraph).zeroGraph true
    else if r.2 = 2 then r.1.imgReject 3 0
    else r.1

/-- The archive copied into bank 62, and its STATE entry (R483). DEDUCED (assumption 145). -/
def State.restoreLog (s : State) : State :=
  (s.log.archive.foldl State.logStore s).note 0x02 [s.log.archive.length]

/-- Whether bank `b` passes the checks of R374 and R391, CERK_FW_MIN included (R371). DEDUCED (assumption 139). -/
def State.fwPasses (s : State) (a : AttestIn) (b : Nat) : Bool := match s.flash.fw.getD b none with
  | some x => (if b = 0 then a.bank0 else a.bank1) && s.fwRule (s.fwVerdict x) && s.get Fld.CERK_FW_MIN_MIN_VER ≤ x.version
  | none => false

/-- The bank that boots (R370, R371): the boot bank first with BOOTSEL low, the other first with BOOTSEL high. -/
def State.bootBank (s : State) (a : AttestIn) : Option Nat :=
  let first := if a.bootsel then 1 - s.flash.boot else s.flash.boot
  if s.fwPasses a first then some first else if s.fwPasses a (1 - first) then some (1 - first) else none

/-- A bank that was checked first and rejected (R370, R391). DEDUCED (assumption 145). -/
def State.bootRejects (s : State) (a : AttestIn) : State :=
  let first := if a.bootsel then 1 - s.flash.boot else s.flash.boot
  if s.fwPasses a first then s
  else
    let s1 := if (s.fwImage first).isSome then s.imgReject 2 0 else s
    if (s.fwImage (1 - first)).isSome && !s.fwPasses a (1 - first) then s1.imgReject 2 0 else s1

/-- ATTEST completed (R370, R348): the change of mode waits for its brim. -/
def State.attested (s : State) : State := { s with plat := { s.plat with attested := true } }

/-- Steps 5 to 8 of R370, with bank `b` running; its PTP stack runs from then on (R531). -/
def State.bootOn (s : State) (a : AttestIn) (b : Nat) : State :=
  let s1 := s.showFw b
  let s2 := if b = s.flash.boot then s1 else s1.note 0x50 [if a.bootsel then 1 else 0]
  let s3 := (if a.mac then s2 else s2.paramLost).restoreParams
  let s4 := (((s3.startClocks a.bands).restoreGraph a.graph).restoreLog).servoStands
  let s5 := if a.mac then s4 else s4.event63 2 [Config.cause63 2]
  (({ s5 with plat := { s5.plat with fwUp := true } }).when (!a.selfTest) fun t => t.addCause bitAttest).attested

/-- ATTEST_COMPLETE (R348, R370): a SCRAPPED part, and one without a bank that verifies, ends in SHELTER. -/
def execAttestComplete (a : AttestIn) (s : State) : Host.Outcome State Fault Refusal :=
  s.run fun s => s.when (s.mode = modeAttest && !s.plat.attested) fun s =>
    let s1 := s.showOtp
    if s1.otp.cycle = 4 then (s1.addCause bitAttest).attested
    else
      let s2 := s1.bootRejects a
      match s1.bootBank a with
      | some b => s2.bootOn a b
      | none => (s2.addCause bitAttest).attested

end Sys2Proof.Machine
end

