-- ==== Sys2Proof/Machine/Cmd.lean ====
section
/-! DEFINITION. Commands and their completions (R412 to R414), images (R231, R322, R362, R391) and NOP. -/

namespace Sys2Proof.Machine

/-! ### Chains -/

/-- The opcodes of R412. -/
def opOrder : Nat := 1
def opFw : Nat := 2
def opGraph : Nat := 3
def opMsg : Nat := 4
def opDelete : Nat := 5
def opNop : Nat := 6

/-- The largest payload of an opcode in octets (R412); the message area is 8 MiB (R322). -/
def largestPayload (op : Nat) : Nat := match op with
  | 1 => 32768 | 2 => 4194304 | 3 => 1048576 | 4 => 8388608 | _ => 0

/-- The results of R383 and R414. -/
def resApplied : Nat := 1
def resPartial : Nat := 2
def resFormat : Nat := 3
def resSignature : Nat := 5
def resBusy : Nat := 12
def resRollback : Nat := 0x10
def resSize : Nat := 0x11
def resLocked : Nat := 0x12
def resOpcode : Nat := 0x13
def resChain : Nat := 0x14
def resAdmit : Nat := 0x15
def resNoSpace : Nat := 0x16
def resDma : Nat := 0x17

/-- How a list of given descriptors begins. -/
inductive ChainHead where
  /-- No descriptor, or a chain still without its EOP. -/
  | waits
  /-- A whole chain of that many descriptors. -/
  | whole (n : Nat)
  /-- That many descriptors that are no chain: they precede a SOP. -/
  | broken (n : Nat)
deriving DecidableEq, Repr

/-- The descriptors behind a first one up to an EOP or a further SOP. DEDUCED (assumption 162). -/
def chainRest : List Desc → Nat → ChainHead
  | [], _ => .waits
  | d :: l, n => if d.has flagSop then .broken n else if d.has flagEop then .whole (n + 1) else chainRest l (n + 1)

/-- The chain that a list of given descriptors begins with (R412); a descriptor that follows no SOP is a broken chain. DEDUCED (assumption 162). -/
def chainHead : List Desc → ChainHead
  | [] => .waits
  | d :: l => if !d.has flagSop then .broken 1 else if d.has flagEop then .whole 1 else chainRest l 1

/-! ### Completions -/

/-- A completion record (R414). -/
def State.cplDesc (s : State) (ring index : Nat) (cookie : Word) (op result det discarded : Nat) : Desc :=
  { addr := BitVec.ofNat 64 (ring * 65536 + index), len := 0, spec := 0,
    flags := if result = resApplied || result = resPartial then 0 else flagErr,
    cookie := cookie, time := s.time.counter.toNat, done := det * 256 + result, status := discarded,
    dw7 := BitVec.ofNat 32 op, data := [] }

/-- The completions of one CPL ring put into its free slots, oldest first (R413). -/
def State.serveCpl (p : Port) (n : Nat) : Nat → State → State
  | 0, s => s
  | fuel + 1, s =>
    if !s.ringMoves p n || s.ringType p n ≠ 1 || (s.ring p n).given.isEmpty then s
    else match (s.portSt p).waiting.find? (·.cpl = n) with
      | none => s
      | some c =>
        let x := s.portSt p
        State.serveCpl p n fuel ((s.setPort p { x with waiting := x.waiting.erase c }).finishDesc p n c.desc)

/-- Every completion that finds a slot. -/
def State.serveCpls (s : State) (p : Port) (n : Nat) : State := s.serveCpl p n ((s.portSt p).waiting.length)

/-- A command completes into its CPL ring (R413, R414): one that ends with ERR counts in REJECTED (R429); with the port LOST
its completion is discarded (R414). -/
def State.completeCmd (s : State) (p : Port) (ring index : Nat) (cookie : Word) (cpl op result det discarded : Nat) : State :=
  let s1 := if result = resApplied || result = resPartial then s else s.ringCount p ring 1
  if s1.portLost p then s1
  else
    let x := s1.portSt p
    (s1.setPort p { x with waiting := x.waiting ++ [{ cpl := cpl, desc := s1.cplDesc ring index cookie op result det discarded }] })
      |>.serveCpls p cpl

/-- The first `n` descriptors of a CMD ring handed back. -/
def State.returnDescs (p : Port) (ring : Nat) : Nat → State → State
  | 0, s => s
  | n + 1, s => match (s.ring p ring).given with
    | [] => s
    | d :: _ => State.returnDescs p ring n (s.finishDesc p ring (d.complete 0 0))

/-- The ring's CPL ring. -/
def State.cplOf (s : State) (p : Port) (n : Nat) : Nat := s.get (Fld.HIF_R_CFG_CPL p.num n)

/-- The first `n` descriptors of a CMD ring completed as one command with a result. -/
def State.endChain (s : State) (p : Port) (ring n result det discarded : Nat) : State :=
  let d := (s.ring p ring).given.headD ⟨0, 0, 0, 0, 0, 0, 0, 0, 0, []⟩
  let index := s.get (Fld.HIF_R_ST_CONS p.num ring)
  let cpl := s.cplOf p ring
  (State.returnDescs p ring n s).completeCmd p ring index d.cookie cpl (d.dw7.toNat % 65536) result det discarded

/-- A message image that does not fit is logged, with its number (R322). -/
def State.msgTooLong (s : State) (op : Nat) (p : Port) (ring n : Nat) : State :=
  if op = opMsg then s.note 0x38 [(chainPayload ((s.ring p ring).given.take n)).getD 5 0, resSize] else s

/-- The chains at the head of a CMD ring that no command takes (R412): broken ones complete with CHAIN, unknown opcodes with
OPCODE, and those longer than their opcode allows with SIZE, which is logged of a message (R322). -/
def State.sweepCmd (p : Port) (ring : Nat) : Nat → State → State
  | 0, s => s
  | fuel + 1, s =>
    if !s.ringMoves p ring || s.ringType p ring ≠ 0 then s
    else match chainHead (s.ring p ring).given with
      | .waits => s
      | .broken n => State.sweepCmd p ring fuel (s.endChain p ring n resChain 0 0)
      | .whole n =>
        let op := (((s.ring p ring).given.headD ⟨0, 0, 0, 0, 0, 0, 0, 0, 0, []⟩).dw7.toNat) % 65536
        let octets := sumOf (((s.ring p ring).given.take n).map Desc.len)
        if op = 0 || op > 6 then State.sweepCmd p ring fuel (s.endChain p ring n resOpcode 0 0)
        else if octets > largestPayload op then
          State.sweepCmd p ring fuel ((s.msgTooLong op p ring n).endChain p ring n resSize 0 0)
        else s

def State.sweep (s : State) (p : Port) (ring : Nat) : State := s.sweepCmd p ring ((s.ring p ring).given.length + 1)

/-- Whether the command at the head of a ring is the one that a cookie names (R411): where it is not, the command spoken of is not
the ring's. DESIGN CHOICE (assumption 230). -/
def cmdNamed (d : Desc) (cookie : Word) : Bool := d.cookie = cookie

/-- The whole chain at the head of a running CMD ring, where it carries an opcode: its length and SOP descriptor. -/
def State.headCmd (s : State) (p : Port) (ring op : Nat) : Option (Nat × Desc) :=
  if !s.ringMoves p ring || s.ringType p ring ≠ 0 then none
  else match chainHead (s.ring p ring).given, (s.ring p ring).given with
    | .whole n, d :: _ => if d.dw7.toNat % 65536 = op then some (n, d) else none
    | _, _ => none

/-- A command that ends at once: its descriptors go back, it completes, and the ring goes on (R413). -/
def State.endCmd (s : State) (p : Port) (ring n result det : Nat) : State :=
  (s.endChain p ring n result det 0).sweep p ring

/-- A command refused in ALARM (R376, R412): LOCKED and event 60, with the ring's HIF_Rn_CFG offset and the opcode. DEDUCED (assumption 163). -/
def State.lockCmd (s : State) (p : Port) (ring n op : Nat) : State :=
  (s.refuse (if p = .a then .portA else .portB) (4 + p.num) (0x040110 + p.num * 0x10000 + ring * 0x20) op 0 21 0).endCmd
    p ring n resLocked 0

/-! ### Images -/

/-- The reset domain of Cerkeha (R359): orders and images wait while it is down. -/
def domCerk : Nat := 7

/-- The CMD rings at whose head an image stands whole (R378, R412), with its opcode and its length in descriptors. -/
def State.imageRings (s : State) : List (Port × Nat × Nat × Nat) := [Port.a, .b].flatMap fun p =>
  (List.range 64).flatMap fun r => [opFw, opGraph, opMsg].filterMap fun op =>
    (s.headCmd p r op).map fun x => (p, r, op, x.1)

/-- The payload of the first `n` descriptors of a ring. -/
def State.payload (s : State) (p : Port) (ring n : Nat) : List Nat := chainPayload ((s.ring p ring).given.take n)

/-- A firmware image (R362, R391): its result, and the idle bank. The spec does not lay out the header, whose version comes with the
command. DEDUCED (assumption 164). -/
def State.storeFw (s : State) (header : Option (BitVec 16)) (l : List Nat) : State × Nat := match header with
  | none => (s.imgReject opFw 0, resFormat)
  | some v =>
    if !s.fwRule (s.fwCheck l) then (s.imgReject opFw 0, resSignature)
    else if v.toNat < s.get Fld.CERK_FW_MIN_MIN_VER then (s.imgReject opFw 0, resRollback)
    else
      let idle := 1 - s.get Fld.PLAT_FW_ST_ACT_BANK
      (({ s with flash := { s.flash with fw := s.flash.fw.set idle (some { version := v.toNat, octets := some l }) } }).showFw (s.get Fld.PLAT_FW_ST_ACT_BANK), resApplied)

/-- The command data of a port (R445), and the cells that a command of `n` descriptors holds: those of its payload, 32 at the most
(R413). -/
def cmdQueue (p : Port) : Nat := 20 + 3 * p.num
def State.cmdCells (s : State) (p : Port) (ring n : Nat) : Nat :=
  min 32 (cellsFor (sumOf (((s.ring p ring).given.take n).map Desc.len)))

/-- Whether a command's data find their cells (R421, R446). -/
def State.cmdFits (s : State) (p : Port) (ring n : Nat) : Bool := s.grantAll (cmdQueue p) (s.cmdCells p ring n) true

/-- A command whose data pass through the pool (R413, R421): it holds its cells from its fetch to its handover, and waits in its
ring where they are refused. DESIGN CHOICE (assumption 253). -/
def State.staged (s : State) (p : Port) (ring n : Nat) (f : State → State) : State :=
  if !s.cmdFits p ring n then s
  else (f (s.storeItem (s.cmdCells p ring n) [cmdQueue p])).releaseItem s.mem.nextItem (cmdQueue p)

/-- FW_IMAGE (R412, R362, R391). -/
def execFwImage (p : Port) (ring : Fin 64) (header : Option (BitVec 16)) (s : State) : Host.Outcome State Fault Refusal :=
  s.run fun s => match s.headCmd p ring opFw with
    | none => s
    | some (n, _) =>
      if s.domDown domCerk then s
      else if s.inAlarm then s.lockCmd p ring n opFw
      else s.staged p ring n fun s =>
        let r := s.storeFw header (s.payload p ring n); r.1.endCmd p ring n r.2 0

/-- A graph image (R231, R391): LOAD_RESULT's code becomes RESULT and DETAIL. The spec does not lay out the image's octets, which carry the
signature; what they say comes with the command. DEDUCED (assumption 164). -/
def State.storeGraph (s : State) (img : GImage) (l : List Nat) : State × Nat × Nat :=
  let r := s.loadGraph img l (s.siteSigned l && s.siteImages)
  if r.2 = 1 then (r.1, resApplied, 0)
  else if r.2 = 2 then (r.1.imgReject opGraph 0, resSignature, 0)
  else if r.2 = 10 && !img.header then (r.1.imgReject opGraph 0, resFormat, 0)
  else (r.1, resAdmit, r.2)

/-- GRAPH_IMAGE (R231). -/
def execGraphImage (p : Port) (ring : Fin 64) (img : GImage) (cookie : Word) (s : State) : Host.Outcome State Fault Refusal :=
  s.run fun s => match s.headCmd p ring opGraph with
    | none => s
    | some (n, d) =>
      if s.domDown domCerk || !cmdNamed d cookie then s
      else s.staged p ring n fun s =>
        let r := s.storeGraph img (s.payload p ring n); r.1.endCmd p ring n r.2.1 r.2.2

/-- Whether an active entry names a message (R322). -/
def State.msgNamed (s : State) (m : Nat) : Bool :=
  (List.range 16).any fun e => s.entryOn e && (s.entryA e = 0x10 + m || s.entryB e = 0x10 + m)

/-- Whether the ALARM rule of R322 refuses a store or a delete; an ALLOW_IMAGE item lifts it (R380). -/
def State.msgLocked (s : State) (m : Nat) : Bool := s.inAlarm && s.msgNamed m && !s.cerk.allow.contains (opMsg, m)

/-- The octets of a stored message in the message area: header, block table and samples (R322). -/
def msgOctets (samples : Nat) : Nat := 64 + 4 * ((2 * samples + 4095) / 4096) + 2 * samples

/-- The length in samples that a message image names, and whether the image is laid out as R322 says. -/
def msgLen (l : List Nat) : Nat := octetsAt l 8 4
def msgForm (l : List Nat) : Bool :=
  octetsAt l 0 4 = 0x4B4D5347 && l.getD 4 0 = 1 && l.getD 5 0 < 64 && l.length = msgOctets (msgLen l) + 104

/-- What a message image holds (R322). -/
def msgOf (l : List Nat) : MsgRec :=
  let blocks := (2 * msgLen l + 4095) / 4096
  { num := l.getD 5 0, crc := crc32 (l.take 64),
    samples := (List.range (msgLen l)).map fun i => BitVec.ofNat 16 (octetsAt l (64 + 4 * blocks + 2 * i) 2),
    table := (List.range blocks).map fun i => BitVec.ofNat 32 (octetsAt l (64 + 4 * i) 4), bad := false }

/-- A message image whose form is right (R322, R391). -/
def State.storeMsg (s : State) (l : List Nat) : State × Nat :=
  let m := msgOf l
  let rest := s.flash.msgs.filter (·.num ≠ m.num)
  if !(s.siteSigned l && s.siteImages) then (s.imgReject opMsg m.num, resSignature)
  else if sumOf (rest.map fun x => msgOctets x.samples.length) + msgOctets m.samples.length > 8388608 then
    (s.note 0x38 [m.num, resNoSpace], resNoSpace)
  else ({ s with flash := { s.flash with msgs := rest ++ [m] } }, resApplied)

/-- MSG_IMAGE (R322): the number that the ALARM rule goes by stands in the image, so that a malformed one completes as such. DEDUCED (assumption 164). -/
def execMsgImage (p : Port) (ring : Fin 64) (cookie : Word) (s : State) : Host.Outcome State Fault Refusal :=
  s.run fun s => match s.headCmd p ring opMsg with
    | none => s
    | some (n, d) =>
      let l := s.payload p ring n
      if s.domDown domCerk || !cmdNamed d cookie then s
      else s.staged p ring n fun s =>
        if !msgForm l then (s.imgReject opMsg (l.getD 5 0)).endCmd p ring n resFormat 0
        else if s.msgLocked (l.getD 5 0) then s.lockCmd p ring n opMsg
        else let r := s.storeMsg l; r.1.endCmd p ring n r.2 0

/-- MSG_DELETE (R412): DW2[21:16] names the message. DEDUCED (assumption 165). -/
def execMsgDelete (p : Port) (ring : Fin 64) (s : State) : Host.Outcome State Fault Refusal :=
  s.run fun s => match s.headCmd p ring opDelete with
    | none => s
    | some (n, d) =>
      if s.msgLocked (d.spec % 64) then s.lockCmd p ring n opDelete
      else
        ({ s with flash := { s.flash with msgs := s.flash.msgs.filter (·.num ≠ d.spec % 64) } }).endCmd p ring n resApplied 0

/-- NOP (R412). -/
def execNop (p : Port) (ring : Fin 64) (s : State) : Host.Outcome State Fault Refusal :=
  s.run fun s => match s.headCmd p ring opNop with
    | none => s
    | some (n, _) => s.endCmd p ring n resApplied 0

/-- DMA_ERROR (R409): a command whose read fails completes with DMA too (R414). -/
def execDmaError (p : Port) (ring : Fin 64) (s : State) : Host.Outcome State Fault Refusal :=
  s.run fun s => s.when (s.ringMoves p ring) fun s =>
    match s.ringType p ring, (s.ring p ring).given with
    | 0, d :: _ =>
      let index := s.get (Fld.HIF_R_ST_CONS p.num ring)
      let cpl := s.cplOf p ring
      (s.dmaFail p ring).completeCmd p ring index d.cookie cpl (d.dw7.toNat % 65536) resDma 0 0
    | _, _ => s.dmaFail p ring

end Sys2Proof.Machine
end

