-- ==== Sys2Proof/Machine/Play.lean ====
section
/-! DEFINITION. PLAY and CAP rings: audio between host memory and the fabric (R418, R419). -/

namespace Sys2Proof.Machine

/-- C of a ring: its channels (R428). -/
def State.ringCh (s : State) (p : Port) (n : Nat) : Nat := s.get (Fld.HIF_R_TCFG_C p.num n) + 1

/-- T of a PLAY descriptor, and whether it names its first tick (R418). -/
def playTicks (d : Desc) : Nat := d.spec % 64 + 1
def playNamed (d : Desc) : Bool := d.spec / 64 % 2 = 1

/-- The octets of `t` ticks of a ring (R418). -/
def State.ringOctets (s : State) (p : Port) (n t : Nat) : Nat := t * s.k * s.ringCh p n * 4

/-- The signed distance from tick `b` to tick `a` (R42). -/
def tickAhead (a b : Nat) : Int := toSigned 32 (a + 2 ^ 32 - b % 2 ^ 32)

/-- The first processing tick that data arriving now are in time for: they must be there 25 µs before it begins (R418). -/
def State.playReady (s : State) : Nat :=
  let phase := s.time.counter.toNat - s.time.tickStart.toNat
  (s.time.tick.toNat + if phase + 25000 ≤ s.time.tickLen then 1 else 2) % 2 ^ 32

/-- A PLAY sample as a fabric value (R418): single precision held within ±1.0, or 24 bits in [31:8]. -/
def playSample (fmt : Bool) (w : Word) : Word :=
  if fmt then fromCode24 (toSigned 24 (w.toNat / 256)) else fclamp 0xBF800000 0x3F800000 w

/-- The samples of channel `c` in tick `j` of a buffer: interleaved by sampling instant (R418). -/
def State.playSamples (s : State) (p : Port) (n j c : Nat) (d : Desc) : List Word :=
  (List.range s.k).map fun i =>
    playSample (s.on (Fld.HIF_R_TCFG_FMT p.num n)) (d.data.getD ((j * s.k + i) * s.ringCh p n + c) 0)

/-- A PLAY buffer whose last tick has been taken completes (R418). -/
def State.playDone (s : State) (p : Port) (n : Nat) (d : Desc) : State :=
  let s1 := s.finishDesc p n (d.complete 0 (s.ringOctets p n (s.ring p n).played))
  (s1.setRing p n { s1.ring p n with used := 0, played := 0 }).stopIdle p n

/-- One tick of the buffer in progress used, played or not. -/
def State.playUse (s : State) (p : Port) (n : Nat) (d : Desc) (played : Bool) : State :=
  let r := s.ring p n
  let s1 := s.setRing p n { r with used := r.used + 1, played := r.played + if played then 1 else 0 }
  if r.used + 1 ≥ playTicks d then s1.playDone p n d else s1

/-- What a PLAY ring no longer plays by tick `t` (R418): buffers of a wrong length, and the ticks of named buffers that have
passed. -/
def State.playSkip (p : Port) (n t : Nat) : Nat → State → State
  | 0, s => s
  | fuel + 1, s => match (if s.ringMoves p n then (s.ring p n).given else []) with
    | [] => s
    | d :: _ =>
      let r := s.ring p n
      if r.used = 0 && d.len ≠ s.ringOctets p n (playTicks d) then
        State.playSkip p n t fuel (s.finishDesc p n (d.complete 1 0))
      else if playNamed d && tickAhead (d.dw7.toNat + r.used) t < 0 then
        State.playSkip p n t fuel ((s.ringCount p n 2).playUse p n d false)
      else s

def State.playDiscard (s : State) (p : Port) (n t : Nat) : State := s.playSkip p n t (64 * (s.ring p n).given.length + 64)

/-- A tick without data (R191, R418). -/
def State.playConceal (s : State) (p : Port) (n : Nat) : State :=
  let r := s.ring p n
  let b := s.get (Fld.HIF_R_TCFG_B p.num n)
  let s1 := if r.dry then s else
    (List.range (s.ringCh p n)).foldl (fun (t : State) c => t.setInput (328 + b + c) (rampOutOf t.k (samp r.last c))) s
  (s1.setRing p n { s1.ring p n with dry := true }).ringCount p n 1

/-- A tick of a buffer on its channels, which are fed by it (R212). -/
def State.playFeed (s : State) (p : Port) (n : Nat) (d : Desc) : State :=
  let r := s.ring p n
  let b := s.get (Fld.HIF_R_TCFG_B p.num n)
  let x := (List.range (s.ringCh p n)).map fun c => s.playSamples p n r.used c d
  let s1 := (List.range (s.ringCh p n)).foldl (fun (t : State) c =>
    (t.setInput (328 + b + c) (if r.dry then rampIn t.k (x.getD c []) else x.getD c [])).feed (328 + b + c)) s
  (s1.setRing p n { s1.ring p n with last := x.map (samp · (s.k - 1)), dry := false }).playUse p n d true

/-- Whether the data of the buffer in turn are in time for tick `t`. DEDUCED (assumption 170). -/
def State.playInTime (s : State) (p : Port) (n t : Nat) : Bool :=
  let r := s.ring p n
  match r.ready.find? (·.1 = s.get (Fld.HIF_R_ST_CONS p.num n)) with
  | some x => tickAhead x.2 t ≤ 0
  | none => true

/-- A PLAY ring in a processing tick (R418). DEDUCED (assumption 170). -/
def State.playTick (p : Port) (n : Nat) (s : State) : State :=
  let t := s.time.tick.toNat
  if !s.ringRuns p n || s.ringType p n ≠ 5 || !(s.ring p n).moving then s
  else
    let s1 := s.playDiscard p n t
    if !s1.ringRuns p n then s1
    else if !s1.audioOn then s1.setRing p n { s1.ring p n with dry := true }
    else match (if s1.ringMoves p n then (s1.ring p n).given else []) with
      | [] => s1.playConceal p n
      | d :: _ =>
        let due := !playNamed d || tickAhead (d.dw7.toNat + (s1.ring p n).used) t = 0
        if due && s1.playInTime p n t then s1.playFeed p n d
        else if due && playNamed d then (s1.playConceal p n).playUse p n d false
        else s1.playConceal p n

/-- The PLAY rings' part of the Present phase: channels of stopped rings conceal and lose their feed (R212, R418), then each ring
delivers. -/
def State.playPresent (s : State) : State :=
  let s1 := s.host.fading.foldl (fun (t : State) x => (t.setInput (328 + x.1) (rampOutOf t.k x.2)).unfeed (328 + x.1)) s
  let s2 := { s1 with host := { s1.host with fading := [] } }
  (List.range 64).foldl (fun (t : State) n => t.playTick .b n) ((List.range 64).foldl (fun (t : State) n => t.playTick .a n) s2)

/-- Output `c` of a CAP ring's list (R429). -/
def State.capOutput (s : State) (p : Port) (n c : Nat) : Nat :=
  let w := s.rd (indKey (4 + p.num) (0x400 + 8 * n + c / 2))
  if c % 2 = 0 then Word.field w 8 0 else Word.field w 24 16

/-- A CAP sample as a word (R419). -/
def capSample (fmt : Bool) (w : Word) : Word := if fmt then BitVec.ofNat 32 (ofSigned 24 (toCode24 w).1 * 256) else w

/-- The words of a tick that a CAP ring captures. -/
def State.capWords (s : State) (p : Port) (n : Nat) : List Word :=
  let fmt := s.on (Fld.HIF_R_TCFG_FMT p.num n)
  let outs := (List.range (s.ringCh p n)).map fun c => s.sinkOf (s.capOutput p n c)
  (List.range s.k).flatMap fun i => outs.map fun l => capSample fmt (samp l i)

/-- Buffers too small for a CAP ring's ticks complete with SHORT (R419). DEDUCED (assumption 171). -/
def State.capShort (p : Port) (n need : Nat) : Nat → State → State
  | 0, s => s
  | fuel + 1, s => match (if s.ringMoves p n then (s.ring p n).given else []) with
    | [] => s
    | d :: _ => if d.len < need then State.capShort p n need fuel (s.finishDesc p n (d.complete 6 0)) else s

/-- A CAP ring at the take point (R419): the samples that the outputs carry in `x`. DEDUCED (assumption 171). -/
def State.capTake (s : State) (x : State) (p : Port) (n : Nat) : State :=
  if !s.ringRuns p n || s.ringType p n ≠ 4 || !(s.ring p n).moving || !s.audioOn then s
  else
    let ticks := s.get (Fld.HIF_R_TCFG_T p.num n) + 1
    let need := s.ringOctets p n ticks
    let s1 := if (s.ring p n).used = 0 then s.capShort p n need ((s.ring p n).given.length) else s
    match (if s1.ringMoves p n then (s1.ring p n).given else []) with
    | [] => (s1.setRing p n { s1.ring p n with gap := true }).ringCount p n 1
    | d :: _ =>
      let r := s1.ring p n
      let first := r.used = 0
      let r1 := { r with buf := r.buf ++ x.capWords p n, used := r.used + 1,
                         tick := if first then some s1.time.tick.toNat else r.tick,
                         bufAt := if first then some s1.time.tickStart.toNat else r.bufAt }
      if r1.used < ticks then s1.setRing p n r1
      else
        let e := { (d.complete (if r.gap then 7 else 0) need) with
          time := r1.bufAt.getD 0, dw7 := BitVec.ofNat 32 (r1.tick.getD 0) }
        let s2 := ((s1.setRing p n r1).emit (.buffer p n r1.buf)).finishDesc p n e
        (s2.setRing p n { s2.ring p n with buf := [], used := 0, tick := none, bufAt := none, gap := false }).stopIdle p n

/-- The CAP rings' part of the take point. -/
def State.capTakeAll (s : State) : State :=
  (List.range 64).foldl (fun (t : State) n => t.capTake s .b n)
    ((List.range 64).foldl (fun (t : State) n => t.capTake s .a n) s)

/-- PLAY and CAP rings begin to move at the first brim after their start (R405). -/
def State.ringsMove (s : State) : State :=
  [Port.a, Port.b].foldl (fun (t : State) p => (List.range 64).foldl (fun (u : State) n =>
    if u.ringRuns p n && (u.ringType p n = 4 || u.ringType p n = 5) then u.setRing p n { u.ring p n with moving := true } else u) t) s

end Sys2Proof.Machine
end

