-- ==== Sys2Proof/Machine/Host.lean ====
section
/-! DEFINITION. Host ports (R399 to R410, R415, R421, R422, R425, R426), the MSI-X table (R475) and the semaphores (R423,
R424, R430). -/

namespace Sys2Proof.Machine

/-- The agent of a port. -/
def whoOf (p : Port) : Who := match p with
  | .a => .portA
  | .b => .portB

/-! ### Starting and stopping rings -/

/-- The word at HIF_Rn_CFG, of ring `n`. -/
def cfgOff (p : Port) (n : Nat) : Nat := 0x040110 + p.num * 0x10000 + n * 0x20

/-- The PLAY channels that a ring binds (R418). -/
def State.playBound (s : State) (p : Port) (n c : Nat) : Bool :=
  let b := s.get (Fld.HIF_R_TCFG_B p.num n)
  b ≤ c && c < b + s.ringCh p n

/-- Whether a running PLAY ring of either port binds a channel of ring `n` of port `p` (R405). -/
def State.playOverlaps (s : State) (p : Port) (n : Nat) : Bool :=
  [Port.a, Port.b].any fun q => (List.range 64).any fun m =>
    !(q = p && m = n) && s.ringRuns q m && s.ringType q m = 5 &&
      (List.range 64).any fun c => s.playBound p n c && s.playBound q m c

/-- Whether a ring's own settings lie outside their ranges (R405, R428): the channels of a PLAY ring, the hold time of a NETRX ring. -/
def State.ringParamBad (s : State) (p : Port) (n : Nat) : Bool :=
  (s.ringType p n = 5 && s.get (Fld.HIF_R_TCFG_B p.num n) + s.ringCh p n > 64)
    || (s.ringType p n = 3 && s.get (Fld.HIF_R_TIME_HOLD p.num n) > 256)

/-- The checks of R405, as the cause of the first that fails; 0 where all pass. A disabled HIF block stops its rings (R427). -/
def State.ringCause (s : State) (p : Port) (n : Nat) : Nat :=
  let ty := s.ringType p n
  let other := (List.range 64).any fun m => m ≠ n && s.ringRuns p m && s.ringType p m = ty
  let cpl := s.cplOf p n
  if s.get (Fld.HIF_R_BASE_LO_BASE_LO p.num n) % 32 ≠ 0 then 1
  else if s.ringParamBad p n then 2
  else if (ty = 6 || ty = 7) && other then 3
  else if ty = 0 && !(s.ringRuns p cpl && s.ringType p cpl = 1) then 4
  else if ty = 5 && s.playOverlaps p n then 5
  else if s.mode = modeAttest then 6
  else if !s.enabled (4 + p.num) then causeBlock
  else 0

/-- The fields of HIF_Rn_CFG beside EN, as they are stored (R428). -/
def State.putRingCfg (s : State) (p : Port) (n : Nat) (w : Word) : State :=
  ((s.put (Fld.HIF_R_CFG_TYPE p.num n) (Word.field w 26 24)).put (Fld.HIF_R_CFG_SIZE_LOG2 p.num n)
    (max 3 (Word.field w 19 16))).put (Fld.HIF_R_CFG_CPL p.num n) (Word.field w 13 8)

/-- Whether a word written to HIF_Rn_CFG changes a field beside EN. -/
def State.cfgDiffers (s : State) (p : Port) (n : Nat) (w : Word) : Bool :=
  s.get (Fld.HIF_R_CFG_TYPE p.num n) ≠ Word.field w 26 24 ||
    s.get (Fld.HIF_R_CFG_SIZE_LOG2 p.num n) ≠ max 3 (Word.field w 19 16) || s.cplOf p n ≠ Word.field w 13 8

/-- A write to a register of a ring whose EN is 1 is discarded (R405). -/
def State.ringWriteReject (s : State) (p : Port) (g : Who) (off : Nat) (w : Word) : State :=
  (s.setBlkStatus (4 + p.num) 0).logNote codeDiscard (4 + p.num) g.origin [off, w.toNat]

/-- A ring that is checked and started, or refused (R405). DEDUCED (assumption 166). -/
def State.startRing (s : State) (p : Port) (n : Nat) : State :=
  let c := s.ringCause p n
  if c = 0 then
    (((s.flag (Fld.HIF_R_CFG_EN p.num n) true).flag (Fld.HIF_R_ST_RUN p.num n) true).put (Fld.HIF_R_ST_CONS p.num n) 0).setRing
      p n Ring.empty
  else (s.put (Fld.HIF_R_ST_CAUSE p.num n) c).note (4 + p.num) [ringNo p n, c]

/-- HIF_Rn_CFG written with EN = 1 (R405): a running ring stays as it is; one whose stop waits for its descriptor stops
now. DEDUCED (assumption 166). -/
def State.ringStart (s : State) (p : Port) (g : Who) (n : Nat) (w : Word) : State :=
  if s.on (Fld.HIF_R_CFG_EN p.num n) then
    (if s.cfgDiffers p n w then s.ringWriteReject p g (cfgOff p n) w else s)
  else ((s.stopRing p n 0).putRingCfg p n w).startRing p n

/-- RING_START (R405). -/
def execRingStart (p : Port) (ring : Fin 64) (cfg : Word) (s : State) : Host.Outcome State Fault Refusal :=
  s.run fun s => s.ringStart p (whoOf p) ring cfg

/-- Frames part-way into a NETRX ring end there when it stops (R405, R417). -/
def State.endHeld (s : State) (p : Port) (n : Nat) : State :=
  ((s.portSt p).held.filter fun h => h.ring = n && h.filled.isSome).foldl (fun (t : State) h => t.giveUp p h) s

/-- EN = 0 written to a ring (R405): it stops after the descriptor in progress. -/
def State.ringStop (s : State) (p : Port) (n : Nat) : State :=
  if !s.on (Fld.HIF_R_CFG_EN p.num n) then s
  else if s.ringBusy p n then
    (s.flag (Fld.HIF_R_CFG_EN p.num n) false).setRing p n { s.ring p n with stopping := true }
  else (s.endHeld p n).stopRing p n 0

/-- RING_STOP (R405). -/
def execRingStop (p : Port) (ring : Fin 64) (s : State) : Host.Outcome State Fault Refusal :=
  s.run fun s => s.ringStop p ring

/-! ### Doorbells -/

/-- A descriptor of zeros. DESIGN CHOICE (assumption 161). -/
def Desc.blank : Desc := ⟨0, 0, 0, 0, 0, 0, 0, 0, 0, []⟩

/-- The first `n` descriptors of a list, blank ones where it is short. DESIGN CHOICE (assumption 161). -/
def takeDescs (l : List Desc) (n : Nat) : List Desc := (List.range n).map fun i => l.getD i ⟨0, 0, 0, 0, 0, 0, 0, 0, 0, []⟩

/-- What a ring does once it has been given descriptors, or may move again. -/
def State.serveRing (s : State) (p : Port) (n : Nat) : State := match s.ringType p n with
  | 0 => s.sweep p n
  | 1 => s.serveCpls p n
  | 3 => s.serveRx p n ((s.portSt p).held.length + 1)
  | 5 => if s.ringRuns p n then s.playDiscard p n (s.time.tick.toNat + 1) else s
  | _ => s

/-- Descriptors given to a ring (R406, R407): those before the first without OWN are taken; at that one the ring stops. DEDUCED (assumption 37). -/
def State.giveDescs (s : State) (p : Port) (n prod : Nat) (l : List Desc) : State :=
  let ok := l.takeWhile (·.has flagOwn)
  let r := s.ring p n
  let c := s.get (Fld.HIF_R_ST_CONS p.num n)
  let marks := if s.ringType p n = 5 then
      (List.range ok.length).map fun i => ((c + r.given.length + i) % 65536, s.playReady) else []
  let keep := r.ready.filter fun x => (x.1 + 65536 - c) % 65536 < r.given.length
  let s1 := (s.setRing p n { r with prod := prod, given := r.given ++ ok, ready := keep ++ marks }).serveRing p n
  if ok.length = l.length then s1 else s1.stopRing p n causeOwn

/-- A doorbell refused (R403, R406): event 59, with the offset in BAR2. DEDUCED (assumption 160). -/
def State.refuseBell (s : State) (p : Port) (n prod : Nat) : State :=
  s.refuse (whoOf p) (4 + p.num) (n * 0x100) prod 15 4 1

/-- DB_PROD written (R403, R406). DESIGN CHOICE (assumption 159). -/
def State.bell (s : State) (p : Port) (n prod : Nat) (descs : List Desc) : State :=
  if !s.on (Fld.HIF_R_CFG_EN p.num n) then s.refuseBell p n prod
  else
    let c := s.get (Fld.HIF_R_ST_CONS p.num n)
    let old := ((s.ring p n).prod + 65536 - c) % 65536
    let new := (prod + 65536 - c) % 65536
    if new > 2 ^ s.get (Fld.HIF_R_CFG_SIZE_LOG2 p.num n) || new < old then s.refuseBell p n prod
    else s.giveDescs p n prod (takeDescs descs (new - old))

/-- DOORBELL (R406). -/
def execDoorbell (p : Port) (ring : Fin 64) (prod : BitVec 16) (descs : List Desc) (s : State) :
    Host.Outcome State Fault Refusal :=
  s.run fun s => s.bell p ring prod.toNat descs

/-! ### NETTX -/

/-- The ports that a host frame names (R415). -/
def State.txNamed (s : State) (sel : Nat) : List Port := match sel with
  | 1 => [.a]
  | 2 => [.b]
  | _ => s.originPorts

/-- The next chain of a NETTX ring: its descriptors up to the first EOP, behind those fetched. DEDUCED (assumption 168). -/
def State.txChain (s : State) (p : Port) (n : Nat) : Option (List Desc) :=
  let l := (s.ring p n).given.drop (s.ring p n).fetched
  (l.findIdx? (·.has flagEop)).map fun i => l.take (i + 1)

/-- A chain fetched, as the frames in flight know it (R415). -/
def State.txFetch (s : State) (p : Port) (n : Nat) (l : List Desc) : State × HostTx :=
  let r := s.ring p n
  let first := l.headD Desc.blank
  (s.setRing p n { r with fetched := r.fetched + l.length },
    { port := p, ring := n, first := (s.get (Fld.HIF_R_ST_CONS p.num n) + r.fetched) % 65536, count := l.length,
      stamp := first.has flagTs, octets := max 60 (sumOf (l.map Desc.len)) })

/-- The frame that a chain's octets make, untagged (R415). -/
def chainFrame (f : Frame) (l : List Desc) : Frame :=
  { f with len := max 60 (sumOf (l.map Desc.len)) + 4, hsr := none, prp := none, rtag := none }

/-- A host frame that loops back (R49): one to the part's own MAC address is offered to the hosts' classifiers too, without a timestamp.
The spec does not say which frames the local port loops back. DESIGN CHOICE (assumption 241). -/
def State.loopBack (s : State) (f : Frame) : State :=
  if f.dst = s.mac && !s.streamClaims f && !mgmtClaims f then s.offerHosts f false none none else s

/-- A chain sent (R415, R421): a frame too long completes with LENGTH, one whose ports have no link with NOLINK; one that
the staging quota refuses, or that HSR does not let originate yet, waits; one that no egress queue takes completes with
ABORT. A frame sent on both ports takes its timestamp from port A's copy. DEDUCED (assumptions 168, 169). -/
def State.txSend (s : State) (p : Port) (n : Nat) (f : Frame) (l : List Desc) : State :=
  let named := s.txNamed ((l.headD Desc.blank).spec / 16 % 4)
  let ports := named.filter s.link
  let g := chainFrame f l
  let cells := cellsFor (s.tagged .a g).len
  let cls := s.pcpClass (Frame.prio g)
  if named.any (fun q => g.len > s.get (Fld.NET_MAXFRAME_MAX q.num)) then
    let r := s.txFetch p n l; r.1.txComplete r.2 1 none
  else if ports.isEmpty then let r := s.txFetch p n l; r.1.txComplete r.2 2 none
  else if !s.grantAll (txQueue p) cells true || !s.mayOriginate then s
  else
    let held := s.admitQueues cells (txQueue p :: ports.map fun q => egressQueue q cls)
    let owner := if ports.contains .a && held.contains (egressQueue .a cls) then Port.a else Port.b
    let r := s.txFetch p n l
    let t := r.1.originate g cls [txQueue p] ports false (fun q => if q = owner then some r.2 else none) none
    if t.2.isEmpty then t.1.txComplete r.2 3 none else t.1.loopBack g

/-- HOST_FRAME_TRANSMIT (R415). -/
def execHostFrameTransmit (p : Port) (ring : Fin 64) (f : Frame) (s : State) : Host.Outcome State Fault Refusal :=
  s.run fun s =>
    s.when (s.ringMoves p ring && s.ringType p ring = 2 && !(s.ring p ring).stopping) fun s =>
      match s.txChain p ring with
      | some l => s.txSend p ring f l
      | none => s

/-! ### Semaphores -/

/-- The WAIT bit of a port. -/
def semWait (p : Port) (n : Nat) : Fld := match p with
  | .a => Fld.SEM_WAIT_A n
  | .b => Fld.SEM_WAIT_B n

/-- The OWNER code of a port (R430). -/
def semOwner (p : Port) : Nat := p.num + 1

/-- A semaphore becomes FREE (R424): waiting ports are told, and event 57 is raised where one waited or the release was
forced. DEDUCED (assumption 176). -/
def State.semFree (s : State) (n : Nat) (forced : Bool) : State :=
  let a := s.on (Fld.SEM_WAIT_A n)
  let b := s.on (Fld.SEM_WAIT_B n)
  let s1 := s.wr (Fld.SEM_HELD n).addr 0
  let s2 := if a then s1.flag ⟨0x030018, n, n⟩ true else s1
  let s3 := if b then s2.flag ⟨0x1030018, n, n⟩ true else s2
  let s4 := if forced then (s3.bump Fld.SEM_CNT_FORCED 1).note 0x03 [n] else s3
  if a || b || forced then s4.raise 57 0x03 [n] else s4

/-- ACQUIRE by one port (R423). -/
def State.semAcquire (s : State) (p : Port) (n token : Nat) : State :=
  if !s.on (Fld.SEM_HELD n) then
    ((s.flag (Fld.SEM_HELD n) true).put (Fld.SEM_OWNER n) (semOwner p)).put (Fld.SEM_TOKEN n) token
  else if s.get (Fld.SEM_OWNER n) = semOwner p then s
  else (s.flag (semWait p n) true).bump Fld.SEM_CNT_CONTENDED 1

/-- SEMAPHORE_ACQUIRE (R423): of two ACQUIREs that reach a free semaphore in one cycle, the port that did not win the
previous tie wins, port A the first. -/
def execSemaphoreAcquire (p : Port) (n : Fin 32) (token : BitVec 16) (tie : Option (BitVec 16)) (s : State) :
    Host.Outcome State Fault Refusal :=
  s.run fun s => match tie with
    | none => s.semAcquire p n token.toNat
    | some other =>
      let tok := fun (q : Port) => if q = p then token.toNat else other.toNat
      if s.on (Fld.SEM_HELD n.val) then (s.semAcquire .a n (tok .a)).semAcquire .b n (tok .b)
      else
        let win := if s.host.semTie = some .a then Port.b else Port.a
        let s1 := { s with host := { s.host with semTie := some win } }
        (s1.semAcquire win n (tok win)).semAcquire win.other n (tok win.other)

/-- RELEASE by a port (R423): refused unless it owns the semaphore and gives its token. DEDUCED (assumption 177). -/
def State.semRelease (s : State) (p : Port) (n token : Nat) : State :=
  if s.on (Fld.SEM_HELD n) && s.get (Fld.SEM_OWNER n) = semOwner p && s.get (Fld.SEM_TOKEN n) = token then s.semFree n false
  else s.refuseReg (whoOf p) (0x030100 + 4 * n) (2 * 2 ^ 24 + token) 22 .w1p

/-- SEMAPHORE_RELEASE (R423). -/
def execSemaphoreRelease (p : Port) (n : Fin 32) (token : BitVec 16) (s : State) : Host.Outcome State Fault Refusal :=
  s.run fun s => s.semRelease p n token.toNat

/-- SEM_FORCE admitted by its key (R423). -/
def State.semForce (s : State) (n : Nat) : State :=
  let s1 := s.put Fld.SEM_FORCE_NUM n
  if s1.on (Fld.SEM_HELD n) then s1.semFree n true else s1

/-- SEMAPHORE_FORCE (R430): a KW write. -/
def execSemaphoreForce (g : Agent) (n : Fin 32) (s : State) : Host.Outcome State Fault Refusal :=
  s.run fun s => s.keyed g.who 0x030014 (2 ^ 31 + n.val) fun s => s.semForce n

/-- The semaphores of a lost port released (R423, R426). -/
def State.semDrop (s : State) (p : Port) : State :=
  (List.range 32).foldl (fun (t : State) n =>
    if t.on (Fld.SEM_HELD n) && t.get (Fld.SEM_OWNER n) = semOwner p then t.semFree n true else t) s

/-! ### Heartbeats and loss -/

/-- Pending messages sent where nothing holds them any more (R475). -/
def State.sendPending (s : State) (p : Port) : State :=
  let x := s.portSt p
  if x.msixEn && !x.fmask && s.on (Fld.HIF_PORT_ST_BME p.num) && !s.portLost p then
    let go := x.vpend.filter fun v => !x.vmask.contains v
    go.foldl (fun (t : State) v => t.emit (.msix p v)) (s.setPort p { x with vpend := x.vpend.filter fun v => x.vmask.contains v })
  else s

/-- STATE of a port (R425). -/
def State.setPortState (s : State) (p : Port) (v : Nat) : State := s.put (Fld.HIF_PORT_ST_STATE p.num) v

/-- HIF_HB written (R425). -/
def State.heartbeat (s : State) (p : Port) (v : Word) : State :=
  let s1 := s.put (Fld.HIF_HB_VALUE p.num) v.toNat
  if !s1.on (Fld.HIF_HB_CFG_HB_EN p.num) then s1
  else
    let s2 := s1.setPort p { s1.portSt p with hbAt := s1.time.now }
    match s2.get (Fld.HIF_PORT_ST_STATE p.num) with
    | 0 => s2.setPortState p 1
    | 2 => if s2.on (Fld.HIF_PORT_ST_LINK p.num) then ((s2.setPortState p 1).note (4 + p.num) [p.num, 1]).sendPending p else s2
    | _ => s2

/-- HEARTBEAT (R425). -/
def execHeartbeat (p : Port) (value : Word) (s : State) : Host.Outcome State Fault Refusal :=
  s.runF fun s => s.heartbeat p value

/-- The time in ns without a heartbeat that makes a port LOST (R425, R427): MISS of 0 acts as 1. DEDUCED (assumption 175). -/
def State.lossNs (s : State) (p : Port) : Nat :=
  s.get (Fld.HIF_HB_CFG_PERIOD_MS p.num) * max 1 (s.get (Fld.HIF_HB_CFG_MISS p.num)) * 1000000

/-- A port becomes LOST (R426). -/
def State.losePort (s : State) (p : Port) : State :=
  let s1 := ((s.setPortState p 2).watchFlags.raise 58 (4 + p.num) [p.num]).bump (Fld.HIF_PORT_ST_LOSSES p.num) 1
  let s2 := ((s1.setHold (whoOf p) false).setUnlock (whoOf p) false).semDrop p
  let s3 := s2.stopRings p causeHostLost
  s3.setPort p { s3.portSt p with waiting := [] }

/-- HOST_LOST (R425, R426). DEDUCED (assumption 175). -/
def execHostLost (p : Port) (linkDown : Bool) (s : State) : Host.Outcome State Fault Refusal :=
  s.runF fun s =>
    let s1 := if linkDown then
        ((s.flag (Fld.HIF_PORT_ST_LINK p.num) false).put (Fld.HIF_PORT_ST_GEN p.num) 0).put (Fld.HIF_PORT_ST_WIDTH p.num) 0
      else s
    s1.when (s1.get (Fld.HIF_PORT_ST_STATE p.num) = 1
      && (linkDown || s1.time.now ≥ (s1.portSt p).hbAt + s1.lossNs p)) fun s => s.losePort p

/-- A port's rings and what they hold, given up without a word. -/
def State.clearRings (s : State) (p : Port) : State :=
  (List.range 64).foldl (fun (t : State) n => (((t.fadePlay p n).dropHeld p n).setRing p n Ring.empty).orphanTx p n) s

/-- A block's registers, table words and shadows at their reset values. -/
def State.clearBlock (s : State) (code : Nat) : State :=
  { s with regs := s.regs.filter fun x => keyCode x.1 ≠ code, shadow := s.shadow.filter fun x => keyCode x.1 ≠ code }

/-- PERST_ASSERT (R425, R426, R469): the port's configuration space and HIF block return to reset; a port that was ALIVE is
LOST. -/
def execPerstAssert (p : Port) (s : State) : Host.Outcome State Fault Refusal :=
  s.runF fun s =>
    let s1 := if s.get (Fld.HIF_PORT_ST_STATE p.num) = 1 then s.losePort p else s
    let st := s1.get (Fld.HIF_PORT_ST_STATE p.num)
    let s2 := ((s1.clearRings p).setUnlock (whoOf p) false).clearBlock (4 + p.num)
    let s3 := s2.setPort p { PortSt.reset with hbAt := (s2.portSt p).hbAt, perstAt := some s.time.now }
    (s3.setPortState p st).settlePool

/-! ### PCIe and MSI-X -/

/-- Whether a port's endpoint takes configuration writes (R399): from 100 ms after PERST_N on, and once the management firmware has
started. DEDUCED (assumption 252). -/
def State.configTakes (s : State) (p : Port) : Bool :=
  s.plat.fwUp && (match (s.portSt p).perstAt with
    | none => true
    | some t => s.time.now ≥ t + 100000000)

/-- PCIE_CONFIG_WRITE (R399, R409, R475): before the endpoint answers, and while it answers with Configuration Request Retry
Status, it does nothing; rings that waited for Bus Master Enable go on. DEDUCED (assumption 252). -/
def execPcieConfigWrite (p : Port) (bme msixEn fmask : Bool) (s : State) : Host.Outcome State Fault Refusal :=
  s.run fun s => s.when (s.configTakes p) fun s =>
    let s1 := s.flag (Fld.HIF_PORT_ST_BME p.num) bme
    let s2 := (s1.setPort p { s1.portSt p with msixEn := msixEn, fmask := fmask }).sendPending p
    (List.range 64).foldl (fun (t : State) n => t.serveRing p n) s2

/-- PCIE_LINK_UP (R425). -/
def execPcieLinkUp (p : Port) (gen : Fin 3) (wide : Bool) (s : State) : Host.Outcome State Fault Refusal :=
  s.run fun s => ((s.flag (Fld.HIF_PORT_ST_LINK p.num) true).put (Fld.HIF_PORT_ST_GEN p.num) (gen.val + 1)).put
    (Fld.HIF_PORT_ST_WIDTH p.num) (if wide then 2 else 1)

/-- MSIX_UNMASK (R475). DEDUCED (assumption 174). -/
def execMsixUnmask (p : Port) (v : Fin 128) (s : State) : Host.Outcome State Fault Refusal :=
  s.run fun s =>
    (s.setPort p { s.portSt p with vmask := (s.portSt p).vmask.filter (· ≠ v.val) }).sendPending p

/-! ### Quotas -/

/-- HIF_QUOTA written (R422, R427): a cell quota above 16,384 is 16,384. DESIGN CHOICE (assumption 172), DEDUCED (assumption 173). -/
def State.writeHifQuota (s : State) (p : Port) (w : Word) : State :=
  let old := s.get (Fld.HIF_QUOTA_CELLS p.num)
  let new := min 16384 (Word.field w 30 16)
  let s1 := ((s.put (Fld.HIF_QUOTA_CELLS p.num) new).put (Fld.HIF_QUOTA_HYST p.num) (Word.field w 15 8)).put
    (Fld.HIF_QUOTA_DMA p.num) (min 128 (Word.field w 7 0))
  let use := s1.gUse (2 + p.num)
  (s1.lowered old new use (Fld.HIF_USE_OVER_CELLS p.num) [0x200 + p.num, use, new]).settlePool

/-- HOST_QUOTA_WRITE (R422). -/
def execHostQuotaWrite (p : Port) (value : Word) (s : State) : Host.Outcome State Fault Refusal :=
  s.run fun s => s.writeHifQuota p value

/-! ### What BAR2 and BAR4 return

No command of the table is a read of them: these are outputs of the state. DESIGN CHOICE (assumption 254). -/

/-- A word of the exchange RAM as the plain region and both aliases return it (R440, R441). -/
def State.exchWord (s : State) (a : Nat) : Word :=
  let b := fun i => s.exchByte (a / 4 * 4 + i)
  b 3 ++ b 2 ++ b 1 ++ b 0

/-- What a read of BAR2 returns: the producer index last accepted and the consumer index of a doorbell window (R403), 0
at the window's other offsets (R9). -/
def State.readBar2 (s : State) (p : Port) (off : Nat) : Word :=
  let n := off / 256
  if 64 ≤ n then 0
  else if off % 256 = 0 then BitVec.ofNat 32 (s.ring p n).prod
  else if off % 256 = 4 then BitVec.ofNat 32 (s.get (Fld.HIF_R_ST_CONS p.num n))
  else 0

/-- What a read of BAR4 returns: the exchange RAM through its plain region and its aliases (R402), the mask bit of a
vector in its MSI-X table entry, the pending bits (R475), and 0 at the other offsets (R9). -/
def State.readBar4 (s : State) (p : Port) (off : Nat) : Word :=
  let x := s.portSt p
  if off < 0x30000 then s.exchWord (off % 0x10000)
  else if off < 0x30800 then
    if off % 16 = 12 && x.vmask.contains ((off - 0x30000) / 16) then 1 else 0
  else if 0x38000 ≤ off && off < 0x38010 then
    x.vpend.foldl (fun (w : Word) v => if v / 32 = (off - 0x38000) / 4 then w ||| BitVec.ofNat 32 (2 ^ (v % 32)) else w) 0
  else 0

end Sys2Proof.Machine
end

