-- ==== Sys2Proof/Machine/Panel.lean ====
section
/-! DEFINITION. The panel link (R337 to R341, R344): the Modbus server and the raw mode's queues. -/

namespace Sys2Proof.Machine

/-- Whether the link serves: in every mode except OFF, its block enabled; and its mode: 1 raw, any other Modbus (R344). DEDUCED (assumption 117). -/
def State.panelRaw (s : State) : Bool := s.enabled 0x3A && s.get Fld.PNL_CFG_MODE = 1
def State.panelModbus (s : State) : Bool := s.enabled 0x3A && s.get Fld.PNL_CFG_MODE ≠ 1

/-- Event 52 (R339, R340): at most once per 10 ms. -/
def State.panelEvent (s : State) : State :=
  if rateOk s.pnl.ev52 s.time.now then
    ({ s with pnl := { s.pnl with ev52 := some s.time.now } }).crownRaise 52 0x3A []
  else s

/-! ### Characters -/

/-- PARITY: 0 none, 1 even, 2 odd; 3 acts as 1 (R344). -/
def State.panelParity (s : State) : Nat := if s.get Fld.PNL_CFG_PARITY = 3 then 1 else s.get Fld.PNL_CFG_PARITY

/-- The bits of a character on the link, in the order sent (R337, R344): a start bit, 8 data bits from the least significant, the parity
bit, and one stop bit or two. -/
def State.panelBits (s : State) (c : Nat) : List Bool :=
  let d := (List.range 8).map c.testBit
  let odd : Bool := (d.countP id) % 2 = 1
  [false] ++ d ++ (if s.panelParity = 0 then [] else [if s.panelParity = 1 then odd else !odd])
    ++ (if s.on Fld.PNL_CFG_STOP2 then [true, true] else [true])

/-- The time of a character in ns. -/
def State.charNs (s : State) : Nat := (s.panelBits 0).length * 1000000000 / s.panelBaud

/-- How long until the character in progress has been sent, from when it began, in ns: the first one of a transmission waits for one bit
time of PNL_DE (R337). -/
def State.sendNs (s : State) : Nat := s.charNs + if s.pnl.lead then s.bitNs else 0

/-! ### Modbus -/

/-- The CRC-16 of Modbus RTU: a bit, an octet, a list of octets. PRESUMED (assumption 115). -/
def mbCrcBit (c : BitVec 16) : BitVec 16 := if c.getLsbD 0 then (c >>> 1) ^^^ 0xA001 else c >>> 1
def mbCrcOctet (c : BitVec 16) (o : Nat) : BitVec 16 :=
  let x := c ^^^ BitVec.ofNat 16 (o % 256)
  mbCrcBit (mbCrcBit (mbCrcBit (mbCrcBit (mbCrcBit (mbCrcBit (mbCrcBit (mbCrcBit x)))))))
def mbCrc (l : List Nat) : Nat := (l.foldl mbCrcOctet 0xFFFF).toNat

/-- Octets with their CRC behind them, low octet first. -/
def mbFrame (l : List Nat) : List Nat := l ++ [mbCrc l % 256, mbCrc l / 256]

/-- A Modbus RTU request (R338): the address, the function, its first register, its quantity (1 for function 06), the values
it writes, and whether its length is the one expected. -/
structure MbReq where
  addr : Nat
  fn : Nat
  reg : Nat
  qty : Nat
  vals : List (BitVec 16)
  lenOk : Bool
deriving DecidableEq, Repr

/-- Octets as 16-bit values, the high octet first. -/
def mbValues : List Nat → List (BitVec 16)
  | a :: b :: l => BitVec.ofNat 16 (a * 256 + b) :: mbValues l
  | _ => []

/-- Whether a frame ends in its CRC. -/
def mbCrcOk (l : List Nat) : Bool := l.length ≥ 2 && mbFrame (l.take (l.length - 2)) = l

/-- The octets of a frame read as a request. PRESUMED (assumption 115). -/
def mbParse (l : List Nat) : MbReq :=
  let o := fun i => l.getD i 0
  let fn := o 1
  let qty := if fn = 6 then 1 else o 4 * 256 + o 5
  let ok := if fn = 3 || fn = 6 then l.length = 8
    else if fn = 16 then l.length = 9 + o 6 && (qty = 0 || qty > 123 || o 6 = 2 * qty) else true
  { addr := o 0, fn := fn, reg := o 2 * 256 + o 3, qty := qty, lenOk := ok,
    vals := if fn = 6 then mbValues [o 4, o 5] else if fn = 16 then mbValues ((l.drop 7).take (2 * qty)) else [] }

/-- ADDR: values outside 1 to 247 act as 1 (R344). -/
def State.panelAddr (s : State) : Nat :=
  let a := s.get Fld.PNL_CFG_ADDR
  if 1 ≤ a && a ≤ 247 then a else 1

/-- A mailbox word: 0 to 15 inbound, 16 to 31 outbound (R339). -/
def mailKey (i : Nat) : Nat := indKey 0x3A i

/-- A register of the window as read (R339); none where it is not there or is write-only. -/
def State.panelReg (s : State) (a : Nat) : Option (BitVec 16) :=
  let line := fun k => bitmap ((List.range 8).filter fun c => s.get (Fld.LINE_CH_ST_CLASS c) = k)
  if a = 0 then some (BitVec.ofNat 16 ((if s.on Fld.CROWN_STATUS_ALARM then 0x8000 else 0) + s.role * 0x1000 + s.mode * 0x100))
  else if a = 1 then some (BitVec.ofNat 16 (s.get Fld.CROWN_STATUS_FAULTS))
  else if a = 2 then some (BitVec.ofNat 16 (s.get Fld.CROWN_TRIG_ST_STATE))
  else if a = 3 then some (BitVec.ofNat 16 s.entries)
  else if a = 4 then some (BitVec.ofNat 16 (if s.isP8 then line 2 * 256 + line 3 else 0))
  else if a = 5 then some (BitVec.ofNat 16 (s.get Fld.RSW_NODE_NODE))
  else if 0x20 ≤ a && a ≤ 0x3F then some ((s.rd (mailKey (a - 0x20))).truncate 16)
  else none

/-- Whether a register may be written (R339). -/
def panelWritable (a : Nat) : Bool := a = 0x10 || a = 0x11 || (0x20 ≤ a && a ≤ 0x2F)

/-- Whether a write of a value to a register is one that R339 accepts. DEDUCED (assumption 116). -/
def State.panelAccepts (s : State) (a v : Nat) : Bool :=
  if a = 0x10 then v < 16 && s.entrySrc v = 8 && s.entryReady v && s.on Fld.CROWN_POLICY_PANEL_START
  else if a = 0x11 then v = 0x5A5A && s.on Fld.CROWN_POLICY_PANEL_RESET
  else true

/-- An accepted write of a register done (R339, R315, R316). -/
def State.panelWrite (s : State) (a : Nat) (v : BitVec 16) : State :=
  if a = 0x10 then s.startEntry v.toNat
  else if a = 0x11 then s.resetEntries
  else (s.wr (mailKey (a - 0x20)) (v.setWidth 32)).panelEvent

/-- The exception that a request meets (R338): 1, then 3 for the quantity, then 2, then 3 for a value. PRESUMED (assumption 115). -/
def State.panelException (s : State) (r : MbReq) : Option Nat :=
  let regs := (List.range r.qty).map (· + r.reg)
  if r.fn ≠ 3 && r.fn ≠ 6 && r.fn ≠ 16 then some 1
  else if r.fn = 6 then
    (if !panelWritable r.reg then some 2
     else if !s.panelAccepts r.reg ((r.vals.headD 0).toNat) then some 3 else none)
  else if r.qty = 0 || (r.fn = 3 && r.qty > 125) || (r.fn = 16 && r.qty > 123) then some 3
  else if r.fn = 3 then (if regs.all fun a => (s.panelReg a).isSome then none else some 2)
  else if !regs.all panelWritable then some 2
  else if (regs.zip r.vals).all (fun x => s.panelAccepts x.1 x.2.toNat) then none else some 3

/-- The octets of a reply (R338): the registers read, the echo of a write, or an exception. PRESUMED (assumption 115). -/
def State.mbReply (s : State) (r : MbReq) : List Nat := match s.panelException r with
  | some e => mbFrame [r.addr, (r.fn + 128) % 256, e]
  | none =>
    if r.fn = 3 then
      mbFrame ([r.addr, 3, 2 * r.qty] ++ (List.range r.qty).flatMap fun i =>
        let v := ((s.panelReg (r.reg + i)).getD 0).toNat
        [v / 256, v % 256])
    else
      let v := if r.fn = 6 then (r.vals.headD 0).toNat else r.qty
      mbFrame [r.addr, r.fn, r.reg / 256, r.reg % 256, v / 256, v % 256]

/-- A reply put on the link (R338). -/
def State.mbSend (s : State) (l : List Nat) : State :=
  { s with pnl := { s.pnl with sending := l, sendingEnd := true, silence := false, lead := !s.deOwn, reply := true } }.start .panelOut

/-- What a request does (R338): the exception is counted, or the registers are written. -/
def State.mbAct (s : State) (r : MbReq) : State :=
  if (s.panelException r).isSome then s.bump Fld.PNL_CNT_MB_EXC 1
  else if r.fn = 3 then s
  else (List.range r.vals.length).foldl (fun (t : State) i => t.panelWrite (r.reg + i) (r.vals.getD i 0)) s

/-- MODBUS_REQUEST (R338, R344): the octets of a frame, and its bytes with an error, which are counted. A request is checked whole before
any part of it acts; the broadcast address is never answered, and its reads are ignored. -/
def execModbusRequest (frame : MbFrame) (s : State) : Host.Outcome State Fault Refusal :=
  s.run fun s => s.when s.panelModbus fun s0 =>
    let l := frame.octets.map BitVec.toNat
    let r := mbParse l
    let s := s0.bump Fld.PNL_CNT_PARITY_ERR (min frame.errs l.length)
    if !mbCrcOk l then s.bump Fld.PNL_CNT_CRC_ERR 1
    else if !(r.addr = s.panelAddr || r.addr = 0) || !r.lenOk || (r.addr = 0 && r.fn = 3) then s
    else if r.addr = 0 then s.mbAct r
    else (s.mbAct r).mbSend (s.mbReply r)

/-! ### Raw mode: receive -/

/-- Whether the receive queue takes no further item: 1,024 items, or no cell for the next (R340, R444, R447). -/
def State.rxFull (s : State) : Bool :=
  s.pnl.rx.length ≥ 1024 || (s.pnl.rx.length % 32 = 0 && !s.grant 24 0 true)

/-- The item in progress closed (R340); it is dropped where the pool refuses its cell. DESIGN CHOICE (assumption 120). -/
def State.closeItem (s : State) (gap flushed : Bool) : State :=
  if s.pnl.count = 0 then s
  else if s.rxFull then
    ((({ s with pnl := { s.pnl with part := PnlItem.empty, count := 0 } }).bump Fld.PNL_CNT_RX_DROP s.pnl.count).refusedCell 24)
  else
    let x := { s.pnl.part with gap := gap, flushed := flushed }
    let s1 := ({ s with pnl := { s.pnl with rx := s.pnl.rx ++ [x], part := PnlItem.empty, count := 0 } }).settlePool
    if gap then s1.panelEvent else s1

/-- PANEL_BYTE_RECEIVE (R340). -/
def execPanelByteReceive (byte : BitVec 8) (err : Bool) (s : State) : Host.Outcome State Fault Refusal :=
  s.run fun s => s.when s.panelRaw fun s =>
    let s1 := if err then s.bump Fld.PNL_CNT_PARITY_ERR 1 else s
    if s1.rxFull then s1.bump Fld.PNL_CNT_RX_DROP 1
    else
      let i := s1.pnl.count
      let x := s1.pnl.part
      let y : PnlItem := { x with data := x.data ||| BitVec.ofNat 32 (byte.toNat * 2 ^ (8 * i)),
                                  valid := x.valid ||| BitVec.ofNat 4 (2 ^ i),
                                  err := if err then x.err ||| BitVec.ofNat 4 (2 ^ i) else x.err }
      let s2 := { s1.start .panelIn with pnl := { s1.pnl with part := y, count := i + 1 } }
      if i + 1 = 4 then s2.closeItem false false else s2

/-- PANEL_GAP_CLOSE (R340): the line has stayed quiet for GAP_CH character times. -/
def execPanelGapClose (s : State) : Host.Outcome State Fault Refusal :=
  s.run fun s => s.when (s.panelRaw && s.ran .panelIn (s.get Fld.PNL_CFG_GAP_CH * s.charNs)) fun s => s.closeItem true false

/-- PNL_CMD.RX_FLUSH and RX_DISCARD (R340, R344). -/
def State.rxFlush (s : State) : State := s.closeItem false true
def State.rxDiscard (s : State) : State :=
  ({ s with pnl := { s.pnl with rx := [], part := PnlItem.empty, count := 0 } }).settlePool

/-- PANEL_RX_FLUSH (R340). -/
def execPanelRxFlush (_ : Agent) (s : State) : Host.Outcome State Fault Refusal := s.run State.rxFlush

/-- PANEL_RX_DISCARD (R344). -/
def execPanelRxDiscard (_ : Agent) (s : State) : Host.Outcome State Fault Refusal := s.run State.rxDiscard

/-- PNL_RXTAG of an agent. -/
def rxTagKey (g : Who) : Nat := 0x3A001C + g.num * 0x1000000

/-- A read of PNL_RXDATA (R341, R451): it pops an item, or answers the idle item, and captures the tags for the reader. -/
def State.rxPop (s : State) (g : Who) : State := match s.pnl.rx with
  | [] => ((s.wr (rxTagKey g) 0x100).emptyPop 24).answer g 0
  | x :: l =>
    let tag := x.err.toNat * 0x1000 + (if x.gap then 0x80 else 0) + (if x.flushed then 0x40 else 0) + x.valid.toNat
    ((({ s with pnl := { s.pnl with rx := l } }).wr (rxTagKey g) (BitVec.ofNat 32 tag)).settlePool).answer g x.data

/-- PANEL_RX_POP (R341). -/
def execPanelRxPop (g : Agent) (s : State) : Host.Outcome State Fault Refusal := s.run fun s => s.rxPop g.who

/-! ### Raw mode: transmit -/

/-- PNL_TXTAG of an agent: VALID and END. -/
def Fld.txValid (g : Who) : Fld := ⟨0x3A0020 + g.num * 0x1000000, 3, 0⟩
def Fld.txEnd (g : Who) : Fld := ⟨0x3A0020 + g.num * 0x1000000, 4, 4⟩

/-- The bytes of an item that are sent, in ascending order (R341). -/
def itemBytes (x : PnlItem) : List Nat :=
  (List.range 4).filterMap fun i => if x.valid.getLsbD i then some (x.data.toNat / 2 ^ (8 * i) % 256) else none

/-- The transmitter takes the next item that has a byte to send; one without bytes but with END brings the silence. DEDUCED (assumption 119). -/
def State.txNext : Nat → State → State
  | 0, s => s
  | n + 1, s =>
    if !s.panelRaw || s.pnl.sending ≠ [] || s.pnl.silence then s
    else match s.pnl.tx with
      | [] => s
      | x :: l =>
        let s1 := ({ s with pnl := { s.pnl with tx := l, sending := itemBytes x, sendingEnd := x.last, lead := !s.deOwn,
                                                reply := false, silence := itemBytes x = [] && x.last } }).settlePool
        (s1.start .panelOut).txNext n

/-- A write of PNL_TXDATA (R341): queued with the writer's tags; to a full queue discarded and logged. -/
def State.txWrite (s : State) (g : Who) (w : Word) : State :=
  if s.pnl.tx.length ≥ 1024 || (s.pnl.tx.length % 32 = 0 && !s.grant 25 0 true) then
    s.logNote codeDiscard 0x3A g.origin [0x3A0024, w.toNat]
  else
    let x : PnlItem := { PnlItem.empty with data := w, valid := BitVec.ofNat 4 (s.get (Fld.txValid g)), last := s.on (Fld.txEnd g) }
    (({ s with pnl := { s.pnl with tx := s.pnl.tx ++ [x] } }).settlePool).txNext 1025

/-- PANEL_TX_WRITE (R341). -/
def execPanelTxWrite (g : Agent) (data : BitVec 32) (s : State) : Host.Outcome State Fault Refusal :=
  s.run fun s => s.txWrite g.who data

/-- PNL_CMD.TX_DISCARD (R344): the queue is emptied after the character in progress; a Modbus reply is no item of the queue. -/
def State.txDiscard (s : State) : State :=
  let p := s.pnl
  ({ s with pnl := { p with tx := [], sending := if p.reply then p.sending else p.sending.take 1,
                            sendingEnd := p.reply && p.sendingEnd } }).settlePool

/-- PANEL_TX_DISCARD (R344). -/
def execPanelTxDiscard (_ : Agent) (s : State) : Host.Outcome State Fault Refusal := s.run State.txDiscard

/-- PANEL_CHARACTER_SENT (R341): a character has had its time and the next byte begins, or the silence of 3.5 character times after an
END item and after a reply; the command after a silence ends it. DESIGN CHOICE (assumption 118). -/
def execPanelCharacterSent (s : State) : Host.Outcome State Fault Refusal :=
  s.run fun s => match s.pnl.sending with
    | [] =>
      if s.pnl.silence && s.ran .panelOut (7 * s.charNs / 2) then ({ s with pnl := { s.pnl with silence := false } }).txNext 1025
      else s
    | c :: l => s.when (s.ran .panelOut s.sendNs) fun s =>
      let s1 := ({ s.start .panelOut with pnl := { s.pnl with sending := l, lead := false, deTill := s.time.now + s.bitNs } }).emit (.panel c)
      if l ≠ [] then s1
      else if s1.pnl.sendingEnd then { s1 with pnl := { s1.pnl with sendingEnd := false, silence := true } }
      else s1.txNext 1025

/-- BLK_CTRL.SRST of PNL, beside the registers (R344): both queues are emptied. -/
def State.panelSrst (s : State) : State :=
  ({ s with pnl := { PnlSt.reset with ev52 := s.pnl.ev52 } }).settlePool

end Sys2Proof.Machine
end

