-- ==== Sys2Proof/Machine/Read.lean ====
section
/-! DEFINITION. What a register and a table word of BAR0 read as (R7 to R9, R456, R462, R485 to R502), composed from the
register store and from what the blocks keep; and the side effects of a read (R41, R341, R464). -/

namespace Sys2Proof.Machine

/-! ### The indirect spaces -/

/-- One field that fills a word, and two that fill its parts. DEDUCED (assumption 179). -/
def wholeWord (a : Acc) : List FieldSpec := [⟨31, 0, a⟩]

/-- The fields of word `i` of a receive flow entry (R177). -/
def rxEntryFields (i : Nat) : List FieldSpec :=
  if i = 0 then [⟨31, 31, .sh⟩, ⟨30, 25, .rw⟩, ⟨21, 0, .rw⟩]
  else if i = 4 then [⟨31, 31, .rw⟩, ⟨22, 0, .rw⟩]
  else if i ≤ 5 then wholeWord .rw
  else []

/-- The fields of word `i` of a transmit flow entry (R177). -/
def txEntryFields (i : Nat) : List FieldSpec :=
  if i = 0 then [⟨31, 31, .sh⟩, ⟨30, 24, .rw⟩, ⟨21, 0, .rw⟩]
  else if i = 4 then [⟨22, 12, .rw⟩, ⟨7, 0, .rw⟩]
  else if i = 6 then [⟨16, 0, .rw⟩]
  else if i = 8 then [⟨15, 0, .rw⟩]
  else if i ≤ 7 then wholeWord .rw
  else []

/-- The fields of word `i` of an alarm table entry (R314). -/
def alarmFields (i : Nat) : List FieldSpec :=
  if i = 0 then [⟨31, 30, .so⟩, ⟨27, 20, .so⟩, ⟨15, 8, .so⟩]
  else if i = 1 then [⟨31, 16, .so⟩, ⟨11, 0, .so⟩]
  else if i = 2 then wholeWord .so
  else [⟨15, 0, .so⟩]

/-- The fields of word `i` of a queue (R455). -/
def queueFields (i : Nat) : List FieldSpec :=
  if i = 0 || i = 1 then [⟨30, 16, .rw⟩, ⟨14, 0, .rw⟩]
  else if i = 2 then [⟨31, 24, .rw⟩, ⟨14, 0, .ro⟩]
  else if i = 3 then [⟨30, 16, .rc⟩, ⟨15, 0, .rc⟩]
  else if i = 4 then [⟨31, 16, .rc⟩, ⟨15, 0, .rc⟩]
  else wholeWord .rc

/-- Whether a number lies from `a` to `b`. -/
def within (a b w : Nat) : Bool := a ≤ w && w ≤ b

/-- The words of the blocks before FAB: their fields, none where the layout defines no word (R501). -/
def indLow (code w : Nat) : Option (List FieldSpec) :=
  if code = 0x01 then (if w < 0x40 then some (wholeWord .rc) else none)
  else if code = 0x02 then (if w < 0x8000 then some (wholeWord .ro) else none)
  else if code = 0x04 || code = 0x05 then
    (if w < 0x100 || w = 0x210 then some (wholeWord .rc)
     else if within 0x200 0x20F w then some [⟨31, 31, .rw⟩, ⟨29, 24, .rw⟩, ⟨15, 0, .rw⟩]
     else if within 0x400 0x5FF w then some [⟨24, 16, .rw⟩, ⟨8, 0, .rw⟩]
     else none)
  else if code = 0x09 then (if w < 0x10 then some (wholeWord .ro) else none)
  else if code = 0x0A then
    (if w < 0x40 then some (if w % 2 = 0 then [⟨31, 31, .ew⟩, ⟨29, 24, .ew⟩, ⟨23, 0, .ew⟩] else wholeWord .ew) else none)
  else if code = 0x10 || code = 0x11 then (if w < 0x0E then some (wholeWord .rc) else none)
  else if code = 0x12 then
    (if w < 0x80 then some (if w % 2 = 0 then [⟨7, 7, .ro⟩, ⟨6, 0, .rw⟩] else [⟨19, 3, .rw⟩])
     else if within 0x100 0x17F w then some (if w % 2 = 0 then wholeWord .rw else [⟨31, 31, .rw⟩, ⟨15, 0, .rw⟩])
     else if within 0x200 0x27F w then some (wholeWord .sh)
     else if within 0x1000 0x2FFF w then some (wholeWord .ro)
     else if within 0x4000 0x402F w then some (wholeWord .rc)
     else none)
  else if code = 0x13 then (if w < 0x10 then some (wholeWord .rc) else none)
  else if code = 0x18 then
    (if w < 0x800 then some (rxEntryFields (w % 16))
     else if w < 0x1000 then some (txEntryFields (w % 16))
     else if w < 0x3000 then some [⟨31, 31, .sh⟩, ⟨23, 16, .sh⟩, ⟨15, 15, .sh⟩, ⟨7, 0, .sh⟩]
     else if w < 0x4000 then some (if w % 16 < 2 then wholeWord .ro else wholeWord .rc)
     else if w < 0x4040 then some (wholeWord .ro)
     else none)
  else none

/-- The words of FAB and the blocks after it (R501). -/
def indHigh (code w : Nat) : Option (List FieldSpec) :=
  if code = 0x20 then
    (if w < 0x8000 then
      some (if w % 2 = 0 then [⟨31, 31, .sh⟩, ⟨24, 16, .sh⟩, ⟨8, 0, .sh⟩] else [⟨25, 16, .sh⟩, ⟨15, 0, .sh⟩])
     else if w < 0x8040 then some [⟨31, 31, .sh⟩, ⟨25, 16, .sh⟩, ⟨15, 0, .sh⟩]
     else if within 0x9000 0x914F w then some (wholeWord .rc)
     else if within 0xA000 0xA3FF w then some (wholeWord .ro)
     else none)
  else if code = 0x21 then
    (if w < 0x8000 || within 0x9000 0x9FFF w || within 0x140000 0x15FFFF w then some (wholeWord .ro)
     else if w < 0x8400 then some (if w % 4 < 2 then wholeWord .ro else wholeWord .rc)
     else if within 0x100000 0x11FFFF w then some (wholeWord .sh)
     else none)
  else if code = 0x28 then
    (if w < 0x78 then some (wholeWord .ro) else if within 0x100 0x177 w then some (wholeWord .rw) else none)
  else if code = 0x30 then (if w < 0x10 then some [⟨31, 31, .ew⟩, ⟨11, 0, .ew⟩] else none)
  else if code = 0x38 then
    (if w < 0x40 then some (alarmFields (w % 4))
     else if within 0x100 0x17F w || w = 0x300 then some (wholeWord .ro)
     else if within 0x200 0x207 w then some [⟨8, 0, .so⟩]
     else none)
  else if code = 0x3A then
    (if w < 0x10 then some [⟨15, 0, .ro⟩] else if w < 0x20 then some [⟨15, 0, .rw⟩] else none)
  else if code = 0x40 then
    (if w < 0x20 || within 0x100 0x118 w || within 0x120 0x138 w || within 0x140 0x1A3 w || within 0x1000 0x17FF w
     then some (wholeWord .ro) else none)
  else if code = 0x48 then
    (if w < 0xD0 then some (queueFields (w % 8))
     else if within 0x100 0x183 w then some (if w % 2 = 0 then [⟨31, 16, .rc⟩, ⟨15, 0, .ro⟩] else [⟨15, 0, .rc⟩])
     else if within 0x200 0x20F w then some [⟨15, 0, .rc⟩]
     else none)
  else none

/-- The fields of an indirect word; none where the block's table layout defines no word (R473, R501). DEDUCED (assumption 179). -/
def indFields (code w : Nat) : Option (List FieldSpec) := if code < 0x20 then indLow code w else indHigh code w

/-! ### What a word reads as -/

/-- The bits that a list of fields covers. -/
def fieldMask (l : List FieldSpec) : Word :=
  l.foldl (fun m f => m ||| BitVec.ofNat 32 (2 ^ (f.hi + 1) - 2 ^ f.lo)) 0

/-- Of two words, the bits of a mask from the second and the others from the first. -/
def mixWords (m a b : Word) : Word := (a &&& ~~~m) ||| (b &&& m)

/-- A word as the register store and the shadow hold it: SH fields read as last written (R22), reserved bits as 0 (R8). -/
def State.merged (s : State) (k : Nat) (l : List FieldSpec) : Word :=
  mixWords (fieldMask (l.filter (·.acc = .sh))) (s.rd k) (s.lastWritten k) &&& fieldMask l

/-- A number placed at a bit. -/
def atBit (i v : Nat) : Nat := v * 2 ^ i

/-- A flag placed at a bit. -/
def bitIf (i : Nat) (b : Bool) : Nat := if b then 2 ^ i else 0

/-- A word with bits `[hi:lo]` shown as a number. -/
def Word.place (w : Word) (hi lo v : Nat) : Word := Word.withField w hi lo v

/-- What TOP shows (R5, R25, R27, R366, R468). -/
def State.readTop (s : State) (g : Who) (o : Nat) (w : Word) : Word :=
  if o = 0x10 then Word.place w 7 0 (if s.isP8 then 1 else 2)
  else if o = 0x20 then Word.place w 11 8 s.shelterCause
  else if o = 0x28 then Word.place w 5 0 s.shelterCauses
  else if o = 0x30 then BitVec.ofNat 32 (bitIf 16 (g.port.isSome && s.unlocked g))
  else if o = 0x40 then Word.place w 0 0 (match holdField g with
    | some f => s.get f
    | none => 0)
  else if o = 0x48 then Word.place (Word.place w 2 2 (bitIf 0 s.held)) 0 0 (bitIf 0 (!s.shadow.isEmpty))
  else w

/-- What TIME shows of the counter, the tick and the egress timestamp queues (R40, R41, R53). -/
def State.readTime (s : State) (o : Nat) (w : Word) : Word :=
  if o = 0x10 then (s.time.counter >>> 32).truncate 32
  else if o = 0x14 then s.time.counter.truncate 32
  else if o = 0x1C then s.time.tick
  else if o = 0x20 then Word.place 0 17 0 (s.time.counter - s.time.tickStart).toNat
  else if o = 0x100 || o = 0x120 then
    let l := if o = 0x100 then s.tsqA else s.tsqB
    Word.place (Word.place w 15 8 (l.countP (·.host))) 7 0 l.length
  else w

/-- The bits of eight references, or of other numbered things, under a test. -/
def bitsOf (n : Nat) (p : Nat → Bool) : Nat := bitmap ((List.range n).filter p)

/-- What RSW shows (R142, R151, R169). -/
def State.readRsw (s : State) (o : Nat) (w : Word) : Word :=
  if o = 0x18 then Word.place w 28 16 (s.nodesWhere fun x => x.getLsbD 31)
  else if o = 0x2C then
    Word.place (Word.place w 28 16 (s.nodesWhere fun x => x.getLsbD 31 && x.getLsbD 29)) 12 0
      (s.nodesWhere fun x => x.getLsbD 31 && x.getLsbD 30)
  else if o = 0x54 then Word.place w 23 0 s.schedSum
  else w

/-- What STRM shows (R180). -/
def State.readStrm (s : State) (o : Nat) (w : Word) : Word :=
  if o = 0x18 then Word.place (Word.place w 24 16 s.rxChannels) 8 0 s.txChannels
  else if within 0x20 0x2C o then BitVec.ofNat 32 (bitsOf 32 fun i => s.rxSt (32 * ((o - 0x20) / 4) + i) = 2)
  else if within 0x30 0x3C o then BitVec.ofNat 32 (bitsOf 32 fun i => s.txSt (32 * ((o - 0x30) / 4) + i) = 1)
  else w

/-- What LAP shows (R254). -/
def State.readLap (s : State) (o : Nat) (w : Word) : Word :=
  if o = 0x14 then
    Word.place (Word.place (Word.place w 21 16 s.asrcUsed) 11 8 (bitsOf 4 fun r => s.on (Fld.LAP_AESR_ST_LOCK r))) 3 0
      (bitsOf 4 fun p => s.tdmSt p = 2)
  else w

/-- What AMP shows (R283, R286, R287). -/
def State.readAmp (s : State) (o : Nat) (w : Word) : Word :=
  if o = 0x18 then
    Word.place (Word.place w 25 16
      (if s.amp.fallback then 400 else if s.synRuns 2 then s.get Fld.AMP_FSW_ST_FSW_KHZ else 0)) 2 2 (bitIf 0 s.amp.fallback)
  else if o = 0x20 then
    BitVec.ofNat 32 (atBit 24 (bitsOf 8 fun c => s.ampSt c ≥ 4) + atBit 16 (bitsOf 8 fun c => s.on (Fld.AMP_CH_ST_THERM_WARN c))
      + atBit 8 (bitsOf 8 fun c => s.ampSt c = 3) + bitsOf 8 s.ampSwitches)
  else if o ≥ 0x100 && o % 0x20 = 0x0C then
    Word.place w 18 18 (bitIf 0 (s.amp.fallback && s.ampSwitches ((o - 0x100) / 0x20)))
  else w

/-- What LINE shows of its channels (R305). -/
def State.readLine (s : State) (o : Nat) (w : Word) : Word :=
  if o = 0x20 then
    Word.place (Word.place (Word.place w 31 24 (bitsOf 8 fun c => s.get (Fld.LINE_CH_ST_CLASS c) = 2)) 23 16
      (bitsOf 8 fun c => s.get (Fld.LINE_CH_ST_CLASS c) = 3)) 15 8 (bitsOf 8 fun c => s.on (Fld.LINE_CH_ST_DRIFT c))
  else w

/-- What PNL shows of its queues (R344, R457): PNL_RXDATA the item that a read pops. -/
def State.readPnl (s : State) (o : Nat) (w : Word) : Word :=
  if o = 0x14 then
    BitVec.ofNat 32 (atBit 21 s.pnl.rx.length + atBit 10 s.pnl.tx.length
      + bitIf 2 s.panelDe)
  else if o = 0x18 then (match s.pnl.rx with
    | x :: _ => x.data
    | [] => 0)
  else if o = 0x24 then 0
  else w

/-- What CERK shows of its queue, and BUSY while an order or image is verified (R397). -/
def State.readCerk (s : State) (o : Nat) (w : Word) : Word :=
  if o = 0x20 then
    Word.place (Word.place w 15 12 s.cerk.queue.length) 0 0 (bitIf 0 ((!s.cerk.queue.isEmpty || !s.imageRings.isEmpty) && !s.domDown domCerk))
  else w

/-- What MEM shows of the pool (R454). -/
def State.readMem (s : State) (o : Nat) (w : Word) : Word :=
  if o = 0x10 then Word.place w 30 16 s.freeCells
  else if o = 0x14 then Word.place w 13 0 s.rsvSum
  else if o = 0x38 then Word.place w 30 16 (s.gUse 0)
  else w

/-- A register word with what its block shows put in place: `o` is the offset within block `code`. -/
def State.readBlock (s : State) (g : Who) (code o : Nat) (w : Word) : Word :=
  if code = 0x00 then s.readTop g o w
  else if code = 0x03 then (if o = 0x10 then BitVec.ofNat 32 (bitsOf 32 fun n => s.on (Fld.SEM_HELD n)) else w)
  else if code = 0x04 || code = 0x05 then (if o = 0x24 then Word.place w 30 16 (s.gUse (code - 2)) else w)
  else if code = 0x08 then s.readTime o w
  else if code = 0x09 then
    (if o = 0x14 then Word.place (Word.place w 31 24 (bitsOf 8 fun n => s.on (Fld.REFS_ST_DISAGREE n))) 23 16 (bitsOf 8 s.refQual)
     else w)
  else if code = 0x12 then s.readRsw o w
  else if code = 0x18 then s.readStrm o w
  else if code = 0x20 then
    (if o = 0x14 then BitVec.ofNat 32 (atBit 16 s.xpKept.length + s.closingCount) else w)
  else if code = 0x28 then s.readLap o w
  else if code = 0x30 then s.readAmp o w
  else if code = 0x31 then s.readLine o w
  else if code = 0x3A then s.readPnl o w
  else if code = 0x40 then s.readCerk o w
  else if code = 0x48 then s.readMem o w
  else w

/-- Whether a block is absent: AMP and LINE of the -L0 (R3). -/
def State.absent (s : State) (code : Nat) : Bool := !s.isP8 && (code = 0x30 || code = 0x31)

/-- The register at a BAR0 offset of this part (R3, R9, R487). -/
def State.regHere (s : State) (off : Nat) : Option (RegSpec × Nat) :=
  if s.absent (off / 0x10000) then none else regAt off

/-- The key of a register for an agent: its own copy where one is kept per port (R462). -/
def regKey (r : RegSpec) (g : Who) (off : Nat) : Nat := if r.perPort then off + 0x1000000 * g.num else off

/-- What a register reads as for an agent. An undefined offset reads 0 (R3, R9, R487). -/
def State.readReg (s : State) (g : Who) (off : Nat) : Word := match s.regHere off with
  | none => 0
  | some (r, _) => s.readBlock g (off / 0x10000) (off % 0x10000) (s.merged (regKey r g off) r.fields)

/-! ### What an indirect word reads as -/

/-- Word `i` of an instance of the active image (R236). -/
def instWord (x : GInst) (i : Nat) : Word :=
  if i = 0 then BitVec.ofNat 32 (atBit 28 (x.ty % 16) + atBit 20 (x.job % 256) + x.base % 2 ^ 17)
  else if i = 1 then BitVec.ofNat 32 (atBit 16 (x.stateId % 2 ^ 16) + x.size % 2 ^ 16)
  else if i = 2 then BitVec.ofNat 32 (x.bind % 2 ^ 16)
  else if i ≤ 10 then
    BitVec.ofNat 32 (x.pins.getD (2 * (i - 3)) 0 % 2 ^ 16 + atBit 16 (x.pins.getD (2 * (i - 3) + 1) 0 % 2 ^ 16))
  else 0

/-- Word `i` of job `j` of the active image (R236). -/
def State.jobWord (s : State) (g : GImage) (j i : Nat) : Word := match g.jobs[j]? with
  | none => 0
  | some x =>
    if i = 0 then BitVec.ofNat 32 (bitIf 31 x.alarm + atBit 24 (x.core % 4) + (gFinishes g).getD j 0 % 2 ^ 17)
    else if i = 1 then (match s.dsp.jobs[j]? with
      | some y => BitVec.ofNat 32 (atBit 4 (y.consec % 4) + (if y.disabled then 2 else if s.graphRuns && y.ran then 1 else 0))
      | none => 0)
    else s.rd (indKey 0x21 (0x8000 + 4 * j + i))

/-- A DSP word (R229, R230, R236). -/
def State.readDsp (s : State) (w : Nat) : Word := match s.actBank with
  | none => 0
  | some b =>
    if w < 0x8000 then (match b.img.insts[w / 16]? with
      | some x => instWord x (w % 16)
      | none => 0)
    else if w < 0x8400 then s.jobWord b.img ((w - 0x8000) / 4) (w % 4)
    else if w < 0xA000 then (match s.dsp.shown.getD ((w - 0x9000) / 2) none with
      | some r => if w % 2 = 0 then r.1 else r.2
      | none => 0)
    else if w < 0x120000 then b.idle.getD (w - 0x100000) 0
    else b.act.getD (w - 0x140000) 0

/-- Whether step 5 of ATTEST has restored what the flash keeps (R370, R485). DEDUCED (assumption 186). -/
def State.restored (s : State) : Bool := s.powered && (s.mode ≠ modeAttest || s.plat.attested)

/-- A CROWN word (R314, R322). -/
def State.readCrown (s : State) (w : Nat) : Word :=
  if w = 0x300 then s.tableCrc
  else if within 0x100 0x17F w then
    (if !s.restored then 0
     else match s.flash.msgs.find? (fun m => m.num = (w - 0x100) / 2) with
      | some m =>
        if w % 2 = 0 then BitVec.ofNat 32 (2 ^ 31 + bitIf 30 m.bad + m.samples.length % 2 ^ 24) else m.crc
      | none => 0)
  else s.rd (indKey 0x38 w)

/-- Word `w` of a key or chain of `len` octets: those beyond its end read 0 (R398). -/
def itemWord (l : List Word) (len w : Nat) : Word := l.getD w 0 &&& BitVec.ofNat 32 (2 ^ (8 * min 4 (len - 4 * w)) - 1)

/-- A CERK word (R398). DEDUCED (assumption 186). -/
def State.readCerkWord (s : State) (w : Nat) : Word :=
  if w < 0x20 then s.rd (indKey 0x40 w)
  else if !s.restored then 0
  else if w < 0x120 then itemWord s.otp.sigKey 97 (w - 0x100)
  else if w < 0x140 then itemWord s.otp.kexKey 97 (w - 0x120)
  else if w < 0x1000 then (match s.otp.roots.find? (fun r => r.1 = (w - 0x140) / 25) with
    | some r => itemWord r.2 97 ((w - 0x140) % 25)
    | none => 0)
  else itemWord s.otp.chain s.otp.chainLen (w - 0x1000)

/-- What an indirect word of a layout reads as. -/
def State.readInd (s : State) (code w : Nat) : Word := match indFields code w with
  | none => 0
  | some l =>
    let v := s.merged (indKey code w) l
    if code = 0x02 then ((s.logEntry (w / 8)).words.getD (w % 8) 0)
    else if code = 0x12 && w < 0x80 && w % 2 = 0 then v ||| 0x80
    else if code = 0x18 && w ≥ 0x4000 && w % 4 = 2 then Word.place v 11 0 (s.sealAge ((w - 0x4000) / 4))
    else if code = 0x20 && w ≥ 0xA000 then
      BitVec.ofNat 32 (sumOf ((List.range 16).map fun i => atBit (2 * i) (s.xpState (16 * (w - 0xA000) + i))))
    else if code = 0x21 then s.readDsp w
    else if code = 0x38 then s.readCrown w
    else if code = 0x40 then s.readCerkWord w
    else if code = 0x48 && w < 0xD0 && w % 8 = 2 then Word.place v 14 0 (s.qUse (w / 8))
    else v

/-! ### Side effects of a read -/

/-- The RC fields of a word cleared (R456, R464). -/
def State.clearRc (s : State) (k : Nat) (l : List FieldSpec) : State :=
  let m := fieldMask (l.filter (·.acc = .rc))
  if m = 0 then s else s.wr k (s.rd k &&& ~~~m)

/-- What a read of a register does beside answering: RC fields clear; the high-water mark of a timestamp queue begins anew at the
entries in use (R55); MIN_FREE reloads with FREE (R454); the peak of the
die's temperature begins anew (R367); a read of TIME_SYS_LO captures the fraction (R41); one of PNL_RXDATA pops an item
(R341). -/
def State.readEffect (s : State) (g : Who) (r : RegSpec) (off : Nat) : State :=
  if off = 0x080014 then s.readSysLo g
  else if off = 0x3A0018 then s.rxPop g
  else
    let s1 := s.clearRc (regKey r g off) r.fields
    if off = 0x080100 || off = 0x080120 then s1.put (Fld.TIME_TSQ_STATUS_HWM (off / 0x20 % 2)) (s1.tsq (if off = 0x080100 then .a else .b)).length
    else if off = 0x480010 then s1.put Fld.MEM_POOL_ST_MIN_FREE s1.freeCells
    else if off = 0x500018 then { s1 with plat := { s1.plat with peakRead := true } }
    else s1

end Sys2Proof.Machine
end

