-- ==== Sys2Proof/Machine/Apply.lean ====
section
/-! DEFINITION. The application of shadow changes (R21 to R24, R31, R34): the words take effect, and each block does what
its new settings bring with them. -/

namespace Sys2Proof.Machine

/-- The fields of a register or table word, by its key. -/
def fieldsOfKey (k : Nat) : List FieldSpec :=
  if k < 0x100000000 then (match regAt (k % 0x1000000) with
    | some x => x.1.fields
    | none => [])
  else (indFields (keyCode k) (k % 0x1000000)).getD []

/-- The SH bits of a register or table word. -/
def shMask (k : Nat) : Word := fieldMask ((fieldsOfKey k).filter (·.acc = .sh))

/-- Whether some of the words of a block are among those that an application changes. -/
def touches (ks : List Nat) (code : Nat) : Bool := ks.any fun k => keyCode k = code

/-- STEP_PS of the outputs that step (R118). -/
def stepOutput (k : Nat) : Option Nat := [0, 4, 5].find? fun n => (Fld.SYN_PHASE_STEP_PS n).addr = k

/-- One waiting word taken into force: its SH fields (R21); a phase step is added to what remains (R118). -/
def State.applyWord (s : State) (x : Nat × Word) : State :=
  let s1 := s.wr x.1 (mixWords (shMask x.1) (s.rd x.1) x.2)
  match stepOutput x.1 with
  | some n => s1.addPhase n (toSigned 16 (Word.field x.2 15 0))
  | none => s1

/-! ### What new settings bring with them -/

/-- A reference that its settings no longer let qualify is disqualified (R69), the selection following at the next whole second
(R79); for one that they let qualify from now on, where `old` did not, the window begins (R74). -/
def State.refConfig (old : State) (s : State) (n : Nat) : State :=
  (s.barRef n).getD (if old.refUsable n then s else (s.failWindow n).runWindow n)

/-- A reference whose source LAP_CFG changes (R68). -/
def State.refSource (s old : State) (n : Nat) (f : Fld) : State :=
  if s.get f = old.get f then s
  else
    let s1 := s.setRef n { s.refOne n with alive := false, edgeAt := none }
    if s1.refEnabled n then s1.disqualify n causeConfig else s1

/-- The selector at a brim that changes its settings (R68, R69, R88, R95). -/
def State.refsBrim (s old : State) (keys : List Nat) (phase : List Int) : State :=
  let s1 := if touches keys 0x09 || keys.contains Fld.TIME_PTP_CFG_EN.addr then (List.range 8).foldl (State.refConfig old) s else s
  let s2 := if keys.contains Fld.LAP_CFG_REF5_SEL.addr then
      (s1.refSource old 5 Fld.LAP_CFG_REF5_SEL).refSource old 6 Fld.LAP_CFG_REF6_SEL
    else s1
  let s2 := if keys.contains Fld.REFS_LOOP_BW_ACQ.addr && s2.get Fld.REFS_SEL_STATUS_STATE = 1 then
      s2.setBw (s2.get Fld.REFS_LOOP_BW_ACQ)
    else if keys.contains Fld.REFS_LOOP_BW_ACQ.addr && s2.get Fld.REFS_SEL_STATUS_STATE = 2
        && s2.refs.bw = old.get Fld.REFS_LOOP_BW_TRK * 16384 then s2.setBw (s2.get Fld.REFS_LOOP_BW_TRK)
    else s2.showBw
  if keys.contains Fld.REFS_OSC_XO_SEL.addr then
    let s3 := { s2 with refs := { s2.refs with xoFailed := false } }
    if s3.on Fld.REFS_OSC_XO_SEL = s3.on Fld.REFS_OSC_XO_RUN then s3
    else s3.changeOscillator (s3.on Fld.REFS_OSC_XO_SEL) (phase.getD 8 0)
  else s2

/-- TIME at a brim that changes its settings (R49, R58, R60). -/
def State.timeBrim (s : State) (keys : List Nat) (phase : List Int) : State :=
  let s1 := if keys.contains Fld.TIME_PTP_CFG_EN.addr || keys.contains Fld.TIME_PTP_PRIO_PRIORITY1.addr then s.checkRoles phase
    else s
  let s2 := if keys.contains Fld.TIME_STEP_CFG_MODE.addr || keys.contains Fld.TIME_STEP_THRESH_THRESH_NS.addr then s1.servoSettings
    else s1
  if touches keys 0x08 && !s2.enabled 0x08 then { s2 with tsqA := [], tsqB := [] } else s2

/-- The synthesizers and pulse trains at a brim that changes their settings (R98, R104, R109, R123). -/
def State.clockBrim (s old : State) (keys : List Nat) : State :=
  if touches keys 0x0A then
    (List.range 6).foldl (State.clampSyn 0) (((((s.synEnBrim old).synBrim old 4).synBrim old 5).pulseBrim 0).pulseBrim 1)
  else s

/-- A host port's block whose EN an application clears: its rings stop (R399, R426). -/
def State.hifBrim (s old : State) (p : Port) : State :=
  if old.enabled (4 + p.num) && !s.enabled (4 + p.num) then s.stopRings p causeBlock else s

/-- Event 25, where a brim has applied a slot mask or channel map (R24): its record carries the presentation tick of the first
samples handled under the new values. -/
def State.masksApplied (s : State) (keys : List Nat) : State :=
  let mask := fun (k : Nat) => (indKey 0x18 0x1000 ≤ k && k < indKey 0x18 0x3000)
    || (List.range 4).any fun p => k = (Fld.LAP_TDM_RXMASK_MASK p).addr || k = (Fld.LAP_TDM_TXMASK_MASK p).addr
  if keys.any mask then s.raise 25 0x18 [(s.time.tick.toNat + 2) % 2 ^ 32] else s

/-- What the blocks do once new settings stand in their registers and tables: `old` is the state before, `keys` the words
changed. DEDUCED (assumption 188). -/
def State.settingsChanged (s old : State) (keys : List Nat) (phase : List Int) : State :=
  let s1 := (((s.refsBrim old keys phase).timeBrim keys phase).clockBrim old keys)
  let s2 := ((s1.hifBrim old .a).hifBrim old .b).gateBrim
  let s3 := if touches keys 0x18 then s2.strmBrim old else s2
  let s4 := if touches keys 0x20 then (s3.applyCrosspoints keys).applyZones keys else s3
  let s5 := s4.graphEnable (old.enabled 0x21)
  (((s5.lapBrim).ampBrim old).lineBrim old).settlePool

/-- Whether this brim applies the waiting changes (R31): an armed application overrides any hold. -/
def State.mayApply (s : State) : Bool :=
  if s.on Fld.TOP_APPLY_STATUS_ARMED then s.get Fld.TOP_APPLY_TICK_BRIM_TICK = s.time.tick.toNat else !s.held

/-- The words that wait in the shadow taken into force together (R23), where the brim applies them (R31): an armed application
ends, and LAST_BRIM names the brim where changes waited. -/
def State.applyShadow (s : State) : State :=
  if s.mayApply then
    let s1 := s.flag Fld.TOP_APPLY_STATUS_ARMED false
    if s1.shadow.isEmpty then s1
    else (s1.shadow.foldl State.applyWord { s1 with shadow := [] }).put Fld.TOP_APPLY_LAST_LAST_BRIM s1.time.tick.toNat
  else s

/-- Brim step 2 behind the items of orders (R23, R31, R34): `old` is the state before them and `keys` the words they wrote;
what the new settings bring with them happens once. -/
def State.applyBrim (s old : State) (keys : List Nat) (phase : List Int) : State :=
  let all := keys ++ if s.mayApply then s.shadow.map Prod.fst else []
  (s.applyShadow.settingsChanged old all phase).masksApplied all

end Sys2Proof.Machine
end

