-- ==== Sys2Proof/Machine/Flush.lean ====
section
/-! DEFINITION. The flush of a queue (R450), and its command. -/

namespace Sys2Proof.Machine

/-- The frames waiting in a transmit class of a port given up; a host frame completes with ABORT (R415, R450). -/
def State.flushClass (s : State) (p : Port) (c : Nat) : State :=
  let l := (s.net p).queue c
  let s1 := s.setNet p { s.net p with queues := (s.net p).queues.set c [] }
  l.foldl (fun (t : State) x => t.dropFrame p x 3) s1

/-- A frame of a class that is being read out ends at once, poisoned (R450). -/
def State.flushFlight (s : State) (p : Port) (c : Nat) : State := match (s.net p).inflight with
  | some x => if x.cls = c then s.abortFrame p else s
  | none => s

/-- The cells of the frame of a class that is being read out: they are no item held whole. -/
def State.flightCells (s : State) (q : Nat) : Nat := match (s.net (if q < 8 then .a else .b)).inflight with
  | some x =>
    if q < 16 && x.cls = q % 8 then
      (match s.mem.items.find? (fun y => some y.id = x.item) with
       | some y => y.cells
       | none => 0)
    else 0
  | none => 0

/-- A host's NETRX staging emptied: a frame part-way into its ring ends there, as at R417; the others go without a word. DEDUCED (assumption 178). -/
def State.flushStaging (s : State) (p : Port) : State :=
  let l := (s.portSt p).held
  let s1 := s.setPort p { s.portSt p with held := [] }
  l.foldl (fun (t : State) h => match h.filled with
    | some d => t.finishDesc p h.ring { (((d.complete 5 d.done).set flagEop).set flagTrunc) with dw7 := BitVec.ofNat 32 h.total }
    | none => t) s1

/-- What a queue holds given up (R450). DEDUCED (assumption 178). -/
def State.emptyQueue (s : State) (q : Nat) : State :=
  let s1 :=
    if q < 8 then (s.flushClass .a q).flushFlight .a q
    else if q < 16 then (s.flushClass .b (q - 8)).flushFlight .b (q - 8)
    else if q = 18 then s.flushStaging .a
    else if q = 21 then s.flushStaging .b
    else if q = 24 then { s with pnl := { s.pnl with rx := [] } }
    else if q = 25 then s.txDiscard
    else s
  ((s1.mem.items.filter fun x => x.holders.contains q).foldl (fun (t : State) x => t.releaseItem x.id q) s1).settlePool

/-- MEM_QCMD.FLUSH (R450): in ALARM queues 7 and 15 are flushed for a sealed order only; FLUSHED advances by the cells of
the items held whole, and the flush is logged with the queue and the cells released. -/
def State.flushQueue (s : State) (g : Who) (q : Nat) : State :=
  if s.inAlarm && g ≠ .order && (q = 7 || q = 15) then s.refuseReg g 0x48002C (2 ^ 31 + q) 21 .w1p
  else if q ≥ 26 then s
  else
    let use := s.qUse q
    (((s.emptyQueue q).bump (Fld.qFlushed q) (use - s.flightCells q))).logNote codeCommand 0x48 g.origin [q, use]

/-- A write of MEM_QCMD (R454): Q is kept, and FLUSH acts. -/
def State.queueCmd (s : State) (g : Who) (w : Word) : State :=
  let s1 := s.put Fld.MEM_QCMD_Q (Word.field w 4 0)
  if w.getLsbD 31 then s1.flushQueue g (Word.field w 4 0) else s1

/-- QUEUE_FLUSH (R450). DESIGN CHOICE (assumption 24). -/
def execQueueFlush (g : Agent) (q : BitVec 5) (s : State) : Host.Outcome State Fault Refusal :=
  s.runF fun s => (s.put Fld.MEM_QCMD_Q q.toNat).flushQueue g.who q.toNat

end Sys2Proof.Machine
end

