-- ==== Sys2Proof/Machine/Access.lean ====
section
/-! DEFINITION. Writes of BAR0 registers and table words, whoever makes them: clamping, the access codes (R456, R467, R469,
R470, R489), the guards of ALARM (R376), what each register does when it is written, and BLK_CTRL with SRST (R466). -/

namespace Sys2Proof.Machine

/-! ### Clamping on write -/

/-- Fields that are clamped on write: the first one, how many follow it and at what distance, and the range. -/
structure Clamp where
  fld : Fld
  count : Nat
  stride : Nat
  lo : Nat
  hi : Nat
deriving DecidableEq, Repr

/-- The clamped fields of the registers below RSW (R60, R81, R103, R110, R111, R128, R425, R428, Reference limits). DEDUCED (assumption 188). -/
def clampsLow : List Clamp :=
  [⟨Fld.HIF_HB_CFG_PERIOD_MS 0, 2, 0x10000, 10, 1000⟩, ⟨Fld.TIME_STEP_THRESH_THRESH_NS, 1, 4, 1000, 1000000000⟩,
   ⟨Fld.REFS_SEL_CTRL_WTR_S, 1, 4, 0, 3600⟩, ⟨Fld.REFS_LOOP_BW_TRK, 1, 4, 1, 10000⟩, ⟨Fld.REFS_LOOP_BW_ACQ, 1, 4, 1, 10000⟩,
   ⟨Fld.REFS_SLEW_SLEW, 1, 4, 1, 1000⟩, ⟨Fld.REFS_LIMITS_HARD, 1, 4, 10, 10000⟩, ⟨Fld.REFS_LIMITS_SOFT, 1, 4, 10, 10000⟩,
   ⟨Fld.REFS_DISAGREE_TOL, 1, 4, 10, 5000⟩, ⟨Fld.REFS_QUAL_LOCK_PHASE, 1, 4, 10, 50000⟩,
   ⟨Fld.REFS_QUAL_LOCK_HOLD, 1, 4, 1, 60⟩, ⟨Fld.REFS_QUAL_QWIN, 1, 4, 2, 255⟩, ⟨Fld.REFS_HOLDOVER_VALID_MIN, 1, 4, 10, 10080⟩,
   ⟨Fld.SYN_CPLLM_CFG_VCO_KHZ, 2, 4, 2800000, 3300000⟩, ⟨Fld.SYN_FREQ_FREQ_HZ 4, 2, 0x20, 1000, 250000000⟩,
   ⟨Fld.SYN_PRATE_RATE, 1, 4, 1, 100⟩, ⟨Fld.NET_MAXFRAME_MAX 0, 2, 0x10000, 1518, 9600⟩,
   ⟨Fld.NET_SPD_UP_PCT 0, 2, 0x10000, 10, 95⟩, ⟨Fld.NET_SPD_QUIET_S 0, 2, 0x10000, 10, 3600⟩]

/-- The clamped fields of the registers from RSW on. DEDUCED (assumption 173). -/
def clampsHigh : List Clamp :=
  [⟨Fld.RSW_RING_CFG_CHK_MS, 1, 4, 1, 1000⟩, ⟨Fld.RSW_QAV_SLOPE_KBPS 0, 4, 4, 0, 10000000⟩,
   ⟨Fld.RSW_FRER_CFG_RESET_MS, 1, 4, 10, 60000⟩, ⟨Fld.RSW_FRER_CFG_HIST, 1, 4, 2, 256⟩, ⟨Fld.STRM_CFG_LINK_OFF, 1, 4, 2, 64⟩,
   ⟨Fld.FAB_CFG_ZC_THRESH, 1, 4, 40, 120⟩, ⟨Fld.FAB_CFG_ZC_TIMEOUT, 1, 4, 1, 50⟩, ⟨Fld.DSP_CFG_WARN_PCT, 1, 4, 50, 100⟩,
   ⟨Fld.DSP_CFG_ADMIT_PCT, 1, 4, 50, 100⟩, ⟨Fld.AMP_CFG_XFER_MS, 1, 4, 5, 100⟩, ⟨Fld.AMP_PLAN_PREF_KHZ, 1, 4, 360, 520⟩,
   ⟨Fld.AMP_THERM_T_WARN, 1, 4, 95, 120⟩, ⟨Fld.AMP_CH_CFG_RETRY_S 0, 8, 0x20, 2, 600⟩, ⟨Fld.AMP_CH_CFG_ILIM 0, 8, 0x20, 4, 24⟩,
   ⟨Fld.AMP_CH_LEVEL_FS_VPK 0, 8, 0x20, 100, 5700⟩, ⟨Fld.AMP_CH_PROT_DC_THRESH 0, 8, 0x20, 10, 100⟩,
   ⟨Fld.LINE_CFG_TEST_S, 1, 4, 5, 600⟩, ⟨Fld.LINE_CFG_PILOT_HHZ, 1, 4, 100, 220⟩, ⟨Fld.LINE_CFG_LEVEL, 1, 4, 20, 50⟩,
   ⟨Fld.LINE_TIME_ALARM_S, 1, 4, 2, 60⟩, ⟨Fld.LINE_TIME_TRACK_H, 1, 4, 1, 168⟩, ⟨Fld.LINE_TIME_INT_MS, 1, 4, 20, 500⟩,
   ⟨Fld.LINE_EF_EF_KOHM, 1, 4, 10, 200⟩, ⟨Fld.LINE_CH_CFG_OPEN_PCT 0, 8, 0x20, 110, 255⟩,
   ⟨Fld.LINE_CH_CFG_SHORT_PCT 0, 8, 0x20, 10, 90⟩, ⟨Fld.LINE_CH_CFG_DRIFT_PCT 0, 8, 0x20, 2, 50⟩,
   ⟨Fld.LINE_CH_NET_FILT_NF 0, 8, 0x20, 0, 10000⟩, ⟨Fld.CROWN_TRIG_DEB_MS 0, 8, 4, 5, 50⟩, ⟨Fld.PAIR_CFG_SETTLE_MS, 1, 4, 0, 8⟩,
   ⟨Fld.PNL_CFG_GAP_CH, 1, 4, 2, 255⟩, ⟨Fld.PLAT_WDOG_TIMEOUT_MS, 1, 4, 100, 10000⟩, ⟨Fld.PLAT_REPAIR_CFG_WIN_H, 1, 4, 1, 168⟩]

/-- Whether a clamp concerns the register at an offset. -/
def Clamp.covers (c : Clamp) (off : Nat) : Bool :=
  c.fld.addr ≤ off && (off - c.fld.addr) % c.stride = 0 && (off - c.fld.addr) / c.stride < c.count

/-- A field of a word brought into its range. -/
def Clamp.apply (c : Clamp) (w : Word) : Word :=
  Word.withField w c.fld.hi c.fld.lo (clampTo c.lo c.hi (Word.field w c.fld.hi c.fld.lo))

/-- The largest P_CONT of a channel (R286): 400 W for the even channel of a pair. -/
def State.topPower (s : State) (c : Nat) : Nat := if s.ampPaired c && c % 2 = 0 then 400 else 200

/-- A word written to a register, with its fields in their ranges. -/
def State.clampReg (s : State) (off : Nat) (w : Word) : Word :=
  let v := (clampsLow ++ clampsHigh).foldl (fun v c => if c.covers off then c.apply v else v) w
  if off / 0x100 = 0x3001 && off % 0x20 = 4 then
    Word.withField v 24 16 (clampTo 5 (s.topPower (off % 0x100 / 0x20)) (Word.field v 24 16))
  else v

/-- A word written to an indirect word, with its fields in their ranges: TX_OFF_NS (R177) and the ramps and gains of the fabric
(R207, R213). -/
def clampInd (code w : Nat) (v : Word) : Word :=
  if code = 0x18 && 0x800 ≤ w && w < 0x1000 && w % 16 = 6 then Word.withField v 16 0 (min 123750 (Word.field v 16 0))
  else if code = 0x20 && ((w < 0x8000 && w % 2 = 1) || within 0x8000 0x803F w) then clampGainWord v
  else v

/-! ### Fields by their access codes -/

/-- The bits of a register's fields of one code. -/
def codeMask (l : List FieldSpec) (a : Acc) : Word := fieldMask (l.filter (·.acc = a))

/-- KW fields whose reads return 0 (R489): all but SEM_FORCE.NUM and PLAT_WDOG.TIMEOUT_MS, which are kept. -/
def kwKept (off : Nat) : Word := if off = 0x030014 then 0x1F else if off = 0x500028 then 0x3FFF else 0

/-- An EW field refused (R467): CFG_REJECT, and a log entry with the address, the data and the port. DEDUCED (assumption 183). -/
def State.ewReject (s : State) (g : Who) (code dw4 : Nat) (data : Word) : State :=
  (s.setBlkStatus code 0).logNote codeDiscard code g.origin [dw4, data.toNat]

/-- A word's fields written, each by its own code (R456): `k` is the word's key, `dw4` the address as a log entry names it,
`w` the word with its fields in range. EW fields are written only while the block's EN, as applied, is 0, and only where the
word changes one is it a write to them (R467, R489); kept KW fields where the unlock has admitted the write; SO fields by an
order alone; SH fields wait in the shadow, an order's for no further brim (R34), where a phase step is added to what remains
(R118). -/
def State.writeFields (s : State) (g : Who) (k code dw4 : Nat) (l : List FieldSpec) (data w : Word) (kw : Bool) : State :=
  let ew := codeMask l .ew
  let bad := s.enabled code && (s.rd k &&& ew) ≠ (w &&& ew)
  let s1 := if bad then s.ewReject g code dw4 data else s
  let order := g = Who.order
  let direct := codeMask l .rw ||| (if bad then 0 else ew) ||| (if kw then codeMask l .kw &&& kwKept k else 0)
    ||| (if order then codeMask l .so ||| codeMask l .sh else 0)
  let s2 := s1.wr k (mixWords direct (s1.rd k) w)
  if codeMask l .sh = 0 then s2
  else if order then
    let s3 : State := { s2 with shadow := Store.erase k s2.shadow }
    match stepOutput k with
    | some n => s3.addPhase n (toSigned 16 (Word.field w 15 0))
    | none => s3
  else s2.shadowWrite k w

/-! ### BLK_CTRL -/

/-- The keys of a block's own registers (not the common ones), from an offset to another. -/
def ownReg (code a b k : Nat) : Bool :=
  k < 0x100000000 && keyCode k = code && within a b (k % 0x10000) && k % 0x10000 ≥ 0x10 && k % 0x10000 ≠ 0xFF0 && k % 0x10000 ≠ 0xFF4

/-- The codes of fields that software sets, and of counters. -/
def settable : List Acc := [.rw, .ew, .kw, .sh, .rc]

/-- All codes. -/
def everyCode : List Acc := [.rw, .ro, .rc, .w1p, .ew, .kw, .wo1, .sh, .ix]

/-- The words that a test names returned to their reset values, in the fields of the codes given; nothing of them waits in
the shadow any more. -/
def State.resetWords (s : State) (sel : Nat → Bool) (accs : List Acc) : State :=
  let s1 := { s with shadow := s.shadow.filter fun x => !sel x.1 }
  s.regs.foldl (fun (t : State) x =>
    if sel x.1 then t.wr x.1 (mixWords (fieldMask ((fieldsOfKey x.1).filter fun f => accs.contains f.acc)) x.2 (regReset x.1))
    else t) s1

/-- The common registers of a block at their reset values, but for EN: FREEZE, every port's BLK_STATUS and IADDR (R462, R466, R471). -/
def State.commonReset (s : State) (code : Nat) : State :=
  [0, 1, 2].foldl (fun (t : State) p =>
    (t.wr (code * 0x10000 + 8 + p * 0x1000000) 0).wr (code * 0x10000 + 0xFF0 + p * 0x1000000) 0) (s.flag (Fld.blkFreeze code) false)

/-- SRST of REFS (R81): its registers return to their reset values, those of the measurements and of the absorbed phase among them, EN
at the next brim; what shows the selector's state and the model stays. DEDUCED (assumption 184). -/
def State.refsSrst (s : State) : State :=
  let meas := fun (k : Nat) => k = Fld.REFS_PHASE_ABSORBED.addr || (List.range 8).any fun n =>
    k = (Fld.REFS_Y1_Y1 n).addr || k = (Fld.REFS_Y16_Y16 n).addr || k = (Fld.REFS_Y256_Y256 n).addr
  let s1 := (s.resetWords (ownReg 0x09 0 0xFFFF) settable).resetWords meas [.ro]
  if s1.lastWritten (Fld.blkEn 0x09).addr = regReset (Fld.blkEn 0x09).addr then s1
  else s1.shadowWrite (Fld.blkEn 0x09).addr (regReset (Fld.blkEn 0x09).addr)

/-- SRST of SYN (R104): registers return to their reset values, what is left of phase steps and of pulse errors among them, and the outputs take the new ones at the next brim. SYN_CPLL_STATUS, SYN_STn and PULSE_STk return what the circuits are
doing, which SRST does not change. DEDUCED (assumption 184). -/
def State.synSrst (s : State) : State :=
  let sel := ownReg 0x0A 0 0xFFFF
  let waits := ((s.regs ++ s.shadow).map Prod.fst).filter fun k => sel k && codeMask (fieldsOfKey k) .sh ≠ 0
  let shown := fun (k : Nat) => (List.range 6).any (fun n => k = (Fld.SYN_PHST_LEFT_PS n).addr)
    || (List.range 3).any (fun n => k = (Fld.PULSE_ERR_ERR_NS n).addr)
  let s1 := (s.resetWords sel [.rw, .ew, .rc]).resetWords shown [.ro]
  let s2 := [0, 1, 2].foldl (fun (t : State) n => t.flag (Fld.PULSE_ST_MISALIGNED n) false) s1
  waits.foldl (fun (t : State) k => t.shadowWrite k (regReset k)) s2

/-- SRST of MEM (R454): its registers and the queue configuration words; a lowered quota follows R448. -/
def State.memSrst (s : State) : State :=
  let cfg := fun (k : Nat) => indKey 0x48 0 ≤ k && k < indKey 0x48 0xD0 && within 1 2 ((k - indKey 0x48 0) % 8)
  let s1 := (s.resetWords (ownReg 0x48 0 0x30) settable).resetWords cfg [.rw]
  let s2 := (List.range 26).foldl (fun (t : State) q =>
    let w := regReset (indKey 0x48 (8 * q))
    let old := t.get (Fld.qQuota q)
    let t1 := (t.put (Fld.qRsv q) (Word.field w 14 0)).put (Fld.qQuota q) (Word.field w 30 16)
    t1.lowered old (Word.field w 30 16) (t1.qUse q) (Fld.qOver q) [q, t1.qUse q, Word.field w 30 16]) s1
  (s2.writeRswQuota (regReset 0x480034)).settlePool

/-- SRST of a host port's block (R427): every ring stops, and its registers return to their reset values, HB_EN with the port's
state among them (R425); what the link shows stays as it is. -/
def State.hifSrst (s : State) (p : Port) : State :=
  let s1 := (s.stopRings p 0).resetWords (ownReg (4 + p.num) 0 0xFFFF) [.rw, .rc]
  (List.range 64).foldl (fun (t : State) n => t.wr (Fld.HIF_R_ST_RUN p.num n).addr 0) ((s1.setPortState p 0).sendPending p)

/-- SRST of the stream engine (R180, R184). -/
def State.strmReset (s : State) : State :=
  let en := fun (k : Nat) => indKey 0x18 0 ≤ k && k < indKey 0x18 0x1000 && (k - indKey 0x18 0) % 16 = 0
  let s1 := { s with shadow := s.shadow.filter fun x => !en x.1 }
  (s1.resetWords (ownReg 0x18 0 0xFFFF) settable).strmSrst

/-- SRST of the DSP (R235). -/
def State.dspSrst (s : State) : State :=
  let jobs := fun (k : Nat) => indKey 0x21 0x8000 ≤ k && k < indKey 0x21 0x8400
  let s1 := (s.resetWords (ownReg 0x21 0 0xFFFF) settable).resetWords jobs [.rc]
  s1.coefCancel.graphCancel

/-- What SRST does to a block (R466), by its chapter; a block whose chapter gives it none stays as it is. DEDUCED (assumption 184). -/
def State.srstBlock (s : State) (code : Nat) : State :=
  if code = 0x01 then s.resetWords (fun k => ownReg 0x01 0x28 0x3C k) [.rw]
  else if code = 0x02 then s.resetWords (ownReg 0x02 0x10 0x10) [.rw]
  else if code = 0x04 then s.hifSrst .a
  else if code = 0x05 then s.hifSrst .b
  else if code = 0x08 then
    let s1 := s.resetWords (ownReg 0x08 0 0xFFFF) everyCode
    { ({ s1 with time := { s1.time with confirm := 0, stepDelta := none, measured := false } }).checkRoles [] with tsqA := [], tsqB := [] }
  else if code = 0x09 then s.refsSrst
  else if code = 0x0A then s.synSrst
  else if code = 0x18 then s.strmReset
  else if code = 0x20 then s.resetWords (ownReg 0x20 0 0xFFFF) settable
  else if code = 0x21 then s.dspSrst
  else if code = 0x28 then (s.lapDown).resetWords (ownReg 0x28 0 0xFFFF) everyCode
  else if code = 0x30 then (s.ampSrst.resetWords (ownReg 0x30 0 0xFFFF) everyCode).ampSettle
  else if code = 0x31 then
    (s.resetWords (fun k => ownReg 0x31 0x10 0x18 k || (ownReg 0x31 0x100 0x1FF k && k % 0x20 < 8)) settable).dropSlot
  else if code = 0x38 then (s.resetWords (ownReg 0x38 0x28 0x2C) [.rw]).crownSrst
  else if code = 0x39 then s.resetWords (ownReg 0x39 0x1C 0x1C) everyCode
  else if code = 0x3A then s.panelSrst
  else if code = 0x48 then s.memSrst
  else if code = 0x50 then s.resetWords (fun k => k = 0x500014 || k = 0x500040) [.rw]
  else s

/-- The words of a list whose value differs between two states. DEDUCED (assumption 184). -/
def changedKeys (old s : State) : List Nat :=
  ((old.regs ++ s.regs).map Prod.fst).filter fun k => old.rd k ≠ s.rd k

/-- The blocks whose SRST returns all their registers to reset, the common ones among them but for EN: HIF, TIME, REFS, SYN, STRM, FAB,
LAP and AMP (R427, R39, R81, R104, R180, R214, R242, R286). DEDUCED (assumption 184). -/
def srstWhole : List Nat := [0x04, 0x05, 0x08, 0x09, 0x0A, 0x18, 0x20, 0x28, 0x30]

/-- SRST with what the reset settings bring with them; a media rate that it changes acts on the flows (R182) and
the master ports (R238). -/
def State.srst (s : State) (code : Nat) : State :=
  let t := if srstWhole.contains code then (s.srstBlock code).commonReset code else s.srstBlock code
  let t1 := t.settingsChanged s ((changedKeys s t).filter fun k => keyCode k = code) []
  if t1.get Fld.FAB_CFG_RATE = s.get Fld.FAB_CFG_RATE then t1 else (t1.enableFlows false).masterRates

/-- A word written to BLK_CTRL (R466): FREEZE at once, EN through the shadow, SRST's pulse last. EN = 0 of a block whose EN
reads 1 is refused; a write of AMP's with EN = 0 or SRST in ALARM is discarded whole (R285). DEDUCED (assumption 185). -/
def State.writeBlkCtrl (s : State) (g : Who) (code : Nat) (data : Word) : State :=
  let off := code * 0x10000 + 4
  let en := data.getLsbD 0
  let rst := data.getLsbD 1
  if code = 0x30 && s.inAlarm && g ≠ .order && (!en || rst) then
    s.refuseReg g off data.toNat 21 (if !en then .sh else .w1p)
  else
    let s1 := s.flag (Fld.blkFreeze code) (data.getLsbD 2)
    let s2 :=
      if enFixed code then (if en then s1 else s1.refuseReg g off data.toNat 23 .sh)
      else if g = .order then { s1.flag (Fld.blkEn code) en with shadow := Store.erase off s1.shadow }
      else s1.shadowWrite off (Word.withField (s1.lastWritten off) 0 0 (if en then 1 else 0))
    if rst then s2.srst code else s2

/-! ### Registers that do more than keep a value -/

/-- The unlock of an agent under a key written (R469). -/
def State.writeKey (s : State) (g : Who) (data : Word) : State :=
  if g = .mgmt then s
  else if g = .order then s.logNote codeDiscard 0 g.origin [0x30, data.toNat]
  else if Word.field data 15 0 = 0x7A5C then (s.setUnlock g true).start (.unlock (g.port.getD .a))
  else (s.setUnlock g false).refuseReg g 0x30 data.toNat 18 .rw

/-- A bit of EVT_RAW cleared for both ports (R476). -/
def State.clearRaw (s : State) (hi : Bool) (mask : Word) : State :=
  let k := if hi then 0x010014 else 0x010010
  s.wr k (s.rd k &&& ~~~mask)

/-- Whether the -L0 never raises a source (R2): those of the power stage and the lines, 36 to 39 and 41 to 45. -/
def absentSource (src : Nat) : Bool := (36 ≤ src && src ≤ 39) || (41 ≤ src && src ≤ 45)

/-- EVT_TEST.GO (R476): the source raises with origin TEST and DW7 = 1, without any subsystem condition; on the -L0 the sources that
R2 says are never raised do not. -/
def State.testRaise (s : State) (src : Nat) : State :=
  if !s.isP8 && absentSource src then s else s.raiseAs src 0x01 (severityOf src) originTest [0, 0, 0, 1]

/-- A word written to SEMn by a port (R423, R430). -/
def State.writeSem (s : State) (g : Who) (n : Nat) (w : Word) : State := match g.port with
  | none => s
  | some p =>
    if Word.field w 25 24 = 1 then s.semAcquire p n (Word.field w 15 0)
    else if Word.field w 25 24 = 2 then s.semRelease p n (Word.field w 15 0)
    else s

/-- A word written to one of a ring's registers (R405). -/
def State.writeRing (s : State) (p : Port) (g : Who) (off : Nat) (l : List FieldSpec) (w : Word) : State :=
  let n := (off % 0x10000 - 0x100) / 0x20
  if off % 0x20 = 0x10 then
    (if w.getLsbD 31 then s.ringStart p g n w
     else if s.on (Fld.HIF_R_CFG_EN p.num n) then
       (if s.cfgDiffers p n w then s.ringWriteReject p g off w else s).ringStop p n
     else s.putRingCfg p n w)
  else if s.on (Fld.HIF_R_CFG_EN p.num n) then s.ringWriteReject p g off w
  else s.writeFields g off (4 + p.num) off l w w false

/-- HIF registers that act (R422, R425, R427, R428). -/
def State.actHif (s : State) (g : Who) (off : Nat) (l : List FieldSpec) (w : Word) : Option State :=
  let p := if off / 0x10000 = 4 then Port.a else Port.b
  let o := off % 0x10000
  if o = 0x10 then some (s.heartbeat p w)
  else if o = 0x14 then
    let s1 := s.writeFields g off (4 + p.num) off l w (s.clampReg off w) false
    some (if w.getLsbD 31 then s1 else (s1.setPortState p 0).sendPending p)
  else if o = 0x20 then some (s.writeHifQuota p w)
  else if within 0x100 0x8FB o && o % 0x20 < 0x1C then some (s.writeRing p g off l w)
  else none

/-- Registers below RSW that act: the next state, or none where the register only keeps its fields. `kw` tells whether the
word's KW fields are admitted (R469). -/
def State.actLow (s : State) (g : Who) (off : Nat) (l : List FieldSpec) (w : Word) (kw : Bool) : Option State :=
  if off = 0x24 then
    some (if w.getLsbD 31 then s.requestMode g (Word.field w 3 0) else s.put Fld.TOP_MODE_CMD_TARGET (Word.field w 3 0))
  else if off = 0x30 then some (s.writeKey g w)
  else if off = 0x40 then some (s.writeApplyCtrl g w)
  else if off = 0x44 then some (s.writeApplyTick g w.toNat)
  else if off = 0x010018 then some (s.clearRaw false w)
  else if off = 0x01001C then some (s.clearRaw true w)
  else if off = 0x010040 then
    let s1 := s.put Fld.EVT_TEST_SRC (Word.field w 5 0)
    some (if kw then s1.testRaise (Word.field w 5 0) else s1)
  else if off = 0x020020 then
    let s1 := if kw then s.logClearCmd g w.toNat else s
    let s2 := if w.getLsbD 1 then s1.logUnfreezeCmd g.origin else s1
    some (if w.getLsbD 0 then s2.logFreezeCmd g.origin else s2)
  else if off = 0x030014 then
    some (if kw then (if w.getLsbD 31 then s.semForce (Word.field w 4 0) else s.put Fld.SEM_FORCE_NUM (Word.field w 4 0)) else s)
  else if within 0x030100 0x03017C off then some (s.writeSem g ((off - 0x030100) / 4) w)
  else if off / 0x10000 = 4 || off / 0x10000 = 5 then s.actHif g off l w
  else if off = 0x090038 then some (if kw then s.resetModel g else s)
  else if off = 0x0A0024 then some (s.synProgress.relockSyn (Word.field w 5 0))
  else if off = 0x0A0240 then some (s.pulseRealign (Word.field w 2 0))
  else none

/-- DSP registers that act (R224, R230, R232, R235). -/
def State.actDsp (s : State) (g : Who) (o : Nat) (w : Word) : Option State :=
  if o = 0x18 then some (if w.getLsbD 1 then s.graphCancel else if w.getLsbD 0 then s.graphSwapCmd g else s)
  else if o = 0x1C then some (s.writeGraphTick g w.toNat)
  else if o = 0x20 then
    let s1 := if s.on Fld.DSP_STATUS_COEF_ARMED && w.getLsbD 0 && !w.getLsbD 1 then s
      else s.flag Fld.DSP_COEF_CMD_AT_TICK (w.getLsbD 2)
    some (if w.getLsbD 1 then s1.coefCancel
      else if w.getLsbD 0 then s1.coefSwapCmd g (w.getLsbD 2) else s1)
  else if o = 0x24 then some (s.writeCoefTick g w.toNat)
  else if o = 0x54 then
    let s1 := s.put Fld.DSP_JOB_CMD_JOB (Word.field w 7 0)
    some (if w.getLsbD 31 then s1.reenable (Word.field w 7 0) else s1)
  else none

/-- AMP_CMD, LINE_CMD and PNL_CMD (R281, R282, R294, R301, R302, R344): each pulse of the word acts. -/
def State.ampCommand (s : State) (g : Who) (w : Word) : State :=
  let s1 := if w.getLsbD 16 then s.spareReleaseCmd g else s
  if Word.field w 7 0 = 0 then s1 else s1.ampClearMask (Word.field w 7 0)

def State.lineCommand (s : State) (g : Who) (w : Word) : State :=
  let s1 := if Word.field w 7 0 = 0 then s else s.testNow (Word.field w 7 0)
  let s2 := s1.calCmd g (Word.field w 15 8)
  if w.getLsbD 17 then s2.efLocateCmd else s2

def State.panelCommand (s : State) (w : Word) : State :=
  let s1 := if w.getLsbD 2 then s.txDiscard else s
  let s2 := if w.getLsbD 0 then s1.rxFlush else s1
  if w.getLsbD 1 then s2.rxDiscard else s2

/-- PAIR_CMD (R336). -/
def State.pairCommand (s : State) (g : Who) (w : Word) : State :=
  let s1 := if w.getLsbD 0 then s.proofCmd g else s
  if w.getLsbD 1 then s1.proofEndCmd g else s1

/-- PLAT_FW_CMD (R363, R367). DEDUCED (assumption 140). -/
def State.fwCommand (s : State) (g : Who) (w : Word) (kw : Bool) : State :=
  let s1 := if w.getLsbD 1 then s.fwDisarm else s
  if kw && !w.getLsbD 1 then s1.fwSwitchCmd g else s1

/-- Registers from RSW on that act. -/
def State.actHigh (s : State) (g : Who) (off : Nat) (w : Word) (kw : Bool) : Option State :=
  let o := off % 0x10000
  if off / 0x10000 = 0x21 then s.actDsp g o w
  else if off = 0x30002C then some (s.ampCommand g w)
  else if off = 0x310024 then some (s.lineCommand g w)
  else if off = 0x380028 then some (s.writeHostOut w)
  else if off = 0x38002C then some (s.crownCmd g w)
  else if off = 0x390020 then some (s.pairCommand g w)
  else if off = 0x3A0024 then some (s.txWrite g w)
  else if off = 0x3A0028 then some (s.panelCommand w)
  else if off = 0x48002C then some (s.queueCmd g w)
  else if off = 0x480034 then some (s.writeRswQuota w)
  else if off = 0x500020 then some (if kw then s.restartCmd g (Word.field w 8 0) else s)
  else if off = 0x500030 then some (s.fwCommand g w kw)
  else if off = 0x500044 then
    let s1 := s.put Fld.PLAT_REPAIR_CMD_BANK (Word.field w 5 0)
    some (if kw then s1.repairCmd g (Word.field w 5 0) else s1)
  else none

/-- What follows a register's new value at once: SPEED_ALLOW (R131); EEE (R135); the guards of a speed change (R136); the largest frame and
the media rate, which the flows' checks and the master ports use (R182, R238); the topology (R58, R139, R151, R187). -/
def State.afterWrite (s old : State) (off : Nat) : State :=
  let p := if off / 0x10000 = 0x11 then Port.b else Port.a
  let net := off / 0x10000 = 0x10 || off / 0x10000 = 0x11
  if s.rd off = old.rd off then s
  else if net && off % 0x10000 = 0x10 then
    let s1 := (s.put (Fld.NET_CFG_SPEED_ALLOW p.num) (old.get (Fld.NET_CFG_SPEED_ALLOW p.num))).writeSpeedAllow p
      (s.get (Fld.NET_CFG_SPEED_ALLOW p.num))
    let s2 := s1.serdesWritten p (old.get (Fld.NET_CFG_SERDES p.num))
    if s2.speedGuards p then s2 else s2.cancelPending p
  else if net && off % 0x10000 = 0x18 then s.enableFlows true
  else if net && off % 0x10000 = 0x20 then s.writeEee p
  else if net && off % 0x10000 = 0x24 then (if s.speedGuards p then s else s.cancelPending p)
  else if off = 0x120010 then
    let s1 := (s.topoPorts.checkRoles []).reblockAll
    if s1.speedGuards .a then s1 else (s1.cancelPending .a).cancelPending .b
  else if off = 0x200010 then (s.enableFlows false).masterRates
  else if off / 0x100 = 0x3001 && off % 0x20 = 0 then s.retryPolicy old (off % 0x100 / 0x20)
  else if off = 0x310018 then s.efEdge old
  else s

/-- What an order's write of a sealed register brings with it (R140, R163, R187, R329): PAIR_GIVEUP bit 7 always reads 1 (R343). -/
def State.afterOrder (s old : State) (off : Nat) : State :=
  if off = 0x120014 then s.reblockAll
  else if off = 0x130100 then s.showPns .a
  else if off = 0x130120 then s.showPns .b
  else if off = 0x390010 then s.pairEnable (old.on Fld.PAIR_CFG_EN)
  else if off = 0x390014 then s.wr off (s.rd off ||| 0x80)
  else s

/-! ### Guards -/

/-- In ALARM, the code of the first field of AMP_CHc_CFG whose write needs an order (R285): MUTE set, EN cleared, RETRY_N or
ILIM lowered. -/
def State.ampCfgGuard (s : State) (c : Nat) (w : Word) : Option Acc :=
  let f := fun (x : Fld) => Word.field w x.hi x.lo
  if f (Fld.AMP_CH_CFG_MUTE c) = 1 && s.getW (Fld.AMP_CH_CFG_MUTE c) = 0 then some .sh
  else if f (Fld.AMP_CH_CFG_EN c) = 0 && s.getW (Fld.AMP_CH_CFG_EN c) = 1 then some .sh
  else if f (Fld.AMP_CH_CFG_RETRY_N c) < s.get (Fld.AMP_CH_CFG_RETRY_N c) then some .rw
  else if f (Fld.AMP_CH_CFG_ILIM c) < s.get (Fld.AMP_CH_CFG_ILIM c) then some .rw
  else none

/-- In ALARM, a write of AMP_CHc_LEVEL that lowers FS_VPK or P_CONT (R285). -/
def State.ampLevelGuard (s : State) (c : Nat) (w : Word) : Option Acc :=
  if Word.field w 15 0 < s.getW (Fld.AMP_CH_LEVEL_FS_VPK c) || Word.field w 24 16 < s.getW (Fld.AMP_CH_LEVEL_P_CONT c) then some .sh
  else none

/-- In ALARM, the code of the field for which a register write needs a sealed order (R285, R304, R376). DEDUCED (assumption 183). -/
def State.alarmGuard (s : State) (off : Nat) (w : Word) : Option Acc :=
  if off / 0x100 = 0x3001 && off % 0x20 = 0 then s.ampCfgGuard (off % 0x100 / 0x20) w
  else if off / 0x100 = 0x3001 && off % 0x20 = 4 then s.ampLevelGuard (off % 0x100 / 0x20) w
  else if off / 0x100 = 0x3101 && off % 0x20 = 0 && s.getW (Fld.LINE_CH_CFG_SUP_EN (off % 0x100 / 0x20)) = 1 && !w.getLsbD 31
    then some .sh
  else if off = 0x310018 && s.on Fld.LINE_EF_EN && !w.getLsbD 31 then some .rw
  else none

/-- EN of the port, receiver or transmitter whose CFG register stands at an offset of LAP. -/
def lapCfgEn (off : Nat) : Option Fld :=
  if within 0x280100 0x280160 off && off % 0x20 = 0 then some (Fld.LAP_TDM_CFG_EN ((off - 0x280100) / 0x20))
  else if within 0x280200 0x280260 off && off % 0x20 = 0 then some (Fld.LAP_AESR_CFG_EN ((off - 0x280200) / 0x20))
  else if within 0x280300 0x280330 off && off % 0x10 = 0 then some (Fld.LAP_AEST_CFG_EN ((off - 0x280300) / 0x10))
  else none

/-- Whether a write changes fields that the EN of its port or flow, as applied, protects (R178, R242). -/
def State.protects (s : State) (en : Option Fld) (k : Nat) (l : List FieldSpec) (w : Word) : Bool := match en with
  | some f => s.on f && (s.rd k &&& codeMask l .rw) ≠ (w &&& codeMask l .rw)
  | none => false

/-! ### A register write -/

/-- Whether a word writes to KW fields of the register (R489): a field that reads 0 is not 0, or one that is kept changes. -/
def State.kwWritten (s : State) (off : Nat) (l : List FieldSpec) (w : Word) : Bool :=
  let m := codeMask l .kw
  let kept := kwKept off
  (w &&& m &&& ~~~kept) ≠ 0 || (s.rd off &&& kept) ≠ (w &&& kept)

/-- The word's fields once its KW fields have been judged. -/
def State.writeJudged (s : State) (g : Who) (off : Nat) (l : List FieldSpec) (k : Nat) (data : Word) (kw : Bool) : State :=
  let code := off / 0x10000
  match (if code < 0x12 then s.actLow g off l data kw else s.actHigh g off data kw) with
  | some t => t
  | none =>
    let w := s.clampReg off data
    let w1 := if s.protects (lapCfgEn off) k l w then mixWords (codeMask l .rw) w (s.rd k) else w
    let s1 := if w1 = w then s else s.ewReject g code off data
    let s2 := (s1.writeFields g k code off l data w1 kw).afterWrite s1 k
    if g = .order then s2.afterOrder s1 off else s2

/-- A word written to a register with all byte enables set: `r` is its row. -/
def State.writeReg (s : State) (g : Who) (off : Nat) (r : RegSpec) (data : Word) : State :=
  let l := r.fields
  if off % 0x10000 = 4 then s.writeBlkCtrl g (off / 0x10000) data
  else if g = .order && r.perPort then s.logNote codeDiscard (off / 0x10000) g.origin [off, data.toNat]
  else if codeMask l .so ≠ 0 && g ≠ .order then s.refuseReg g off data.toNat 16 .so
  else match (if s.inAlarm && g ≠ .order then s.alarmGuard off (s.clampReg off data) else none) with
    | some a => s.refuseReg g off data.toNat 21 a
    | none =>
      let kw := s.kwWritten off l data
      if kw && !s.unlocked g then (s.refuseReg g off data.toNat 17 .kw).writeJudged g off l (regKey r g off) data false
      else (if kw then s.setUnlock g false else s).writeJudged g off l (regKey r g off) data kw

/-! ### An indirect word written -/

/-- The address of an indirect word, as DW4 of a log entry names it (R459). -/
def indAddr (code w : Nat) : Nat := 0x80000000 + code * 0x1000000 + w

/-- A refused write of an indirect word. -/
def State.refuseInd (s : State) (g : Who) (code w : Nat) (data : Word) (reason pos : Nat) : State :=
  s.refuse g code (indAddr code w) data.toNat 15 reason pos

/-- EN of the flow whose entry an indirect word of STRM belongs to (R178), where the block's EN lets it stand (R180). -/
def State.flowEnOf (s : State) (code w : Nat) : Option Fld :=
  if code = 0x18 && w < 0x1000 && s.enabled 0x18 then some ⟨indKey 0x18 (w / 16 * 16), 31, 31⟩ else none

/-- Whether a write of an indirect word is one of an enabled flow's entry beside the word that holds EN, which is discarded whatever
it writes (R178). -/
def State.flowHolds (s : State) (code w : Nat) : Bool := match s.flowEnOf code w with
  | some f => w % 16 ≠ 0 && s.on f
  | none => false

/-- In ALARM, whether a zone word lowers the gain or sets MUTE on a zone of the active alarm routing (R213). -/
def State.zoneGuard (s : State) (code w : Nat) (v : Word) : Bool :=
  code = 0x20 && within 0x8000 0x803F w && s.inAlarm && s.alarmZone (w - 0x8000) &&
    (let old := s.lastWritten (indKey code w)
     (v.getLsbD 31 && !old.getLsbD 31) || toSigned 16 (Word.field v 15 0) < toSigned 16 (Word.field old 15 0))

/-- A CAP ring whose list an indirect word of a HIF block belongs to (R429). -/
def capListRing (code w : Nat) : Option (Port × Nat) :=
  if (code = 4 || code = 5) && within 0x400 0x5FF w then some (if code = 4 then Port.a else Port.b, (w - 0x400) / 8) else none

/-- The fields of an indirect word written, its guards passed. -/
def State.writeIndFields (s : State) (g : Who) (code w : Nat) (l : List FieldSpec) (data : Word) : State :=
  if s.flowHolds code w then s.ewReject g code (indAddr code w) data
  else
  let k := indKey code w
  let v := clampInd code w data
  let v1 := if s.protects (s.flowEnOf code w) k l v then mixWords (codeMask l .rw) v (s.rd k) else v
  let s1 := if v1 = v then s else s.ewReject g code (indAddr code w) data
  let s2 := s1.writeFields g k code (indAddr code w) l data v1 false
  if code = 0x38 && w < 0x40 && g = .order then s2.showEntries else s2

/-- A word written to a defined indirect word (R456, R471), under the rules of its block. -/
def State.writeInd (s : State) (g : Who) (code w : Nat) (l : List FieldSpec) (data : Word) : State :=
  if codeMask l .so ≠ 0 && g ≠ .order then s.refuseInd g code w data 16 Acc.so.position
  else if code = 0x12 && s.gateLocked w then s.refuseInd g code w data 19 Acc.rw.position
  else if g ≠ .order && s.zoneGuard code w (clampInd code w data) then s.refuseInd g code w data 21 Acc.sh.position
  else if code = 0x21 && within 0x100000 0x11FFFF w then
    (let r := s.writeParam (w - 0x100000) data
     if r.2 then r.1 else s.refuseInd g code w data 3 0)
  else if code = 0x48 && w < 0xD0 then s.writeQueueWord g w data
  else match capListRing code w with
    | some (p, n) =>
      if s.on (Fld.HIF_R_CFG_EN p.num n) then s.ringWriteReject p g (indAddr code w) data
      else s.writeIndFields g code w l data
    | none => s.writeIndFields g code w l data

/-! ### IADDR and IDATA -/

/-- An agent's IADDR of a block (R462, R471): AUTOINC and ADDR. -/
def iaddrKey (g : Who) (code : Nat) : Nat := code * 0x10000 + 0xFF0 + 0x1000000 * g.num
def State.iaddr (s : State) (g : Who) (code : Nat) : Nat := Word.field (s.rd (iaddrKey g code)) 23 0

/-- ADDR advanced under AUTOINC, wrapping at 24 bits (R471). -/
def State.advance (s : State) (g : Who) (code : Nat) : State :=
  let w := s.rd (iaddrKey g code)
  if w.getLsbD 31 then s.wr (iaddrKey g code) (Word.withField w 23 0 (Word.field w 23 0 + 1)) else s

/-- Whether an indirect word is ready (R434, R472): not while the banks of its block are being zeroed on a wake. DEDUCED (assumption 182). -/
def State.indReady (s : State) (code : Nat) : Bool := !(s.plat.wake = 2 && [0x18, 0x21, 0x28, 0x30].contains code)

/-- An access to a word that the layout does not define (R473). -/
def State.outOfRange (s : State) (g : Who) (code w data : Nat) : State :=
  ((s.setBlkStatus code 2).refuse g code (indAddr code w) data 15 5 0).advance g code

/-- An IDATA read with all or some byte enables set (R458, R471 to R473). DEDUCED (assumption 181). -/
def State.readIdata (s : State) (g : Who) (code be : Nat) : State :=
  let w := s.iaddr g code
  if be = 0 then s.answer g (if s.indReady code then s.readInd code w else 0xFFFFFFFF)
  else if be ≠ 15 then
    (s.refuse g code (code * 0x10000 + 0xFF4) 0 be 1 Acc.rw.position).answer g 0xFFFFFFFF
  else match indFields code w with
    | none => (s.outOfRange g code w 0).answer g 0
    | some l =>
      if s.indReady code then (((s.answer g (s.readInd code w)).clearRc (indKey code w) l)).advance g code
      else ((s.setBlkStatus code 1).note code [indAddr code w]).answer g 0xFFFFFFFF

/-- An access that waits until it can be made (R460, R472). -/
def State.hold (s : State) (a : Agent) (write : Bool) (off be : Nat) (data : Word) : State :=
  { s with heldW := s.heldW ++ [{ agent := a, write := write, off := off, be := be, data := data }] }

/-- Whether an agent's accesses wait behind one of its IDATA writes (R460, R472). -/
def State.holds (s : State) (a : Agent) : Bool := s.heldW.any (·.agent = a)

/-- An IDATA write with all byte enables set (R471 to R473): a word that is not ready keeps the write waiting. DEDUCED (assumptions 181, 182). -/
def State.writeIdata (s : State) (a : Agent) (code : Nat) (data : Word) : State :=
  let w := s.iaddr a.who code
  match indFields code w with
  | none => s.outOfRange a.who code w data.toNat
  | some l =>
    if s.indReady code then (s.writeInd a.who code w l data).advance a.who code
    else s.hold a true (code * 0x10000 + 0xFF4) 15 data

/-! ### Accesses judged -/

/-- A port's access to the other port's HIF block (R401). -/
def foreign (g : Who) (off : Nat) : Bool :=
  (g = .portA && off / 0x10000 = 5) || (g = .portB && off / 0x10000 = 4)

/-- A request of a wrong length or kind (R457): it completes as Unsupported Request. -/
def State.badRequest (s : State) (a : Agent) (off be data : Nat) : State :=
  let s1 := s.refuse a.who (off / 0x10000) off data be 2 0
  match a.who.port with
  | some p => s1.emit (.unsupported p)
  | none => s1

/-- A write request judged (R3, R9, R401, R457), and performed. DEDUCED (assumption 180). -/
def State.doWrite (s : State) (a : Agent) (off be : Nat) (data : Word) : State := match s.regHere off with
  | none => s.refuse a.who (off / 0x10000) off data.toNat be 3 0
  | some (r, _) =>
    if be ≠ 15 then s.refuse a.who (off / 0x10000) off data.toNat be 1 r.firstCode.position
    else if foreign a.who off then s.refuse a.who (off / 0x10000) off data.toNat be 4 r.firstCode.position
    else if off % 0x10000 = 0xFF4 then s.writeIdata a (off / 0x10000) data
    else s.writeReg a.who off r data

/-- A read request judged (R9, R457), and its side effects. DEDUCED (assumption 180). -/
def State.doRead (s : State) (a : Agent) (off be : Nat) : State := match s.regHere off with
  | none => s.answer a.who 0
  | some (r, _) =>
    if off % 0x10000 = 0xFF4 then s.readIdata a.who (off / 0x10000) be
    else
      let s := if off / 0x10000 = 0x0A then s.synProgress else s
      let s1 := s.answer a.who (s.readReg a.who off)
      if be = 0 then s1 else s1.readEffect a.who r off

/-- A write and a read request (R460): they wait behind an IDATA write of their agent that waits. -/
def State.busWrite (s : State) (a : Agent) (off be : Nat) (data : Word) : State :=
  if s.holds a then s.hold a true off be data else s.doWrite a off be data
def State.busRead (s : State) (a : Agent) (off be : Nat) : State :=
  if s.holds a then s.hold a false off be 0 else s.doRead a off be

/-- An access that has waited is made. -/
def State.perform (s : State) (h : HeldAccess) : State :=
  if h.write then s.doWrite h.agent h.off h.be h.data else s.doRead h.agent h.off h.be

/-- The waiting accesses of an agent made in their order, up to an IDATA write whose word is not ready. -/
def State.release (a : Agent) : Nat → State → State
  | 0, s => s
  | fuel + 1, s => match s.heldW.find? (·.agent = a) with
    | none => s
    | some h =>
      if h.write && h.off % 0x10000 = 0xFF4 && !s.indReady (h.off / 0x10000) then s
      else State.release a fuel (({ s with heldW := s.heldW.erase h } : State).perform h)

/-! ### The commands -/

/-- REGISTER_WRITE (R456, R457). -/
def execRegisterWrite (a : Agent) (off : BitVec 24) (be : BitVec 4) (data : Word) (kind : ReqKind) (s : State) :
    Host.Outcome State Fault Refusal :=
  s.runF fun s => match kind with
    | .plain => s.busWrite a off.toNat be.toNat data
    | _ => s.badRequest a off.toNat be.toNat data.toNat

/-- CLEAR_ON_READ (R456, R457, R464): a read of a register, with what it clears or pops. -/
def execClearOnRead (a : Agent) (off : BitVec 24) (be : BitVec 4) (kind : ReqKind) (s : State) :
    Host.Outcome State Fault Refusal :=
  s.runF fun s => match kind with
    | .plain => s.busRead a off.toNat be.toNat
    | _ => s.badRequest a off.toNat be.toNat 0

/-- BLOCK_RESET (R466): BLK_CTRL of a block written with SRST = 1. -/
def execBlockReset (a : Agent) (code : BitVec 8) (data : Word) (s : State) : Host.Outcome State Fault Refusal :=
  s.runF fun s => s.busWrite a (code.toNat * 0x10000 + 4) 15 (data ||| 2)

/-- IDATA_READ (R458, R471 to R473). -/
def execIdataRead (a : Agent) (code : BitVec 8) (be : BitVec 4) (s : State) : Host.Outcome State Fault Refusal :=
  s.run fun s => s.busRead a (code.toNat * 0x10000 + 0xFF4) be.toNat

/-- IDATA_WRITE (R457, R471 to R473). -/
def execIdataWrite (a : Agent) (code : BitVec 8) (be : BitVec 4) (data : Word) (s : State) :
    Host.Outcome State Fault Refusal :=
  s.runF fun s => s.busWrite a (code.toNat * 0x10000 + 0xFF4) be.toNat data

/-- IDATA_WRITE_COMPLETE (R460, R472): the write that an agent's port holds is performed once its word is ready, and what waits behind
it follows. -/
def execIdataWriteComplete (a : Agent) (s : State) : Host.Outcome State Fault Refusal :=
  s.runF fun s => s.release a s.heldW.length

/-- UNLOCK_KEY (R469): KEY written by a port. -/
def execUnlockKey (p : Port) (key : BitVec 16) (s : State) : Host.Outcome State Fault Refusal :=
  s.run fun s => s.writeKey (whoOf p) (BitVec.ofNat 32 key.toNat)

/-- UNLOCK_EXPIRE (R469): 1 ms has passed. -/
def execUnlockExpire (p : Port) (s : State) : Host.Outcome State Fault Refusal :=
  s.run fun s => s.when (s.ran (.unlock p) 1000000) fun s => s.setUnlock (whoOf p) false

/-- EVT_RAW_CLEAR (R476). -/
def execEvtRawClear (_ : Agent) (hi : Bool) (mask : Word) (s : State) : Host.Outcome State Fault Refusal :=
  s.run fun s => s.clearRaw hi mask

/-- EVENT_TEST (R476): SRC is RW, and GO is KW. -/
def execEventTest (a : Agent) (src : BitVec 6) (s : State) : Host.Outcome State Fault Refusal :=
  s.run fun s => (s.put Fld.EVT_TEST_SRC src.toNat).keyed a.who 0x010040 (2 ^ 31 + src.toNat) fun s => s.testRaise src.toNat

end Sys2Proof.Machine
end

