-- ==== Sys2Proof/Machine/Cerk.lean ====
section
/-! DEFINITION. Cerkeha: sealed orders (R378 to R386), their application at a brim (R384), key records (R387 to R389), the life
cycle (R373) and tamper (R392 to R394). -/

namespace Sys2Proof.Machine

/-! ### What an order holds -/

/-- The items of an order (R379, R380). -/
def itemOf (l : List Nat) (i : Nat) : OrderItem :=
  { kind := BitVec.ofNat 8 (octetsAt l (32 + 12 * i) 1), addr := BitVec.ofNat 24 (octetsAt l (33 + 12 * i) 3),
    word := BitVec.ofNat 32 (octetsAt l (36 + 12 * i) 4), value := BitVec.ofNat 32 (octetsAt l (40 + 12 * i) 4) }

/-- ITEMS, KEYLEN and KEYS of an order (R379). -/
def orderN (l : List Nat) : Nat := octetsAt l 6 2
def orderKeyLen (l : List Nat) : Nat := octetsAt l 28 2
def orderHasKeys (l : List Nat) : Bool := l.getD 5 0 % 2 = 1

/-- An order as its octets say it (R379): MAGIC, VERSION, and the lengths against the order's size. DEDUCED (assumption 150). -/
def orderOf (l : List Nat) : OrderIn :=
  let ok := octetsAt l 0 4 = 0x4B4F5244 && l.getD 4 0 = 1 && orderN l ≤ 2048 && orderKeyLen l ≤ 1024
    && (orderHasKeys l || orderKeyLen l = 0) && l.length = 32 + 12 * orderN l + orderKeyLen l + 104
  { octets := l, format := ok, serial := octetsAt l 8 8, seq := octetsAt l 16 8, notAfter := octetsAt l 24 4, signer := signerOf l,
    items := if ok then (List.range (orderN l)).map (itemOf l) else [], keysOk := false, keys := [] }

/-- A key record from its TYPE, SLOT and body (R381); none where it is malformed. DEDUCED (assumption 150). -/
def keyRec (ty slot : Nat) (body : List Nat) : Option KeyRec :=
  if ty = 1 && slot ≤ 1 && body.length = 48 then some (.cak (if slot = 0 then .a else .b) (beWords 12 (ofOctets body)))
  else if ty = 2 && body.length = 36 && body.getD 1 0 < 128 then
    some (.seal ⟨slot / 16 % 16, Nat.mod_lt _ (by decide)⟩ ⟨slot % 2, Nat.mod_lt _ (by decide)⟩ (BitVec.ofNat 8 (body.getD 0 0))
      (BitVec.ofNat 7 (body.getD 1 0)) (beWords 8 (ofOctets (body.drop 4))))
  else if ty = 3 && slot ≤ 3 && body.length = 97 then some (.root ⟨slot % 4, Nat.mod_lt _ (by decide)⟩ (keyWords body))
  else none

/-- The records of a decrypted key section (R381), of which there are at most `fuel`. -/
def keyRecs : Nat → List Nat → Option (List KeyRec)
  | 0, l => if l.isEmpty then some [] else none
  | fuel + 1, l =>
    if l.isEmpty then some []
    else
      let n := octetsAt l 2 2
      match (if l.length < 4 + n then none else keyRec (l.getD 0 0) (l.getD 1 0) ((l.drop 4).take n)), keyRecs fuel (l.drop (4 + n)) with
      | some k, some r => some (k :: r)
      | _, _ => none

/-- The key that an order's key section is encrypted under (R381), from the ephemeral public key. -/
def State.sectionKey (s : State) (o : OrderIn) (point : List Nat) : Option Nat :=
  (ecdh s.otp.kexPriv point).map fun z =>
    hkdf384 (beOctets 48 z) (beOctets 8 o.seq) ([0x4B, 0x4F, 0x52, 0x44] ++ beOctets 8 s.otp.serial)

/-- The key records of an order (R381): none where the section does not decrypt or a record is malformed. -/
def State.orderKeys (s : State) (o : OrderIn) : Option (List KeyRec) :=
  if !orderHasKeys o.octets then some []
  else
    let x := (o.octets.drop (32 + 12 * orderN o.octets)).take (orderKeyLen o.octets)
    if x.length < 113 then none
    else
      let c := (x.drop 97).take (x.length - 113)
      ((s.sectionKey o (x.take 97)).bind fun k =>
        gcmOpen k (List.replicate 12 0) (o.octets.take 32) c (ofOctets (x.drop (x.length - 16)))).bind fun plain =>
        keyRecs plain.length plain

/-- An order with its key section decrypted. -/
def State.opened (s : State) (o : OrderIn) : OrderIn := match s.orderKeys o with
  | some l => { o with keysOk := true, keys := l }
  | none => o

/-! ### The queue of orders -/

/-- QUEUE and BUSY of CERK_ORD_ST (R397): the order under verification counts among those waiting. DEDUCED (assumption 147). -/
def State.showOrders (s : State) : State :=
  (s.put Fld.CERK_ORD_ST_QUEUE s.cerk.queue.length).flag Fld.CERK_ORD_ST_BUSY (!s.cerk.queue.isEmpty)

/-- RESULT and DISCARDED of the last order (R397). -/
def State.showResult (s : State) (result discarded : Nat) : State :=
  (s.put Fld.CERK_ORD_ST_RESULT result).put Fld.CERK_ORD_ST_DISCARDED (min 0xFF discarded)

/-- An order handed over by a CMD ring (R378, R413): the payload of the chain. DEDUCED (assumption 147). -/
def State.takeOrder (s : State) (p : Port) (ring n : Nat) (d : Desc) : State :=
  let job : OrderJob := { port := p, ring := ring, index := s.get (Fld.HIF_R_ST_CONS p.num ring), cookie := d.cookie,
                          cpl := s.cplOf p ring, order := orderOf (s.payload p ring n) }
  ((State.returnDescs p ring n { s with cerk := { s.cerk with queue := s.cerk.queue ++ [job] } }).showOrders).sweep p ring

/-- ORDER (R378, R412): BUSY where the queue holds 8; while Cerkeha restarts the order waits in its ring (R359). -/
def execOrder (p : Port) (ring : Fin 64) (cookie : Word) (s : State) : Host.Outcome State Fault Refusal :=
  s.run fun s => match s.headCmd p ring opOrder with
    | none => s
    | some (n, d) =>
      if s.domDown domCerk || !cmdNamed d cookie then s
      else s.staged p ring n fun s =>
        if s.cerk.queue.length ≥ 8 then (s.showResult resBusy 0).endCmd p ring n resBusy 0
        else s.takeOrder p ring n d

/-! ### The checks -/

def resTarget : Nat := 4
def resReplay : Nat := 6
def resExpired : Nat := 7
def resNoTime : Nat := 8
def resKeys : Nat := 9
def resItem : Nat := 10
def resState : Nat := 11

/-- The kinds of items (R380). -/
def kindReg : Nat := 1
def kindIx : Nat := 2
def kindLife : Nat := 3
def kindAlarmReset : Nat := 4
def kindWithdraw : Nat := 5
def kindAllow : Nat := 6

/-- The life-cycle states (R380). -/
def lifeBlank : Nat := 0
def lifeProvisioned : Nat := 1
def lifeDeployed : Nat := 2
def lifeRma : Nat := 3
def lifeScrapped : Nat := 4

/-- The slots of an order's SITE_ROOT records. -/
def orderRoots (o : OrderIn) : List Nat := o.keys.filterMap fun k => match k with
  | .root n _ => some n.val
  | _ => none

/-- The targets of an order's LIFECYCLE items. -/
def orderLives (o : OrderIn) : List Nat := (o.items.filter fun i => i.kind.toNat = kindLife).map (·.value.toNat)

/-- Whether the state accepts an order's signer (R374, R375, R386). DEDUCED (assumption 151). -/
def State.signerOk (s : State) (o : OrderIn) : Bool :=
  let c := s.otp.cycle
  if c = lifeBlank then
    (if o.signer = 0 then (orderLives o).contains lifeScrapped else o.signer = 1 && (orderRoots o).contains 0)
  else if c = lifeProvisioned || c = lifeDeployed then (match s.otp.root with
    | some r => o.signer = r + 1
    | none => false)
  else c = lifeRma && o.signer = 0

/-- The SITE_ROOT record that an order brings for a slot. -/
def orderRoot (o : OrderIn) (n : Nat) : List Word := (o.keys.findSome? fun k => match k with
  | .root m key => if m.val = n then some key else none
  | _ => none).getD []

/-- The public key of an order's signer (R374, R375, R382): the factory root, a BLANK part's own SITE_ROOT record, or a site root. -/
def State.signerKey (s : State) (o : OrderIn) : List Word :=
  if o.signer = 0 then s.otp.factory
  else if s.otp.cycle = lifeBlank then orderRoot o 0
  else s.rootKey (o.signer - 1)

/-- Whether an order's signature is that of a signer the state accepts. -/
def State.orderSigned (s : State) (o : OrderIn) : Bool := s.signerOk o && signedBy (s.signerKey o) o.octets

/-- The next unburned root slot (R386), after those burned. -/
def nextRoot (burned : List Nat) : Option Nat := (List.range 4).find? fun n => !burned.contains n

/-- The life-cycle state from which an order's LIFECYCLE item starts, which is applied last (R384): a SITE_ROOT record has
made a BLANK or RMA part PROVISIONED before it (R373). DEDUCED (assumption 149). -/
def State.lifeBase (s : State) (o : OrderIn) : Nat :=
  if (s.otp.cycle = lifeBlank || s.otp.cycle = lifeRma) && !(orderRoots o).isEmpty then lifeProvisioned else s.otp.cycle

/-- Whether R373 allows a transition to an order: RMA, and SCRAPPED out of PROVISIONED and DEPLOYED, to a site root's alone, SCRAPPED
out of BLANK and RMA to the factory's. DEDUCED (assumption 149). -/
def State.lifeAllowed (s : State) (o : OrderIn) (b t : Nat) : Bool :=
  let live := b = lifeProvisioned || b = lifeDeployed
  if t = lifeDeployed then b = lifeProvisioned
  else if t = lifeRma then live && o.signer ≠ 0 && !s.inAlarm
  else t = lifeScrapped && b ≠ lifeScrapped && (live == (o.signer ≠ 0)) && !s.inAlarm

/-- The SEAL record that an order leaves in record slot `n` = 2g + r: FIRST and COUNT − 1. -/
def State.sealAfter (s : State) (o : OrderIn) (n : Nat) : Option (Nat × Nat) :=
  o.keys.foldl (fun a k => match k with
    | .seal g r first count _ => if 2 * g.val + r.val = n then some (first.toNat, count.toNat) else a
    | _ => a)
    (let w := s.rd (indKey 0x40 n)
     if w.getLsbD 31 then some (Word.field w 15 8, Word.field w 6 0) else none)

/-- Whether two records cover an epoch in common (R388). -/
def overlap (a b : Option (Nat × Nat)) : Bool := match a, b with
  | some x, some y => (y.1 + 256 - x.1) % 256 ≤ x.2 || (x.1 + 256 - y.1) % 256 ≤ y.2
  | _, _ => false

/-- Whether each SITE_ROOT record in turn names the next unburned slot, those before it being burned (R383, R386). -/
def rootsFit : List Nat → List Nat → Bool
  | _, [] => true
  | burned, n :: l => nextRoot burned = some n && rootsFit (n :: burned) l

/-- Whether an order's key records can be installed (R383, KEYS). -/
def State.keysFit (s : State) (o : OrderIn) : Bool :=
  o.keysOk && rootsFit s.otp.burned (orderRoots o) && o.keys.all fun k => match k with
    | .seal g _ _ _ _ => !overlap (s.sealAfter o (2 * g.val)) (s.sealAfter o (2 * g.val + 1))
    | _ => true

/-- Whether an item can be applied (R383, ITEM). -/
def State.itemFit (s : State) (i : OrderItem) : Bool :=
  let k := i.kind.toNat
  let a := i.addr.toNat
  if k = kindReg then (s.regHere a).isSome
  else if k = kindIx then a % 0x10000 = 0 && !s.absent (a / 0x10000) && (indFields (a / 0x10000) i.word.toNat).isSome
  else 3 ≤ k && k ≤ 6

/-- The last accepted SEQ, or in a part whose parameter area was lost the highest logged (R372). -/
def State.seqFloor (s : State) : Nat := max s.flash.seq (s.cerk.floor.getD 0)

/-- The checks of R383 in their order: the result code of the first that fails. DEDUCED (assumption 150). -/
def State.checkOrder (s : State) (o : OrderIn) : Option Nat :=
  if !o.format then some resFormat
  else if o.serial ≠ s.otp.serial then some resTarget
  else if !s.orderSigned o then some resSignature
  else if o.seq ≤ s.seqFloor then some resReplay
  else if o.notAfter ≠ 0 && o.notAfter < s.time.counter.toNat / 1000000000 then some resExpired
  else if o.notAfter ≠ 0 && !s.time.tracked then some resNoTime
  else if !((orderLives o).all fun t => s.lifeAllowed o (s.lifeBase o) t) then some resState
  else if !o.keys.isEmpty && s.on Fld.CERK_TAMPER_ST_PIN_LOW then some resState
  else if !s.keysFit o then some resKeys
  else if (orderLives o).length > 1 || !(o.items.all s.itemFit) then some resItem
  else none

/-- An order rejected (R383, R396): it changes nothing and consumes no SEQ. DEDUCED (assumption 148). -/
def State.rejectOrder (s : State) (j : OrderJob) (code : Nat) : State :=
  let q := j.order.seq
  let s1 := (s.showResult code 0).bump Fld.CERK_CNT_ORD_REJECT 1
  let s2 :=
    if [4, 5, 6, 9].contains code then
      ({ s1 with cerk := { s1.cerk with floor := s1.cerk.floor.map (max q) } }).event63 (16 + code)
        [code, q % 2 ^ 32, q / 2 ^ 32]
    else s1
  s2.completeCmd j.port j.ring j.index j.cookie j.cpl opOrder code 0 0

/-- An order accepted (R384): its SEQ is in the parameter area, and it waits for the next brim. DEDUCED (assumption 148). -/
def State.acceptOrder (s : State) (j : OrderJob) : State :=
  ({ s with flash := { s.flash with seq := j.order.seq }, cerk := { s.cerk with accepted := s.cerk.accepted ++ [j] } }).showSeq

/-- The order at the head of the queue verified. -/
def State.judgeOrder (s : State) (j : OrderJob) : State :=
  let k := { j with order := s.opened j.order }
  match s.checkOrder k.order with
  | some code => s.rejectOrder k code
  | none => s.acceptOrder k

/-- ORDER_VERIFIED (R378, R383). -/
def execOrderVerified (tamperLow : Bool) (s : State) : Host.Outcome State Fault Refusal :=
  s.run fun s => s.when (!s.domDown domCerk) fun s =>
    let s1 := s.flag Fld.CERK_TAMPER_ST_PIN_LOW (tamperLow && s.on Fld.CERK_TAMPER_CFG_PIN_EN)
    match s1.cerk.queue with
    | [] => s1
    | j :: l => ({ s1 with cerk := { s1.cerk with queue := l } }.judgeOrder j).showOrders

/-! ### Keys -/

/-- The SAs of a port removed (R387, R393). -/
def State.dropSas (s : State) (p : Port) : State :=
  let x := s.net p
  let none4 := [none, none, none, none]
  (((((s.setNet p { x with oldAns := [], offered := none, session := false, server := false, txPn := none4, saks := none4 }).put (Fld.SECY_ST_RX_AN_VALID p.num) 0).flag
    (Fld.SECY_ST_RX_KEYED p.num) false).flag (Fld.SECY_ST_TX_KEYED p.num) false).flag
    (Fld.SECY_ST_PN_WARN p.num) false).flag (Fld.SECY_ST_TX_STOPPED p.num) false

/-- A port's CAK removed (R387): MKA stops and its SAs go. -/
def State.dropCak (s : State) (p : Port) : State :=
  ((({ s with cerk := { s.cerk with caks := s.cerk.caks.filter (·.1 ≠ p.num) } }).flag (Fld.cakHeld p.num) false).flag
    (Fld.SECY_ST_LIVE p.num) false).dropSas p

/-- MKA begins a new session on a port that holds a CAK (R387): its peer is heard afresh, and the old SAs stay until the new SAK is
installed. -/
def State.mkaAfresh (s : State) (p : Port) : State :=
  s.when (s.on (Fld.cakHeld p.num)) fun s =>
    (s.setNet p { s.net p with session := true, offered := none }).flag (Fld.SECY_ST_LIVE p.num) false

/-- A port's CAK installed (R387): one in an occupied slot starts a new MKA session, and the old SAs stay until the new SAK is
installed. DEDUCED (assumption 154). -/
def State.installCak (s : State) (p : Port) (body : List Word) : State :=
  (({ s with cerk := { s.cerk with caks := (p.num, body) :: s.cerk.caks.filter (·.1 ≠ p.num) } }).flag
    (Fld.cakHeld p.num) true).mkaAfresh p

/-- Seal record `n` = 2g + r removed (R389). -/
def State.dropSeal (s : State) (n : Nat) : State :=
  let s1 := ({ s with strm := { s.strm with keys := Store.erase n s.strm.keys, low := s.strm.low.filter (· ≠ n) } }).wr (indKey 0x40 n) 0
  State.regroup s (s1.flag ⟨Fld.CERK_KEYS_SEAL.addr, 16 + n / 2, 16 + n / 2⟩
    ((s1.sealRec (n / 2) 0).getLsbD 31 || (s1.sealRec (n / 2) 1).getLsbD 31)) n

/-- The key store zeroed (R373, R393). DEDUCED (assumption 154). -/
def State.wipeKeys (s : State) : State := (List.range 32).foldl State.dropSeal ((s.dropCak .a).dropCak .b)

/-- A site root burned: it becomes current and the old slot is retired (R386); a BLANK or RMA part becomes PROVISIONED, RMA
with its order counter at 0 (R373). -/
def State.installRoot (s : State) (n : Nat) (key : List Word) : State :=
  let o := s.otp
  let fresh := o.cycle = lifeBlank || o.cycle = lifeRma
  let s1 := { s with
    otp := { o with burned := n :: o.burned, root := some n, roots := (n, key) :: o.roots.filter (·.1 ≠ n),
                    cycle := if fresh then lifeProvisioned else o.cycle },
    flash := { s.flash with seq := if o.cycle = lifeRma then 0 else s.flash.seq } }
  let s2 := s1.showOtp.showSeq
  if fresh then s2.logNote codeState 0x40 originOrder [lifeProvisioned, o.cycle] else s2

/-- One key record installed (R387, R388, R389); TAMPERED clears (R394). -/
def State.installKey (s : State) (k : KeyRec) : State :=
  let s1 := s.flag Fld.CERK_TAMPER_ST_TAMPERED false
  match k with
  | .cak p body => s1.installCak p body
  | .seal g r first count key =>
    State.regroup s1 (s1.installSeal (2 * g.val + r.val) first.toNat count.toNat key) (2 * g.val + r.val)
  | .root n key => s1.installRoot n.val key

/-- WITHDRAW (R380, R387, R389): [15:8] TYPE and [7:0] SLOT. DEDUCED (assumption 152). -/
def State.withdraw (s : State) (v : Word) : State :=
  let ty := Word.field v 15 8
  let slot := Word.field v 7 0
  if ty = 1 then (if slot = 0 then s.dropCak .a else if slot = 1 then s.dropCak .b else s)
  else if ty = 2 then s.dropSeal (2 * (slot / 16) + slot % 2)
  else s

/-! ### The mitten region -/

/-- The verification of an image abandoned: it completes with FORMAT (R437). Orders come before images. DESIGN CHOICE (assumption 158). -/
def State.abandonImage (s : State) : State :=
  if s.domDown domCerk || !s.cerk.queue.isEmpty then s
  else match s.imageRings with
    | [] => s
    | (p, r, op, n) :: _ =>
      (s.imgReject op (if op = opMsg then (s.payload p r n).getD 5 0 else 0)).endCmd p r n resFormat 0

/-- What is left of an order whose octets the wipe has taken. -/
def OrderJob.wiped (j : OrderJob) : OrderJob := { j with order := orderOf (j.order.octets.map fun _ => 0) }

/-- An accepted order whose decrypted key records the wipe has taken. -/
def OrderJob.keyless (j : OrderJob) : OrderJob := { j with order := { j.order with keys := [] } }

/-- The mitten region wiped (R373, R393, R395): orders to be verified read as zeros, decrypted key records that wait for their brim are
gone, an image under verification is lost, and MKA has lost its working state. DESIGN CHOICE (assumption 158). -/
def State.wipeMitten (s : State) : State :=
  let s1 := s.abandonImage
  let s2 := { s1 with cerk := { s1.cerk with queue := s1.cerk.queue.map OrderJob.wiped,
                                             accepted := s1.cerk.accepted.map OrderJob.keyless } }
  (s2.mkaAfresh .a).mkaAfresh .b

/-! ### The life cycle -/

/-- Whether a register or table word holds SO fields. -/
def isSealed (k : Nat) : Bool := codeMask (fieldsOfKey k) .so ≠ 0

/-- Every SO register at its reset value (R373), with what that brings with it. DEDUCED (assumption 151). -/
def State.soReset (s : State) : State :=
  let s1 := (s.resetWords isSealed [.so]).reblockAll
  (s1.pairEnable (s.on Fld.PAIR_CFG_EN)).showEntries

/-- A LIFECYCLE item (R373), logged. DEDUCED (assumption 155). -/
def State.setLife (s : State) (t : Nat) : State :=
  let old := s.otp.cycle
  let s1 :=
    if t = lifeDeployed then { s with otp := { s.otp with cycle := t, jtagOff := true } }
    else if t = lifeRma then
      ({ s with otp := { s.otp with cycle := t, root := none }, flash := { s.flash with seals := [], caks := [] } }).wipeKeys
    else
      ({ s with otp := { s.otp with cycle := t, sigKey := [], kexKey := [], sigPriv := 0, kexPriv := 0, kekSeed := 0 },
                flash := { s.flash with seals := [], caks := [] } }).wipeKeys
  s1.showOtp.logNote codeState 0x40 originOrder [t, old]

/-! ### Application at a brim -/

/-- One item of an order applied (R384, R380, R316), but for LIFECYCLE and WITHDRAW, which come later. DEDUCED (assumption 153). -/
def State.applyItem (s : State) (i : OrderItem) : State :=
  let a := i.addr.toNat
  if i.kind.toNat = kindReg then (match s.regHere a with
    | some (r, _) => s.writeReg .order a r i.value
    | none => s)
  else if i.kind.toNat = kindIx then (match indFields (a / 0x10000) i.word.toNat with
    | some l => s.writeInd .order (a / 0x10000) i.word.toNat l i.value
    | none => s)
  else if i.kind.toNat = kindAlarmReset then s.resetEntries
  else if i.kind.toNat = kindAllow then
    (let x := (Word.field i.value 15 8, Word.field i.value 7 0)
     ({ s with cerk := { s.cerk with allow := x :: s.cerk.allow.filter (· ≠ x) } }).start (.allow x.1 x.2))
  else s

/-- One item with the count of discarded items so far. DEDUCED (assumption 153). -/
def State.countItem (x : State × Nat) (i : OrderItem) : State × Nat :=
  let t := x.1.applyItem i
  (t, if t.cerk.discards = x.1.cerk.discards then x.2 else x.2 + 1)

/-- The words that an order's items write. -/
def orderWords (o : OrderIn) : List Nat := o.items.filterMap fun i =>
  if i.kind.toNat = kindReg then some i.addr.toNat
  else if i.kind.toNat = kindIx then some (indKey (i.addr.toNat / 0x10000) i.word.toNat)
  else none

/-- The key records, the withdrawals and, last, the LIFECYCLE item of an order (R384). Every change of the life cycle wipes the mitten
region; a part that is BLANK or in RMA runs with every SO register at its reset value (R373). -/
def State.applyKeys (s : State) (o : OrderIn) : State :=
  let s1 := o.keys.foldl State.installKey s
  let s2 := (o.items.filter fun i => i.kind.toNat = kindWithdraw).foldl (fun (t : State) i => t.withdraw i.value) s1
  let s3 := (orderLives o).foldl State.setLife s2
  let s4 := if s3.otp.cycle = s.otp.cycle then s3 else s3.wipeMitten
  if s4.otp.cycle = lifeBlank || s4.otp.cycle = lifeRma then s4.soReset else s4

/-- PIN_LOW stands only while TAMPER_N is armed (R397). -/
def State.pinArmed (s : State) : State :=
  if s.on Fld.CERK_TAMPER_CFG_PIN_EN then s else s.flag Fld.CERK_TAMPER_ST_PIN_LOW false

/-- TAMPER_N as a tick finds it (R397): PIN_LOW follows it while it is armed. -/
def State.pinSeen (s : State) (low : Bool) : State := s.flag Fld.CERK_TAMPER_ST_PIN_LOW (low && s.on Fld.CERK_TAMPER_CFG_PIN_EN)

/-- One accepted order applied (R384): APPLIED, or PARTIAL where items were discarded; it then waits until its keys are
durable. DEDUCED (assumption 130). -/
def State.applyOrder (s : State) (j : OrderJob) : State :=
  let x := j.order.items.foldl State.countItem (s, 0)
  let res := if x.2 = 0 then resApplied else resPartial
  let s1 := (x.1.applyKeys j.order).pinArmed.showResult res x.2
  { s1 with cerk := { s1.cerk with applied := s1.cerk.applied ++ [(j, res, x.2)] } }

/-- The accepted orders applied in verification order, of which there are at most `fuel`. -/
def State.applyOrders : Nat → State → State
  | 0, s => s
  | fuel + 1, s => match s.cerk.accepted with
    | [] => s
    | j :: l => State.applyOrders fuel (({ s with cerk := { s.cerk with accepted := l } }).applyOrder j)

/-- Brim step 2 (R16, R34, R384, R385): the accepted orders in verification order, then the shadow. -/
def State.brimApply (s : State) (phase : List Int) : State :=
  let jobs := s.cerk.accepted
  (State.applyOrders jobs.length s).applyBrim s (jobs.flatMap fun j => orderWords j.order) phase

/-- The key store's seal records as the parameter area keeps them (R387): each key wrapped with AES-256 key wrap under a key from the
KEK seed. DESIGN CHOICE (assumption 251). -/
def State.wrapped (s : State) : List (Nat × Nat × Nat × Nat) := (List.range 32).filterMap fun n =>
  let w := s.rd (indKey 0x40 n)
  if w.getLsbD 31 then
    some (n, Word.field w 15 8, Word.field w 6 0,
      wrapRegs 4 (Config.flashKey s.otp.kekSeed) (ofOctets (keyOctets (Store.get (fun _ => []) s.strm.keys n))))
  else none

/-- The CAKs of the key store as the parameter area keeps them (R387), wrapped likewise. -/
def State.wrappedCaks (s : State) : List (Nat × Nat) := s.cerk.caks.map fun c =>
  (c.1, wrapRegs 6 (Config.flashKey s.otp.kekSeed) (ofOctets (keyOctets c.2)))

/-- ORDER_COMPLETE (R384). DEDUCED (assumption 157). -/
def execOrderComplete (s : State) : Host.Outcome State Fault Refusal :=
  s.run fun s => match s.cerk.applied with
    | [] => s
    | (j, res, n) :: l =>
      ({ s with cerk := { s.cerk with applied := l },
                flash := { s.flash with seals := s.wrapped, caks := s.wrappedCaks } }).completeCmd
        j.port j.ring j.index j.cookie j.cpl opOrder res 0 n

/-- ALLOW_IMAGE_EXPIRE (R380): 60 s have passed. -/
def execAllowImageExpire (ty num : BitVec 8) (s : State) : Host.Outcome State Fault Refusal :=
  s.run fun s => s.when (s.ran (.allow ty.toNat num.toNat) 60000000000) fun s =>
    { s with cerk := { s.cerk with allow := s.cerk.allow.filter (· ≠ (ty.toNat, num.toNat)) } }

/-! ### Tamper -/

/-- A source's bit of CERK_TAMPER_ST, and its number in the entry of event 63. -/
def tamperFld : TamperSource → Fld
  | .pin => Fld.CERK_TAMPER_ST_PIN | .supply => Fld.CERK_TAMPER_ST_SUPPLY
  | .clock => Fld.CERK_TAMPER_ST_CLOCK | .temp => Fld.CERK_TAMPER_ST_TEMP

def tamperCode : TamperSource → Nat
  | .pin => 0 | .supply => 1 | .clock => 2 | .temp => 3

/-- Every seal group marked NOKEY (R393, step 2). -/
def State.allNokey (s : State) : State := (List.range 16).foldl (fun (t : State) g => t.flag (Fld.sealNokey g) true) s

/-- TAMPER_DETECT (R392, R393): the mitten region is wiped with the keys. TAMPER_N counts only while PIN_EN is 1, and no source counts in OFF. DESIGN CHOICE (assumption 156). -/
def execTamperDetect (src : TamperSource) (s : State) : Host.Outcome State Fault Refusal :=
  s.run fun s => s.when (s.powered && (src ≠ .pin || s.on Fld.CERK_TAMPER_CFG_PIN_EN)) fun s =>
    let s1 := (((s.flag Fld.CERK_TAMPER_ST_TAMPERED true).flag (tamperFld src) true).bump Fld.CERK_TAMPER_ST_COUNT 1)
    let s2 := if src = .pin then s1.flag Fld.CERK_TAMPER_ST_PIN_LOW true else s1
    let s3 := s2.wipeKeys.allNokey.wipeMitten
    { s3 with cerk := { s3.cerk with erasing := s3.cerk.erasing ++ [src] } }

/-- TAMPER_FLASH_ERASED (R393, step 4; R396): event 63 and an entry for each source that was confirmed before. -/
def execTamperFlashErased (s : State) : Host.Outcome State Fault Refusal :=
  s.run fun s => s.when (!s.cerk.erasing.isEmpty) fun s =>
    s.cerk.erasing.foldl (fun (t : State) src => t.event63 1 [Config.cause63 1, tamperCode src])
      { s with flash := { s.flash with seals := [], caks := [] }, cerk := { s.cerk with erasing := [] } }

end Sys2Proof.Machine
end

