-- ==== Sys2Proof/Machine/Brim.lean ====
section
/-! DEFINITION. The tick (R11) and its brim (R16), and the step of the counter at a boundary (R61). -/

namespace Sys2Proof.Machine

/-! ### Time -/

/-- The counter brought forward to an instant of the tick in progress, `lead` ns before `t`, with the nanoseconds that pass
(R38). -/
def State.passTo (s : State) (t lead : Nat) : State :=
  let c := s.time.counter.toNat
  if c + lead < t then
    { s with time := { s.time with counter := BitVec.ofNat 64 (t - lead), now := s.time.now + (t - lead - c) } }
  else s

/-- The boundary that ends the tick in progress. -/
def State.boundary (s : State) : Nat := s.time.tickStart.toNat + s.time.tickLen

/-- A brim without an exchange counts as a miss (R20); the new tick has had none yet. -/
def State.countMiss (s : State) : State :=
  { s with time := { s.time with misses := if s.time.exchanged then s.time.misses else s.time.misses + 1, exchanged := false } }

/-- A tick begins at the boundary (R11, R42): its number and its length. -/
def State.newTick (s : State) : State :=
  if s.time.stepped then { s with time := { s.time with stepped := false } }
  else
    let b := s.boundary
    let s1 := (s.passTo b 0).countMiss
    { s1 with time := { s1.time with tickStart := BitVec.ofNat 64 b, tickLen := 125000,
                                     tick := BitVec.ofNat 32 (b / 125000), brim := false } }

/-- The grid that a state stands on: the counter, the tick in progress and its brim. The phases of a tick and the steps of a
brim take place on it and move none of it. -/
def State.onGrid (s t : State) : State :=
  { t with time := { t.time with counter := s.time.counter, now := s.time.now, tickStart := s.time.tickStart,
                                 tickLen := s.time.tickLen, tick := s.time.tick, brim := s.time.brim,
                                 exchanged := s.time.exchanged, misses := s.time.misses } }

/-! ### TICK_START -/

/-- TICK_START (R11): the boundary, then Present, Mix and Graph. DESIGN CHOICE (assumptions 189, 191). -/
def execTickStart (t : TickIn) (s : State) : Host.Outcome State Fault Refusal :=
  s.runF fun s =>
    let s1 := (s.newTick.pinSeen t.tamperLow).clipWatch.synProgress
    let s2 := (((s1.clearInputs).strmPresent).lapPresent t.tdm t.aes t.aesTx).playPresent
    s1.onGrid (((s2.ampTick t.amp t.rails).mixTick).graphPhase t.cycles)

/-! ### BRIM_START -/

/-- Each overrun of an alarm-tagged job, which the pairing weighs for 1 s and the return to LIVE for 2 s (R224, R320, R330). DESIGN CHOICE
(assumption 194). -/
def State.noteOverrun (s : State) (overrun : List Nat) : State :=
  { s with crown := { s.crown with
      overruns := List.replicate (s.alarmOverruns overrun) s.time.now ++
        s.crown.overruns.filter fun t => s.time.now < t + 2000000000 } }

/-- Brim step 1, the take point (R16, R223, R419): the overruns, the CAP rings, the latches of the sinks, the packetiser, the
priority gate and the LAP buffers, and the domains that enter their restart. -/
def State.takePoint (s : State) (overrun skipped : List Nat) : State :=
  let s1 := (s.noteOverrun overrun).graphTake overrun skipped
  (((((s1.capTakeAll).takeSinks).strmTake).gateTake).lapTake).domTake.ringsMove

/-- The image that a graph swap has made active is the one that ATTEST restores (R370, step 7). DEDUCED (assumption 195). -/
def State.keepGraph (s old : State) : State :=
  if s.on Fld.DSP_STATUS_ACT_BANK = old.on Fld.DSP_STATUS_ACT_BANK then s
  else { s with flash := { s.flash with graph := s.actBank.map fun b => (b.img, b.octets) } }

/-- Brim step 3 (R16): the firmware's bank, the graph's banks, and the address map of a repair (R365). -/
def State.brimSwaps (s : State) : State :=
  let s1 := s.fwBrim
  (s1.graphBrim.keepGraph s1).repairBrim

/-- The brim of the tick in progress has begun, 6.25 µs before its end (R11), and its exchange takes place (R20). -/
def State.enterBrim (s : State) : State :=
  let s1 := s.passTo s.boundary 6250
  { s1 with time := { s1.time with brim := true, exchanged := true, misses := 0 } }

/-- Event 7 of a step, at the brim of its long tick (R64). -/
def State.tellStep (s : State) : State := match s.time.stepNote with
  | some dw => ({ s with time := { s.time with stepNote := none } }).raise 7 0x08 dw
  | none => s

/-- BRIM_START (R16): the steps in their order, once in each tick, the shapers' credits having been reckoned under the settings in force
until now (R168). DESIGN CHOICE (assumptions 189, 191). -/
def execBrimStart (b : BrimIn) (s : State) : Host.Outcome State Fault Refusal :=
  s.runBrim fun s => s.when (!s.time.brim) fun s =>
    let s1 := ((s.enterBrim.tellStep.synProgress).accrueAll .a).accrueAll .b
    let s2 := (((s1.takePoint b.overrun b.skipped).brimApply b.phase).domBrim b.phase).brimSwaps
    s1.onGrid (((s2.crownExchange b.liner).modeBrim).composeLiner)

/-! ### PTP_STEP -/

/-- The registers of a step, and the words of the event that its brim raises (R64). DEDUCED (assumption 190). -/
def State.showStep (s : State) (delta : Int) (long last : Nat) : State :=
  let d := ofSigned 64 delta
  let s0 := { s with time := { s.time with stepNote := some [d % 2 ^ 32, d / 2 ^ 32, long, last] } }
  let s1 := (((s0.put Fld.TIME_STEP_LAST_HI_DELTA_HI (d / 2 ^ 32)).put Fld.TIME_STEP_LAST_LO_DELTA_LO (d % 2 ^ 32)).put
    Fld.TIME_STEP_TICK_LONG_TICK long).wrapInc Fld.TIME_STEP_SEQ_SEQ
  s1.bump Fld.TIME_STEP_COUNT_COUNT 1

/-- A step cancels an armed application (R62). -/
def State.stepDisarm (s : State) : State :=
  if s.on Fld.TOP_APPLY_STATUS_ARMED then
    (s.flag Fld.TOP_APPLY_STATUS_ARMED false).flag Fld.TOP_APPLY_STATUS_MISSED true
  else s

/-- The length of the long tick that begins where the counter is loaded with `x` (R61). -/
def longTick (x : Nat) : Nat := 125000 + (125000 - x % 125000) % 125000

/-- The counter loaded at the boundary (R61): `delta` is added to its value there. DEDUCED (assumption 190). -/
def State.stepBy (s : State) (delta : Int) : State :=
  let told := s.boundary
  let x := ((told : Int) + delta).toNat % 2 ^ 64
  let long := ((x + longTick x) / 125000 - 1) % 2 ^ 32
  let s1 := ((s.passTo told 0).countMiss)
  let s2 := { s1 with time := { s1.time with counter := BitVec.ofNat 64 x, tickStart := BitVec.ofNat 64 x, tickLen := longTick x,
                                             tick := BitVec.ofNat 32 long, brim := false, stepped := true,
                                             stepDelta := none, confirm := 0, measured := false } }
  s2.onGrid ((((s2.stepDisarm).servoPut servoMeasuring).showStep delta long s.time.tick.toNat).strmStep long
    (delta < 0))

/-- PTP_STEP (R60 to R64): a step that has fallen due takes place at the next boundary, carried forward to it, if the step mode and
the selector still allow it; in ALARM it is deferred. DEDUCED (assumption 13). -/
def execPtpStep (s : State) : Host.Outcome State Fault Refusal :=
  s.runF fun s => match s.time.stepDelta with
    | none => s
    | some d =>
      if s.inAlarm then
        ({ s with time := { s.time with stepDelta := none, deferred := true } }).servoShow
      else if !s.stepAllowed || !s.servoMay then { s with time := { s.time with stepDelta := none } }.servoShow
      else if s.time.stepped then s
      else s.stepBy (d + s.stepCarry)

end Sys2Proof.Machine
end

