-- ==== Sys2Proof/Machine/Late.lean ====
section
/-! DEFINITION. Starts and losses of the output synthesizers (R107, R112), which the power stage follows, and the scrubber (R436,
R437, R444). -/

namespace Sys2Proof.Machine

/-- SYN_OUTPUT_START (R107): the output starts in the band that the search has found; SYN2 in the modes that power the audio
path (R352). A command that names another band is no start of this output. DESIGN CHOICE (assumption 230). -/
def execSynOutputStart (n : Fin 6) (band : BitVec 4) (s : State) : Host.Outcome State Fault Refusal :=
  s.runF fun s => s.when (s.mayStartSyn n && band.toNat = s.bandFor n) fun s => (s.startSyn n band.toNat).ampSettle

/-- SYN_LOCK_LOSS (R112). -/
def execSynLockLoss (src : LossSource) (s : State) : Host.Outcome State Fault Refusal :=
  s.runF fun s => (s.synLoss src).ampSettle

/-! ### The scrubber -/

/-- A frame of a pool item given up wherever it waits: in a transmit class, in transmission, or for a NETRX ring. -/
def State.dropPoolFrames (s : State) (x : Nat) (p : Port) : State :=
  let n := s.net p
  let mine := n.queues.flatten.filter fun t => t.item = some x
  let s1 := s.setNet p { n with queues := n.queues.map fun l => l.filter fun t => t.item ≠ some x }
  let s2 := mine.foldl (fun (t : State) f => t.dropFrame p f 3) s1
  let s3 := match n.inflight with
    | some f => if f.item = some x then s2.abortFrame p else s2
    | none => s2
  s3.setPort p { s3.portSt p with held := (s3.portSt p).held.filter (·.item ≠ x) }

/-- The item that holds an uncorrectable cell is discarded whole, and counted for each queue that holds it (R437). -/
def State.eccDrop (s : State) : EccItem → State
  | .pool x => match s.mem.items.find? (·.id = x) with
    | none => s
    | some y =>
      let s1 := y.holders.foldl (fun (t : State) q => t.bump (Fld.qEccDrop q) 1) s
      (((s1.dropPoolFrames x .a).dropPoolFrames x .b).dropItem x)
  | .panelRx i =>
    if i < s.pnl.rx.length then
      (({ s with pnl := { s.pnl with rx := s.pnl.rx.eraseIdx i } }).bump (Fld.qEccDrop 24) 1).settlePool
    else s
  | .panelTx i =>
    if i < s.pnl.tx.length then
      (({ s with pnl := { s.pnl with tx := s.pnl.tx.eraseIdx i } }).bump (Fld.qEccDrop 25) 1).settlePool
    else s

/-- The entry of the hatband log, or the liner record behind the log, that holds word `w` of bank 62 reads as zero. -/
def State.eccRetained (s : State) (w : Nat) : State :=
  if w < 16384 then { s with log := { s.log with bank := Store.erase (w / 4) s.log.bank } }
  else { s with pair := { s.pair with liner := none } }

/-- The order or image under verification ends with FORMAT (R437). DESIGN CHOICE (assumption 158). -/
def State.eccMitten (s : State) : State := match s.cerk.queue with
  | [] => s.abandonImage
  | j :: l => ({ s with cerk := { s.cerk with queue := l } }.rejectOrder j resFormat).showOrders

/-- What the master that reads an uncorrectable word of bank `b` does (R437). DEDUCED (assumption 193). -/
def State.eccOutcome (s : State) (b w : Nat) (item : Option EccItem) : State :=
  if b < 16 then (match item with
    | some i => s.eccDrop i
    | none => s)
  else if 59 ≤ b && b ≤ 61 then s.autoRestart 3
  else if b = 62 then s.eccRetained w
  else if b = 63 then s.eccMitten
  else s

/-- The bank whose content a spare holds. DEDUCED (assumption 193). -/
def State.contentOf (s : State) (b : Nat) : Nat :=
  if b = 64 && s.on Fld.PLAT_REPAIR_ST_S0_USED then s.get Fld.PLAT_REPAIR_ST_S0_BANK
  else if b = 65 && s.on Fld.PLAT_REPAIR_ST_S1_USED then s.get Fld.PLAT_REPAIR_ST_S1_BANK
  else b

/-- An uncorrectable link word (R444): its queue is flushed, and the cell leaves use. -/
def State.linkLost (s : State) (q : Nat) : State :=
  let use := s.qUse q
  ((((s.emptyQueue q).bump (Fld.qFlushed q) (use - s.flightCells q)).bump Fld.MEM_POOL_RSV_LOST_CELLS 1).settlePool).logNote
    codeCommand 0x48 originPart [q, use]

/-- One error that the scrubber meets; powered-down banks are not scrubbed (R436). DESIGN CHOICE (assumption 192). -/
def State.scrubOne (s : State) : EccFind → State
  | .bank b bad item =>
    s.when (s.bankPowered b.val) fun s =>
      if bad then (s.bankUncorrectable b.val s.mem.scrub Config.scrubMaster).eccOutcome (s.contentOf b.val) s.mem.scrub item
      else s.bankCorrected (s.countedBank b.val)
  | .link q => s.when s.powered fun s => s.linkLost q.val

/-- SCRUB (R436, R437, R444): every 16 µs the scrubber reads one word of each powered bank, and goes on to the next. DEDUCED (assumption 193). -/
def execScrub (found : List EccFind) (s : State) : Host.Outcome State Fault Refusal :=
  s.runF fun s => s.when (s.powered && s.ran .scrub 16000) fun s =>
    let s1 := found.foldl State.scrubOne (s.start .scrub)
    { s1 with mem := { s1.mem with scrub := (s.mem.scrub + 1) % 32768 } }

end Sys2Proof.Machine
end

