-- ==== Sys2Proof/Machine/Dispatch.lean ====
section
/-! DEFINITION. One arm for each command: a direct call of its meaning. -/

namespace Sys2Proof.Machine

def exec (i : Instr) (s : State) : Host.Outcome State Fault Refusal :=
  match i with
  | .tickStart t => Sys2Proof.Machine.execTickStart t s
  | .brimStart b => Sys2Proof.Machine.execBrimStart b s
  | .schedLost => Sys2Proof.Machine.execSchedLost s
  | .applyHold g hold => Sys2Proof.Machine.execApplyHold g hold s
  | .applyHoldLimit g limit => Sys2Proof.Machine.execApplyHoldLimit g limit s
  | .applyArm g => Sys2Proof.Machine.execApplyArm g s
  | .applyDisarm g => Sys2Proof.Machine.execApplyDisarm g s
  | .applyTickWrite g tick => Sys2Proof.Machine.execApplyTickWrite g tick s
  | .holdLimitExpire => Sys2Proof.Machine.execHoldLimitExpire s
  | .timeSysLoRead g => Sys2Proof.Machine.execTimeSysLoRead g s
  | .syncMeasurement m => Sys2Proof.Machine.execSyncMeasurement m s
  | .ptpStep => Sys2Proof.Machine.execPtpStep s
  | .refActivityLoss n phase => Sys2Proof.Machine.execRefActivityLoss n phase s
  | .refGlitch n phase => Sys2Proof.Machine.execRefGlitch n phase s
  | .refEvaluation e => Sys2Proof.Machine.execRefEvaluation e s
  | .refQualify n => Sys2Proof.Machine.execRefQualify n s
  | .waitToRestoreExpire n phase => Sys2Proof.Machine.execWaitToRestoreExpire n phase s
  | .refLock => Sys2Proof.Machine.execRefLock s
  | .refLockLoss => Sys2Proof.Machine.execRefLockLoss s
  | .bandwidthStep => Sys2Proof.Machine.execBandwidthStep s
  | .holdoverValidityExpire => Sys2Proof.Machine.execHoldoverValidityExpire s
  | .holdoverLearnSample => Sys2Proof.Machine.execHoldoverLearnSample s
  | .holdoverModelSave => Sys2Proof.Machine.execHoldoverModelSave s
  | .holdoverModelReset g => Sys2Proof.Machine.execHoldoverModelReset g s
  | .xoInFail phase => Sys2Proof.Machine.execXoInFail phase s
  | .corePllLock n => Sys2Proof.Machine.execCorePllLock n s
  | .synOutputStart n band => Sys2Proof.Machine.execSynOutputStart n band s
  | .synLockLoss src => Sys2Proof.Machine.execSynLockLoss src s
  | .synRelock x => Sys2Proof.Machine.execSynRelock x s
  | .synStuck n => Sys2Proof.Machine.execSynStuck n s
  | .synRelockCmd g mask => Sys2Proof.Machine.execSynRelockCmd g mask s
  | .synPhaseStep g n ps => Sys2Proof.Machine.execSynPhaseStep g n ps s
  | .synPhaseStepDone n => Sys2Proof.Machine.execSynPhaseStepDone n s
  | .pulseEmit k => Sys2Proof.Machine.execPulseEmit k s
  | .pulseRealign g mask => Sys2Proof.Machine.execPulseRealign g mask s
  | .linkChange p speed eee => Sys2Proof.Machine.execLinkChange p speed eee s
  | .frameReceive p f m => Sys2Proof.Machine.execFrameReceive p f m s
  | .frameTransmit p => Sys2Proof.Machine.execFrameTransmit p s
  | .lpiEnter p => Sys2Proof.Machine.execLpiEnter p s
  | .speedTargetEval p target => Sys2Proof.Machine.execSpeedTargetEval p target s
  | .speedPendingEnd p => Sys2Proof.Machine.execSpeedPendingEnd p s
  | .speedRetrainTimeout p => Sys2Proof.Machine.execSpeedRetrainTimeout p s
  | .speedSettleTimeout p => Sys2Proof.Machine.execSpeedSettleTimeout p s
  | .speedSuspendExpire p => Sys2Proof.Machine.execSpeedSuspendExpire p s
  | .nodeAnnounceSend => Sys2Proof.Machine.execNodeAnnounceSend s
  | .nodeAnnounceReceive p m => Sys2Proof.Machine.execNodeAnnounceReceive p m s
  | .nodeEntryExpire n => Sys2Proof.Machine.execNodeEntryExpire n s
  | .nodeConflictClear => Sys2Proof.Machine.execNodeConflictClear s
  | .ringCheckSend => Sys2Proof.Machine.execRingCheckSend s
  | .ringCheckReceive x => Sys2Proof.Machine.execRingCheckReceive x s
  | .ringCheckTimeout p => Sys2Proof.Machine.execRingCheckTimeout p s
  | .dupEntryForget t src => Sys2Proof.Machine.execDupEntryForget t src s
  | .ringOriginateResume => Sys2Proof.Machine.execRingOriginateResume s
  | .frerRecoveryReset flow => Sys2Proof.Machine.execFrerRecoveryReset flow s
  | .supervisionSend => Sys2Proof.Machine.execSupervisionSend s
  | .mkaHello p => Sys2Proof.Machine.execMkaHello p s
  | .mkpduReceive p m => Sys2Proof.Machine.execMkpduReceive p m s
  | .oldSaDelete p => Sys2Proof.Machine.execOldSaDelete p s
  | .mkaPeerLoss p => Sys2Proof.Machine.execMkaPeerLoss p s
  | .qbvCycleStart p => Sys2Proof.Machine.execQbvCycleStart p s
  | .qbvEntryEnd p => Sys2Proof.Machine.execQbvEntryEnd p s
  | .pauseReceive p pfc quanta => Sys2Proof.Machine.execPauseReceive p pfc quanta s
  | .pauseQuantaExpire p c => Sys2Proof.Machine.execPauseQuantaExpire p c s
  | .pauseWatchdog p c => Sys2Proof.Machine.execPauseWatchdog p c s
  | .pauseHoldoffEnd p c => Sys2Proof.Machine.execPauseHoldoffEnd p c s
  | .streamPacketReceive p k => Sys2Proof.Machine.execStreamPacketReceive p k s
  | .flowLost flow => Sys2Proof.Machine.execFlowLost flow s
  | .streamPacketRelease flow => Sys2Proof.Machine.execStreamPacketRelease flow s
  | .txSchedMiss p flow => Sys2Proof.Machine.execTxSchedMiss p flow s
  | .sealEpochAdvance g => Sys2Proof.Machine.execSealEpochAdvance g s
  | .zcTimeout inp out => Sys2Proof.Machine.execZcTimeout inp out s
  | .coefSwapCmd g atTick => Sys2Proof.Machine.execCoefSwapCmd g atTick s
  | .coefSwapCancel g => Sys2Proof.Machine.execCoefSwapCancel g s
  | .coefTickWrite g tick => Sys2Proof.Machine.execCoefTickWrite g tick s
  | .graphSwapArm g => Sys2Proof.Machine.execGraphSwapArm g s
  | .graphSwapCancel g => Sys2Proof.Machine.execGraphSwapCancel g s
  | .graphTickWrite g tick => Sys2Proof.Machine.execGraphTickWrite g tick s
  | .jobReenable g job => Sys2Proof.Machine.execJobReenable g job s
  | .ansWindowEnd inst => Sys2Proof.Machine.execAnsWindowEnd inst s
  | .tdmSlaveLocked p rate => Sys2Proof.Machine.execTdmSlaveLocked p rate s
  | .tdmPrerollEnd p => Sys2Proof.Machine.execTdmPrerollEnd p s
  | .tdmClkLoss p => Sys2Proof.Machine.execTdmClkLoss p s
  | .tdmClkHoldEnd p => Sys2Proof.Machine.execTdmClkHoldEnd p s
  | .tdmClkReturn p rate => Sys2Proof.Machine.execTdmClkReturn p rate s
  | .tdmRetrack p rate => Sys2Proof.Machine.execTdmRetrack p rate s
  | .tdmStopComplete p => Sys2Proof.Machine.execTdmStopComplete p s
  | .aes3Lock r rate => Sys2Proof.Machine.execAes3Lock r rate s
  | .aes3Unlock r => Sys2Proof.Machine.execAes3Unlock r s
  | .aes3BlockEnd r b => Sys2Proof.Machine.execAes3BlockEnd r b s
  | .aes3ValidityMute r c => Sys2Proof.Machine.execAes3ValidityMute r c s
  | .aes3TxStart t => Sys2Proof.Machine.execAes3TxStart t s
  | .aes3TxStop t => Sys2Proof.Machine.execAes3TxStop t s
  | .ampPrechargeDone c => Sys2Proof.Machine.execAmpPrechargeDone c s
  | .ampCurrentLimit x => Sys2Proof.Machine.execAmpCurrentLimit x s
  | .ampShortLatch c periods => Sys2Proof.Machine.execAmpShortLatch c periods s
  | .ampEnergyDumpEnd c => Sys2Proof.Machine.execAmpEnergyDumpEnd c s
  | .ampProbeStart c => Sys2Proof.Machine.execAmpProbeStart c s
  | .ampProbeEnd c result => Sys2Proof.Machine.execAmpProbeEnd c result s
  | .ampRetry c => Sys2Proof.Machine.execAmpRetry c s
  | .ampRetryRestore c => Sys2Proof.Machine.execAmpRetryRestore c s
  | .ampDcFault c => Sys2Proof.Machine.execAmpDcFault c s
  | .ampThermalTrip c tj => Sys2Proof.Machine.execAmpThermalTrip c tj s
  | .ampRailFault rail x => Sys2Proof.Machine.execAmpRailFault rail x s
  | .ampRailRestore rail v => Sys2Proof.Machine.execAmpRailRestore rail v s
  | .ampSpareTakeover c => Sys2Proof.Machine.execAmpSpareTakeover c s
  | .ampSpareSettled => Sys2Proof.Machine.execAmpSpareSettled s
  | .ampSpareRelease g => Sys2Proof.Machine.execAmpSpareRelease g s
  | .ampSpareReturn => Sys2Proof.Machine.execAmpSpareReturn s
  | .ampChannelClear g mask => Sys2Proof.Machine.execAmpChannelClear g mask s
  | .lineRoundStart => Sys2Proof.Machine.execLineRoundStart s
  | .lineTestSlotEnd t => Sys2Proof.Machine.execLineTestSlotEnd t s
  | .lineTestNow g mask => Sys2Proof.Machine.execLineTestNow g mask s
  | .lineStale c => Sys2Proof.Machine.execLineStale c s
  | .earthFaultMeasure a => Sys2Proof.Machine.execEarthFaultMeasure a s
  | .efLocate g => Sys2Proof.Machine.execEfLocate g s
  | .efLocateStepEnd d a => Sys2Proof.Machine.execEfLocateStepEnd d a s
  | .lineCal g mask => Sys2Proof.Machine.execLineCal g mask s
  | .lineCalStored c => Sys2Proof.Machine.execLineCalStored c s
  | .crownLaneCycle x => Sys2Proof.Machine.execCrownLaneCycle x s
  | .laneRepairDone lane => Sys2Proof.Machine.execLaneRepairDone lane s
  | .laneOscCheck differs => Sys2Proof.Machine.execLaneOscCheck differs s
  | .trigSample mohm => Sys2Proof.Machine.execTrigSample mohm s
  | .alarmStartCmd g value => Sys2Proof.Machine.execAlarmStartCmd g value s
  | .contentTurnEnd entry => Sys2Proof.Machine.execContentTurnEnd entry s
  | .liveFallbackReturn => Sys2Proof.Machine.execLiveFallbackReturn s
  | .fallbackClockReturn => Sys2Proof.Machine.execFallbackClockReturn s
  | .pairStartupDecide high => Sys2Proof.Machine.execPairStartupDecide high s
  | .pairClaim => Sys2Proof.Machine.execPairClaim s
  | .pairLinerClaim => Sys2Proof.Machine.execPairLinerClaim s
  | .pairSettleDone => Sys2Proof.Machine.execPairSettleDone s
  | .pairYieldRelease => Sys2Proof.Machine.execPairYieldRelease s
  | .pairYieldFail => Sys2Proof.Machine.execPairYieldFail s
  | .standbyRecordSend => Sys2Proof.Machine.execStandbyRecordSend s
  | .standbyRecordReceive x => Sys2Proof.Machine.execStandbyRecordReceive x s
  | .linerLoss => Sys2Proof.Machine.execLinerLoss s
  | .standbyRecordLoss => Sys2Proof.Machine.execStandbyRecordLoss s
  | .proofSwap g => Sys2Proof.Machine.execProofSwap g s
  | .proofEnd g => Sys2Proof.Machine.execProofEnd g s
  | .proofWindowEnd => Sys2Proof.Machine.execProofWindowEnd s
  | .modbusRequest r => Sys2Proof.Machine.execModbusRequest r s
  | .panelByteReceive byte err => Sys2Proof.Machine.execPanelByteReceive byte err s
  | .panelGapClose => Sys2Proof.Machine.execPanelGapClose s
  | .panelRxPop g => Sys2Proof.Machine.execPanelRxPop g s
  | .panelTxWrite g data => Sys2Proof.Machine.execPanelTxWrite g data s
  | .panelRxFlush g => Sys2Proof.Machine.execPanelRxFlush g s
  | .panelRxDiscard g => Sys2Proof.Machine.execPanelRxDiscard g s
  | .panelTxDiscard g => Sys2Proof.Machine.execPanelTxDiscard g s
  | .powerValid v => Sys2Proof.Machine.execPowerValid v s
  | .attestComplete a => Sys2Proof.Machine.execAttestComplete a s
  | .modeRequest g target => Sys2Proof.Machine.execModeRequest g target s
  | .powerDownDone => Sys2Proof.Machine.execPowerDownDone s
  | .wakeRegulatorsReady => Sys2Proof.Machine.execWakeRegulatorsReady s
  | .wakeBanksZeroed => Sys2Proof.Machine.execWakeBanksZeroed s
  | .vinCtlWarn v => Sys2Proof.Machine.execVinCtlWarn v s
  | .vinCtlWarnRestore v => Sys2Proof.Machine.execVinCtlWarnRestore v s
  | .vinCtlUndervoltage v => Sys2Proof.Machine.execVinCtlUndervoltage v s
  | .vinCtlOvervoltage v => Sys2Proof.Machine.execVinCtlOvervoltage v s
  | .vinCtlRestore v => Sys2Proof.Machine.execVinCtlRestore v s
  | .vinCtlLoss v => Sys2Proof.Machine.execVinCtlLoss v s
  | .pfwAssert => Sys2Proof.Machine.execPfwAssert s
  | .pfwRelease => Sys2Proof.Machine.execPfwRelease s
  | .pfwDelayExpire => Sys2Proof.Machine.execPfwDelayExpire s
  | .pfwShelterRestore => Sys2Proof.Machine.execPfwShelterRestore s
  | .tempSample die base => Sys2Proof.Machine.execTempSample die base s
  | .moduleThermalShutdown => Sys2Proof.Machine.execModuleThermalShutdown s
  | .thermalRestore => Sys2Proof.Machine.execThermalRestore s
  | .domainRestart g mask => Sys2Proof.Machine.execDomainRestart g mask s
  | .domainRestartReady d => Sys2Proof.Machine.execDomainRestartReady d s
  | .watchdogWarn => Sys2Proof.Machine.execWatchdogWarn s
  | .watchdogTimeout => Sys2Proof.Machine.execWatchdogTimeout s
  | .lockstepMismatch => Sys2Proof.Machine.execLockstepMismatch s
  | .fwSwitch g => Sys2Proof.Machine.execFwSwitch g s
  | .fwSwitchCancel g => Sys2Proof.Machine.execFwSwitchCancel g s
  | .fwPreloadDone => Sys2Proof.Machine.execFwPreloadDone s
  | .fwProbationEnd healthy => Sys2Proof.Machine.execFwProbationEnd healthy s
  | .repairRequest g bank => Sys2Proof.Machine.execRepairRequest g bank s
  | .repairCopyDone => Sys2Proof.Machine.execRepairCopyDone s
  | .repairMapStored => Sys2Proof.Machine.execRepairMapStored s
  | .order p ring cookie => Sys2Proof.Machine.execOrder p ring cookie s
  | .orderVerified tamperLow => Sys2Proof.Machine.execOrderVerified tamperLow s
  | .orderComplete => Sys2Proof.Machine.execOrderComplete s
  | .allowImageExpire ty num => Sys2Proof.Machine.execAllowImageExpire ty num s
  | .tamperDetect src => Sys2Proof.Machine.execTamperDetect src s
  | .tamperFlashErased => Sys2Proof.Machine.execTamperFlashErased s
  | .perstAssert p => Sys2Proof.Machine.execPerstAssert p s
  | .ringStart p ring cfg => Sys2Proof.Machine.execRingStart p ring cfg s
  | .ringStop p ring => Sys2Proof.Machine.execRingStop p ring s
  | .doorbell p ring prod descs => Sys2Proof.Machine.execDoorbell p ring prod descs s
  | .fwImage p ring header => Sys2Proof.Machine.execFwImage p ring header s
  | .graphImage p ring img cookie => Sys2Proof.Machine.execGraphImage p ring img cookie s
  | .msgImage p ring cookie => Sys2Proof.Machine.execMsgImage p ring cookie s
  | .msgDelete p ring => Sys2Proof.Machine.execMsgDelete p ring s
  | .nop p ring => Sys2Proof.Machine.execNop p ring s
  | .hostFrameTransmit p ring f => Sys2Proof.Machine.execHostFrameTransmit p ring f s
  | .netrxHoldExpire p ring => Sys2Proof.Machine.execNetrxHoldExpire p ring s
  | .evtqBufferClose p ring => Sys2Proof.Machine.execEvtqBufferClose p ring s
  | .msixModerationEnd p ring => Sys2Proof.Machine.execMsixModerationEnd p ring s
  | .dmaError p ring => Sys2Proof.Machine.execDmaError p ring s
  | .heartbeat p value => Sys2Proof.Machine.execHeartbeat p value s
  | .hostLost p linkDown => Sys2Proof.Machine.execHostLost p linkDown s
  | .semaphoreAcquire p n token tie => Sys2Proof.Machine.execSemaphoreAcquire p n token tie s
  | .semaphoreRelease p n token => Sys2Proof.Machine.execSemaphoreRelease p n token s
  | .semaphoreForce g n => Sys2Proof.Machine.execSemaphoreForce g n s
  | .hostQuotaWrite p value => Sys2Proof.Machine.execHostQuotaWrite p value s
  | .msixUnmask p v => Sys2Proof.Machine.execMsixUnmask p v s
  | .scrub found => Sys2Proof.Machine.execScrub found s
  | .eccWindowEnd b => Sys2Proof.Machine.execEccWindowEnd b s
  | .exchangeWrite m addr be data met ecc => Sys2Proof.Machine.execExchangeWrite m addr be data met ecc s
  | .exchangeSet m addr be data met ecc => Sys2Proof.Machine.execExchangeSet m addr be data met ecc s
  | .exchangeClear m addr be data met ecc => Sys2Proof.Machine.execExchangeClear m addr be data met ecc s
  | .queueFlush g q => Sys2Proof.Machine.execQueueFlush g q s
  | .registerWrite g off be data kind => Sys2Proof.Machine.execRegisterWrite g off be data kind s
  | .clearOnRead g off be kind => Sys2Proof.Machine.execClearOnRead g off be kind s
  | .blockReset g code data => Sys2Proof.Machine.execBlockReset g code data s
  | .idataRead g code be => Sys2Proof.Machine.execIdataRead g code be s
  | .idataWrite g code be data => Sys2Proof.Machine.execIdataWrite g code be data s
  | .idataWriteComplete g => Sys2Proof.Machine.execIdataWriteComplete g s
  | .unlockKey p key => Sys2Proof.Machine.execUnlockKey p key s
  | .unlockExpire p => Sys2Proof.Machine.execUnlockExpire p s
  | .evtRawClear g hi mask => Sys2Proof.Machine.execEvtRawClear g hi mask s
  | .eventTest g src => Sys2Proof.Machine.execEventTest g src s
  | .logEntryWrite => Sys2Proof.Machine.execLogEntryWrite s
  | .logArchiveAppend => Sys2Proof.Machine.execLogArchiveAppend s
  | .logFreeze g => Sys2Proof.Machine.execLogFreeze g s
  | .logUnfreeze g => Sys2Proof.Machine.execLogUnfreeze g s
  | .logClear g => Sys2Proof.Machine.execLogClear g s
  | .ptpMessageSend kind p => Sys2Proof.Machine.execPtpMessageSend kind p s
  | .grandmasterLoss => Sys2Proof.Machine.execGrandmasterLoss s
  | .tdmRetrackEnd p rate => Sys2Proof.Machine.execTdmRetrackEnd p rate s
  | .aes3Retrack r rate => Sys2Proof.Machine.execAes3Retrack r rate s
  | .aes3RetrackEnd r rate => Sys2Proof.Machine.execAes3RetrackEnd r rate s
  | .aes3ValidityUnmute r c => Sys2Proof.Machine.execAes3ValidityUnmute r c s
  | .panelCharacterSent => Sys2Proof.Machine.execPanelCharacterSent s
  | .pcieConfigWrite p bme msixEn fmask => Sys2Proof.Machine.execPcieConfigWrite p bme msixEn fmask s
  | .pcieLinkUp p gen wide => Sys2Proof.Machine.execPcieLinkUp p gen wide s
  | .proofPermanentJudge => Sys2Proof.Machine.execProofPermanentJudge s

end Sys2Proof.Machine
end

