-- ==== Sys2Proof/Machine/Step.lean ====
section
/-! DEFINITION. The step: the command at the front of the queue, or, with none waiting, one edge of the system counter. -/

namespace Sys2Proof.Machine

/-- One edge of the counter while nothing waits (R38): 4 ns, up to the next instant at which a command is due, which is the
brim of the tick in progress or the boundary behind it. DESIGN CHOICE (assumption 3). -/
def State.idle (s : State) : State :=
  if !s.powered then s
  else if s.time.brim then s.passTo (min (s.time.counter.toNat + 4) s.boundary) 0
  else s.passTo (min (s.time.counter.toNat + 4 + 6250) s.boundary) 6250

/-- One step of the part: the commands that wait take effect one at a time, first in first out. DESIGN CHOICE (assumption 199). -/
def step (s : State) : Host.Outcome State Fault Refusal := match s.pending with
  | [] => .next s.idle
  | c :: l => exec c { s with pending := l }

/-- The command that a word of the table spells put at the front of the queue; the state unchanged where it spells none. DESIGN CHOICE (assumption 2). -/
def State.withFetchWord (s : State) (nbits w : Nat) : State := match decodeTableWord nbits w with
  | some c => { s with pending := c :: s.pending }
  | none => s

end Sys2Proof.Machine
end

