-- ==== Sys2Proof/Safety.lean ====
section
/-! DEFINITION. The terms in which the claims speak: a command answered by a next state of which something holds, and the
invariants of the state. -/

namespace Sys2Proof.Machine

/-- A command runs to its end at a state and leaves one of which `P` holds. -/
def Answers (c : Instr) (s : State) (P : State → Prop) : Prop := ∃ t, exec c s = .next t ∧ P t

/-- Whether every register outside a set of keys reads as before. -/
def State.KeepsRegs (c : Nat → Bool) (s t : State) : Prop := ∀ k, c k = false → t.rd k = s.rd k

/-- The registers that telling reaches: those of EVT, LOG and the two HIF blocks (R466), and TOP_MODE_STATUS. -/
def tellKey (k : Nat) : Bool := k = 0x20 || [1, 2, 4, 5].contains (keyCode k)

/-- The exchange RAM stands in its canonical form (R439): addresses strictly rising below 64 KiB, no listed octet 0. -/
def State.Inv (s : State) : Prop := Memory.wf s.mem.exch = true

/-- The masters' accesses of the exchange RAM (R440, R441), and the loss of the module's supply, which empties it. -/
def touchesExch : Instr → Bool
  | .exchangeWrite .. => true
  | .exchangeSet .. => true
  | .exchangeClear .. => true
  | .vinCtlLoss _ => true
  | .powerValid _ => true
  | _ => false

/-- Whether the hatband log has taken an entry of a source with an origin, and with an address and a reason (R459), or, its
intake full, has counted a drop (R480). -/
def State.loggedAs (s t : State) (src org dw4 reason : Nat) : Bool :=
  if s.logRoom then
    t.log.intake.any fun e => Word.field e.d2 23 16 = src && Word.field e.d2 11 8 = org && e.d4 = BitVec.ofNat 32 dw4
      && Word.field e.d6 15 8 = reason
  else s.log.dropped < t.log.dropped

/-! ### Frames -/

/-- The families of commands of which the frames speak: clocks and time (ch. 02 to 04), the ring (ch. 05), audio (ch. 06 to 08),
power (ch. 09, 10), alarm duty and the panel (ch. 11), the platform and Cerkeha (ch. 12, 13), the hosts, the memory, reads and
the log (ch. 14 to 16), and those that reach most of the part. -/
inductive Family where
  | clock | network | audio | power | duty | platform | host | broad
deriving DecidableEq, Repr

/-- The components of the state beside the registers; not the log, the host ports and what has been sent, which telling reaches,
nor what `step` and the runners keep. -/
inductive Part where
  | shadow | resp | free | time | tsq | refs | syn | net | rsw | mem | pnl | fab | dsp | plat | strm | lap | amp | line | crown | pair | cerk | heldW | timers | flash
deriving DecidableEq, Repr

/-- Whether a component stands as before. -/
def Part.same (s t : State) : Part → Prop
  | .shadow => t.shadow = s.shadow
  | .resp => t.resp = s.resp
  | .free => t.free = s.free
  | .time => t.time = s.time
  | .tsq => t.tsqA = s.tsqA ∧ t.tsqB = s.tsqB
  | .refs => t.refs = s.refs
  | .syn => t.syn = s.syn
  | .net => t.netA = s.netA ∧ t.netB = s.netB
  | .rsw => t.rsw = s.rsw
  | .mem => t.mem = s.mem
  | .pnl => t.pnl = s.pnl
  | .fab => t.fab = s.fab
  | .dsp => t.dsp = s.dsp
  | .plat => t.plat = s.plat
  | .strm => t.strm = s.strm
  | .lap => t.lap = s.lap
  | .amp => t.amp = s.amp
  | .line => t.line = s.line
  | .crown => t.crown = s.crown
  | .pair => t.pair = s.pair
  | .cerk => t.cerk = s.cerk
  | .heldW => t.heldW = s.heldW
  | .timers => t.timers = s.timers
  | .flash => t.flash = s.flash

/-- What a command may reach beside telling: the blocks whose registers and table words it may change, by code, and the
components. -/
structure Reach where
  family : Family
  blocks : List Nat
  parts : List Part
deriving DecidableEq, Repr

/-- The reach of each command, read from the rules that name what it changes. -/
def reach : Instr → Reach
  | .schedLost => ⟨.clock, [0x38], []⟩
  | .applyHold .. | .applyHoldLimit .. | .holdLimitExpire => ⟨.clock, [0x00], [.time]⟩
  | .applyArm .. | .applyDisarm .. | .applyTickWrite .. => ⟨.clock, [0x00], []⟩
  | .timeSysLoRead .. => ⟨.clock, [0x08], [.resp]⟩
  | .syncMeasurement .. | .refActivityLoss .. | .refGlitch .. | .waitToRestoreExpire .. | .refLockLoss
  | .holdoverValidityExpire | .grandmasterLoss => ⟨.clock, [0x08, 0x09], [.time, .refs]⟩
  | .ptpStep => ⟨.clock, [0x00, 0x08, 0x09, 0x18], [.time, .refs, .strm]⟩
  | .refEvaluation .. => ⟨.clock, [0x08, 0x09, 0x0A], [.time, .refs, .syn]⟩
  | .refQualify .. | .holdoverLearnSample => ⟨.clock, [0x09], [.refs, .timers]⟩
  | .refLock => ⟨.clock, [0x08, 0x09], [.time, .refs, .timers]⟩
  | .bandwidthStep => ⟨.clock, [], [.refs, .timers]⟩
  | .holdoverModelSave => ⟨.clock, [], [.timers, .flash]⟩
  | .holdoverModelReset .. => ⟨.clock, [0x09], [.time, .refs]⟩
  | .xoInFail .. => ⟨.clock, [0x09], [.refs]⟩
  | .corePllLock .. => ⟨.clock, [0x0A], [.syn, .timers]⟩
  | .synOutputStart .. => ⟨.clock, [0x0A, 0x30], [.time, .syn, .amp, .line, .timers]⟩
  | .synLockLoss .. => ⟨.clock, [0x0A, 0x30], [.syn, .amp, .line, .timers]⟩
  | .synRelock .. | .synRelockCmd .. | .synPhaseStepDone .. | .pulseEmit .. => ⟨.clock, [0x0A], [.syn]⟩
  | .synStuck .. => ⟨.clock, [0x0A], []⟩
  | .synPhaseStep .. => ⟨.clock, [], [.shadow]⟩
  | .pulseRealign .. => ⟨.clock, [0x0A, 0x28], [.syn, .lap]⟩
  | .ptpMessageSend .. => ⟨.clock, [0x08, 0x09, 0x10, 0x11, 0x12, 0x48], [.time, .refs, .net, .rsw, .mem, .timers]⟩
  | .linkChange .. => ⟨.network, [0x08, 0x10, 0x11, 0x12, 0x48], [.time, .tsq, .net, .rsw, .mem, .timers]⟩
  | .frameReceive ..
    => ⟨.network, [0x08, 0x09, 0x10, 0x11, 0x12, 0x13, 0x48], [.free, .time, .tsq, .refs, .net, .rsw, .mem, .timers]⟩
  | .frameTransmit .. => ⟨.network, [0x08, 0x10, 0x11, 0x13, 0x48], [.free, .time, .tsq, .net, .mem, .timers]⟩
  | .lpiEnter .. | .pauseQuantaExpire .. | .pauseHoldoffEnd .. => ⟨.network, [0x10, 0x11], []⟩
  | .speedTargetEval .. | .nodeAnnounceSend | .ringCheckSend | .supervisionSend
    => ⟨.network, [0x10, 0x11, 0x12, 0x48], [.net, .rsw, .mem, .timers]⟩
  | .speedPendingEnd .. | .speedRetrainTimeout .. => ⟨.network, [0x10, 0x11], [.net, .timers]⟩
  | .speedSettleTimeout .. => ⟨.network, [0x10, 0x11], [.net]⟩
  | .speedSuspendExpire .. | .qbvEntryEnd .. => ⟨.network, [], [.net]⟩
  | .nodeAnnounceReceive .. => ⟨.network, [0x10, 0x11, 0x12, 0x18], [.net, .rsw, .strm, .timers]⟩
  | .nodeEntryExpire .. => ⟨.network, [0x12], [.rsw]⟩
  | .nodeConflictClear => ⟨.network, [0x12, 0x18], [.strm]⟩
  | .ringCheckReceive .. | .ringCheckTimeout .. => ⟨.network, [0x10, 0x11, 0x12], [.net, .rsw]⟩
  | .dupEntryForget .. => ⟨.network, [], [.net, .rsw]⟩
  | .ringOriginateResume => ⟨.network, [], [.rsw]⟩
  | .frerRecoveryReset .. => ⟨.network, [0x12], [.net, .rsw]⟩
  | .mkaHello .. => ⟨.network, [0x10, 0x11, 0x13, 0x48], [.free, .net, .mem, .cerk, .timers]⟩
  | .mkpduReceive .. => ⟨.network, [0x13], [.net, .timers]⟩
  | .oldSaDelete .. => ⟨.network, [0x13], [.net]⟩
  | .mkaPeerLoss .. => ⟨.network, [0x13], []⟩
  | .qbvCycleStart .. => ⟨.network, [0x12], [.net]⟩
  | .pauseReceive .. | .pauseWatchdog .. => ⟨.network, [0x10, 0x11], [.timers]⟩
  | .streamPacketReceive .. => ⟨.audio, [0x12, 0x18], [.net, .rsw, .strm]⟩
  | .flowLost .. | .sealEpochAdvance .. => ⟨.audio, [0x18], [.strm]⟩
  | .streamPacketRelease .. => ⟨.audio, [0x10, 0x11, 0x12, 0x18, 0x48], [.net, .rsw, .mem, .strm]⟩
  | .txSchedMiss .. => ⟨.audio, [0x18, 0x48], [.tsq, .net, .mem, .strm]⟩
  | .zcTimeout .. => ⟨.audio, [0x20], [.fab]⟩
  | .coefSwapCmd .. | .coefSwapCancel .. | .graphSwapArm .. | .graphSwapCancel .. | .jobReenable ..
    => ⟨.audio, [0x21], [.dsp]⟩
  | .coefTickWrite .. | .graphTickWrite .. => ⟨.audio, [0x21], []⟩
  | .ansWindowEnd .. => ⟨.audio, [], [.dsp]⟩
  | .tdmSlaveLocked .. | .tdmStopComplete .. | .tdmRetrackEnd .. => ⟨.audio, [0x28], [.fab, .lap]⟩
  | .tdmPrerollEnd .. | .tdmClkHoldEnd .. => ⟨.audio, [], [.lap]⟩
  | .tdmClkLoss .. | .tdmClkReturn .. | .tdmRetrack .. | .aes3Lock .. | .aes3Unlock .. | .aes3ValidityMute ..
  | .aes3TxStart .. | .aes3TxStop .. | .aes3Retrack .. | .aes3RetrackEnd .. | .aes3ValidityUnmute ..
    => ⟨.audio, [0x28], [.lap]⟩
  | .aes3BlockEnd .. => ⟨.audio, [0x28], [.free, .lap]⟩
  | .ampPrechargeDone .. | .ampShortLatch .. | .ampProbeEnd .. => ⟨.power, [0x30, 0x31], [.amp, .line]⟩
  | .ampCurrentLimit .. | .ampProbeStart .. | .ampRetry .. => ⟨.power, [0x30], [.amp]⟩
  | .ampEnergyDumpEnd .. | .ampDcFault .. | .ampThermalTrip .. | .ampRailFault .. | .ampRailRestore ..
  | .ampSpareTakeover .. | .ampSpareSettled | .ampSpareRelease .. | .ampSpareReturn | .ampChannelClear ..
    => ⟨.power, [0x30], [.amp, .line]⟩
  | .ampRetryRestore .. => ⟨.power, [0x30], []⟩
  | .lineRoundStart | .lineTestSlotEnd .. | .lineTestNow .. | .earthFaultMeasure .. | .efLocate ..
  | .efLocateStepEnd .. | .lineCal .. => ⟨.power, [0x31], [.line]⟩
  | .lineStale .. => ⟨.power, [0x31], []⟩
  | .lineCalStored .. => ⟨.power, [0x31], [.line, .flash]⟩
  | .crownLaneCycle .. => ⟨.duty, [0x30, 0x31, 0x38, 0x39], [.amp, .line, .crown, .pair, .timers, .flash]⟩
  | .laneRepairDone .. | .trigSample .. | .alarmStartCmd .. => ⟨.duty, [0x38], [.crown]⟩
  | .laneOscCheck .. | .contentTurnEnd .. => ⟨.duty, [], [.crown]⟩
  | .liveFallbackReturn => ⟨.duty, [0x38], []⟩
  | .fallbackClockReturn => ⟨.duty, [0x30], [.amp, .line, .crown]⟩
  | .pairStartupDecide .. => ⟨.duty, [0x30, 0x38, 0x39], [.amp, .line, .crown, .pair, .timers]⟩
  | .pairClaim | .pairLinerClaim => ⟨.duty, [0x38, 0x39], [.crown, .pair, .timers]⟩
  | .pairSettleDone | .pairYieldFail => ⟨.duty, [0x30, 0x39], [.amp, .line, .pair]⟩
  | .pairYieldRelease => ⟨.duty, [0x30, 0x38, 0x39], [.amp, .line, .pair]⟩
  | .standbyRecordSend => ⟨.duty, [0x10, 0x11, 0x12, 0x48], [.net, .rsw, .mem, .timers]⟩
  | .standbyRecordReceive .. => ⟨.duty, [0x38, 0x39], [.crown, .pair]⟩
  | .linerLoss | .standbyRecordLoss => ⟨.duty, [0x39], []⟩
  | .proofSwap .. | .proofPermanentJudge => ⟨.duty, [0x39], [.pair]⟩
  | .proofEnd .. | .proofWindowEnd => ⟨.duty, [], [.pair]⟩
  | .modbusRequest .. => ⟨.duty, [0x38, 0x3A], [.pnl, .crown, .timers]⟩
  | .panelByteReceive .. => ⟨.duty, [0x3A, 0x48], [.pnl, .timers]⟩
  | .panelGapClose | .panelRxFlush .. => ⟨.duty, [0x3A, 0x48], [.pnl]⟩
  | .panelRxPop .. => ⟨.duty, [0x3A, 0x48], [.resp, .pnl]⟩
  | .panelTxWrite .. | .panelCharacterSent => ⟨.duty, [0x48], [.pnl, .timers]⟩
  | .panelRxDiscard .. | .panelTxDiscard .. => ⟨.duty, [0x48], [.pnl]⟩
  | .modeRequest .. => ⟨.platform, [0x00], [.plat]⟩
  | .powerDownDone | .pfwDelayExpire | .pfwShelterRestore | .thermalRestore | .domainRestartReady .. | .watchdogWarn
    => ⟨.platform, [], [.plat]⟩
  | .wakeRegulatorsReady => ⟨.platform, [], [.plat, .timers]⟩
  | .wakeBanksZeroed => ⟨.platform, [0x50], [.mem, .plat]⟩
  | .vinCtlWarn .. | .vinCtlWarnRestore .. | .fwSwitchCancel .. | .fwPreloadDone => ⟨.platform, [0x50], []⟩
  | .vinCtlUndervoltage .. | .vinCtlOvervoltage .. | .vinCtlRestore .. | .tempSample .. | .watchdogTimeout
  | .lockstepMismatch => ⟨.platform, [0x50], [.plat]⟩
  | .pfwAssert | .pfwRelease => ⟨.platform, [0x50], [.plat, .timers]⟩
  | .moduleThermalShutdown => ⟨.platform, [0x30], [.plat, .amp, .line]⟩
  | .domainRestart .. => ⟨.platform, [0x50], [.time, .plat]⟩
  | .fwSwitch .. => ⟨.platform, [0x50], [.time]⟩
  | .fwProbationEnd .. => ⟨.platform, [0x50], [.plat, .flash]⟩
  | .repairRequest .. => ⟨.platform, [0x50], [.time, .mem]⟩
  | .repairCopyDone => ⟨.platform, [], [.mem]⟩
  | .repairMapStored => ⟨.platform, [0x50], [.mem, .flash]⟩
  | .order .. => ⟨.platform, [0x40, 0x48], [.mem, .cerk]⟩
  | .orderVerified .. => ⟨.platform, [0x40], [.strm, .cerk, .flash]⟩
  | .orderComplete => ⟨.platform, [], [.cerk, .flash]⟩
  | .allowImageExpire .. => ⟨.platform, [], [.cerk]⟩
  | .tamperDetect .. => ⟨.platform, [0x13, 0x18, 0x40], [.net, .strm, .cerk]⟩
  | .tamperFlashErased => ⟨.platform, [], [.strm, .cerk, .flash]⟩
  | .perstAssert .. => ⟨.host, [0x00, 0x03, 0x48], [.shadow, .time, .tsq, .net, .mem]⟩
  | .ringStart .. | .ringStop .. | .doorbell .. | .dmaError .. | .pcieConfigWrite ..
    => ⟨.host, [0x48], [.tsq, .net, .mem]⟩
  | .fwImage .. => ⟨.host, [0x40, 0x48, 0x50], [.mem, .strm, .flash]⟩
  | .graphImage .. => ⟨.host, [0x21, 0x40, 0x48], [.mem, .dsp, .strm]⟩
  | .msgImage .. => ⟨.host, [0x40, 0x48], [.mem, .strm, .flash]⟩
  | .msgDelete .. => ⟨.host, [], [.flash]⟩
  | .nop .. | .evtqBufferClose .. | .msixModerationEnd .. | .heartbeat .. | .msixUnmask .. | .evtRawClear ..
  | .logEntryWrite | .logArchiveAppend | .logFreeze .. | .logUnfreeze .. | .pcieLinkUp .. => ⟨.host, [], []⟩
  | .hostFrameTransmit .. => ⟨.host, [0x10, 0x11, 0x12, 0x48], [.tsq, .net, .rsw, .mem]⟩
  | .netrxHoldExpire .. | .eccWindowEnd .. => ⟨.host, [0x48], [.mem]⟩
  | .hostLost .. => ⟨.host, [0x00, 0x03, 0x48], [.time, .tsq, .net, .mem]⟩
  | .semaphoreAcquire .. | .semaphoreRelease .. => ⟨.host, [0x03], []⟩
  | .semaphoreForce .. => ⟨.host, [0x03], [.time]⟩
  | .hostQuotaWrite .. => ⟨.host, [0x48], []⟩
  | .exchangeWrite .. | .exchangeSet .. | .exchangeClear .. => ⟨.host, [0x48], [.free, .mem]⟩
  | .queueFlush .. => ⟨.host, [0x08, 0x10, 0x11, 0x48], [.time, .tsq, .net, .mem, .pnl]⟩
  | .clearOnRead _ off _ _ => ⟨.host, [off.toNat / 0x10000, 0x48], [.resp, .syn, .pnl, .plat, .heldW]⟩
  | .idataRead _ code _ => ⟨.host, [code.toNat], [.resp, .heldW]⟩
  | .unlockKey .. => ⟨.host, [], [.time, .timers]⟩
  | .unlockExpire .. | .eventTest .. | .logClear .. => ⟨.host, [], [.time]⟩
  | .tickStart ..
    => ⟨.broad, [0x0A, 0x18, 0x21, 0x28, 0x30, 0x40, 0x48], [.free, .time, .tsq, .syn, .net, .mem, .fab, .dsp, .strm, .lap, .amp, .line]⟩
  | .brimStart ..
    => ⟨.broad, List.range 256, [.shadow, .time, .tsq, .refs, .syn, .net, .rsw, .mem, .pnl, .fab, .dsp, .plat, .strm, .lap, .amp, .line, .crown, .pair, .cerk, .timers, .flash]⟩
  | .powerValid .. | .vinCtlLoss ..
    => ⟨.broad, List.range 256, [.shadow, .resp, .free, .time, .tsq, .refs, .syn, .net, .rsw, .mem, .pnl, .fab, .dsp, .plat, .strm, .lap, .amp, .line, .crown, .pair, .cerk, .heldW, .timers]⟩
  | .attestComplete ..
    => ⟨.broad, [0x08, 0x09, 0x0A, 0x12, 0x18, 0x21, 0x31, 0x40, 0x50], [.time, .refs, .dsp, .plat, .strm, .line, .cerk, .flash]⟩
  | .scrub ..
    => ⟨.broad, [0x08, 0x10, 0x11, 0x40, 0x48, 0x50], [.time, .tsq, .net, .mem, .pnl, .plat, .strm, .pair, .cerk, .timers]⟩
  | .registerWrite .. | .blockReset .. | .idataWrite ..
    => ⟨.broad, List.range 256, [.shadow, .time, .tsq, .refs, .syn, .net, .rsw, .mem, .pnl, .fab, .dsp, .plat, .strm, .lap, .amp, .line, .crown, .pair, .heldW, .timers]⟩
  | .idataWriteComplete ..
    => ⟨.broad, List.range 256, [.shadow, .resp, .time, .tsq, .refs, .syn, .net, .rsw, .mem, .pnl, .fab, .dsp, .plat, .strm, .lap, .amp, .line, .crown, .pair, .heldW, .timers]⟩

/-- Whether a state differs from another only in what a command may reach and in what telling reaches: the registers of every
other block read as before, and every other component is as it was. -/
def State.Framed (c : Instr) (s t : State) : Prop :=
  s.KeepsRegs (fun k => tellKey k || (reach c).blocks.contains (keyCode k)) t ∧
    ∀ x, (reach c).parts.contains x = false → x.same s t

end Sys2Proof.Machine
end

