-- ==== Sys2Proof/Certificates/Slice0/Obligations.lean ====
section
/-! DEFINITION. The statements for the provers. A completion statement says of a command, for every state and operands that meet
conditions on them alone, that it answers a next state, and what stands there then. A free value of `Config` or of the counter
`free` stands for every value of it. -/

section

open Sys2Proof Sys2Proof.Machine

/-! ### Ticks and time -/

/-- TICK_START at the end of a tick that no step has moved: the counter stands at the boundary, and the tick that begins
there has its number and 125 µs to run; a brim without an exchange has counted as a miss. BRIM_START, once in a tick:
the brim stands open, 6.25 µs before the boundary at the earliest, its exchange counts, and no miss is left. PTP_STEP
outside ALARM, with a step due: the counter is loaded with its value at the boundary plus the step, carried forward to
it; the tick that begins there runs 125 µs and on to the next multiple of 125 µs, and its brim is still to come. A
read of TIME_SYS_LO answers the low count to its agent and captures the fraction for it; a measurement is shown, and
without the right to step the servo measures on; the loss of the grandmaster clears GM_PRESENT and any step due. The
model's own readings that this rests on: assumptions 13, 15, 189, 190, 191, 198, 203, 204, 223, 231, 232. It states
completion: of each of these commands it concludes, from conditions on the state and the operands alone, that exec
answers a next state, and what that state holds: tickStart (TICK_START), brimStart (BRIM_START), ptpStep (PTP_STEP),
timeSysLoRead (TIME_SYS_LO_READ), syncMeasurement (SYNC_MEASUREMENT), grandmasterLoss (GRANDMASTER_LOSS). -/
def Obligations.TimeAdvances : Prop :=
  (∀ (i : TickIn) (s : State), s.powered = true → s.time.stepped = false → s.time.counter.toNat < s.boundary →
    s.boundary < 2 ^ 64 →
    Answers (.tickStart i) s fun t =>
      t.time.counter.toNat = s.boundary ∧ t.time.tickStart = t.time.counter ∧ t.time.tickLen = 125000 ∧
      t.time.tick = BitVec.ofNat 32 (s.boundary / 125000) ∧ t.time.brim = false ∧ t.time.now = s.time.now +
      (s.boundary - s.time.counter.toNat) ∧ t.time.misses = (if s.time.exchanged then s.time.misses else
      s.time.misses + 1))
  ∧ (∀ (b : BrimIn) (s : State), s.powered = true → s.time.brim = false →
    Answers (.brimStart b) s fun t =>
      t.time.brim = true ∧ t.time.exchanged = true ∧ t.time.misses = 0 ∧ t.time.tick = s.time.tick ∧ (s.boundary <
      2 ^ 64 → s.time.counter.toNat ≤ t.time.counter.toNat ∧ s.boundary ≤ t.time.counter.toNat + 6250))
  ∧ (∀ (d : Int) (s : State), s.powered = true → s.time.stepDelta = some d → s.inAlarm = false → s.time.stepped =
    false →
    Answers .ptpStep s fun t =>
      (t.time.counter.toNat : Int) = ((s.boundary : Int) + (d + s.stepCarry)).toNat % 2 ^ 64 ∧ t.time.tickStart =
      t.time.counter ∧ (t.time.counter.toNat + t.time.tickLen) % 125000 = 0 ∧ 125000 ≤ t.time.tickLen ∧
      t.time.tickLen < 250000 ∧ t.time.brim = false)
  ∧ (∀ (g : Agent) (s : State), s.powered = true →
    Answers (.timeSysLoRead g) s fun t =>
      t.resp = s.resp.set g.who.num (s.time.counter.truncate 32) ∧ t.get (Fld.TIME_SYS_FRAC_QNS g.who.num) =
      s.time.frac.toNat / 16384)
  ∧ (∀ (m : PtpMeas) (s : State), s.powered = true → s.usesMeasurement m = true →
    Answers (.syncMeasurement m) s fun t =>
      t.getS Fld.TIME_PTP_OFFSET_OFFSET_NS = satSigned 32 m.offset ∧ t.on Fld.TIME_PTP_STATUS_GM_PRESENT = true ∧
      t.get Fld.TIME_PTP_STATUS_PSTATE_A = m.stateA.toNat ∧ t.get Fld.TIME_PTP_STATUS_PSTATE_B = m.stateB.toNat ∧
      t.get Fld.TIME_PTP_STATUS_PSTATE_L = m.stateL.toNat ∧ t.time.syncLog = some m.logSync ∧ (s.servoMay = false
      → t.get Fld.TIME_PTP_STATUS_SERVO = servoMeasuring ∧ t.time.stepDelta = none))
  ∧ (∀ (s : State), s.powered = true → s.ptpRuns = true → s.on Fld.TIME_PTP_STATUS_GM_PRESENT = true →
    Answers .grandmasterLoss s fun t =>
      t.on Fld.TIME_PTP_STATUS_GM_PRESENT = false ∧ t.get Fld.TIME_PTP_STATUS_SERVO = servoMeasuring ∧
      t.time.stepDelta = none)

/-- SCHED_LOST sets its flag after sixteen misses; HOLD and HOLD_LIMIT take what is written; ARM arms unless armed or
missed; DISARM disarms; TOP_APPLY_TICK takes its value unless armed; the limit releases both holds. The model's own
readings that this rests on: assumptions 4, 218. It states completion: of each of these commands it concludes, from
conditions on the state and the operands alone, that exec answers a next state, and what that state holds: schedLost
(SCHED_LOST), applyHold (APPLY_HOLD), applyHoldLimit (APPLY_HOLD_LIMIT), applyArm (APPLY_ARM), applyDisarm
(APPLY_DISARM), applyTickWrite (APPLY_TICK_WRITE), holdLimitExpire (HOLD_LIMIT_EXPIRE). -/
def Obligations.ApplicationControlCompletes : Prop :=
  (∀ (s : State), s.powered = true → s.time.misses ≥ 16 → s.on Fld.CROWN_STATUS_SCHED_LOST = false →
    Answers .schedLost s fun t => t.on Fld.CROWN_STATUS_SCHED_LOST = true)
  ∧ (∀ (hold : Bool) (s : State), s.powered = true →
    Answers (.applyHold .portA hold) s fun t =>
      t.on Fld.TOP_APPLY_CTRL_HOLD_A = hold ∧ t.on Fld.TOP_APPLY_CTRL_HOLD_B = s.on Fld.TOP_APPLY_CTRL_HOLD_B)
  ∧ (∀ (hold : Bool) (s : State), s.powered = true →
    Answers (.applyHold .portB hold) s fun t =>
      t.on Fld.TOP_APPLY_CTRL_HOLD_B = hold ∧ t.on Fld.TOP_APPLY_CTRL_HOLD_A = s.on Fld.TOP_APPLY_CTRL_HOLD_A)
  ∧ (∀ (g : Agent) (limit : BitVec 8) (s : State), s.powered = true →
    Answers (.applyHoldLimit g limit) s fun t => t.get Fld.TOP_APPLY_CTRL_HOLD_LIMIT = limit.toNat)
  ∧ (∀ (g : Agent) (s : State), s.powered = true → s.on Fld.TOP_APPLY_STATUS_ARMED = false → s.brimMissed (s.get
    Fld.TOP_APPLY_TICK_BRIM_TICK) = false →
    Answers (.applyArm g) s fun t => t.on Fld.TOP_APPLY_STATUS_ARMED = true)
  ∧ (∀ (g : Agent) (s : State), s.powered = true →
    Answers (.applyDisarm g) s fun t => t.on Fld.TOP_APPLY_STATUS_ARMED = false)
  ∧ (∀ (g : Agent) (tick : Word) (s : State), s.powered = true → s.on Fld.TOP_APPLY_STATUS_ARMED = false →
    Answers (.applyTickWrite g tick) s fun t => t.rd 0x44 = tick)
  ∧ (∀ (s : State), s.powered = true → s.held = true → s.holdOver = true →
    Answers .holdLimitExpire s fun t => t.held = false ∧ t.on Fld.TOP_APPLY_STATUS_HOLD_EXPIRED = true)

/-! ### References and holdover -/

/-- A loss of activity, 2.25 periods after the last edge, disqualifies an enabled reference with cause ACTIVITY; a
rejected edge counts, and alone it disqualifies nothing; a window that has run clean for its time qualifies; a wait to
restore that has run its time is over. The model's own readings that this rests on: assumptions 4, 206, 218, 235, 244.
It states completion: of each of these commands it concludes, from conditions on the state and the operands alone,
that exec answers a next state, and what that state holds: refActivityLoss (REF_ACTIVITY_LOSS), refGlitch
(REF_GLITCH), refQualify (REF_QUALIFY), waitToRestoreExpire (WAIT_TO_RESTORE_EXPIRE). -/
def Obligations.ReferenceQualificationCompletes : Prop :=
  (∀ (n : Fin 8) (phase : List Int) (s : State), s.powered = true → ((s.refOne n).alive || s.refQual n || s.on
    (Fld.REFS_ST_QUALIFYING n)) = true → s.edgeOverdue n = true → s.refUsable n = true →
    Answers (.refActivityLoss n phase) s fun t =>
      t.refQual n = false ∧ t.on (Fld.REFS_ST_QUALIFYING n) = false ∧ t.get (Fld.REFS_ST_CAUSE n) = causeActivity)
  ∧ (∀ (n : Fin 8) (phase : List Int) (s : State), s.powered = true → n.val ≠ 0 → (s.refOne n).glitches = [] → s.on
    (Fld.blkFreeze 0x09) = false →
    Answers (.refGlitch n phase) s fun t =>
      t.get (Fld.REFS_CNT_GLITCH n) = min 0xFFFF (s.get (Fld.REFS_CNT_GLITCH n) + 1) ∧ t.refQual n = s.refQual n)
  ∧ (∀ (n : Fin 8) (s : State), s.powered = true → s.refUsable n = true → s.on (Fld.REFS_ST_QUALIFYING n) = true →
    s.refQual n = false → s.time.now ≥ (s.refOne n).winAt + s.get Fld.REFS_QUAL_QWIN * 1000000000 → (n.val ≠ 0 ∨
    (s.get Fld.TIME_PTP_STATUS_SERVO ≠ servoDisabled ∧ s.get Fld.TIME_PTP_STATUS_SERVO ≠ servoStepPending)) →
    Answers (.refQualify n) s fun t => t.refQual n = true ∧ t.on (Fld.REFS_ST_QUALIFYING n) = false)
  ∧ (∀ (n : Fin 8) (phase : List Int) (s : State), s.powered = true → (s.refOne n).wtr = true → s.ran (.wtr n) (s.get
    Fld.REFS_SEL_CTRL_WTR_S * 1000000000) = true →
    Answers (.waitToRestoreExpire n phase) s fun t => (t.refOne n).wtr = false)

/-- A phase error within LOCK_PHASE for LOCK_HOLD takes ACQUIRING to LOCKED, and one beyond four times that takes it back
at BW_ACQ; every 2 s the bandwidth halves down to BW_TRK; the end of its validity takes HOLDOVER to LOST; a whole
second brings the temperature and moves the loop's frequency no faster than SLEW. The model's own readings that this
rests on: assumptions 4, 19, 218, 223, 226, 232, 244. It states completion: of each of these commands it concludes,
from conditions on the state and the operands alone, that exec answers a next state, and what that state holds:
refLock (REF_LOCK), refLockLoss (REF_LOCK_LOSS), bandwidthStep (BANDWIDTH_STEP), holdoverValidityExpire
(HOLDOVER_VALIDITY_EXPIRE), refEvaluation (REF_EVALUATION). -/
def Obligations.ReferenceLoopCompletes : Prop :=
  (∀ (s : State), s.powered = true → s.get Fld.REFS_SEL_STATUS_STATE = 1 → s.heldFor s.refs.nearAt = true →
    s.domDown 2 = false →
    Answers .refLock s fun t =>
      t.get Fld.REFS_SEL_STATUS_STATE = 2 ∧ t.refs.lockedReached = true ∧ t.refs.lockedSince = s.time.now)
  ∧ (∀ (s : State), s.powered = true → s.get Fld.REFS_SEL_STATUS_STATE = 2 → s.heldFor s.refs.farAt = true →
    Answers .refLockLoss s fun t => t.get Fld.REFS_SEL_STATUS_STATE = 1 ∧ t.refs.bw = s.get Fld.REFS_LOOP_BW_ACQ * 16384)
  ∧ (∀ (s : State), s.powered = true → s.get Fld.REFS_SEL_STATUS_STATE = 2 → s.ran .bandwidth 2000000000 = true →
    Answers .bandwidthStep s fun t =>
      t.refs.bw = max (s.refs.bw / 2) (s.get Fld.REFS_LOOP_BW_TRK * 16384) ∧ t.since .bandwidth = s.time.now)
  ∧ (∀ (s : State), s.powered = true → s.get Fld.REFS_SEL_STATUS_STATE = 3 → s.time.now ≥ s.refs.holdoverSince +
    s.validMinutes * 60000000000 →
    Answers .holdoverValidityExpire s fun t => t.get Fld.REFS_SEL_STATUS_STATE = 4)
  ∧ (∀ (e : RefEval) (s : State), s.powered = true → s.domDown 2 = false →
    Answers (.refEvaluation e) s fun t =>
      t.refs.theta = e.theta ∧ (t.refs.loopFreq - s.refs.loopFreq).natAbs ≤ s.slewRoom ∧ t.refs.loopAt =
      s.time.now)

/-- A learning sample, 16 s after the last, advances the learned time; a save, 1 h after the last while the part learns,
puts both models into flash; a reset, its unlock open, clears the running oscillator's words and closes the unlock;
the failure of XO_IN ends its run. The model's own readings that this rests on: assumptions 4, 17, 18, 218, 225. It
states completion: of each of these commands it concludes, from conditions on the state and the operands alone, that
exec answers a next state, and what that state holds: holdoverLearnSample (HOLDOVER_LEARN_SAMPLE), holdoverModelSave
(HOLDOVER_MODEL_SAVE), holdoverModelReset (HOLDOVER_MODEL_RESET), xoInFail (XO_IN_FAIL). -/
def Obligations.HoldoverModelCompletes : Prop :=
  (∀ (s : State), s.powered = true → s.mayLearn = true → s.ran .learn 16000000000 = true →
    Answers .holdoverLearnSample s fun t =>
      (t.rd (indKey 9 (8 * s.runningModel + 7))).toNat = min (2 ^ 32 - 1) ((s.rd (indKey 9 (8 * s.runningModel +
      7))).toNat + 1))
  ∧ (∀ (s : State), s.powered = true → s.mayLearn = true → s.ran .save 3600000000000 = true →
    Answers .holdoverModelSave s fun t =>
      t.flash.hmodels.length = 2 ∧ t.flash.hmodels.map (fun h => h.model) = [s.model 0, s.model 1])
  ∧ (∀ (g : Agent) (s : State), s.powered = true → s.unlocked g.who = true →
    Answers (.holdoverModelReset g) s fun t =>
      (∀ w : Fin 8, t.rd (indKey 9 (8 * s.runningModel + w.val)) = 0) ∧ t.unlocked g.who = false)
  ∧ (∀ (phase : Int) (s : State), s.powered = true → s.on Fld.REFS_OSC_XO_RUN = true →
    Answers (.xoInFail phase) s fun t => t.on Fld.REFS_OSC_XO_RUN = false ∧ t.refs.xoFailed = true)

/-! ### Synthesizers and pulses -/

/-- A core PLL locks on the first valid entry that holds its frequency; an output that has held its lock for 1 ms starts
in the band found; a loss, of the output or of its core PLL, takes LOCK away; a coasting output rejoins after 1 ms of
lock, its phase difference absorbed, or is stuck after 10 ms, and a relock command sends one that is not locked to its
search, which begins once its core PLL is locked. The model's own readings that this rests on: assumptions 4, 207,
218, 230, 242. It states completion: of each of these commands it concludes, from conditions on the state and the
operands alone, that exec answers a next state, and what that state holds: corePllLock (CORE_PLL_LOCK), synOutputStart
(SYN_OUTPUT_START), synLockLoss (SYN_LOCK_LOSS), synRelock (SYN_RELOCK), synStuck (SYN_STUCK), synRelockCmd
(SYN_RELOCK_CMD). -/
def Obligations.SynthesizersComplete : Prop :=
  (∀ (n : Bool) (e : Nat) (s : State), s.powered = true → s.enabled 0x0A = true → s.domDown 2 = false → (List.range
    32).find? (s.bandMatches (s.get (Fld.cpllVco n))) = some e →
    Answers (.corePllLock n) s fun t =>
      t.on (Fld.cpllLock n) = true ∧ t.on (Fld.cpllNoBand n) = false ∧ t.get (Fld.cpllEntry n) = e)
  ∧ (∀ (n : Fin 6) (s : State), s.powered = true → s.mayStartSyn n = true →
    Answers (.synOutputStart n (BitVec.ofNat 4 (s.bandFor n))) s fun t =>
      t.on (Fld.SYN_ST_LOCK n) = true ∧ t.on (Fld.SYN_ST_SEARCH n) = false ∧ t.get (Fld.SYN_ST_BAND n) = s.bandFor
      n ∧ t.synRuns n = true)
  ∧ (∀ (n : Fin 6) (s : State), s.powered = true → s.synRuns n = true →
    Answers (.synLockLoss (.output n)) s fun t => t.on (Fld.SYN_ST_LOCK n) = false)
  ∧ (∀ (s : State), s.powered = true →
    Answers (.synLockLoss .coreM) s fun t =>
      t.on Fld.SYN_CPLL_STATUS_LOCK_M = false ∧ ∀ n : Fin 6, s.synFromN n = false → t.on (Fld.SYN_ST_LOCK n) =
      false)
  ∧ (∀ (s : State), s.powered = true →
    Answers (.synLockLoss .coreN) s fun t =>
      t.on Fld.SYN_CPLL_STATUS_LOCK_N = false ∧ ∀ n : Fin 6, s.synFromN n = true → t.on (Fld.SYN_ST_LOCK n) =
      false)
  ∧ (∀ (n : Fin 6) (ps : Int) (s : State), s.powered = true → s.on (Fld.SYN_ST_COASTING n) = true → s.on
    (Fld.cpllLock (s.synFromN n)) = true → s.domDown 2 = false → s.ran (.coast n) 1000000 = true →
    s.syn.absorbed.length = 6 →
    Answers (.synRelock ⟨n, ps⟩) s fun t =>
      t.on (Fld.SYN_ST_LOCK n) = true ∧ t.on (Fld.SYN_ST_COASTING n) = false ∧ t.syn.absorbed.getD n 0 = ps)
  ∧ (∀ (n : Fin 6) (s : State), s.powered = true → s.on (Fld.SYN_ST_COASTING n) = true → s.on (Fld.SYN_ST_STUCK n) =
    false → s.ran (.coast n) 10000000 = true →
    Answers (.synStuck n) s fun t => t.on (Fld.SYN_ST_STUCK n) = true ∧ t.on (Fld.SYN_ST_COASTING n) = true)
  ∧ (∀ (g : Agent) (mask : BitVec 6) (n : Fin 6) (s : State), s.powered = true → mask.getLsbD n = true → n.val ≠ 1 →
    s.mayLock n = true → s.on (Fld.SYN_ST_LOCK n) = false →
    Answers (.synRelockCmd g mask) s fun t =>
      t.on (Fld.SYN_ST_SEARCH n) = s.on (Fld.cpllLock (s.synFromN n)) ∧ t.on (Fld.SYN_ST_COASTING n) = false)

/-- A phase step waits in its shadow and ends once nothing is left; a running train's pulse follows the last by its
period; a realignment sets a running train's pulse due and pending. The model's own readings that this rests on:
assumptions 20, 21, 243. It states completion: of each of these commands it concludes, from conditions on the state
and the operands alone, that exec answers a next state, and what that state holds: synPhaseStep (SYN_PHASE_STEP),
synPhaseStepDone (SYN_PHASE_STEP_DONE), pulseEmit (PULSE_EMIT), pulseRealign (PULSE_REALIGN). -/
def Obligations.PhaseAndPulsesComplete : Prop :=
  (∀ (g : Agent) (n : Fin 6) (ps : BitVec 16) (s : State), s.powered = true → (n.val = 0 ∨ n.val = 4 ∨ n.val = 5) →
    Answers (.synPhaseStep g n ps) s fun t =>
      t.lastWritten (Fld.SYN_PHASE_STEP_PS n).addr = BitVec.ofNat 32 ps.toNat ∧ t.rd (Fld.SYN_PHASE_STEP_PS
      n).addr = s.rd (Fld.SYN_PHASE_STEP_PS n).addr)
  ∧ (∀ (n : Fin 6) (s : State), s.powered = true → s.on (Fld.SYN_PHST_BUSY n) = true → s.on (Fld.SYN_ST_LOCK n) =
    true → (s.movePhase n).get (Fld.SYN_PHST_LEFT_PS n) = 0 →
    Answers (.synPhaseStepDone n) s fun t => t.on (Fld.SYN_PHST_BUSY n) = false ∧ t.get (Fld.SYN_PHST_LEFT_PS n) = 0)
  ∧ (∀ (k : Fin 3) (l : Int) (s : State), s.powered = true → (s.train k).run = true → (s.train k).due = none →
    (s.train k).last = some l →
    Answers (.pulseEmit k) s fun t =>
      (t.train k).last = some (l + (s.train k).period) ∧ t.on (Fld.PULSE_ST_REALIGN_PEND k) = false)
  ∧ (∀ (g : Agent) (mask : BitVec 3) (k : Fin 3) (s : State), s.powered = true → (s.train k).run = true →
    mask.getLsbD k = true →
    Answers (.pulseRealign g mask) s fun t => t.on (Fld.PULSE_ST_REALIGN_PEND k) = true ∧ (t.train k).due.isSome = true)

/-! ### Network ports and the ring switch -/

/-- A link that comes up, under 10GBASE-R at 10 Gb/s alone, shows LINK, its speed code, and the EEE and LPI that it
negotiates; one that goes down shows neither, and neither low-power state; LPI_ENTER enters low power where EEE is
active, nothing has been queued or sent for IDLE_US, and no TC5 window opens within the wake time. A good frame for
another station is counted and goes no further in the single topology; an own frame back on an HSR ring is removed and
counted; a good frame that the management firmware claims is handed to it; a port that is free and awake sends the
first frame of the highest class admitted. The model's own readings that this rests on: assumptions 24, 28, 29, 33,
208, 237, 241. It states completion: of each of these commands it concludes, from conditions on the state and the
operands alone, that exec answers a next state, and what that state holds: linkChange (LINK_CHANGE), lpiEnter
(LPI_ENTER), frameReceive (FRAME_RECEIVE), frameTransmit (FRAME_TRANSMIT). -/
def Obligations.LinksAndFramesComplete : Prop :=
  (∀ (p : Port) (speed : BitVec 3) (eee lpi : Bool) (s : State), s.powered = true → s.portRuns p = true → s.link p
    = false → speed ≠ 0 → speed.toNat ≤ 4 → (s.get (Fld.NET_CFG_SERDES p.num) ≠ 1 ∨ speed = 4) → (s.net
    p).speedState ≠ .retrain →
    Answers (.linkChange p speed ⟨eee, lpi⟩) s fun t =>
      t.link p = true ∧ t.speed p = speed.toNat ∧ t.on (Fld.NET_STATUS_EEE_ACTIVE p.num) = (eee && s.on
      (Fld.NET_EEE_EN p.num)) ∧ t.on (Fld.NET_STATUS_LPI_RX p.num) = (lpi && eee && s.on (Fld.NET_EEE_EN p.num)))
  ∧ (∀ (p : Port) (eee lpi : Bool) (s : State), s.powered = true → s.link p = true → ((s.net p).inflight.bind
    (·.host)).all (fun h => h.ring < 64) = true →
    Answers (.linkChange p 0 ⟨eee, lpi⟩) s fun t =>
      t.link p = false ∧ t.speed p = 0 ∧ t.on (Fld.NET_STATUS_LPI_TX p.num) = false ∧ t.on (Fld.NET_STATUS_LPI_RX
      p.num) = false)
  ∧ (∀ (p : Port) (s : State), s.powered = true → s.portRuns p = true → s.link p = true → s.on (Fld.NET_EEE_EN p.num)
    = true → s.on (Fld.NET_STATUS_EEE_ACTIVE p.num) = true → s.on (Fld.NET_STATUS_LPI_TX p.num) = false → (s.net
    p).inflight = none → (s.net p).queues.all (fun q => q = []) = true → s.time.now ≥ (s.net p).idleAt + max 1
    (s.get (Fld.NET_EEE_IDLE_US p.num)) * 1000 → s.tc5Near p (Config.wakeNs (s.speed p)) = false →
    Answers (.lpiEnter p) s fun t => t.on (Fld.NET_STATUS_LPI_TX p.num) = true)
  ∧ (∀ (p : Port) (f : Frame) (m : RxMark) (s : State), s.powered = true → s.portRuns p = true → s.link p = true →
    s.secyDrop p f m = none → s.rxFault p f m = .none → m.sec = none → s.on (Fld.SECY_CFG_EN p.num) = false → s.topo
    = topoSingle → linkLocal f = false → f.dst ≠ s.mac → isGroup f.dst = false → s.on (Fld.blkFreeze (0x10 + p.num))
    = false →
    Answers (.frameReceive p f m) s fun t =>
      t.get (Fld.netCnt p 0) = min (2 ^ 32 - 1) (s.get (Fld.netCnt p 0) + 1) ∧ t.out = s.out ∧ t.netA.queues =
      s.netA.queues ∧ t.netB.queues = s.netB.queues)
  ∧ (∀ (p : Port) (f : Frame) (m : RxMark) (s : State), s.powered = true → s.portRuns p = true → s.link p = true →
    s.secyDrop p f m = none → s.topo = topoHsr → linkLocal f = false → f.src = s.mac → s.rxFault p f m = .none →
    m.sec = none → s.on (Fld.SECY_CFG_EN p.num) = false → s.on (Fld.blkFreeze 0x12) = false →
    Answers (.frameReceive p f m) s fun t =>
      t.get (Fld.rswCnt p.num 0) = min (2 ^ 32 - 1) (s.get (Fld.rswCnt p.num 0) + 1) ∧ t.out = s.out ∧
      t.netA.queues = s.netA.queues ∧ t.netB.queues = s.netB.queues)
  ∧ (∀ (p : Port) (f : Frame) (m : RxMark) (s : State), s.powered = true → s.portRuns p = true → s.link p = true →
    s.secyDrop p f m = none → s.rxFault p f m = .none → m.sec = none → s.on (Fld.SECY_CFG_EN p.num) = false → s.topo
    = topoSingle → s.forLocal f = true → mgmtClaims f = true → s.streamClaims f = false → f.etype ≠ 0x8808 →
    s.grantAll 16 (cellsFor f.len) true = true →
    Answers (.frameReceive p f m) s fun t => t.out = .toFirmware f :: s.out)
  ∧ (∀ (p : Port) (c : Nat) (x : TxFrame) (s : State), s.powered = true → s.portRuns p = true → s.link p = true →
    (s.net p).inflight = none → (s.accrueAll p).awake p = true → (s.accrueAll p).selectClass p = some (c, x) →
    s.secyBlocks p x.frame = false →
    Answers (.frameTransmit p) s fun t =>
      (t.net p).queues = (s.net p).queues.modify c (·.drop 1) ∧ (t.net p).inflight.isSome = true)

/-- Once a second a port in STEADY whose target differs from its speed enters PENDING with RETRAIN shown, where the guards
hold and the link's speed is not left to the far end; where a guard fails or the target is the speed it stays; the end
of PENDING, 2 s on, goes back to STEADY where a guard fails, and else on to RETRAIN with the target advertised, or
with all that SPEED_ALLOW allows where the target is the highest of it; a retrain without a link for 10 s suspends
management of the port, with SPEED_ALLOW advertised; SETTLE ends in STEADY after 10 s; a suspension runs out after 1
h. The model's own readings that this rests on: assumptions 4, 218, 230, 236. It states completion: of each of these
commands it concludes, from conditions on the state and the operands alone, that exec answers a next state, and what
that state holds: speedTargetEval (SPEED_TARGET_EVAL), speedPendingEnd (SPEED_PENDING_END), speedRetrainTimeout
(SPEED_RETRAIN_TIMEOUT), speedSettleTimeout (SPEED_SETTLE_TIMEOUT), speedSuspendExpire (SPEED_SUSPEND_EXPIRE). -/
def Obligations.SpeedChangesComplete : Prop :=
  (∀ (p : Port) (target : BitVec 3) (s : State), s.powered = true → target.toNat = s.targetSpeed p → s.mgmtRuns =
    true → s.portRuns p = true → s.link p = true → s.time.now ≥ (s.net p).loadAt + 1000000000 → (s.net p).speedState
    = .steady → s.speedGuards p = true → s.nodesWhere (·.getLsbD 28) = 0 → ((s.net p).narrowed = true ∨ ∀ c : Fin 4,
    (s.net p).advert.testBit c = true → c.val + 1 ≤ s.speed p) → s.targetSpeed p ≠ s.speed p →
    Answers (.speedTargetEval p target) s fun t =>
      (t.net p).speedState = .pending ∧ t.on (Fld.NET_STATUS_RETRAIN p.num) = true ∧ (t.net p).target =
      s.targetSpeed p ∧ (t.net p).loadAt = s.time.now)
  ∧ (∀ (p : Port) (target : BitVec 3) (s : State), s.powered = true → target.toNat = s.targetSpeed p → s.mgmtRuns =
    true → s.portRuns p = true → s.link p = true → s.time.now ≥ (s.net p).loadAt + 1000000000 → (s.net p).speedState
    = .steady → (s.speedGuards p = false ∨ s.nodesWhere (·.getLsbD 28) ≠ 0 ∨ s.targetSpeed p = s.speed p) →
    Answers (.speedTargetEval p target) s fun t =>
      (t.net p).speedState = .steady ∧ t.on (Fld.NET_STATUS_RETRAIN p.num) = s.on (Fld.NET_STATUS_RETRAIN p.num) ∧
      (t.net p).loadAt = s.time.now)
  ∧ (∀ (p : Port) (s : State), s.powered = true → (s.net p).speedState = .pending → s.ran (.speed p) 2000000000 =
    true → s.speedGuards p = false →
    Answers (.speedPendingEnd p) s fun t => (t.net p).speedState = .steady ∧ t.on (Fld.NET_STATUS_RETRAIN p.num) = false)
  ∧ (∀ (p : Port) (s : State), s.powered = true → (s.net p).speedState = .pending → s.ran (.speed p) 2000000000 =
    true → s.speedGuards p = true →
    Answers (.speedPendingEnd p) s fun t =>
      (t.net p).speedState = .retrain ∧ (t.net p).oldSpeed = s.speed p ∧ (t.net p).advert = (if (s.net p).target =
      topSpeed (s.allowed p) then s.allowMask p else 2 ^ ((s.net p).target - 1)))
  ∧ (∀ (p : Port) (s : State), s.powered = true → (s.net p).speedState = .retrain → s.ran (.speed p) 10000000000 =
    true →
    Answers (.speedRetrainTimeout p) s fun t =>
      (t.net p).speedState = .steady ∧ (t.net p).suspended = true ∧ (t.net p).advert = s.allowMask p ∧ t.on
      (Fld.NET_STATUS_RETRAIN p.num) = false)
  ∧ (∀ (p : Port) (s : State), s.powered = true → (s.net p).speedState = .settle → s.ran (.speed p) 10000000000 =
    true →
    Answers (.speedSettleTimeout p) s fun t =>
      (t.net p).speedState = .steady ∧ t.on (Fld.NET_STATUS_RETRAIN p.num) = false)
  ∧ (∀ (p : Port) (s : State), s.powered = true → s.ran (.suspend p) 3600000000000 = true →
    Answers (.speedSuspendExpire p) s fun t => (t.net p).suspended = false)

/-- A node with a valid number that may originate frames counts its announcement, one each second; a node heard is entered
with its address and the ports it was heard on; its own number heard from another address is a conflict, which clears
after 3 s without it; an entry that has heard nothing for 3 s is free; supervision consumes a sequence number. The
model's own readings that this rests on: assumptions 4, 128, 202, 210, 218, 239. It states completion: of each of
these commands it concludes, from conditions on the state and the operands alone, that exec answers a next state, and
what that state holds: nodeAnnounceSend (NODE_ANNOUNCE_SEND), nodeAnnounceReceive (NODE_ANNOUNCE_RECEIVE),
nodeEntryExpire (NODE_ENTRY_EXPIRE), nodeConflictClear (NODE_CONFLICT_CLEAR), supervisionSend (SUPERVISION_SEND). -/
def Obligations.NodesComplete : Prop :=
  (∀ (s : State), s.powered = true → s.mgmtRuns = true → s.ran .announce 1000000000 = true → s.nodeValid = true →
    s.rsw.sentCounts.length = 3 → s.mayOriginate = true →
    Answers .nodeAnnounceSend s fun t =>
      t.rsw.sentCounts.getD 0 0 = (s.rsw.sentCounts.getD 0 0 + 1) % 2 ^ 32 ∧ t.rsw.sentCounts.getD 1 0 =
      s.rsw.sentCounts.getD 1 0)
  ∧ (∀ (p : Port) (m : Announce) (s : State), s.powered = true → s.mgmtRuns = true → s.portRuns p = true → m.mac ≠
    s.mac → (s.nodeValid && decide (m.node.toNat = s.get Fld.RSW_NODE_NODE)) = false → (s.rd (nodeKey m.node.toNat +
    1)).getLsbD 31 = false →
    Answers (.nodeAnnounceReceive p m) s fun t =>
      t.rd (nodeKey m.node.toNat) = BitVec.ofNat 32 m.mac ∧ (t.rd (nodeKey m.node.toNat + 1)).getLsbD 31 = true ∧
      Word.field (t.rd (nodeKey m.node.toNat + 1)) 30 29 = p.num + 1 ∧ Word.field (t.rd (nodeKey m.node.toNat +
      1)) 15 0 = m.mac / 2 ^ 32 % 65536)
  ∧ (∀ (p : Port) (m : Announce) (s : State), s.powered = true → s.mgmtRuns = true → s.portRuns p = true → m.mac ≠
    s.mac → s.nodeValid = true → m.node.toNat = s.get Fld.RSW_NODE_NODE →
    Answers (.nodeAnnounceReceive p m) s fun t => t.on Fld.RSW_NODE_ST_CONFLICT = true)
  ∧ (∀ (n : BitVec 12) (s : State), s.powered = true → s.ran (.node n.toNat) 3000000000 = true →
    Answers (.nodeEntryExpire n) s fun t =>
      t.rd (nodeKey n.toNat) = 0 ∧ t.rd (nodeKey n.toNat + 1) = 0 ∧ t.rsw.nodeOctets.all (fun x => x.1 ≠ n.toNat)
      = true)
  ∧ (∀ (s : State), s.powered = true → s.on Fld.RSW_NODE_ST_CONFLICT = true → s.ran .conflict 3000000000 = true →
    Answers .nodeConflictClear s fun t => t.on Fld.RSW_NODE_ST_CONFLICT = false)
  ∧ (∀ (s : State), s.powered = true → s.mgmtRuns = true → s.topo = topoHsr → s.rsw.originate = true → s.ran
    .supervision 2000000000 = true →
    Answers .supervisionSend s fun t => t.rsw.hsrSeq = (s.rsw.hsrSeq + 1) % 65536)

/-- A ring check, due every CHK_MS, is counted and its copies are awaited; a copy that comes back within CHK_MS counts as
returned; both copies of three checks in a row close the ring, and three missed ones on a port open it; a duplicate
entry, a stream's recovery history and the pause of originating end after their times. The model's own readings that
this rests on: assumptions 4, 128, 218. It states completion: of each of these commands it concludes, from conditions
on the state and the operands alone, that exec answers a next state, and what that state holds: ringCheckSend
(RING_CHECK_SEND), ringCheckReceive (RING_CHECK_RECEIVE), ringCheckTimeout (RING_CHECK_TIMEOUT), dupEntryForget
(DUP_ENTRY_FORGET), ringOriginateResume (RING_ORIGINATE_RESUME), frerRecoveryReset (FRER_RECOVERY_RESET). -/
def Obligations.RingSupervisionCompletes : Prop :=
  (∀ (s : State), s.powered = true → s.mgmtRuns = true → s.topo = topoHsr → s.rsw.sentCounts.length = 3 →
    s.mayOriginate = true → s.ran .ringCheck s.checkNs = true →
    Answers .ringCheckSend s fun t =>
      t.rsw.sentCounts.getD 1 0 = (s.rsw.sentCounts.getD 1 0 + 1) % 2 ^ 32 ∧ t.rsw.checks =
      (⟨s.rsw.sentCounts.getD 1 0, s.time.now, .waiting, .waiting⟩ :: s.rsw.checks).take 4)
  ∧ (∀ (p : Port) (count : BitVec 32) (s : State), s.powered = true → s.mgmtRuns = true → s.topo = topoHsr → s.link p
    = true →
    Answers (.ringCheckReceive ⟨p, count⟩) s fun t =>
      t.rsw.checks = (s.rsw.checks.map fun c => if c.count = count.toNat && c.copy p = .waiting && s.time.now ≤
      c.sentAt + s.checkNs then c.setCopy p .returned else c))
  ∧ (∀ (p : Port) (count : BitVec 32) (s : State), s.powered = true → s.mgmtRuns = true → s.topo = topoHsr → s.link
    .a = true → s.link .b = true → s.on Fld.RSW_RING_ST_CLOSED = false → threeChecks (fun c => c.a = .returned &&
    c.b = .returned) ((s.rsw.checks.map fun c => if c.count = count.toNat && c.copy p = .waiting && s.time.now ≤
    c.sentAt + s.checkNs then c.setCopy p .returned else c)) = true →
    Answers (.ringCheckReceive ⟨p, count⟩) s fun t => t.on Fld.RSW_RING_ST_CLOSED = true ∧ t.rsw.closedAt = s.time.now)
  ∧ (∀ (p : Port) (s : State), s.powered = true → s.mgmtRuns = true → s.topo = topoHsr → threeChecks (fun c => c.copy
    p = .missed) ((s.rsw.checks.map fun c => if c.copy p = .waiting && s.time.now ≥ c.sentAt + s.checkNs then
    c.setCopy p .missed else c)) = true →
    Answers (.ringCheckTimeout p) s fun t => t.on Fld.RSW_RING_ST_CLOSED = false)
  ∧ (∀ (p : Port) (s : State), s.powered = true → s.mgmtRuns = true → s.topo = topoHsr → threeChecks (fun c => c.copy
    p = .missed) ((s.rsw.checks.map fun c => if c.copy p = .waiting && s.time.now ≥ c.sentAt + s.checkNs then
    c.setCopy p .missed else c)) = false →
    Answers (.ringCheckTimeout p) s fun t =>
      t.rsw.checks = (s.rsw.checks.map fun c => if c.copy p = .waiting && s.time.now ≥ c.sentAt + s.checkNs then
      c.setCopy p .missed else c) ∧ t.on Fld.RSW_RING_ST_CLOSED = s.on Fld.RSW_RING_ST_CLOSED)
  ∧ (∀ (n : Fin 3) (src : Nat) (s : State), s.powered = true →
    Answers (.dupEntryForget n src) s fun t =>
      (t.dupTable n.val).all (fun e => e.src ≠ src || decide (s.time.now < e.used + s.forgetNs)) = true)
  ∧ (∀ (s : State), s.powered = true → s.domDown 0 = false → s.rsw.originate = false → s.ran .originate s.forgetNs =
    true →
    Answers .ringOriginateResume s fun t => t.rsw.originate = true ∧ t.rsw.hsrSeq = 0 ∧ t.rsw.prpSeq = 0)
  ∧ (∀ (flow : Fin 128) (s : State), s.powered = true → s.rsw.frer.any (fun x => x.1 = flow.val && s.time.now ≥
    x.2.used + s.get Fld.RSW_FRER_CFG_RESET_MS * 1000000) = true →
    Answers (.frerRecoveryReset flow) s fun t => t.rsw.frer = s.rsw.frer.filter (fun x => x.1 ≠ flow.val))

/-- Every 2 s an MKPDU is queued, and where a SAK is due the part distributes it under the next AN; a SAK received, its
MKPDU's ICV and its own integrity holding, is installed: its receive SA is valid under its AN and starts at PN 1; the
transmit AN follows the peer's confirmation, and its PN starts at 1, while a confirmation of the AN in use restarts
nothing; 2 s later the old SA goes; 6 s without the peer clear LIVE. The model's own readings that this rests on:
assumptions 32, 51, 211, 214, 222. It states completion: of each of these commands it concludes, from conditions on
the state and the operands alone, that exec answers a next state, and what that state holds: mkaHello (MKA_HELLO),
mkpduReceive (MKPDU_RECEIVE), oldSaDelete (OLD_SA_DELETE), mkaPeerLoss (MKA_PEER_LOSS). -/
def Obligations.MkaCompletes : Prop :=
  (∀ (p : Port) (s : State), s.powered = true → s.mgmtRuns = true → s.on (Fld.SECY_CFG_EN p.num) = true → s.ran
    (.hello p) 2000000000 = true → (s.net p).queues.length = 8 → (s.net p).offered = none → s.sakDue p = false →
    s.admitQueues (cellsFor 64) [17, egressQueue p 6] = [17, egressQueue p 6] →
    Answers (.mkaHello p) s fun t =>
      ((t.net p).queue 6).length = ((s.net p).queue 6).length + 1 ∧ (((t.net p).queue 6).getLast?.map (fun x =>
      x.frame.etype)) = some 0x888E)
  ∧ (∀ (p : Port) (s : State), s.powered = true → s.mgmtRuns = true → s.on (Fld.SECY_CFG_EN p.num) = true → s.ran
    (.hello p) 2000000000 = true → s.sakDue p = true → (s.net p).rxPn.length = 4 →
    Answers (.mkaHello p) s fun t =>
      (t.net p).offered = some ((s.get (Fld.SECY_ST_TX_AN p.num) + 1) % 4) ∧ (t.get (Fld.SECY_ST_RX_AN_VALID
      p.num)).testBit ((s.get (Fld.SECY_ST_TX_AN p.num) + 1) % 4) = true ∧ (t.net p).rxPn.getD ((s.get
      (Fld.SECY_ST_TX_AN p.num) + 1) % 4) 0 = 1 ∧ t.cerk.requests = s.cerk.requests + 1)
  ∧ (∀ (p : Port) (m : Mkpdu) (an : Fin 4) (w : BitVec 320) (sak : Nat) (s : State), s.powered = true → s.mgmtRuns =
    true → s.portRuns p = true → s.on (Fld.SECY_CFG_EN p.num) = true → s.mkaKeys p = true → s.icvOk p m = true →
    m.install = some (an, w) → keyUnwrap (s.kek p) w.toNat = some sak → (s.net p).rxPn.length = 4 → (s.net
    p).saks.length = 4 →
    Answers (.mkpduReceive p m) s fun t =>
      (t.net p).saks.getD an.val none = some sak ∧ (t.net p).rxPn.getD an.val 0 = 1 ∧ (t.get
      (Fld.SECY_ST_RX_AN_VALID p.num)).testBit an.val = true ∧ t.on (Fld.SECY_ST_RX_KEYED p.num) = true)
  ∧ (∀ (p : Port) (m : Mkpdu) (an : Fin 4) (s : State), s.powered = true → s.mgmtRuns = true → s.portRuns p = true →
    s.on (Fld.SECY_CFG_EN p.num) = true → s.mkaKeys p = true → s.icvOk p m = true → m.confirm = some an → (s.get
    (Fld.SECY_ST_RX_AN_VALID p.num)).testBit an.val = true → (s.on (Fld.SECY_ST_TX_KEYED p.num) = false ∨ s.get
    (Fld.SECY_ST_TX_AN p.num) ≠ an.val) → (s.net p).txPn.length = 4 →
    Answers (.mkpduReceive p m) s fun t =>
      t.get (Fld.SECY_ST_TX_AN p.num) = an.val ∧ t.on (Fld.SECY_ST_TX_KEYED p.num) = true ∧ t.txPn p = 1 ∧ t.on
      (Fld.SECY_ST_TX_STOPPED p.num) = false)
  ∧ (∀ (p : Port) (m : Mkpdu) (an : Fin 4) (s : State), s.powered = true → s.mgmtRuns = true → s.portRuns p = true →
    s.on (Fld.SECY_CFG_EN p.num) = true → s.on (Fld.cakHeld p.num) = true → s.icvOk p m = true → m.confirm = some an
    → s.on (Fld.SECY_ST_TX_KEYED p.num) = true → s.get (Fld.SECY_ST_TX_AN p.num) = an.val →
    Answers (.mkpduReceive p m) s fun t =>
      t.get (Fld.SECY_ST_TX_AN p.num) = an.val ∧ (t.net p).txPn = (s.net p).txPn ∧ t.on (Fld.SECY_ST_TX_STOPPED
      p.num) = s.on (Fld.SECY_ST_TX_STOPPED p.num))
  ∧ (∀ (p : Port) (a u : Nat) (s : State), s.powered = true → (s.net p).oldAns.contains (a, u) = true → a < 4 →
    s.time.now ≥ u + 2000000000 →
    Answers (.oldSaDelete p) s fun t =>
      ((t.net p).oldAns.all fun x => x.1 ≠ a) = true ∧ (t.get (Fld.SECY_ST_RX_AN_VALID p.num)).testBit a = false)
  ∧ (∀ (p : Port) (s : State), s.powered = true → s.ran (.peer p) 6000000000 = true →
    Answers (.mkaPeerLoss p) s fun t => t.on (Fld.SECY_ST_LIVE p.num) = false)

/-- A gate cycle begins with its bank active and, where its first entry has a time, with that entry in force, and an entry
that has run its time passes to the next; a pause pauses the classes that obey it, and one of no quanta lets them go,
until its quanta run out; a class paused for the watchdog's time goes into holdoff, which ends after 100 ms; the first
Sync of a part that no grandmaster governs makes it the grandmaster, its servo MASTER; a delay message restarts its
interval. The model's own readings that this rests on: assumptions 4, 34, 42, 218, 234, 238, 240. It states
completion: of each of these commands it concludes, from conditions on the state and the operands alone, that exec
answers a next state, and what that state holds: qbvCycleStart (QBV_CYCLE_START), qbvEntryEnd (QBV_ENTRY_END),
pauseReceive (PAUSE_RECEIVE), pauseQuantaExpire (PAUSE_QUANTA_EXPIRE), pauseWatchdog (PAUSE_WATCHDOG), pauseHoldoffEnd
(PAUSE_HOLDOFF_END), ptpMessageSend (PTP_MESSAGE_SEND). -/
def Obligations.GatesAndPauseComplete : Prop :=
  (∀ (p : Port) (s : State), s.powered = true → s.qbvEn p = true → s.time.tick.toNat % 2 ^ s.qbvCyc p = 0 →
    s.time.counter = s.time.tickStart →
    Answers (.qbvCycleStart p) s fun t =>
      t.get (qbvActF p) = s.qbvBank p ∧ (t.net p).cycleAt = s.time.now ∧ (t.net p).gate = (if s.gateDur p
      (s.qbvBank p) 0 = 0 then none else some (0, s.time.now)))
  ∧ (∀ (p : Port) (e at0 : Nat) (s : State), s.powered = true → s.qbvEn p = true → (s.net p).gate = some (e, at0) →
    s.time.now ≥ at0 + s.gateDur p (s.gateBank p) e →
    Answers (.qbvEntryEnd p) s fun t =>
      (t.net p).gate = (if e < 15 ∧ s.gateDur p (s.gateBank p) (e + 1) ≠ 0 then some (e + 1, s.time.now) else
      none))
  ∧ (∀ (p : Port) (quanta : BitVec 16) (c : Fin 7) (s : State), s.powered = true → s.portRuns p = true → s.link p =
    true → s.on (Fld.NET_CFG_PAUSE_EN p.num) = true → s.holdoff p c.val = false →
    Answers (.pauseReceive p none quanta) s fun t => t.paused p c.val = decide (quanta ≠ 0))
  ∧ (∀ (p : Port) (pr : BitVec 3) (quanta : BitVec 16) (s : State), s.powered = true → s.portRuns p = true → s.link p
    = true → (s.get (Fld.NET_CFG_PFC_EN p.num)).testBit (s.pcpClass pr.toNat) = true → s.holdoff p (s.pcpClass
    pr.toNat) = false →
    Answers (.pauseReceive p (some pr) quanta) s fun t => t.paused p (s.pcpClass pr.toNat) = decide (quanta ≠ 0))
  ∧ (∀ (p : Port) (c : Fin 7) (s : State), s.powered = true → s.ran (.pause p c.val) 0 = true →
    Answers (.pauseQuantaExpire p c) s fun t => t.paused p c.val = false)
  ∧ (∀ (p : Port) (c : Fin 7) (s : State), s.powered = true → s.paused p c.val = true → s.ran (.watch p c.val) (max 1
    (s.get (Fld.NET_PWD_WD p.num)) * 500000) = true →
    Answers (.pauseWatchdog p c) s fun t => t.paused p c.val = false ∧ t.holdoff p c.val = true)
  ∧ (∀ (p : Port) (c : Fin 7) (s : State), s.powered = true → s.ran (.holdoff p c.val) 100000000 = true →
    Answers (.pauseHoldoffEnd p c) s fun t => t.holdoff p c.val = false)
  ∧ (∀ (p : Port) (s : State), s.powered = true → s.mgmtRuns = true → s.ptpRuns = true → s.portRuns p = true → s.link
    p = true → s.mayMaster = true → s.on Fld.TIME_PTP_STATUS_GM_PRESENT = false → s.ran (.ptp .sync p) s.syncNs =
    true →
    Answers (.ptpMessageSend .sync p) s fun t =>
      t.on Fld.TIME_PTP_STATUS_GM_PRESENT = true ∧ t.get Fld.TIME_PTP_STATUS_SERVO = servoMaster)
  ∧ (∀ (k : PtpKind) (p : Port) (s : State), s.powered = true → s.mgmtRuns = true → s.ptpRuns = true → s.portRuns p =
    true → s.link p = true → (masterKind k = false ∨ s.mayMaster = true) → s.delayKind k = true → k ≠ .sync →
    Answers (.ptpMessageSend k p) s fun t => t.since (.ptp k p) = s.time.now)

/-! ### Streams -/

/-- A good packet of a flow counts in PKT_OK; where it carries one tick and falls within the window of an empty buffer,
that tick is stored and shown as the last; a flow that has gone LOST_TICKS without data is LOST; a seal group whose
epoch is used up takes the next, with its count at 0. The oldest closed packet of a flow leaves it at the boundary of
tick m + P plus TX_OFF_NS, into TC5 of the port in the single topology; of a blocked flow it is not sent and counts in
BLOCKED_PKTS; a packet that still waits in TC5 125 µs after its release is taken out of the queue and counted as a
miss of its port. The model's own readings that this rests on: assumptions 4, 52, 57, 213, 214, 218. It states
completion: of each of these commands it concludes, from conditions on the state and the operands alone, that exec
answers a next state, and what that state holds: streamPacketReceive (STREAM_PACKET_RECEIVE), flowLost (FLOW_LOST),
sealEpochAdvance (SEAL_EPOCH_ADVANCE), streamPacketRelease (STREAM_PACKET_RELEASE), txSchedMiss (TX_SCHED_MISS). -/
def Obligations.StreamsComplete : Prop :=
  (∀ (p : Port) (k : RtpPacket) (f : Fin 128) (s : State), s.powered = true → s.strmRuns = true → s.portRuns p =
    true → (((List.range 128).filter fun g => s.rxFlowLive g && s.rxNames g k).find? (s.rxPasses · k)) = some f.val
    → k.rtag = none → pktHeaderOk k = true → (pktPayload k).length = payloadLen (s.rxW f.val 0) → flowSeal (s.rxW
    f.val 0) = false → s.on (Fld.blkFreeze 0x18) = false →
    Answers (.streamPacketReceive p k) s fun t =>
      t.get (Fld.rxCnt f.val 0) = min (2 ^ 32 - 1) (s.get (Fld.rxCnt f.val 0) + 1))
  ∧ (∀ (p : Port) (k : RtpPacket) (f : Fin 128) (s : State), s.powered = true → s.strmRuns = true → s.portRuns p =
    true → (((List.range 128).filter fun g => s.rxFlowLive g && s.rxNames g k).find? (s.rxPasses · k)) = some f.val
    → k.rtag = none → pktHeaderOk k = true → (pktPayload k).length = payloadLen (s.rxW f.val 0) → flowSeal (s.rxW
    f.val 0) = false → flowP (s.rxW f.val 0) = 1 → (s.rxFlow f.val).buf = [] → 2 - (s.linkOff : Int) < tickDiff
    (s.mediaTick (flowK (s.rxW f.val 0)) (s.rxW f.val 5).toNat (pktTs k)) s.time.tick.toNat → tickDiff (s.mediaTick
    (flowK (s.rxW f.val 0)) (s.rxW f.val 5).toNat (pktTs k)) s.time.tick.toNat ≤ 64 - (s.linkOff : Int) →
    Answers (.streamPacketReceive p k) s fun t =>
      (t.rxFlow f.val).buf = [(s.mediaTick (flowK (s.rxW f.val 0)) (s.rxW f.val 5).toNat (pktTs k) % 2 ^ 32,
      tickSamples (s.rxW f.val 0) (pktPayload k) (s.sampleIndex (flowK (s.rxW f.val 0)) (s.rxW f.val 5).toNat
      (pktTs k)) 0)] ∧ t.get (Fld.rxLastTick f.val) = s.mediaTick (flowK (s.rxW f.val 0)) (s.rxW f.val 5).toNat
      (pktTs k) % 2 ^ 32)
  ∧ (∀ (f : Fin 128) (s : State), s.powered = true → (s.rxSt f.val = 1 ∨ s.rxSt f.val = 2) → (s.rxFlow f.val).gap ≥
    s.lostTicks →
    Answers (.flowLost f) s fun t => t.rxSt f.val = 3)
  ∧ (∀ (g : Fin 16) (s : State), s.powered = true → s.sealDue g.val = true →
    Answers (.sealEpochAdvance g) s fun t =>
      t.get (Fld.sealEpoch g.val) = (s.get (Fld.sealEpoch g.val) + 1) % 256 ∧ t.get (Fld.sealSent g.val) = 0)
  ∧ (∀ (f : Fin 128) (m : Nat) (fr : Frame) (rest : List (Nat × Frame)) (s : State), s.powered = true → (s.txFlow
    f.val).closed = (m, fr) :: rest → s.releaseDue f.val m = true →
    Answers (.streamPacketRelease f) s fun t => (t.txFlow f.val).closed = rest)
  ∧ (∀ (f : Fin 128) (m : Nat) (fr : Frame) (rest : List (Nat × Frame)) (s : State), s.powered = true → (s.txFlow
    f.val).closed = (m, fr) :: rest → s.releaseDue f.val m = true → s.txSt f.val ≠ 2 → s.topo = topoSingle → (s.net
    .a).queues.length = 8 → s.admitQueues (cellsFor fr.len) [egressQueue .a 5] = [egressQueue .a 5] →
    Answers (.streamPacketRelease f) s fun t => ((t.net .a).queue 5).length = ((s.net .a).queue 5).length + 1)
  ∧ (∀ (f : Fin 128) (m : Nat) (fr : Frame) (rest : List (Nat × Frame)) (s : State), s.powered = true → (s.txFlow
    f.val).closed = (m, fr) :: rest → s.releaseDue f.val m = true → s.txSt f.val = 2 → s.on (Fld.blkFreeze 0x18) =
    false →
    Answers (.streamPacketRelease f) s fun t =>
      t.get (Fld.txCnt f.val 3) = min (2 ^ 32 - 1) (s.get (Fld.txCnt f.val 3) + 1) ∧ (t.netA.queues,
      t.netB.queues) = (s.netA.queues, s.netB.queues))
  ∧ (∀ (p : Port) (f : Fin 128) (x : TxFrame) (r : Nat) (s : State), s.powered = true → ((s.net p).queue 5).find?
    (ofFlow f.val) = some x → x.flow = some (f.val, r) → s.time.now ≥ r + 125000 → x.host = none → s.on
    (Fld.blkFreeze 0x18) = false →
    Answers (.txSchedMiss p f) s fun t =>
      (t.net p).queue 5 = ((s.net p).queue 5).erase x ∧ t.get (Fld.txCnt f.val (1 + p.num)) = min (2 ^ 32 - 1)
      (s.get (Fld.txCnt f.val (1 + p.num)) + 1))

/-! ### Fabric and processing graph -/

/-- A connection that has waited its timeout at the gate ramps over 1 ms: one that waits to open from zero to its gain,
one that waits to close from the gain it has to zero. Every other connection stays. A disabled job that is re-enabled
starts with no overruns and ramps in; a window of an ANS instance that has lasted WIN_S ends with its sums at zero.
The model's own readings that this rests on: assumptions 4, 218. It states completion: of each of these commands it
concludes, from conditions on the state and the operands alone, that exec answers a next state, and what that state
holds: zcTimeout (ZC_TIMEOUT), jobReenable (JOB_REENABLE), ansWindowEnd (ANS_WINDOW_END). -/
def Obligations.GateAndJobsComplete : Prop :=
  (∀ (i o : Fin 512) (c : Conn) (s : State), s.powered = true → s.fab.conns.find? (fun x => x.inp = i.val && x.out
    = o.val && s.overdue x) = some c →
    Answers (.zcTimeout i o) s fun t =>
      t.fab.conns = s.fab.conns.map fun x => if x = c then (if c.st = .opening then { c with st := .open, ramp :=
      ⟨0, c.gain, 0, s.msSamples⟩ } else { c with st := if c.st = .closing then .fading else .parkFading, ramp :=
      ⟨c.ramp.value, 0, 0, s.msSamples⟩ }) else x)
  ∧ (∀ (g : Agent) (job : BitVec 8) (im : GImage) (x : JobSt) (s : State), s.powered = true → s.image = some im →
    s.dsp.jobs[job.toNat]? = some x → x.disabled = true →
    Answers (.jobReenable g job) s fun t =>
      t.dsp.jobs[job.toNat]? = some ⟨false, 0, false, true, false⟩ ∧ t.get Fld.DSP_JOB_CMD_JOB = job.toNat)
  ∧ (∀ (inst : Fin 2048) (b : GBank) (i : GInst) (x : InstSt) (s : State), s.powered = true → s.actBank = some b →
    s.dsp.insts[inst.val]? = some x → b.img.insts[inst.val]? = some i → i.ty = 6 → x.nums ≠ [] → s.ansWindow
    ((b.act.drop i.base).take i.size) ≤ (x.nums.getD 7 0).toNat → s.graphRuns = true →
    Answers (.ansWindowEnd inst) s fun t =>
      (t.dsp.insts[inst.val]?).map (fun y => (y.nums.drop 5).take 3) = some [0, 0, 0])

/-- A swap is armed where none is, nothing it names is locked by ALARM and, for a graph, an idle image is valid and its
brim is to come; a cancellation disarms; the tick of a swap that is not armed takes its value. It states completion:
of each of these commands it concludes, from conditions on the state and the operands alone, that exec answers a next
state, and what that state holds: coefSwapCmd (COEF_SWAP_CMD), coefSwapCancel (COEF_SWAP_CANCEL), coefTickWrite
(COEF_TICK_WRITE), graphSwapArm (GRAPH_SWAP_ARM), graphSwapCancel (GRAPH_SWAP_CANCEL), graphTickWrite
(GRAPH_TICK_WRITE). -/
def Obligations.SwapsComplete : Prop :=
  (∀ (g : Agent) (atTick : Bool) (s : State), s.powered = true → s.on Fld.DSP_STATUS_COEF_ARMED = false →
    (s.inAlarm = false ∨ s.dirtyAlarm = false) →
    Answers (.coefSwapCmd g atTick) s fun t => t.on Fld.DSP_STATUS_COEF_ARMED = true)
  ∧ (∀ (g : Agent) (s : State), s.powered = true →
    Answers (.coefSwapCancel g) s fun t => t.on Fld.DSP_STATUS_COEF_ARMED = false ∧ t.dsp.coefNow = false)
  ∧ (∀ (g : Agent) (tick : Word) (s : State), s.powered = true → s.on Fld.DSP_STATUS_COEF_ARMED = false →
    Answers (.coefTickWrite g tick) s fun t => t.get Fld.DSP_COEF_TICK_BRIM_TICK = tick.toNat)
  ∧ (∀ (g : Agent) (s : State), s.powered = true → s.on Fld.DSP_STATUS_GRAPH_ARMED = false → s.inAlarm = false → s.on
    Fld.DSP_STATUS_IDLE_VALID = true → s.brimMissed (s.get Fld.DSP_GRAPH_TICK_BRIM_TICK) = false →
    Answers (.graphSwapArm g) s fun t => t.on Fld.DSP_STATUS_GRAPH_ARMED = true)
  ∧ (∀ (g : Agent) (s : State), s.powered = true →
    Answers (.graphSwapCancel g) s fun t => t.on Fld.DSP_STATUS_GRAPH_ARMED = false)
  ∧ (∀ (g : Agent) (tick : Word) (s : State), s.powered = true → s.on Fld.DSP_STATUS_GRAPH_ARMED = false →
    Answers (.graphTickWrite g tick) s fun t => t.get Fld.DSP_GRAPH_TICK_BRIM_TICK = tick.toNat)

/-! ### Local audio ports -/

/-- A synchronous slave that has measured its frames at fs runs, and off fs retracks; an asynchronous one runs at 32 to
192 kHz; the end of the pre-roll frames readies the port; a lost clock holds, the end of the hold of 1 ms ramps the
inputs out, and a clock that returns within the hold and 200 ppm runs on where any other retracks; a rate more than
1000 ppm from the one locked, eight misframes in 10 ms, or a synchronous slave off fs retracks; the end of a retrack
runs and ramps in; a stop with nothing left is OFF. The model's own readings that this rests on: assumptions 4, 62,
63, 67, 218. It states completion: of each of these commands it concludes, from conditions on the state and the
operands alone, that exec answers a next state, and what that state holds: tdmSlaveLocked (TDM_SLAVE_LOCKED),
tdmPrerollEnd (TDM_PREROLL_END), tdmClkLoss (TDM_CLK_LOSS), tdmClkHoldEnd (TDM_CLK_HOLD_END), tdmClkReturn
(TDM_CLK_RETURN), tdmRetrack (TDM_RETRACK), tdmRetrackEnd (TDM_RETRACK_END), tdmStopComplete (TDM_STOP_COMPLETE). -/
def Obligations.TdmPortsComplete : Prop :=
  (∀ (p : Fin 4) (rate : Nat) (s : State), s.powered = true → s.lapRuns = true → s.tdmSt p = 1 → s.tdmMaster p =
    false → s.tdmAsync p = false → s.tdmCompat p = false → withinPpm rate s.fsMilli 100 = true → (s.tdm
    p).bits.isSome = true → s.lap.tdm.length = 4 →
    Answers (.tdmSlaveLocked p rate) s fun t => t.tdmSt p = 2 ∧ (t.tdm p).rate = rate)
  ∧ (∀ (p : Fin 4) (rate : Nat) (s : State), s.powered = true → s.lapRuns = true → s.tdmSt p = 1 → s.tdmMaster p =
    false → s.tdmAsync p = true → s.tdmCompat p = false → portRate rate = true → (s.tdm p).bits.isSome = true →
    s.lap.tdm.length = 4 →
    Answers (.tdmSlaveLocked p rate) s fun t => t.tdmSt p = 2 ∧ (t.tdm p).rate = rate)
  ∧ (∀ (p : Fin 4) (rate : Nat) (s : State), s.powered = true → s.lapRuns = true → s.tdmSt p = 1 → s.tdmMaster p =
    false → s.tdmAsync p = false → withinPpm rate s.fsMilli 100 = false → (s.tdm p).bits.isSome = true →
    Answers (.tdmSlaveLocked p rate) s fun t => t.tdmSt p = 4)
  ∧ (∀ (p : Fin 4) (s : State), s.powered = true → s.tdmSt p = 1 → s.tdmCompat p = true → s.tdmRate p ≠ 0 →
    s.prerolled p = true → s.lap.tdm.length = 4 →
    Answers (.tdmPrerollEnd p) s fun t => (t.tdm p).ready = true)
  ∧ (∀ (p : Fin 4) (s : State), s.powered = true → s.tdmSt p = 2 → s.tdmMaster p = false → s.lap.tdm.length = 4 →
    Answers (.tdmClkLoss p) s fun t => t.tdmSt p = 3 ∧ (t.tdm p).hold = true ∧ t.get (Fld.LAP_TDM_ST_RATE_HZ p) = 0)
  ∧ (∀ (p : Fin 4) (s : State), s.powered = true → s.tdmSt p = 3 → (s.tdm p).hold = true → s.held1ms p = true →
    s.lap.tdm.length = 4 →
    Answers (.tdmClkHoldEnd p) s fun t =>
      (t.tdm p).hold = false ∧ (t.tdm p).inR = ⟨(s.tdm p).inR.value, 0, 0, s.msSamples⟩ ∧ t.tdmSt p = 3)
  ∧ (∀ (p : Fin 4) (rate : Nat) (s : State), s.powered = true → s.tdmSt p = 3 →
    Answers (.tdmClkReturn p rate) s fun t =>
      t.tdmSt p = (if (s.tdm p).hold = true ∧ s.held1ms p = false ∧ withinPpm rate (s.tdm p).rate 200 = true then
      2 else 4))
  ∧ (∀ (p : Fin 4) (rate : Nat) (s : State), s.powered = true → s.tdmSt p = 2 → s.tdmMaster p = false → (withinPpm
    rate (s.tdm p).rate 1000 = false ∨ s.misframed p = true ∨ (s.tdmAsync p = false ∧ withinPpm rate s.fsMilli 100 =
    false)) → s.lap.tdm.length = 4 →
    Answers (.tdmRetrack p rate) s fun t =>
      t.tdmSt p = 4 ∧ (t.tdm p).inR = (if (s.tdm p).inR.g1 = 0 then (s.tdm p).inR else ⟨(s.tdm p).inR.value, 0, 0,
      s.msSamples⟩))
  ∧ (∀ (p : Fin 4) (rate : Nat) (s : State), s.powered = true → s.lapRuns = true → s.tdmSt p = 4 → (if s.tdmAsync p =
    true then 32000000 ≤ rate ∧ rate ≤ 192000000 else withinPpm rate s.fsMilli 100 = true) → s.lap.tdm.length = 4 →
    Answers (.tdmRetrackEnd p rate) s fun t =>
      t.tdmSt p = 2 ∧ (t.tdm p).rate = rate ∧ (t.tdm p).outR = ⟨0, 0x3F800000, 0, s.msSamples⟩)
  ∧ (∀ (p : Fin 4) (s : State), s.powered = true → s.tdmSt p = 5 → s.tdmStopped p = true → s.lap.tdm.length = 4 →
    Answers (.tdmStopComplete p) s fun t =>
      t.tdmSt p = 0 ∧ (t.tdm p).tx = [] ∧ (t.tdm p).asrcRx = [] ∧ (t.tdm p).asrcTx = [])

/-- A lock at a rate of 32 to 192 kHz shows LOCK and the rate's code, and RETRACK where a synchronous receiver is off fs;
a loss holds 8 ticks and counts; a rate more than 1000 ppm off retracks until it is over; a subframe whose validity
bit has been 1 for 8 frames is muted, and unmuted once it has been 0 for 192; a block's end advances its sequence and,
with the timestamp units enabled, shows the tick. A transmitter that is enabled starts at a block boundary, aligned to
the tick pulse of that tick while none of its realignments is pending, with the words of its block; one that is no
longer enabled stops once its last block has ended. The model's own readings that this rests on: assumptions 4, 64,
66, 67, 218. It states completion: of each of these commands it concludes, from conditions on the state and the
operands alone, that exec answers a next state, and what that state holds: aes3Lock (AES3_LOCK), aes3Unlock
(AES3_UNLOCK), aes3Retrack (AES3_RETRACK), aes3RetrackEnd (AES3_RETRACK_END), aes3ValidityMute (AES3_VALIDITY_MUTE),
aes3ValidityUnmute (AES3_VALIDITY_UNMUTE), aes3BlockEnd (AES3_BLOCK_END), aes3TxStart (AES3_TX_START), aes3TxStop
(AES3_TX_STOP). -/
def Obligations.Aes3PortsComplete : Prop :=
  (∀ (r : Fin 4) (rate : Nat) (s : State), s.powered = true → s.lapRuns = true → (s.aes r).on = true → portRate
    rate = true → s.on (Fld.LAP_AESR_ST_LOCK r) = false → (s.on (Fld.LAP_AESR_CFG_SYNC r) = true ∨ (s.aes r).asrc =
    true) → s.lap.aes.length = 4 →
    Answers (.aes3Lock r rate) s fun t =>
      t.on (Fld.LAP_AESR_ST_LOCK r) = true ∧ t.get (Fld.LAP_AESR_ST_RATE r) = aesRate rate ∧ t.on
      (Fld.LAP_AESR_ST_RETRACK r) = (s.on (Fld.LAP_AESR_CFG_SYNC r) && !withinPpm rate s.fsMilli 100) ∧ (t.aes
      r).rate = rate)
  ∧ (∀ (r : Fin 4) (s : State), s.powered = true → s.on (Fld.LAP_AESR_ST_LOCK r) = true → s.lap.aes.length = 4 → s.on
    (Fld.blkFreeze 0x28) = false →
    Answers (.aes3Unlock r) s fun t =>
      t.on (Fld.LAP_AESR_ST_LOCK r) = false ∧ (t.aes r).hold = 8 ∧ t.get (Fld.LAP_AESR_CNT_UNLOCKS r) = min
      (Fld.LAP_AESR_CNT_UNLOCKS r).max (s.get (Fld.LAP_AESR_CNT_UNLOCKS r) + 1))
  ∧ (∀ (r : Fin 4) (rate : Nat) (s : State), s.powered = true → s.on (Fld.LAP_AESR_ST_LOCK r) = true → s.on
    (Fld.LAP_AESR_ST_RETRACK r) = false → withinPpm rate (s.aes r).rate 1000 = false → s.lap.aes.length = 4 →
    Answers (.aes3Retrack r rate) s fun t =>
      t.on (Fld.LAP_AESR_ST_RETRACK r) = true ∧ t.get (Fld.LAP_AESR_ST_RATE r) = aesRate rate ∧ (t.aes r).rate =
      rate)
  ∧ (∀ (r : Fin 4) (rate : Nat) (s : State), s.powered = true → s.on (Fld.LAP_AESR_ST_RETRACK r) = true → (s.on
    (Fld.LAP_AESR_CFG_SYNC r) = false ∨ withinPpm rate s.fsMilli 100 = true) → s.lap.aes.length = 4 →
    Answers (.aes3RetrackEnd r rate) s fun t =>
      t.on (Fld.LAP_AESR_ST_RETRACK r) = false ∧ (t.aes r).inR = ⟨(s.aes r).inR.value, 0x3F800000, 0, s.msSamples⟩)
  ∧ (∀ (r : Fin 4) (c : Fin 2) (s : State), s.powered = true → s.on (Fld.LAP_AESR_ST_LOCK r) = true → s.on
    (Fld.LAP_AESR_CFG_VMUTE r) = true → s.on (Fld.vmuted r c) = false → 8 ≤ (s.aes r).vOne.getD c.val 0 →
    Answers (.aes3ValidityMute r c) s fun t => t.on (Fld.vmuted r c) = true)
  ∧ (∀ (r : Fin 4) (c : Fin 2) (s : State), s.powered = true → s.on (Fld.vmuted r c) = true → 192 ≤ (s.aes
    r).vZero.getD c.val 0 →
    Answers (.aes3ValidityUnmute r c) s fun t => t.on (Fld.vmuted r c) = false)
  ∧ (∀ (r : Fin 4) (b : AesBlock) (s : State), s.powered = true → s.on (Fld.LAP_AESR_ST_LOCK r) = true →
    Answers (.aes3BlockEnd r b) s fun t =>
      t.get (Fld.LAP_AESR_ST_BLK_SEQ r) = (s.get (Fld.LAP_AESR_ST_BLK_SEQ r) + 1) % 2 ^ ((Fld.LAP_AESR_ST_BLK_SEQ
      r).hi + 1 - (Fld.LAP_AESR_ST_BLK_SEQ r).lo) ∧ (s.enabled 0x08 = true → t.rd (Fld.LAP_AESR_TICK_TICK r).addr
      = s.time.tick))
  ∧ (∀ (n : Fin 4) (s : State), s.powered = true → s.lapRuns = true → s.audioOn = true → s.aesTxOn n = true → s.on
    (Fld.LAP_AEST_ST_RUN n) = false → s.time.tick.toNat % s.blockTicks = 0 → s.pulseBefore 2 ≥ s.lap.beganNow → s.on
    (Fld.PULSE_ST_REALIGN_PEND 2) = false → s.lap.tx.length = 4 →
    Answers (.aes3TxStart n) s fun t =>
      t.on (Fld.LAP_AEST_ST_RUN n) = true ∧ (t.aesTx n).words = s.aesWords n ∧ (t.aesTx n).since = some
      (s.pulseBefore 2).toNat)
  ∧ (∀ (n : Fin 4) (s : State), s.powered = true → s.on (Fld.LAP_AEST_ST_RUN n) = true → s.aesTxOn n = false →
    (s.aesTx n).words = [] →
    Answers (.aes3TxStop n) s fun t => t.on (Fld.LAP_AEST_ST_RUN n) = false)

/-! ### Power stage -/

/-- A channel that has precharged is MUTED, or PLAYING where PLAY_OK holds; a retry that falls due starts the channel and
takes one of its retries unless they are endless; 60 s without a latch restore the retries; a cleared channel is OFF,
or starts at once where it may, with its retries restored. The model's own readings that this rests on: assumptions 4,
75, 78, 218, 246. It states completion: of each of these commands it concludes, from conditions on the state and the
operands alone, that exec answers a next state, and what that state holds: ampPrechargeDone (AMP_PRECHARGE_DONE),
ampRetry (AMP_RETRY), ampRetryRestore (AMP_RETRY_RESTORE), ampChannelClear (AMP_CHANNEL_CLEAR). -/
def Obligations.ChannelsSwitch : Prop :=
  (∀ (c : Fin 8) (s : State), s.powered = true → s.ampSt (s.ampGov c.val) = 1 → s.ampKeeps (s.ampGov c.val) = true
    → s.modClock = true → s.time.now ≥ (s.amp1 (s.ampGov c.val)).startedAt + (s.amp1 (s.ampGov c.val)).precharge →
    Answers (.ampPrechargeDone c) s fun t =>
      t.ampSt (s.ampGov c.val) = (if s.playOk (s.ampGov c.val) = true then 3 else 2))
  ∧ (∀ (c : Fin 8) (d : Nat) (s : State), s.powered = true → s.ampSt (s.ampGov c.val) = 4 → (s.amp1 (s.ampGov
    c.val)).due = some d → s.time.now ≥ d → s.get (Fld.AMP_CH_ST_RETRIES (s.ampGov c.val)) ≠ 0 → (s.amp1 (s.ampGov
    c.val)).probing = false → (s.amp1 (s.ampGov c.val)).dump = false → s.ampMayStart (s.ampGov c.val) = true →
    Answers (.ampRetry c) s fun t =>
      t.ampSt (s.ampGov c.val) = 1 ∧ t.get (Fld.AMP_CH_ST_RETRIES (s.ampGov c.val)) = (if s.get
      (Fld.AMP_CH_ST_RETRIES (s.ampGov c.val)) = 15 then 15 else s.get (Fld.AMP_CH_ST_RETRIES (s.ampGov c.val)) -
      1))
  ∧ (∀ (c : Fin 8) (t0 : Nat) (s : State), s.powered = true → (s.ampSt (s.ampGov c.val) = 2 ∨ s.ampSt (s.ampGov
    c.val) = 3) → (s.amp1 (s.ampGov c.val)).since = some t0 → s.time.now ≥ t0 + 60000000000 →
    Answers (.ampRetryRestore c) s fun t =>
      t.get (Fld.AMP_CH_ST_RETRIES (s.ampGov c.val)) = s.get (Fld.AMP_CH_CFG_RETRY_N (s.ampSrc (s.ampGov c.val))))
  ∧ (∀ (g : Agent) (mask : BitVec 8) (c : Fin 8) (s : State), s.powered = true → s.isP8 = true → mask.getLsbD c =
    true → s.ampGov c.val = c.val → (s.ampSt c = 4 ∨ s.ampSt c = 5 ∨ s.ampSt c = 7) → s.on (Fld.AMP_CH_ST_SPARED c)
    = false → s.amp.ch.length = 8 →
    Answers (.ampChannelClear g mask) s fun t =>
      t.ampSt c = (if s.ampMayStart c = true then 1 else 0) ∧ (t.amp1 c).due = none ∧ t.get (Fld.AMP_CH_ST_RETRIES
      c) = s.get (Fld.AMP_CH_CFG_RETRY_N (s.ampSrc c)))

/-- A limited period is noted and its channel goes on; a short latches the channel with its cause and an energy dump,
which ends 10 µs later; a DC window above its threshold faults it; 135 °C trips it; a rail out of range stops the
rail's channels until it has lain within its bounds for 10 ms. The model's own readings that this rests on:
assumptions 73, 77. It states completion: of each of these commands it concludes, from conditions on the state and the
operands alone, that exec answers a next state, and what that state holds: ampCurrentLimit (AMP_CURRENT_LIMIT),
ampShortLatch (AMP_SHORT_LATCH), ampEnergyDumpEnd (AMP_ENERGY_DUMP_END), ampDcFault (AMP_DC_FAULT), ampThermalTrip
(AMP_THERMAL_TRIP), ampRailFault (AMP_RAIL_FAULT), ampRailRestore (AMP_RAIL_RESTORE). -/
def Obligations.ChannelsProtect : Prop :=
  (∀ (y : SwitchCurrent) (s : State), s.powered = true → s.ampSwitches y.c.val = true → 10 * y.mA ≥ 9 * s.ilimMa
    y.c.val → s.amp.ch.length = 8 →
    Answers (.ampCurrentLimit y) s fun t =>
      (t.amp1 y.c.val).limitAt = some s.time.now ∧ t.ampSt y.c.val = s.ampSt y.c.val)
  ∧ (∀ (c : Fin 8) (l : List SwitchPeriod) (bridge : Bool) (s : State), s.powered = true → (s.ampSt (s.ampGov c.val)
    = 2 ∨ s.ampSt (s.ampGov c.val) = 3) → s.on (Fld.AMP_CH_CFG_EN (s.ampGov c.val)) = true → s.amp.ch.length = 8 →
    latchCause (s.ilimMa c.val) l = some bridge →
    Answers (.ampShortLatch c l) s fun t =>
      t.ampSt (s.ampGov c.val) = 4 ∧ t.get (Fld.AMP_CH_ST_CAUSE (s.ampGov c.val)) = (if bridge then 2 else 1) ∧
      (t.amp1 (s.ampGov c.val)).dump = true ∧ (t.amp1 (s.ampGov c.val)).due = some (s.time.now + s.retryNs
      (s.ampGov c.val)))
  ∧ (∀ (c : Fin 8) (s : State), s.powered = true → (s.amp1 (s.ampGov c.val)).dump = true → (s.amp1 (s.ampGov
    c.val)).latchAt + 10000 ≤ s.time.now →
    Answers (.ampEnergyDumpEnd c) s fun t => (t.amp1 (s.ampGov c.val)).dump = false)
  ∧ (∀ (c : Fin 8) (s : State), s.powered = true → (s.ampSt (s.ampGov c.val) = 2 ∨ s.ampSt (s.ampGov c.val) = 3) →
    s.on (Fld.AMP_CH_CFG_EN (s.ampGov c.val)) = true → (s.dcOver c.val = true ∨ s.dcOver (s.ampGov c.val) = true) →
    Answers (.ampDcFault c) s fun t => t.ampSt (s.ampGov c.val) = 7 ∧ t.get (Fld.AMP_CH_ST_CAUSE (s.ampGov c.val)) = 3)
  ∧ (∀ (c : Fin 8) (tj : Int) (s : State), s.powered = true → s.isP8 = true → tj ≥ 135 → 1 ≤ s.ampSt (s.ampGov c.val)
    → s.ampSt (s.ampGov c.val) ≤ 5 →
    Answers (.ampThermalTrip c tj) s fun t =>
      t.ampSt (s.ampGov c.val) = 6 ∧ t.get (Fld.AMP_CH_ST_CAUSE (s.ampGov c.val)) = 4)
  ∧ (∀ (rail : Fin 2) (x : RailOut) (c : Fin 8) (s : State), s.powered = true → s.isP8 = true → s.amp.railBad.length
    = 2 → s.amp.railBad.getD rail.val false = false → x.ns ≥ 10000 → (x.v.toNat < 850 ∨ x.v.toNat > 6200) → railOf c
    = rail.val → s.ampGov c.val = c.val → 1 ≤ s.ampSt c → s.ampSt c ≤ 3 →
    Answers (.ampRailFault rail x) s fun t =>
      t.amp.railBad.getD rail.val false = true ∧ t.ampSt c = 0 ∧ t.get (Fld.AMP_CH_ST_CAUSE c) = (if x.v.toNat <
      850 then 5 else 6) ∧ t.get (if rail.val = 0 then Fld.AMP_RAIL_VINP_A else Fld.AMP_RAIL_VINP_B) = x.v.toNat)
  ∧ (∀ (rail : Fin 2) (v : BitVec 16) (s : State), s.powered = true → s.amp.railBad.length = 2 → s.amp.railBad.getD
    rail.val false = true → 900 ≤ v.toNat → v.toNat ≤ 6100 → s.railSettled rail.val = true →
    Answers (.ampRailRestore rail v) s fun t =>
      t.amp.railBad.getD rail.val false = false ∧ t.get (if rail.val = 0 then Fld.AMP_RAIL_VINP_A else
      Fld.AMP_RAIL_VINP_B) = v.toNat)

/-- A probe starts one second after a load latch where the channel may start; a probe without a measurement in 200 ms
shows NONE, one that ends on an excursion SHORT, and one that measures the line's class. A takeover holds the faulty
channel, energises its transfer outputs and shows what the spare covers; XFER_MS later the spare takes the channel's
settings; a release begins, and of a spare that plays nothing de-energises the driver at once; XFER_MS after that the
spare covers nothing and the channel is no longer held. The model's own readings that this rests on: assumptions 4,
76, 82, 218, 245, 247. It states completion: of each of these commands it concludes, from conditions on the state and
the operands alone, that exec answers a next state, and what that state holds: ampProbeStart (AMP_PROBE_START),
ampProbeEnd (AMP_PROBE_END), ampSpareTakeover (AMP_SPARE_TAKEOVER), ampSpareSettled (AMP_SPARE_SETTLED),
ampSpareRelease (AMP_SPARE_RELEASE), ampSpareReturn (AMP_SPARE_RETURN). -/
def Obligations.ProbesAndSpareComplete : Prop :=
  (∀ (c : Fin 8) (s : State), s.powered = true → s.ampSt (s.ampGov c.val) = 4 → (s.amp1 (s.ampGov c.val)).probing =
    true → (s.amp1 (s.ampGov c.val)).dump = false → s.ampMayStart (s.ampGov c.val) = true → s.time.now ≥ (s.amp1
    (s.ampGov c.val)).latchAt + 1000000000 →
    Answers (.ampProbeStart c) s fun t => t.ampSt (s.ampGov c.val) = 5)
  ∧ (∀ (c : Fin 8) (s : State), s.powered = true → s.ampSt (s.ampGov c.val) = 5 → (s.amp1 (s.ampGov c.val)).probeAt +
    200000000 ≤ s.time.now → s.amp.ch.length = 8 →
    Answers (.ampProbeEnd c .timeout) s fun t =>
      t.get (Fld.AMP_CH_ST_PROBE (s.ampGov c.val)) = 3 ∧ (t.amp1 (s.ampGov c.val)).probing = false)
  ∧ (∀ (c : Fin 8) (mA : Nat) (s : State), s.powered = true → s.ampSt (s.ampGov c.val) = 5 → s.amp.ch.length = 8 →
    6000 < mA → s.lineRuns = true →
    Answers (.ampProbeEnd c (.excursion mA)) s fun t =>
      t.get (Fld.AMP_CH_ST_PROBE (s.ampGov c.val)) = 1 ∧ (t.amp1 (s.ampGov c.val)).probing = false)
  ∧ (∀ (c : Fin 8) (m : Demod) (s : State), s.powered = true → s.ampSt (s.ampGov c.val) = 5 → s.lineRuns = true →
    (s.amp1 (s.ampGov c.val)).probeAt + (s.amp1 (s.ampGov c.val)).precharge + 100000000 ≤ s.time.now →
    Answers (.ampProbeEnd c (.measured m)) s fun t =>
      t.get (Fld.AMP_CH_ST_PROBE (s.ampGov c.val)) = (if s.lineClass (s.lineOf (s.ampGov c.val)) (s.measuredZ
      (s.lineOf (s.ampGov c.val)) m) = 3 then 1 else 2))
  ∧ (∀ (c : Fin 8) (p : Nat) (s : State), s.powered = true → s.spareCh = some p → p ≠ c.val → s.ampPaired c = false →
    s.on (Fld.AMP_CH_CFG_XFER_EN c) = true → s.on Fld.AMP_SPARE_ST_ACTIVE = false → s.ampSt p = 2 → s.callsSpare c p
    = true →
    Answers (.ampSpareTakeover c) s fun t =>
      t.on (Fld.AMP_CH_ST_SPARED c) = true ∧ t.on Fld.AMP_SPARE_ST_ACTIVE = true ∧ t.get Fld.AMP_SPARE_ST_COVERS =
      c.val ∧ t.amp.xfer = some (s.get (Fld.AMP_CH_CFG_XFER_ZSEL c)) ∧ t.ampSt c = (if s.ampSt c = 6 then 6 else
      7))
  ∧ (∀ (p : Nat) (s : State), s.powered = true → s.spareCh = some p → s.on Fld.AMP_SPARE_ST_ACTIVE = true →
    s.amp.settled = false → s.amp.releasing = false → s.xferred = true →
    Answers .ampSpareSettled s fun t => t.amp.settled = true ∧ t.ampSrc p = s.get Fld.AMP_SPARE_ST_COVERS)
  ∧ (∀ (g : Agent) (s : State), s.powered = true → s.isP8 = true → s.inAlarm = false → s.on Fld.AMP_SPARE_ST_ACTIVE =
    true → s.amp.releasing = false →
    Answers (.ampSpareRelease g) s fun t => t.amp.releasing = true)
  ∧ (∀ (g : Agent) (p x : Nat) (s : State), s.powered = true → s.isP8 = true → s.inAlarm = false → s.on
    Fld.AMP_SPARE_ST_ACTIVE = true → s.amp.releasing = false → s.spareCh = some p → s.amp.xfer = some x → (s.ampSt p
    < 1 ∨ 3 < s.ampSt p) →
    Answers (.ampSpareRelease g) s fun t => t.amp.releasing = true ∧ t.amp.xfer = none ∧ t.amp.xferAt = s.time.now)
  ∧ (∀ (s : State), s.powered = true → s.on Fld.AMP_SPARE_ST_ACTIVE = true → s.amp.releasing = true → s.amp.xfer =
    none → s.xferred = true →
    Answers .ampSpareReturn s fun t =>
      t.on Fld.AMP_SPARE_ST_ACTIVE = false ∧ t.on (Fld.AMP_CH_ST_SPARED (s.get Fld.AMP_SPARE_ST_COVERS)) = false ∧
      t.amp.releasing = false)

/-! ### Loudspeaker lines -/

/-- A round, TEST_S or in ALARM ALARM_S after the last, begins with the first line it can test, and one that falls due
while another runs waits; TEST_NOW opens a slot for the first line asked for; a valid slot that has lasted its
settling and integration shows the impedance computed from what it demodulated and counts, one with content near the
pilot counts as invalid; a line without a valid test for three periods is STALE. The model's own readings that this
rests on: assumptions 82, 85, 87, 217, 248. It states completion: of each of these commands it concludes, from
conditions on the state and the operands alone, that exec answers a next state, and what that state holds:
lineRoundStart (LINE_ROUND_START), lineTestNow (LINE_TEST_NOW), lineTestSlotEnd (LINE_TEST_SLOT_END), lineStale
(LINE_STALE). -/
def Obligations.LineTestsComplete : Prop :=
  (∀ (s : State), s.powered = true → s.lineRuns = true → s.audioOn = true → s.line.roundAt + s.roundNs ≤ s.time.now
    → s.line.inRound = true →
    Answers .lineRoundStart s fun t => t.line.due = true)
  ∧ (∀ (c : Nat) (s : State), s.powered = true → s.lineRuns = true → s.audioOn = true → s.line.roundAt + s.roundNs ≤
    s.time.now → s.line.inRound = false → s.line.slot = none → s.line.cal = [] → s.line.asked = [] → s.line.sweep =
    [] → (List.range 8).find? s.routine = some c →
    Answers .lineRoundStart s fun t => t.line.slot = some (c, .round) ∧ t.line.inRound = true)
  ∧ (∀ (g : Agent) (mask : BitVec 8) (c : Nat) (s : State), s.powered = true → s.lineRuns = true → s.line.slot = none
    → s.line.cal = [] → s.line.asked = [] → (List.range 8).find? (fun d => mask.toNat.testBit d && s.testable d) =
    some c →
    Answers (.lineTestNow g mask) s fun t => t.line.slot = some (c, .asked))
  ∧ (∀ (x : LineTest) (c : Fin 8) (s : State), s.powered = true → s.line.slot = some (c.val, .round) → s.slotDone =
    true → x.content = false → (if x.eightOhms then s.line.clip94 else s.line.clip93) = false → s.line.bad = false →
    s.testable c = true → s.line.ch.length = 8 → s.on (Fld.blkFreeze 0x31) = false →
    Answers (.lineTestSlotEnd x) s fun t =>
      t.get (Fld.LINE_CH_ZMEAS_MAG c) = magReg (s.measuredZ c x.m) ∧ t.on (Fld.LINE_CH_ST_STALE c) = false ∧
      (t.line1 c).lastValid = s.time.now ∧ t.get (Fld.LINE_CH_CNT_TESTS c) = min (Fld.LINE_CH_CNT_TESTS c).max
      (s.get (Fld.LINE_CH_CNT_TESTS c) + 1))
  ∧ (∀ (x : LineTest) (c : Fin 8) (s : State), s.powered = true → s.line.slot = some (c.val, .round) → s.slotDone =
    true → x.content = true → s.on (Fld.blkFreeze 0x31) = false →
    Answers (.lineTestSlotEnd x) s fun t =>
      t.get (Fld.LINE_CH_CNT_INVALID c) = min (Fld.LINE_CH_CNT_INVALID c).max (s.get (Fld.LINE_CH_CNT_INVALID c) +
      1) ∧ t.get (Fld.LINE_CH_ZMEAS_MAG c) = s.get (Fld.LINE_CH_ZMEAS_MAG c))
  ∧ (∀ (c : Fin 8) (s : State), s.powered = true → s.isP8 = true → s.time.now ≥ (s.line1 c).lastValid + 3 * s.get
    Fld.LINE_CFG_TEST_S * 1000000000 →
    Answers (.lineStale c) s fun t => t.on (Fld.LINE_CH_ST_STALE c) = true)

/-- A measurement, 2 s after the last, shows its insulation resistance; a location steps through the lines it can step,
and the step that after 4 s shows the fault names its line; in MAINTENANCE a line asked for joins the calibrations; a
stored reference stands in flash. The model's own readings that this rests on: assumptions 82, 83, 86, 249. It states
completion: of each of these commands it concludes, from conditions on the state and the operands alone, that exec
answers a next state, and what that state holds: earthFaultMeasure (EARTH_FAULT_MEASURE), efLocate (EF_LOCATE),
efLocateStepEnd (EF_LOCATE_STEP_END), lineCal (LINE_CAL), lineCalStored (LINE_CAL_STORED). -/
def Obligations.EarthAndCalibrationComplete : Prop :=
  (∀ (a : Nat) (s : State), s.powered = true → s.lineRuns = true → s.on Fld.LINE_EF_EN = true → s.line.efAt +
    2000000000 ≤ s.time.now →
    Answers (.earthFaultMeasure a) s fun t => t.get Fld.LINE_EF_ST_RISO = risoOf a)
  ∧ (∀ (g : Agent) (s : State), s.powered = true → s.lineRuns = true → s.on Fld.LINE_EF_EN = true → s.on
    Fld.LINE_EF_ST_LOCATING = false →
    Answers (.efLocate g) s fun t =>
      t.line.steps = s.efLines ∧ t.on Fld.LINE_EF_ST_LOCATING = !s.efLines.isEmpty ∧ t.on
      Fld.LINE_EF_ST_MODULE_WIDE = s.efLines.isEmpty)
  ∧ (∀ (d : Int) (a c : Nat) (rest : List Nat) (s : State), s.powered = true → s.on Fld.LINE_EF_ST_LOCATING = true →
    s.line.stepAt + 4000000000 ≤ s.time.now → s.line.steps = c :: rest → s.efLines.contains c = true → 10 * d.natAbs
    ≥ 5000000 - a →
    Answers (.efLocateStepEnd d a) s fun t =>
      t.get Fld.LINE_EF_ST_LOC = c ∧ t.on Fld.LINE_EF_ST_LOC_VALID = true ∧ t.on Fld.LINE_EF_ST_LOCATING = false)
  ∧ (∀ (g : Agent) (mask : BitVec 8) (c : Fin 8) (s : State), s.powered = true → s.lineRuns = true → s.mode =
    modeMaintenance → mask.getLsbD c = true → s.testable c = true →
    Answers (.lineCal g mask) s fun t => t.line.cal.contains c.val = true)
  ∧ (∀ (c : Fin 8) (s : State), s.powered = true → s.line.store.contains c.val = true →
    Answers (.lineCalStored c) s fun t =>
      t.line.store.contains c.val = false ∧ t.flash.lines.head? = some (c.val, (s.line1 c).zref))

/-! ### The Crown and the pairing -/

/-- In a cycle whose vote stands, an entry that this module's sources hold active raises ALARM and drives ALARM_N low, and
CUFF reads what the line gives; a disagreement beyond repair is CROWN_FAIL; a repaired lane votes again; the
oscillator check names each lane whose count of edges differs from both others' by more than 1,000 ppm; a disabled
trigger reads NORMAL, and one that stays in the ACTIVE band for its debounce is ACTIVE. The model's own readings that
this rests on: assumptions 88, 89, 91, 93, 95. It states completion: of each of these commands it concludes, from
conditions on the state and the operands alone, that exec answers a next state, and what that state holds:
crownLaneCycle (CROWN_LANE_CYCLE), laneRepairDone (LANE_REPAIR_DONE), laneOscCheck (LANE_OSC_CHECK), trigSample
(TRIG_SAMPLE). -/
def Obligations.CrownVotes : Prop :=
  (∀ (x : LaneIn) (e : Fin 16) (s : State), s.powered = true → s.voting.length = 3 → x.shown.all (·.isNone) = true
    → s.crown.shown.all (·.isNone) = true → s.crown.laneOsc = 0 → s.on Fld.CROWN_STATUS_CROWN_FAIL = false →
    s.crown.own.testBit e.val = true → s.entryFit e.val = true →
    Answers (.crownLaneCycle x) s fun t =>
      t.on Fld.CROWN_STATUS_ALARM = true ∧ t.entryOn e.val = true ∧ t.on Fld.CROWN_FIELD_ALARM_N = false ∧ t.on
      Fld.PAIR_STATUS_CUFF = (x.cuff && !s.on Fld.PAIR_STATUS_CUFF_DRIVE))
  ∧ (∀ (x : LaneIn) (s : State), s.powered = true → s.on Fld.CROWN_STATUS_CROWN_FAIL = false → s.voteHeld
    s.crown.laneOsc = true → s.beyondRepair = true →
    Answers (.crownLaneCycle x) s fun t => t.on Fld.CROWN_STATUS_CROWN_FAIL = true)
  ∧ (∀ (x : LaneIn) (a b : Fin 3) (y z : LaneCopy) (s : State), s.powered = true → s.on Fld.CROWN_STATUS_CROWN_FAIL =
    false → s.lane a.val = laneVoting → s.lane b.val = laneVoting → s.voting.length = 2 → (List.range 3).any (fun l
    => s.lane l = laneRetired) = true → x.shown.getD a.val none = some y → x.shown.getD b.val none = some z → y ≠ z
    →
    Answers (.crownLaneCycle x) s fun t => t.on Fld.CROWN_STATUS_CROWN_FAIL = true)
  ∧ (∀ (l : Fin 3) (s : State), s.powered = true → s.lane l = laneRepair →
    Answers (.laneRepairDone l) s fun t => t.lane l = laneVoting)
  ∧ (∀ (e : List Nat) (l : Fin 3) (s : State), s.powered = true →
    Answers (.laneOscCheck e) s fun t =>
      t.crown.laneOsc.testBit l.val = (List.range 3).all fun m => m = l.val || oscDiffers (e.getD l.val 0) (e.getD
      m 0))
  ∧ (∀ (mohm : List Nat) (n : Fin 8) (s : State), s.powered = true → s.on (Fld.CROWN_TRIG_EN n) = false →
    Answers (.trigSample mohm) s fun t => t.get (Fld.trigState n) = 0)
  ∧ (∀ (mohm : List Nat) (n : Fin 8) (run : Nat) (s : State), s.powered = true → s.on (Fld.CROWN_TRIG_EN n) = true →
    150000 ≤ mohm.getD n.val 0xFFFFFFFF → mohm.getD n.val 0xFFFFFFFF ≤ 1500000 → s.crown.trig.getD n.val (0, 0) =
    (1, run) → run ≥ s.get (Fld.CROWN_TRIG_DEB_MS n) → s.get (Fld.CROWN_TRIG_DEB_MS n) ≤ 1000 →
    Answers (.trigSample mohm) s fun t => t.get (Fld.trigState n) = 1)

/-- A start command for an entry of host software holds it active; a turn that ends gives way to the other content, from
now; LIVE returns once its conditions have been clear for 1 s, and the multiplexer is ordered back once SYN2 has been
good for 10 s and the outputs are not held. The model's own readings that this rests on: assumptions 4, 99, 100, 218.
It states completion: of each of these commands it concludes, from conditions on the state and the operands alone,
that exec answers a next state, and what that state holds: alarmStartCmd (ALARM_START_CMD), contentTurnEnd
(CONTENT_TURN_END), liveFallbackReturn (LIVE_FALLBACK_RETURN), fallbackClockReturn (FALLBACK_CLOCK_RETURN). -/
def Obligations.AlarmContentCompletes : Prop :=
  (∀ (g : Agent) (w : BitVec 32) (s : State), s.powered = true → w.getLsbD 8 = true → s.entrySrc (Word.field w 3 0)
    = 9 → s.entryReady (Word.field w 3 0) = true →
    Answers (.alarmStartCmd g w) s fun t =>
      t.crown.own.testBit (Word.field w 3 0) = true ∧ t.entryOn (Word.field w 3 0) = true ∧ t.get
      Fld.CROWN_CMD_ENTRY = Word.field w 3 0)
  ∧ (∀ (e : Fin 16) (s : State), s.powered = true → s.crown.seqs.any (fun x => x.1 = e.val) = true → s.entryOn e.val
    = true → s.turnEnds e.val (s.seqOf e.val) = true →
    Answers (.contentTurnEnd e) s fun t =>
      t.seqOf e.val = ⟨if (if (s.seqOf e.val).partB then s.entryA e.val else s.entryB e.val) = 0 then (s.seqOf
      e.val).partB else !(s.seqOf e.val).partB, s.time.now, none⟩)
  ∧ (∀ (s : State), s.powered = true → s.on Fld.CROWN_STATUS_LIVE_FALLBACK = true → s.on Fld.CROWN_STATUS_SCHED_LOST
    = false → s.overrunRecent = false → s.time.now ≥ s.crown.schedClear + 1000000000 → s.crown.overruns.all (fun x
    => s.time.now ≥ x + 2000000000) = true →
    Answers .liveFallbackReturn s fun t => t.on Fld.CROWN_STATUS_LIVE_FALLBACK = false)
  ∧ (∀ (s : State), s.powered = true → s.amp.fallback = true → s.crown.mux = none → s.crown.held = false → s.on
    (Fld.SYN_ST_LOCK 2) = true → s.on Fld.CROWN_STATUS_SCHED_LOST = false → s.time.now ≥ s.crown.schedClear +
    10000000000 → s.ran (.synLock 2) 10000000000 = true →
    Answers .fallbackClockReturn s fun t => t.crown.mux = some (s.time.now, false))

/-- At startup a CUFF low for 2 ms makes a standby and one high for 2 ms, or 52 ms in a module that is not the duty
module, a claim; a standby claims after 2 ms of high CUFF, with the cause it heard, or after 10 ms of low CUFF with a
CUFF fault where the liner alone tells; after SETTLE_MS a claim waits for its exchange, or is granted at once while
SCHED_LOST stands; a module that yields becomes the standby once CUFF is low 100 µs after it let go, or holds on after
20 ms of high CUFF. The model's own readings that this rests on: assumptions 103, 107, 108, 219, 250. It states
completion: of each of these commands it concludes, from conditions on the state and the operands alone, that exec
answers a next state, and what that state holds: pairStartupDecide (PAIR_STARTUP_DECIDE), pairClaim (PAIR_CLAIM),
pairLinerClaim (PAIR_LINER_CLAIM), pairSettleDone (PAIR_SETTLE_DONE), pairYieldRelease (PAIR_YIELD_RELEASE),
pairYieldFail (PAIR_YIELD_FAIL). -/
def Obligations.RolesComplete : Prop :=
  (∀ (s : State), s.powered = true → s.role = roleStartup → s.cuffFor false 2000000 = true →
    Answers (.pairStartupDecide false) s fun t => t.role = roleStandby)
  ∧ (∀ (s : State), s.powered = true → s.role = roleStartup → s.cuffFor true (if s.on Fld.PAIR_CFG_DUTY then 2000000
    else 52000000) = true →
    Answers (.pairStartupDecide true) s fun t => t.role = roleClaiming ∧ t.on Fld.PAIR_STATUS_CUFF_DRIVE = true)
  ∧ (∀ (s : State), s.powered = true → s.role = roleStandby → s.crown.held = false → s.cuffFor true 2000000 = true →
    Answers .pairClaim s fun t =>
      t.role = roleClaiming ∧ t.on Fld.PAIR_STATUS_CUFF_DRIVE = true ∧ t.get Fld.PAIR_LAST_CAUSE =
      s.pair.yieldCause % 2 ^ (Fld.PAIR_LAST_CAUSE.hi + 1 - Fld.PAIR_LAST_CAUSE.lo))
  ∧ (∀ (x : PairRec) (s : State), s.powered = true → s.role = roleStandby → s.cuffFor false 10000000 = true →
    s.pair.heard = some x → x.yielding = true →
    Answers .pairLinerClaim s fun t =>
      t.role = roleClaiming ∧ t.on Fld.PAIR_STATUS_CUFF_FAULT = true ∧ t.get Fld.PAIR_LAST_CAUSE = 0x10)
  ∧ (∀ (s : State), s.powered = true → s.role = roleClaiming → s.ran .claim (s.get Fld.PAIR_CFG_SETTLE_MS * 1000000)
    = true →
    Answers .pairSettleDone s fun t =>
      t.role = (if s.on Fld.CROWN_STATUS_SCHED_LOST then roleActive else roleClaiming) ∧ t.pair.settled = !s.on
      Fld.CROWN_STATUS_SCHED_LOST)
  ∧ (∀ (s : State), s.powered = true → s.role = roleYielding → s.cuffFor false 0 = true → s.time.now ≥ s.pair.yieldAt
    + 100000 →
    Answers .pairYieldRelease s fun t => t.role = roleStandby)
  ∧ (∀ (s : State), s.powered = true → s.role = roleYielding → s.cuffFor true 20000000 = true →
    Answers .pairYieldFail s fun t => t.role = roleActive ∧ t.on Fld.PAIR_STATUS_CUFF_DRIVE = true)

/-- A standby that may originate frames counts its record to a partner that it knows, one each 1 ms; an active module
takes its partner's record, with its entries, and the partner is not lost; sixteen brims without the liner, or 16 ms
without a standby record since the last one or since it became active, lose the partner. A proof swap begins at an
active module in MAINTENANCE, outside ALARM, with a READY partner; its window ends by command or, outside ALARM, when
WIN_S has passed; a permanent window is judged after 1 s by whether the partner took over in time. The model's own
readings that this rests on: assumptions 109, 113, 114. It states completion: of each of these commands it concludes,
from conditions on the state and the operands alone, that exec answers a next state, and what that state holds:
standbyRecordSend (STANDBY_RECORD_SEND), standbyRecordReceive (STANDBY_RECORD_RECEIVE), linerLoss (LINER_LOSS),
standbyRecordLoss (STANDBY_RECORD_LOSS), proofSwap (PROOF_SWAP), proofEnd (PROOF_END), proofWindowEnd
(PROOF_WINDOW_END), proofPermanentJudge (PROOF_PERMANENT_JUDGE). -/
def Obligations.RecordsAndProofComplete : Prop :=
  (∀ (s : State), s.powered = true → s.role = roleStandby → s.ran .record 1000000 = true → s.nodeValid = true →
    s.mayOriginate = true → (s.rd (nodeKey (s.get Fld.PAIR_CFG_PEER_NODE) + 1)).getLsbD 31 = true →
    s.rsw.sentCounts.length = 3 →
    Answers .standbyRecordSend s fun t => t.rsw.sentCounts.getD 2 0 = (s.rsw.sentCounts.getD 2 0 + 1) % 2 ^ 32)
  ∧ (∀ (x : PairRec) (s : State), s.powered = true → x.act = none → s.role = roleActive →
    Answers (.standbyRecordReceive x) s fun t =>
      t.pair.stby = some x ∧ t.pair.stbyAt = s.time.now ∧ t.get Fld.CROWN_ACTIVE_PARTNER = x.entries.toNat ∧ t.on
      Fld.PAIR_STATUS_PEER_LOST = false ∧ t.on Fld.PAIR_STATUS_PEER_READY = x.ready)
  ∧ (∀ (s : State), s.powered = true → s.role = roleStandby → s.pair.missed ≥ 16 →
    Answers .linerLoss s fun t => t.on Fld.PAIR_STATUS_PEER_LOST = true)
  ∧ (∀ (s : State), s.powered = true → s.role = roleActive → s.time.now ≥ s.stbySince + 16000000 →
    Answers .standbyRecordLoss s fun t => t.on Fld.PAIR_STATUS_PEER_LOST = true)
  ∧ (∀ (g : Agent) (s : State), s.powered = true → s.role = roleActive → s.mode = modeMaintenance → s.on
    Fld.CROWN_STATUS_ALARM = false → s.peerReady = true → s.pair.stage = .none → s.on Fld.PAIR_STATUS_PROOF = false
    →
    Answers (.proofSwap g) s fun t =>
      t.pair.stage = .yielding ∧ t.on Fld.PAIR_STATUS_PROOF = true ∧ t.pair.proofCause = true)
  ∧ (∀ (g : Agent) (s : State), s.powered = true → s.pair.stage = .window →
    Answers (.proofEnd g) s fun t => t.pair.stage = .ended)
  ∧ (∀ (s : State), s.powered = true → s.pair.stage = .window → s.get Fld.PAIR_PROOF_WIN_S ≠ 0xFFFF → s.ran .proof
    s.windowNs = true → s.on Fld.CROWN_STATUS_ALARM = false →
    Answers .proofWindowEnd s fun t => t.pair.stage = .ended)
  ∧ (∀ (s : State), s.powered = true → s.pair.stage = .window → s.get Fld.PAIR_PROOF_WIN_S = 0xFFFF → s.ran .proof
    1000000000 = true →
    Answers .proofPermanentJudge s fun t =>
      t.pair.stage = .judged ∧ t.get Fld.PAIR_PROOF_RESULT = (if s.pair.inTime then 1 else 2))

/-! ### The panel -/

/-- A read of registers that are there begins a reply with their values, high octet first, and its CRC; a write of a
mailbox register puts its value there and its echo begins; a request that meets an exception is counted and its
exception reply begins; a frame with a bad CRC is counted and not answered. The model's own readings that this rests
on: assumptions 115, 116. It states completion: of each of these commands it concludes, from conditions on the state
and the operands alone, that exec answers a next state, and what that state holds: modbusRequest (MODBUS_REQUEST). -/
def Obligations.ModbusCompletes : Prop :=
  (∀ (f : MbFrame) (r : MbReq) (s : State), s.powered = true → s.panelModbus = true → mbCrcOk (f.octets.map
    (·.toNat)) = true → mbParse (f.octets.map (·.toNat)) = r → r.lenOk = true → r.addr = s.panelAddr → r.addr ≠ 0 →
    r.fn = 3 → s.panelException r = none →
    Answers (.modbusRequest f) s fun t =>
      t.pnl.sending = mbFrame ([r.addr, 3, 2 * r.qty] ++ (List.range r.qty).flatMap fun i => [((s.panelReg (r.reg
      + i)).getD 0).toNat / 256, ((s.panelReg (r.reg + i)).getD 0).toNat % 256]) ∧ t.pnl.sendingEnd = true)
  ∧ (∀ (f : MbFrame) (r : MbReq) (v : BitVec 16) (s : State), s.powered = true → s.panelModbus = true → mbCrcOk
    (f.octets.map (·.toNat)) = true → mbParse (f.octets.map (·.toNat)) = r → r.lenOk = true → r.addr = s.panelAddr →
    r.addr ≠ 0 → r.fn = 6 → r.vals = [v] → 0x20 ≤ r.reg → r.reg ≤ 0x2F →
    Answers (.modbusRequest f) s fun t =>
      t.rd (mailKey (r.reg - 0x20)) = v.setWidth 32 ∧ t.pnl.sending = mbFrame [r.addr, 6, r.reg / 256, r.reg %
      256, v.toNat / 256, v.toNat % 256])
  ∧ (∀ (f : MbFrame) (r : MbReq) (e : Nat) (s : State), s.powered = true → s.panelModbus = true → mbCrcOk
    (f.octets.map (·.toNat)) = true → mbParse (f.octets.map (·.toNat)) = r → r.lenOk = true → r.addr = s.panelAddr →
    r.addr ≠ 0 → s.panelException r = some e → s.on (Fld.blkFreeze 0x3A) = false →
    Answers (.modbusRequest f) s fun t =>
      t.get Fld.PNL_CNT_MB_EXC = min Fld.PNL_CNT_MB_EXC.max (s.get Fld.PNL_CNT_MB_EXC + 1) ∧ t.pnl.sending =
      mbFrame [r.addr, (r.fn + 128) % 256, e])
  ∧ (∀ (f : MbFrame) (s : State), s.powered = true → s.panelModbus = true → mbCrcOk (f.octets.map (·.toNat)) = false
    → s.on (Fld.blkFreeze 0x3A) = false →
    Answers (.modbusRequest f) s fun t =>
      t.get Fld.PNL_CNT_CRC_ERR = min Fld.PNL_CNT_CRC_ERR.max (s.get Fld.PNL_CNT_CRC_ERR + 1) ∧ t.pnl.sending =
      s.pnl.sending ∧ t.out = s.out)

/-- A byte joins the item in progress, which a gap of GAP_CH character times or a flush closes into the queue; a pop
answers the oldest item and takes it out, and an empty queue answers the idle item; discards empty the queues and cut
an item that is being sent after its character, but no Modbus reply; a write is queued behind what is being sent, and
after its time a character has gone out; a silence of 3.5 character times ends. The model's own readings that this
rests on: assumptions 118, 120. It states completion: of each of these commands it concludes, from conditions on the
state and the operands alone, that exec answers a next state, and what that state holds: panelByteReceive
(PANEL_BYTE_RECEIVE), panelGapClose (PANEL_GAP_CLOSE), panelRxFlush (PANEL_RX_FLUSH), panelRxDiscard
(PANEL_RX_DISCARD), panelRxPop (PANEL_RX_POP), panelTxWrite (PANEL_TX_WRITE), panelTxDiscard (PANEL_TX_DISCARD),
panelCharacterSent (PANEL_CHARACTER_SENT). -/
def Obligations.PanelQueuesComplete : Prop :=
  (∀ (b : BitVec 8) (s : State), s.powered = true → s.panelRaw = true → s.rxFull = false → s.pnl.count < 3 →
    Answers (.panelByteReceive b false) s fun t =>
      t.pnl.count = s.pnl.count + 1 ∧ t.pnl.part.data = s.pnl.part.data ||| BitVec.ofNat 32 (b.toNat * 2 ^ (8 *
      s.pnl.count)) ∧ t.pnl.part.err = s.pnl.part.err)
  ∧ (∀ (s : State), s.powered = true → s.panelRaw = true → s.ran .panelIn (s.get Fld.PNL_CFG_GAP_CH * s.charNs) =
    true → s.pnl.count ≠ 0 → s.rxFull = false →
    Answers .panelGapClose s fun t =>
      t.pnl.rx = s.pnl.rx ++ [{ s.pnl.part with gap := true, flushed := false }] ∧ t.pnl.count = 0)
  ∧ (∀ (g : Agent) (s : State), s.powered = true → s.pnl.count ≠ 0 → s.rxFull = false →
    Answers (.panelRxFlush g) s fun t =>
      t.pnl.rx = s.pnl.rx ++ [{ s.pnl.part with gap := false, flushed := true }] ∧ t.pnl.count = 0)
  ∧ (∀ (g : Agent) (s : State), s.powered = true →
    Answers (.panelRxDiscard g) s fun t => t.pnl.rx = [] ∧ t.pnl.count = 0)
  ∧ (∀ (g : Agent) (x : PnlItem) (l : List PnlItem) (s : State), s.powered = true → s.pnl.rx = x :: l →
    Answers (.panelRxPop g) s fun t => t.pnl.rx = l ∧ t.resp = s.resp.set g.who.num x.data)
  ∧ (∀ (g : Agent) (s : State), s.powered = true → s.pnl.rx = [] →
    Answers (.panelRxPop g) s fun t => t.resp = s.resp.set g.who.num 0 ∧ t.rd (rxTagKey g.who) = 0x100)
  ∧ (∀ (g : Agent) (w : BitVec 32) (s : State), s.powered = true → s.pnl.tx.length < 1024 → (s.pnl.tx.length % 32 ≠ 0
    ∨ s.grant 25 0 true = true) → s.pnl.sending ≠ [] →
    Answers (.panelTxWrite g w) s fun t =>
      t.pnl.tx.length = s.pnl.tx.length + 1 ∧ (t.pnl.tx.getLast?.map (·.data)) = some w)
  ∧ (∀ (g : Agent) (s : State), s.powered = true →
    Answers (.panelTxDiscard g) s fun t =>
      t.pnl.tx = [] ∧ t.pnl.sending = (if s.pnl.reply = true then s.pnl.sending else s.pnl.sending.take 1))
  ∧ (∀ (c : Nat) (l : List Nat) (s : State), s.powered = true → s.pnl.sending = c :: l → s.ran .panelOut s.sendNs =
    true → l ≠ [] →
    Answers .panelCharacterSent s fun t => t.out = .panel c :: s.out ∧ t.pnl.sending = l)
  ∧ (∀ (c : Nat) (s : State), s.powered = true → s.pnl.sending = [c] → s.ran .panelOut s.sendNs = true →
    s.pnl.sendingEnd = true →
    Answers .panelCharacterSent s fun t =>
      t.out = .panel c :: s.out ∧ t.pnl.sending = [] ∧ t.pnl.silence = true ∧ t.pnl.tx = s.pnl.tx)
  ∧ (∀ (s : State), s.powered = true → s.pnl.sending = [] → s.pnl.silence = true → s.pnl.tx = [] → s.ran .panelOut (7
    * s.charNs / 2) = true →
    Answers .panelCharacterSent s fun t => t.pnl.silence = false ∧ t.pnl.sending = [])

/-! ### Modes, supply and temperature -/

/-- From OFF a valid supply brings the part to ATTEST with every register at reset but the supply's, the mode and what the
log writes, its flash, OTP array and log archive kept; below 6.0 V it is OFF, with the exchange RAM empty; ATTEST
completed with a bank that verifies and a self-test that passes waits for its brim without a cause of SHELTER, and a
failed self-test gives one. A request that its mode and its pairing allow waits for its brim with its origin; a
power-down done is noted once no channel switches; a tick of NIGHTCAP or SHELTER with every channel OFF leaves SYN2
without lock; a wake passes from its regulators to its banks, and 393,216 ns later to its end. The model's own
readings that this rests on: assumptions 6, 129, 135, 138. It states completion: of each of these commands it
concludes, from conditions on the state and the operands alone, that exec answers a next state, and what that state
holds: powerValid (POWER_VALID), vinCtlLoss (VIN_CTL_LOSS), attestComplete (ATTEST_COMPLETE), modeRequest
(MODE_REQUEST), powerDownDone (POWER_DOWN_DONE), tickStart (TICK_START), wakeRegulatorsReady (WAKE_REGULATORS_READY),
wakeBanksZeroed (WAKE_BANKS_ZEROED). -/
def Obligations.PowerAndModesComplete : Prop :=
  (∀ (v : BitVec 16) (k : Nat) (s : State), s.powered = false → v.toNat ≥ 880 → tellKey k = false → k ≠
    Fld.PLAT_SUPPLY_VIN_CTL.addr →
    Answers (.powerValid v) s fun t =>
      t.mode = modeAttest ∧ t.get Fld.PLAT_SUPPLY_VIN_CTL = v.toNat ∧ t.rd k = State.reset.rd k ∧ t.shadow = [] ∧
      t.mem.exch = [] ∧ t.flash = s.flash ∧ t.otp = s.otp ∧ t.log.archive = s.log.archive ∧ t.pending = s.pending)
  ∧ (∀ (v : BitVec 16) (s : State), s.powered = true → v.toNat < 600 →
    Answers (.vinCtlLoss v) s fun t =>
      t.powered = false ∧ t.mem.exch = [] ∧ t.flash = s.flash ∧ t.otp = s.otp ∧ t.log.archive = s.log.archive)
  ∧ (∀ (a : AttestIn) (b : Nat) (s : State), s.powered = true → s.mode = modeAttest → s.plat.attested = false →
    s.otp.cycle ≠ 4 → s.bootBank a = some b → a.selfTest = true →
    Answers (.attestComplete a) s fun t =>
      t.plat.attested = true ∧ t.plat.causes = s.plat.causes ∧ t.get Fld.PLAT_FW_ST_ACT_BANK = b)
  ∧ (∀ (a : AttestIn) (b : Nat) (s : State), s.powered = true → s.mode = modeAttest → s.plat.attested = false →
    s.otp.cycle ≠ 4 → s.bootBank a = some b → a.selfTest = false →
    Answers (.attestComplete a) s fun t => t.plat.attested = true ∧ t.hasCause bitAttest = true)
  ∧ (∀ (g : Agent) (m : BitVec 4) (s : State), s.powered = true → s.inAlarm = false → (modeTargets s.mode).contains
    m.toNat = true → s.pairRefuses m.toNat = false →
    Answers (.modeRequest g m) s fun t =>
      t.plat.req = some ⟨m.toNat, g.who.origin, false⟩ ∧ t.get Fld.TOP_MODE_CMD_TARGET = m.toNat)
  ∧ (∀ (s : State), s.powered = true → (s.mode = modeNightcap ∨ s.mode = modeShelter) → s.plat.wake = 0 → (List.range
    8).any s.ampSwitches = false →
    Answers .powerDownDone s fun t => t.plat.down = true)
  ∧ (∀ (i : TickIn) (s : State), s.powered = true → s.isP8 = true → (s.mode = modeNightcap ∨ s.mode = modeShelter) →
    s.enabled 0x30 = true → (List.range 8).all (fun c => s.ampSt c = 0) = true →
    Answers (.tickStart i) s fun t => t.on (Fld.SYN_ST_LOCK 2) = false)
  ∧ (∀ (s : State), s.powered = true → s.plat.wake = 1 →
    Answers .wakeRegulatorsReady s fun t => t.plat.wake = 2)
  ∧ (∀ (s : State), s.powered = true → s.plat.wake = 2 → s.ran .zeroing 393216 = true →
    Answers .wakeBanksZeroed s fun t => t.plat.wake = 3 ∧ t.plat.down = false)

/-- Below 9.0 V VIN_WARN stands until 9.2 V; below 8.0 V and above 62.0 V their SHELTER causes stand, until 9.0 V and 61.0
V; a power-fail warning stands from its assertion to its release, its action of SHELTER taken once after PFW_DELAY_S,
and its SHELTER cause goes once it has been released for 10 s. The model's own readings that this rests on:
assumptions 136, 137. It states completion: of each of these commands it concludes, from conditions on the state and
the operands alone, that exec answers a next state, and what that state holds: vinCtlWarn (VIN_CTL_WARN),
vinCtlWarnRestore (VIN_CTL_WARN_RESTORE), vinCtlUndervoltage (VIN_CTL_UNDERVOLTAGE), vinCtlOvervoltage
(VIN_CTL_OVERVOLTAGE), vinCtlRestore (VIN_CTL_RESTORE), pfwAssert (PFW_ASSERT), pfwRelease (PFW_RELEASE),
pfwDelayExpire (PFW_DELAY_EXPIRE), pfwShelterRestore (PFW_SHELTER_RESTORE). -/
def Obligations.SupplyCompletes : Prop :=
  (∀ (v : BitVec 16) (s : State), s.powered = true → v.toNat < 900 →
    Answers (.vinCtlWarn v) s fun t => t.on Fld.PLAT_SUPPLY_VIN_WARN = true ∧ t.get Fld.PLAT_SUPPLY_VIN_CTL = v.toNat)
  ∧ (∀ (v : BitVec 16) (s : State), s.powered = true → v.toNat ≥ 920 →
    Answers (.vinCtlWarnRestore v) s fun t => t.on Fld.PLAT_SUPPLY_VIN_WARN = false)
  ∧ (∀ (v : BitVec 16) (s : State), s.powered = true → v.toNat < 800 →
    Answers (.vinCtlUndervoltage v) s fun t => t.hasCause bitVinUv = true)
  ∧ (∀ (v : BitVec 16) (s : State), s.powered = true → v.toNat > 6200 →
    Answers (.vinCtlOvervoltage v) s fun t => t.hasCause bitVinOv = true ∧ t.on Fld.PLAT_SUPPLY_VIN_OV = true)
  ∧ (∀ (v : BitVec 16) (s : State), s.powered = true → 900 ≤ v.toNat → v.toNat ≤ 6100 →
    Answers (.vinCtlRestore v) s fun t =>
      t.hasCause bitVinUv = false ∧ t.hasCause bitVinOv = false ∧ t.on Fld.PLAT_SUPPLY_VIN_OV = false)
  ∧ (∀ (s : State), s.powered = true → s.on Fld.PLAT_SUPPLY_PFW = false →
    Answers .pfwAssert s fun t => t.on Fld.PLAT_SUPPLY_PFW = true)
  ∧ (∀ (s : State), s.powered = true →
    Answers .pfwRelease s fun t => t.on Fld.PLAT_SUPPLY_PFW = false ∧ t.plat.pfwHeld = false)
  ∧ (∀ (s : State), s.powered = true → s.on Fld.PLAT_SUPPLY_PFW = true → s.plat.pfwDone = false → s.ran .pfw (s.get
    Fld.PLAT_SUPPLY_CFG_PFW_DELAY_S * 1000000000) = true → s.get Fld.PLAT_SUPPLY_CFG_PFW_ACT = 2 → s.on
    Fld.CROWN_STATUS_ALARM = false → s.inAlarm = false →
    Answers .pfwDelayExpire s fun t => t.hasCause bitPfw = true ∧ t.plat.pfwDone = true)
  ∧ (∀ (s : State), s.powered = true → s.on Fld.PLAT_SUPPLY_PFW = false → s.ran .pfwOff 10000000000 = true →
    Answers .pfwShelterRestore s fun t => t.hasCause bitPfw = false)

/-- A sample shows the die and base temperatures; TEMP_WARN sets from 120 °C of the die or 105 °C of the base and clears
below 115 °C and 100 °C; a module too hot for 100 ms trips every enabled channel, which stands as SHELTER's cause
until it has been cool for 10 s. The model's own readings that this rests on: assumption 137. It states completion: of
each of these commands it concludes, from conditions on the state and the operands alone, that exec answers a next
state, and what that state holds: tempSample (TEMP_SAMPLE), moduleThermalShutdown (MODULE_THERMAL_SHUTDOWN),
thermalRestore (THERMAL_RESTORE). -/
def Obligations.TemperatureCompletes : Prop :=
  (∀ (die base : Int) (s : State), s.powered = true → -128 ≤ die → die ≤ 127 → -128 ≤ base → base ≤ 127 →
    Answers (.tempSample die base) s fun t =>
      t.getS Fld.PLAT_TEMP_T_DIE = die ∧ t.getS Fld.PLAT_TEMP_T_BASE = base ∧ t.plat.peakRead = false ∧ t.on
      (Fld.modeFlag 24) = (if die ≥ 120 ∨ base ≥ 105 then true else if die < 115 ∧ base < 100 then false else s.on
      (Fld.modeFlag 24)))
  ∧ (∀ (c : Fin 8) (s : State), s.powered = true → s.hasCause bitThermal = false → s.heldNs s.plat.hotAt 100000000 =
    true → s.isP8 = true → s.ampGov c.val = c.val → s.ampEn c = true →
    Answers .moduleThermalShutdown s fun t => t.hasCause bitThermal = true ∧ t.ampSt c = 6)
  ∧ (∀ (s : State), s.powered = true → s.heldNs s.plat.coolAt 10000000000 = true →
    Answers .thermalRestore s fun t => t.hasCause bitThermal = false)

/-! ### Restarts, firmware and repair -/

/-- With the unlock open, every domain that a restart names, that may restart and is not busy is BUSY and commanded, and
the unlock closes; a domain in reset is ready when told; a lockstep mismatch restarts MGMT, and so does the watchdog
half of TIMEOUT_MS behind its warning, which leaves it running. The model's own readings that this rests on:
assumptions 4, 141, 218, 221. It states completion: of each of these commands it concludes, from conditions on the
state and the operands alone, that exec answers a next state, and what that state holds: domainRestart
(DOMAIN_RESTART), domainRestartReady (DOMAIN_RESTART_READY), watchdogWarn (WATCHDOG_WARN), watchdogTimeout
(WATCHDOG_TIMEOUT), lockstepMismatch (LOCKSTEP_MISMATCH). -/
def Obligations.RestartsComplete : Prop :=
  (∀ (g : Agent) (mask : BitVec 9) (d : Fin 9) (s : State), s.powered = true → s.unlocked g.who = true →
    mask.getLsbD d = true → s.on (Fld.rstBusy d) = false → s.inAlarm = false → (d.val ≠ 2 ∨ s.mode =
    modeMaintenance) → s.plat.phase.length = 9 →
    Answers (.domainRestart g mask) s fun t =>
      t.on (Fld.rstBusy d) = true ∧ t.plat.phase.getD d.val 0 = 1 ∧ t.unlocked g.who = false)
  ∧ (∀ (d : Fin 9) (s : State), s.powered = true → s.plat.phase.length = 9 → s.plat.phase.getD d.val 0 = 3 →
    Answers (.domainRestartReady d) s fun t => t.plat.phase.getD d.val 0 = 4)
  ∧ (∀ (s : State), s.powered = true → s.on (Fld.rstBusy 8) = false → s.on (Fld.blkFreeze 0x01) = false →
    Answers .watchdogWarn s fun t =>
      t.on (Fld.evtRaw 53) = true ∧ t.on (Fld.rstBusy 8) = false ∧ t.get (Fld.ind 1 53) = min (2 ^ 32 - 1) (s.get
      (Fld.ind 1 53) + 1))
  ∧ (∀ (s : State), s.powered = true → s.on (Fld.rstBusy 8) = false → s.heldNs s.plat.warnAt (s.get
    Fld.PLAT_WDOG_TIMEOUT_MS * 500000) = true → s.plat.phase.length = 9 →
    Answers .watchdogTimeout s fun t => t.on (Fld.rstBusy 8) = true ∧ t.plat.phase.getD 8 0 = 1 ∧ t.plat.warnAt = none)
  ∧ (∀ (s : State), s.powered = true → s.on (Fld.rstBusy 8) = false → s.plat.phase.length = 9 →
    Answers .lockstepMismatch s fun t => t.on (Fld.rstBusy 8) = true ∧ t.plat.phase.getD 8 0 = 1)

/-- With the unlock open, in MAINTENANCE with a valid idle image and a brim to come, a switch is armed; its preload is
noted; a cancellation disarms; after 10 s a healthy probation makes the running bank the boot bank, and an unhealthy
one asks for the fall-back of the next brim. With the unlock open and a spare free, a request for a powered bank
starts its migration; the end of the copy is noted; the map stored ends the repair, with the spare in the flash. The
model's own readings that this rests on: assumptions 139, 140, 146. It states completion: of each of these commands it
concludes, from conditions on the state and the operands alone, that exec answers a next state, and what that state
holds: fwSwitch (FW_SWITCH), fwSwitchCancel (FW_SWITCH_CANCEL), fwPreloadDone (FW_PRELOAD_DONE), fwProbationEnd
(FW_PROBATION_END), repairRequest (REPAIR_REQUEST), repairCopyDone (REPAIR_COPY_DONE), repairMapStored
(REPAIR_MAP_STORED). -/
def Obligations.FirmwareAndRepairComplete : Prop :=
  (∀ (g : Agent) (s : State), s.powered = true → s.unlocked g.who = true → s.on Fld.PLAT_FW_ST_ARMED = false →
    s.mode = modeMaintenance → s.on Fld.PLAT_FW_ST_IDLE_VALID = true → s.brimMissed (s.get
    Fld.PLAT_FW_TICK_BRIM_TICK) = false →
    Answers (.fwSwitch g) s fun t => t.on Fld.PLAT_FW_ST_ARMED = true ∧ t.unlocked g.who = false)
  ∧ (∀ (g : Agent) (s : State), s.powered = true → s.on Fld.PLAT_FW_ST_ARMED = true →
    Answers (.fwSwitchCancel g) s fun t => t.on Fld.PLAT_FW_ST_ARMED = false ∧ t.on Fld.PLAT_FW_ST_PRELOADED = false)
  ∧ (∀ (s : State), s.powered = true → s.on Fld.PLAT_FW_ST_ARMED = true →
    Answers .fwPreloadDone s fun t => t.on Fld.PLAT_FW_ST_PRELOADED = true)
  ∧ (∀ (s : State), s.powered = true → s.on Fld.PLAT_FW_ST_PROBATION = true → s.ran .probation 10000000000 = true →
    Answers (.fwProbationEnd true) s fun t =>
      t.on Fld.PLAT_FW_ST_PROBATION = false ∧ t.flash.boot = s.get Fld.PLAT_FW_ST_ACT_BANK ∧ t.on (Fld.modeFlag
      27) = false)
  ∧ (∀ (s : State), s.powered = true → s.on Fld.PLAT_FW_ST_PROBATION = true → s.ran .probation 10000000000 = true →
    Answers (.fwProbationEnd false) s fun t => t.plat.fallBack = true)
  ∧ (∀ (g : Agent) (b : BitVec 6) (k : Nat) (s : State), s.powered = true → s.unlocked g.who = true → s.mem.moving =
    none → s.mem.candidates = [] → s.bankReplaced b.toNat = false → s.freeSpare = some k → s.bankPowered b.toNat =
    true →
    Answers (.repairRequest g b) s fun t =>
      t.mem.moving = some (b.toNat, k) ∧ t.on Fld.PLAT_REPAIR_ST_BUSY = true ∧ t.get Fld.PLAT_REPAIR_ST_SRC_BANK =
      b.toNat ∧ t.unlocked g.who = false)
  ∧ (∀ (s : State), s.powered = true → s.mem.moving.isSome = true →
    Answers .repairCopyDone s fun t => t.mem.copied = true ∧ t.mem.moving = s.mem.moving)
  ∧ (∀ (b k : Nat) (s : State), s.powered = true → s.mem.moving = some (b, k) → s.bankReplaced b = true →
    s.mem.candidates = [] →
    Answers .repairMapStored s fun t =>
      t.mem.moving = none ∧ t.on Fld.PLAT_REPAIR_ST_BUSY = false ∧ t.flash.spares = s.flash.spares.set k (some b))

/-! ### Sealed orders, keys and tamper -/

/-- An order whose ring hands it over, its data having found their cells, joins the queue as its octets say it; at its
verification, its key section decrypted, the first check that fails names its RESULT and leaves the order counter, and
one that passes is accepted with its SEQ; a completed order leaves the key store durable; an image allowance runs out
after 60 s. A tamper source that counts sets TAMPERED and its own bit, and zeroes every seal record and both CAKs; the
erased parameter area holds no keys, and the action ends. The model's own readings that this rests on: assumptions 51,
147, 149, 150, 156, 157, 158, 214, 230, 251, 253. It states completion: of each of these commands it concludes, from
conditions on the state and the operands alone, that exec answers a next state, and what that state holds: order
(ORDER), orderVerified (ORDER_VERIFIED), orderComplete (ORDER_COMPLETE), allowImageExpire (ALLOW_IMAGE_EXPIRE),
tamperDetect (TAMPER_DETECT), tamperFlashErased (TAMPER_FLASH_ERASED). -/
def Obligations.OrdersAndTamperComplete : Prop :=
  (∀ (p : Port) (ring : Fin 64) (n : Nat) (d : Desc) (s : State), s.powered = true → s.headCmd p ring opOrder =
    some (n, d) → s.domDown domCerk = false → s.cmdFits p ring n = true → s.cerk.queue.length < 8 →
    Answers (.order p ring d.cookie) s fun t =>
      (t.cerk.queue.map (·.order)) = s.cerk.queue.map (·.order) ++ [orderOf (s.payload p ring n)] ∧ t.on
      Fld.CERK_ORD_ST_BUSY = true ∧ t.flash = s.flash)
  ∧ (∀ (low : Bool) (j : OrderJob) (l : List OrderJob) (s : State), s.powered = true → s.domDown domCerk = false →
    s.cerk.queue = j :: l → (s.flag Fld.CERK_TAMPER_ST_PIN_LOW (low && s.on Fld.CERK_TAMPER_CFG_PIN_EN)).checkOrder
    (s.opened j.order) = none →
    Answers (.orderVerified low) s fun t =>
      t.flash.seq = j.order.seq ∧ t.cerk.accepted = s.cerk.accepted ++ [{ j with order := s.opened j.order }] ∧
      t.cerk.queue = l)
  ∧ (∀ (low : Bool) (j : OrderJob) (l : List OrderJob) (code : Nat) (s : State), s.powered = true → s.domDown domCerk
    = false → s.cerk.queue = j :: l → j.ring < 64 → (s.flag Fld.CERK_TAMPER_ST_PIN_LOW (low && s.on
    Fld.CERK_TAMPER_CFG_PIN_EN)).checkOrder (s.opened j.order) = some code →
    Answers (.orderVerified low) s fun t =>
      t.flash = s.flash ∧ t.cerk.accepted = s.cerk.accepted ∧ t.cerk.queue = l ∧ t.get Fld.CERK_ORD_ST_RESULT =
      code)
  ∧ (∀ (j : OrderJob) (r n : Nat) (l : List (OrderJob × Nat × Nat)) (s : State), s.powered = true → s.cerk.applied =
    (j, r, n) :: l →
    Answers .orderComplete s fun t => t.cerk.applied = l ∧ t.flash.seals = s.wrapped ∧ t.flash.caks = s.wrappedCaks)
  ∧ (∀ (ty num : BitVec 8) (s : State), s.powered = true → s.ran (.allow ty.toNat num.toNat) 60000000000 = true →
    Answers (.allowImageExpire ty num) s fun t => t.cerk.allow.contains (ty.toNat, num.toNat) = false)
  ∧ (∀ (src : TamperSource) (n : Fin 32) (s : State), s.powered = true → (src ≠ .pin ∨ s.on
    Fld.CERK_TAMPER_CFG_PIN_EN = true) →
    Answers (.tamperDetect src) s fun t =>
      t.on Fld.CERK_TAMPER_ST_TAMPERED = true ∧ t.on (tamperFld src) = true ∧ t.rd (indKey 0x40 n.val) = 0 ∧
      t.cerk.caks = [] ∧ t.cerk.erasing = s.cerk.erasing ++ [src] ∧ t.on (Fld.cakHeld 0) = false ∧ t.on
      (Fld.cakHeld 1) = false)
  ∧ (∀ (s : State), s.powered = true → s.cerk.erasing ≠ [] →
    Answers .tamperFlashErased s fun t => t.flash.seals = [] ∧ t.flash.caks = [] ∧ t.cerk.erasing = [])

/-! ### Host commands, rings and ports -/

/-- Where its data find their cells and its signatures are those that the life cycle asks for, a firmware image goes to
the bank that is not running, an admitted graph to the idle graph bank, and a message replaces the one of its number;
MSG_DELETE removes one; a NOP hands its descriptors back. The model's own readings that this rests on: assumptions 51,
164, 165, 214, 228, 230, 253. It states completion: of each of these commands it concludes, from conditions on the
state and the operands alone, that exec answers a next state, and what that state holds: fwImage (FW_IMAGE),
graphImage (GRAPH_IMAGE), msgImage (MSG_IMAGE), msgDelete (MSG_DELETE), nop (NOP). -/
def Obligations.ImagesComplete : Prop :=
  (∀ (p : Port) (ring : Fin 64) (v : BitVec 16) (n : Nat) (d : Desc) (s : State), s.powered = true → s.headCmd p
    ring opFw = some (n, d) → s.domDown domCerk = false → s.cmdFits p ring n = true → s.inAlarm = false → s.get
    Fld.CERK_FW_MIN_MIN_VER ≤ v.toNat → s.fwRule (s.fwCheck (s.payload p ring n)) = true →
    Answers (.fwImage p ring (some v)) s fun t =>
      t.flash.fw = s.flash.fw.set (1 - s.get Fld.PLAT_FW_ST_ACT_BANK) (some ⟨v.toNat, some (s.payload p ring n)⟩))
  ∧ (∀ (p : Port) (ring : Fin 64) (img : GImage) (n : Nat) (d : Desc) (s : State), s.powered = true → s.headCmd p
    ring opGraph = some (n, d) → s.domDown domCerk = false → s.cmdFits p ring n = true → s.siteImages = true →
    (s.loadGraph img (s.payload p ring n) true).2 = 1 → s.siteSigned (s.payload p ring n) = true →
    Answers (.graphImage p ring img d.cookie) s fun t =>
      t.on Fld.DSP_STATUS_IDLE_VALID = true ∧ t.idleBank = some ⟨img, img.params, img.params, [], s.payload p ring
      n⟩ ∧ t.get Fld.DSP_STATUS_LOAD_RESULT = 1)
  ∧ (∀ (p : Port) (ring : Fin 64) (n : Nat) (d : Desc) (m : MsgRec) (s : State), s.powered = true → s.headCmd p ring
    opMsg = some (n, d) → s.domDown domCerk = false → s.cmdFits p ring n = true → msgForm (s.payload p ring n) =
    true → m = msgOf (s.payload p ring n) → s.msgLocked m.num = false → s.siteImages = true → sumOf
    ((s.flash.msgs.filter (·.num ≠ m.num)).map fun x => msgOctets x.samples.length) + msgOctets m.samples.length ≤
    8388608 → s.siteSigned (s.payload p ring n) = true →
    Answers (.msgImage p ring d.cookie) s fun t => t.flash.msgs = s.flash.msgs.filter (·.num ≠ m.num) ++ [m])
  ∧ (∀ (p : Port) (ring : Fin 64) (n : Nat) (d : Desc) (s : State), s.powered = true → s.headCmd p ring opDelete =
    some (n, d) → s.msgLocked (d.spec % 64) = false →
    Answers (.msgDelete p ring) s fun t => t.flash.msgs = s.flash.msgs.filter (·.num ≠ d.spec % 64))
  ∧ (∀ (p : Port) (ring : Fin 64) (n : Nat) (d : Desc) (s : State), s.powered = true → s.headCmd p ring opNop = some
    (n, d) → (s.ring p ring).given.length = n → s.portLost p = false → s.ringMoves p (s.cplOf p ring) = false →
    Answers (.nop p ring) s fun t =>
      (t.ring p ring).given = [] ∧ (t.portSt p).waiting = (s.portSt p).waiting ++ [⟨s.cplOf p ring, s.cplDesc ring
      (s.get (Fld.HIF_R_ST_CONS p.num ring)) d.cookie opNop resApplied 0 0⟩])

/-- A start that passes every check of R405 sets EN and RUN and counts from 0; a stop with nothing in progress clears
both; a doorbell gives what lies between the indexes; a frame for port A that the quotas allow is fetched and queued
there; a held frame ends with its hold time; a buffer in progress is closed after MOD_US; a moderation window without
a completion ends after it; a failed read stops the ring with cause DMA. The model's own readings that this rests on:
assumptions 4, 159, 166, 167, 168, 218, 228. It states completion: of each of these commands it concludes, from
conditions on the state and the operands alone, that exec answers a next state, and what that state holds: ringStart
(RING_START), ringStop (RING_STOP), doorbell (DOORBELL), hostFrameTransmit (HOST_FRAME_TRANSMIT), netrxHoldExpire
(NETRX_HOLD_EXPIRE), evtqBufferClose (EVTQ_BUFFER_CLOSE), msixModerationEnd (MSIX_MODERATION_END), dmaError
(DMA_ERROR). -/
def Obligations.RingsComplete : Prop :=
  (∀ (p : Port) (ring : Fin 64) (cfg : Word) (s : State), s.powered = true → s.on (Fld.HIF_R_CFG_EN p.num ring) =
    false → ((s.stopRing p ring 0).putRingCfg p ring cfg).ringCause p ring = 0 →
    Answers (.ringStart p ring cfg) s fun t =>
      t.on (Fld.HIF_R_CFG_EN p.num ring) = true ∧ t.ringRuns p ring = true ∧ t.get (Fld.HIF_R_ST_CONS p.num ring)
      = 0 ∧ t.ringType p ring = Word.field cfg 26 24 ∧ (t.ring p ring).given = [])
  ∧ (∀ (p : Port) (ring : Fin 64) (s : State), s.powered = true → s.on (Fld.HIF_R_CFG_EN p.num ring) = true →
    s.ringRuns p ring = true → s.ringBusy p ring = false →
    Answers (.ringStop p ring) s fun t =>
      t.on (Fld.HIF_R_CFG_EN p.num ring) = false ∧ t.ringRuns p ring = false ∧ t.get (Fld.HIF_R_ST_CAUSE p.num
      ring) = 0)
  ∧ (∀ (p : Port) (ring : Fin 64) (prod : BitVec 16) (l : List Desc) (s : State), s.powered = true → s.ringType p
    ring = 2 → s.on (Fld.HIF_R_CFG_EN p.num ring) = true → l.all (·.has flagOwn) = true → l.length = (prod.toNat +
    65536 - s.get (Fld.HIF_R_ST_CONS p.num ring)) % 65536 - ((s.ring p ring).prod + 65536 - s.get (Fld.HIF_R_ST_CONS
    p.num ring)) % 65536 → ((s.ring p ring).prod + 65536 - s.get (Fld.HIF_R_ST_CONS p.num ring)) % 65536 ≤
    (prod.toNat + 65536 - s.get (Fld.HIF_R_ST_CONS p.num ring)) % 65536 → (prod.toNat + 65536 - s.get
    (Fld.HIF_R_ST_CONS p.num ring)) % 65536 ≤ 2 ^ s.get (Fld.HIF_R_CFG_SIZE_LOG2 p.num ring) →
    Answers (.doorbell p ring prod l) s fun t =>
      (t.ring p ring).prod = prod.toNat ∧ (t.ring p ring).given = (s.ring p ring).given ++ l)
  ∧ (∀ (p : Port) (ring : Fin 64) (f : Frame) (l : List Desc) (s : State), s.powered = true → s.ringMoves p ring =
    true → s.ringType p ring = 2 → (s.ring p ring).stopping = false → s.txChain p ring = some l → (l.headD
    Desc.blank).spec / 16 % 4 = 1 → s.link .a = true → s.mayOriginate = true → s.netA.queues.length = 8 →
    (chainFrame f l).len ≤ s.get (Fld.NET_MAXFRAME_MAX 0) → s.grantAll (txQueue p) (cellsFor (s.tagged .a
    (chainFrame f l)).len) true = true → s.admitQueues (cellsFor (s.tagged .a (chainFrame f l)).len) [txQueue p,
    egressQueue .a (s.pcpClass (Frame.prio (chainFrame f l)))] = [txQueue p, egressQueue .a (s.pcpClass (Frame.prio
    (chainFrame f l)))] →
    Answers (.hostFrameTransmit p ring f) s fun t =>
      ((t.net .a).queue (s.pcpClass (Frame.prio (chainFrame f l)))).length = ((s.net .a).queue (s.pcpClass
      (Frame.prio (chainFrame f l)))).length + 1 ∧ (t.ring p ring).fetched = (s.ring p ring).fetched + l.length ∧
      (t.ring p ring).given = (s.ring p ring).given)
  ∧ (∀ (p : Port) (ring : Fin 64) (h : RxHeld) (s : State), s.powered = true → (s.portSt p).held = [h] → h.ring =
    ring.val → s.time.now ≥ h.since + max 1 (s.get (Fld.HIF_R_TIME_HOLD p.num ring.val)) * 8000 →
    Answers (.netrxHoldExpire p ring) s fun t => (t.portSt p).held = [])
  ∧ (∀ (p : Port) (ring : Fin 64) (s : State), s.powered = true → s.ringMoves p ring = true → (s.ringType p ring = 6
    ∨ s.ringType p ring = 7) → (s.ring p ring).buf ≠ [] → s.time.now ≥ (s.ring p ring).bufAt.getD 0 + s.get
    (Fld.HIF_R_TIME_MOD_US p.num ring.val) * 1000 → (s.ring p ring).given ≠ [] →
    Answers (.evtqBufferClose p ring) s fun t =>
      (t.ring p ring).buf = [] ∧ (t.ring p ring).given = (s.ring p ring).given.drop 1 ∧ t.get (Fld.HIF_R_ST_CONS
      p.num ring) = (s.get (Fld.HIF_R_ST_CONS p.num ring) + 1) % 65536)
  ∧ (∀ (p : Port) (ring : Fin 64) (s : State), s.powered = true → (s.ring p ring).modOpen = true → s.time.now ≥
    (s.ring p ring).windowAt + s.get (Fld.HIF_R_TIME_MOD_US p.num ring.val) * 1000 →
    Answers (.msixModerationEnd p ring) s fun t =>
      (t.ring p ring).modOpen = (s.ring p ring).modDue ∧ (t.ring p ring).modDue = false)
  ∧ (∀ (p : Port) (ring : Fin 64) (s : State), s.powered = true → s.ringMoves p ring = true →
    Answers (.dmaError p ring) s fun t => t.ringRuns p ring = false ∧ t.get (Fld.HIF_R_ST_CAUSE p.num ring) = 8)

/-- A heartbeat on a port that expects one brings it from NONE to ALIVE; the loss of its link brings an ALIVE port to
LOST, with no ring running and its unlock closed; PERST returns its rings to reset; PCIe configuration (written once
the firmware has started and 100 ms after PERST), link training, the vector table and the quota show as written. The
model's own readings that this rests on: assumptions 11, 174, 175, 252. It states completion: of each of these
commands it concludes, from conditions on the state and the operands alone, that exec answers a next state, and what
that state holds: heartbeat (HEARTBEAT), hostLost (HOST_LOST), perstAssert (PERST_ASSERT), pcieConfigWrite
(PCIE_CONFIG_WRITE), pcieLinkUp (PCIE_LINK_UP), hostQuotaWrite (HOST_QUOTA_WRITE), msixUnmask (MSIX_UNMASK). -/
def Obligations.HostPortsComplete : Prop :=
  (∀ (p : Port) (v : Word) (s : State), s.powered = true → s.on (Fld.HIF_HB_CFG_HB_EN p.num) = true → s.get
    (Fld.HIF_PORT_ST_STATE p.num) = 0 →
    Answers (.heartbeat p v) s fun t =>
      t.get (Fld.HIF_PORT_ST_STATE p.num) = 1 ∧ t.get (Fld.HIF_HB_VALUE p.num) = v.toNat ∧ (t.portSt p).hbAt =
      s.time.now)
  ∧ (∀ (p : Port) (n : Fin 64) (s : State), s.powered = true → s.get (Fld.HIF_PORT_ST_STATE p.num) = 1 →
    Answers (.hostLost p true) s fun t =>
      t.get (Fld.HIF_PORT_ST_STATE p.num) = 2 ∧ t.ringRuns p n = false ∧ t.unlocked (whoOf p) = false ∧ t.on
      (Fld.HIF_PORT_ST_LINK p.num) = false ∧ (t.portSt p).waiting = [])
  ∧ (∀ (p : Port) (n : Fin 64) (s : State), s.powered = true →
    Answers (.perstAssert p) s fun t =>
      t.get (Fld.HIF_PORT_ST_STATE p.num) = (if s.get (Fld.HIF_PORT_ST_STATE p.num) = 1 then 2 else s.get
      (Fld.HIF_PORT_ST_STATE p.num)) ∧ t.ringRuns p n = false ∧ (t.ring p n) = Ring.empty ∧ t.unlocked (whoOf p) =
      false)
  ∧ (∀ (p : Port) (bme en mask : Bool) (s : State), s.powered = true → s.configTakes p = true →
    Answers (.pcieConfigWrite p bme en mask) s fun t =>
      t.on (Fld.HIF_PORT_ST_BME p.num) = bme ∧ (t.portSt p).msixEn = en ∧ (t.portSt p).fmask = mask)
  ∧ (∀ (p : Port) (gen : Fin 3) (wide : Bool) (s : State), s.powered = true →
    Answers (.pcieLinkUp p gen wide) s fun t =>
      t.on (Fld.HIF_PORT_ST_LINK p.num) = true ∧ t.get (Fld.HIF_PORT_ST_GEN p.num) = gen.val + 1 ∧ t.get
      (Fld.HIF_PORT_ST_WIDTH p.num) = (if wide then 2 else 1))
  ∧ (∀ (p : Port) (v : Word) (s : State), s.powered = true →
    Answers (.hostQuotaWrite p v) s fun t => t.get (Fld.HIF_QUOTA_CELLS p.num) = min 16384 (Word.field v 30 16))
  ∧ (∀ (p : Port) (v : Fin 128) (s : State), s.powered = true →
    Answers (.msixUnmask p v) s fun t => (t.portSt p).vmask.contains v.val = false)

/-- An ACQUIRE of a free semaphore takes it with its token; of two in one cycle port A wins unless it won the last tie, in
which case port B wins, and the other waits; a RELEASE with the owner's token frees it; SEM_FORCE with the unlock open
frees it whoever holds it. The model's own readings that this rests on: assumption 177. It states completion: of each
of these commands it concludes, from conditions on the state and the operands alone, that exec answers a next state,
and what that state holds: semaphoreAcquire (SEMAPHORE_ACQUIRE), semaphoreRelease (SEMAPHORE_RELEASE), semaphoreForce
(SEMAPHORE_FORCE). -/
def Obligations.SemaphoresComplete : Prop :=
  (∀ (p : Port) (n : Fin 32) (tok : BitVec 16) (s : State), s.powered = true → s.on (Fld.SEM_HELD n) = false →
    Answers (.semaphoreAcquire p n tok none) s fun t =>
      t.on (Fld.SEM_HELD n) = true ∧ t.get (Fld.SEM_OWNER n) = semOwner p ∧ t.get (Fld.SEM_TOKEN n) = tok.toNat)
  ∧ (∀ (p : Port) (n : Fin 32) (tok other : BitVec 16) (s : State), s.powered = true → s.on (Fld.SEM_HELD n) = false
    → s.host.semTie ≠ some .a →
    Answers (.semaphoreAcquire p n tok (some other)) s fun t =>
      t.on (Fld.SEM_HELD n) = true ∧ t.get (Fld.SEM_OWNER n) = semOwner .a ∧ t.get (Fld.SEM_TOKEN n) = (if p = .a
      then tok else other).toNat ∧ t.on (Fld.SEM_WAIT_B n) = true ∧ t.host.semTie = some .a)
  ∧ (∀ (p : Port) (n : Fin 32) (tok other : BitVec 16) (s : State), s.powered = true → s.on (Fld.SEM_HELD n) = false
    → s.host.semTie = some .a →
    Answers (.semaphoreAcquire p n tok (some other)) s fun t =>
      t.on (Fld.SEM_HELD n) = true ∧ t.get (Fld.SEM_OWNER n) = semOwner .b ∧ t.get (Fld.SEM_TOKEN n) = (if p = .b
      then tok else other).toNat ∧ t.on (Fld.SEM_WAIT_A n) = true ∧ t.host.semTie = some .b)
  ∧ (∀ (p : Port) (n : Fin 32) (tok : BitVec 16) (s : State), s.powered = true → s.on (Fld.SEM_HELD n) = true → s.get
    (Fld.SEM_OWNER n) = semOwner p → s.get (Fld.SEM_TOKEN n) = tok.toNat →
    Answers (.semaphoreRelease p n tok) s fun t => t.on (Fld.SEM_HELD n) = false)
  ∧ (∀ (g : Agent) (n : Fin 32) (s : State), s.powered = true → s.unlocked g.who = true →
    Answers (.semaphoreForce g n) s fun t => t.on (Fld.SEM_HELD n) = false ∧ t.unlocked g.who = false)

/-! ### Memory, accesses and the log -/

/-- A write stores the octets its byte enables name and keeps the others; a set ORs and a clear ANDs them in; every octet
outside the addressed word is kept, and where the read of the word was uncorrectable the other octets of it are what
the error left. The model's own readings that this rests on: assumptions 26, 126, 205. It states completion: of each
of these commands it concludes, from conditions on the state and the operands alone, that exec answers a next state,
and what that state holds: exchangeWrite (EXCHANGE_WRITE), exchangeSet (EXCHANGE_SET), exchangeClear (EXCHANGE_CLEAR). -/
def Obligations.ExchangeRamCompletes : Prop :=
  (∀ (m : ExMaster) (addr : BitVec 16) (be : BitVec 4) (data : Word) (met : Option (Fin 16)) (ecc : EccState) (i :
    Fin 4) (s : State), s.powered = true →
    Answers (.exchangeWrite m addr be data met ecc) s fun t =>
      t.exchByte (exchAddr addr i) = (if be.getLsbD i then octet data i else s.exchRead addr (if be = 15 then .ok
      else ecc) i))
  ∧ (∀ (m : ExMaster) (addr : BitVec 16) (be : BitVec 4) (data : Word) (met : Option (Fin 16)) (ecc : EccState) (i :
    Fin 4) (s : State), s.powered = true →
    Answers (.exchangeSet m addr be data met ecc) s fun t =>
      t.exchByte (exchAddr addr i) = (if be.getLsbD i then s.exchRead addr ecc i ||| octet data i else s.exchRead
      addr ecc i))
  ∧ (∀ (m : ExMaster) (addr : BitVec 16) (be : BitVec 4) (data : Word) (met : Option (Fin 16)) (ecc : EccState) (i :
    Fin 4) (s : State), s.powered = true →
    Answers (.exchangeClear m addr be data met ecc) s fun t =>
      t.exchByte (exchAddr addr i) = (if be.getLsbD i then s.exchRead addr ecc i &&& ~~~octet data i else
      s.exchRead addr ecc i))
  ∧ (∀ (m : ExMaster) (addr : BitVec 16) (be : BitVec 4) (data : Word) (met : Option (Fin 16)) (ecc : EccState) (a :
    Nat) (s : State), s.powered = true → a / 4 ≠ addr.toNat / 4 →
    Answers (.exchangeWrite m addr be data met ecc) s fun t => t.exchByte a = s.exchByte a)
  ∧ (∀ (m : ExMaster) (addr : BitVec 16) (be : BitVec 4) (data : Word) (met : Option (Fin 16)) (ecc : EccState) (a :
    Nat) (s : State), s.powered = true → a / 4 ≠ addr.toNat / 4 →
    Answers (.exchangeSet m addr be data met ecc) s fun t => t.exchByte a = s.exchByte a)
  ∧ (∀ (m : ExMaster) (addr : BitVec 16) (be : BitVec 4) (data : Word) (met : Option (Fin 16)) (ecc : EccState) (a :
    Nat) (s : State), s.powered = true → a / 4 ≠ addr.toNat / 4 →
    Answers (.exchangeClear m addr be data met ecc) s fun t => t.exchByte a = s.exchByte a)

/-- In the word that the scrubber reads every 16 µs, a corrected error counts in its bank and names it (one found in the
spare that a migration is filling counts against the bank copied), and an uncorrectable one counts too and sets
UNCORR; the end of a bank's window of WIN_H clears its count; a flush of a queue that the mode admits leaves it empty
and counts the cells of the items held whole. The model's own readings that this rests on: assumptions 25, 178, 193.
It states completion: of each of these commands it concludes, from conditions on the state and the operands alone,
that exec answers a next state, and what that state holds: scrub (SCRUB), eccWindowEnd (ECC_WINDOW_END), queueFlush
(QUEUE_FLUSH). -/
def Obligations.BanksAndQueuesComplete : Prop :=
  (∀ (b : Fin 66) (item : Option EccItem) (s : State), s.powered = true → s.bankPowered b = true → s.ran .scrub
    16000 = true → s.on (Fld.blkFreeze 0x48) = false →
    Answers (.scrub [.bank b false item]) s fun t =>
      t.mem.scrub = (s.mem.scrub + 1) % 32768 ∧ t.get (Fld.bankCorr (s.countedBank b)) = min 65535 (s.get
      (Fld.bankCorr (s.countedBank b)) + 1) ∧ t.get Fld.MEM_ECC_ST_LAST_BANK = s.countedBank b)
  ∧ (∀ (b : Fin 66) (s : State), s.powered = true → s.bankPowered b = true → s.ran .scrub 16000 = true → s.on
    (Fld.blkFreeze 0x48) = false → 16 ≤ b.val → b.val ≤ 58 →
    Answers (.scrub [.bank b true none]) s fun t =>
      t.get (Fld.bankUncorr b) = min 65535 (s.get (Fld.bankUncorr b) + 1) ∧ t.on Fld.MEM_ECC_ST_UNCORR = true)
  ∧ (∀ (b : Fin 66) (s : State), s.powered = true → s.mem.windows.contains b.val = true → s.ran (.ecc b.val) (s.get
    Fld.PLAT_REPAIR_CFG_WIN_H * 3600000000000) = true →
    Answers (.eccWindowEnd b) s fun t => t.get (Fld.bankWin b) = 0 ∧ t.mem.windows.contains b.val = false)
  ∧ (∀ (g : Agent) (q : BitVec 5) (s : State), s.powered = true → q.toNat < 26 → (s.inAlarm = false ∨ (q ≠ 7 ∧ q ≠
    15)) → s.on (Fld.blkFreeze 0x48) = false →
    Answers (.queueFlush g q) s fun t =>
      t.qUse q.toNat = 0 ∧ t.get (Fld.qFlushed q.toNat) = min (2 ^ 32 - 1) (s.get (Fld.qFlushed q.toNat) + (s.qUse
      q.toNat - s.flightCells q.toNat)) ∧ t.get Fld.MEM_QCMD_Q = q.toNat)

/-- A whole write of a register of RW fields alone, by an agent that may reach it and with no action of its own, leaves
its fields at the data brought into their ranges; a read answers the value and clears the RC fields; a write of an
undefined offset, of a part of a word or of the other port's HIF block is refused with event 59; SRST of REFS returns
SLEW and the hard limit to their reset values; the key opens the unlock, any other word or 1 ms closes it. Accesses of
an agent that wait behind its own IDATA write are not among these. The model's own readings that this rests on:
assumptions 180, 183, 184. It states completion: of each of these commands it concludes, from conditions on the state
and the operands alone, that exec answers a next state, and what that state holds: registerWrite (REGISTER_WRITE),
clearOnRead (CLEAR_ON_READ), blockReset (BLOCK_RESET), unlockKey (UNLOCK_KEY), unlockExpire (UNLOCK_EXPIRE). -/
def Obligations.RegistersComplete : Prop :=
  (∀ (g : Agent) (off : BitVec 24) (data : Word) (r : RegSpec) (n : Nat) (s : State), s.powered = true → s.holds g
    = false → s.regHere off.toNat = some (r, n) → r.fields.all (·.acc = .rw) = true → off.toNat % 0x10000 ≠ 4 →
    off.toNat % 0x10000 ≠ 0xFF4 → foreign g.who off.toNat = false → s.inAlarm = false → lapCfgEn off.toNat = none →
    (if off.toNat / 0x10000 < 0x12 then s.actLow g.who off.toNat r.fields data false else s.actHigh g.who off.toNat
    data false) = none →
    Answers (.registerWrite g off 15 data .plain) s fun t =>
      t.rd (regKey r g.who off.toNat) &&& fieldMask r.fields = s.clampReg off.toNat data &&& fieldMask r.fields)
  ∧ (∀ (g : Agent) (off : BitVec 24) (be : BitVec 4) (r : RegSpec) (n : Nat) (s : State), s.powered = true → s.holds
    g = false → s.regHere off.toNat = some (r, n) → be ≠ 0 → off.toNat % 0x10000 ≠ 0xFF4 → off.toNat ≠ 0x080014 →
    off.toNat ≠ 0x3A0018 → off.toNat ≠ 0x480010 → s.resp.length = 3 →
    Answers (.clearOnRead g off be .plain) s fun t =>
      t.resp.getD g.who.num 0 = (if off.toNat / 0x10000 = 0x0A then s.synProgress else s).readReg g.who off.toNat
      ∧ t.rd (regKey r g.who off.toNat) &&& fieldMask (r.fields.filter (·.acc = .rc)) = 0)
  ∧ (∀ (g : Agent) (off : BitVec 24) (be : BitVec 4) (data : Word) (s : State), s.powered = true → s.holds g = false
    → (s.regHere off.toNat = none ∨ be ≠ 15 ∨ foreign g.who off.toNat = true) →
    Answers (.registerWrite g off be data .plain) s fun t => t.on (Fld.evtRaw 59) = true ∧ t.shadow = s.shadow)
  ∧ (∀ (g : Agent) (data : Word) (s : State), s.powered = true → s.holds g = false →
    Answers (.blockReset g 0x09 data) s fun t =>
      t.get Fld.REFS_SLEW_SLEW = Word.field (regReset Fld.REFS_SLEW_SLEW.addr) Fld.REFS_SLEW_SLEW.hi
      Fld.REFS_SLEW_SLEW.lo ∧ t.get Fld.REFS_LIMITS_HARD = Word.field (regReset Fld.REFS_LIMITS_HARD.addr)
      Fld.REFS_LIMITS_HARD.hi Fld.REFS_LIMITS_HARD.lo)
  ∧ (∀ (p : Port) (k : BitVec 16) (s : State), s.powered = true →
    Answers (.unlockKey p k) s fun t => t.unlocked (whoOf p) = decide (k = 0x7A5C))
  ∧ (∀ (p : Port) (s : State), s.powered = true → s.ran (.unlock p) 1000000 = true →
    Answers (.unlockExpire p) s fun t => t.unlocked (whoOf p) = false)

/-- A read of a defined word that is ready answers it, and a word of LAP's writable space takes the data; under AUTOINC
the address advances and wraps at 24 bits; a write that waited is performed once its word is ready. Accesses of an
agent that wait behind its own IDATA write are not among these. The model's own readings that this rests on:
assumptions 179, 182. It states completion: of each of these commands it concludes, from conditions on the state and
the operands alone, that exec answers a next state, and what that state holds: idataRead (IDATA_READ), idataWrite
(IDATA_WRITE), idataWriteComplete (IDATA_WRITE_COMPLETE). -/
def Obligations.IndirectWordsComplete : Prop :=
  (∀ (g : Agent) (code : BitVec 8) (l : List FieldSpec) (s : State), s.powered = true → s.holds g = false →
    (s.regHere (code.toNat * 0x10000 + 0xFF4)).isSome = true → indFields code.toNat (s.iaddr g.who code.toNat) =
    some l → s.indReady code.toNat = true → s.resp.length = 3 →
    Answers (.idataRead g code 15) s fun t =>
      t.resp.getD g.who.num 0 = s.readInd code.toNat (s.iaddr g.who code.toNat) ∧ t.iaddr g.who code.toNat = (if
      (s.rd (iaddrKey g.who code.toNat)).getLsbD 31 then (s.iaddr g.who code.toNat + 1) % 2 ^ 24 else s.iaddr
      g.who code.toNat))
  ∧ (∀ (g : Agent) (data : Word) (s : State), s.powered = true → s.holds g = false → 0x100 ≤ s.iaddr g.who 0x28 →
    s.iaddr g.who 0x28 ≤ 0x177 → s.indReady 0x28 = true →
    Answers (.idataWrite g 0x28 15 data) s fun t =>
      t.rd (indKey 0x28 (s.iaddr g.who 0x28)) = data ∧ t.iaddr g.who 0x28 = (if (s.rd (iaddrKey g.who
      0x28)).getLsbD 31 then s.iaddr g.who 0x28 + 1 else s.iaddr g.who 0x28))
  ∧ (∀ (g : Agent) (h : HeldAccess) (s : State), s.powered = true → s.heldW.filter (·.agent = g) = [h] → h.write =
    true → h.off = 0x280FF4 → h.be = 15 → 0x100 ≤ s.iaddr g.who 0x28 → s.iaddr g.who 0x28 ≤ 0x177 → s.indReady 0x28
    = true →
    Answers (.idataWriteComplete g) s fun t =>
      t.rd (indKey 0x28 (s.iaddr g.who 0x28)) = h.data ∧ t.heldW = s.heldW.erase h)

/-- EVT_RAW clears by mask, and a test with the unlock open raises its source (on the -L0 none of those that R2 never
raises); the log writer stores an entry of a running log at NEXT, and the archive takes one; FREEZE stops the log at
its count, UNFREEZE resumes it, and CLEAR with the unlock open leaves the control entry alone. The model's own
readings that this rests on: assumptions 4, 121, 123, 218. It states completion: of each of these commands it
concludes, from conditions on the state and the operands alone, that exec answers a next state, and what that state
holds: evtRawClear (EVT_RAW_CLEAR), eventTest (EVENT_TEST), logEntryWrite (LOG_ENTRY_WRITE), logArchiveAppend
(LOG_ARCHIVE_APPEND), logFreeze (LOG_FREEZE), logUnfreeze (LOG_UNFREEZE), logClear (LOG_CLEAR). -/
def Obligations.LogCompletes : Prop :=
  (∀ (g : Agent) (hi : Bool) (m : Word) (s : State), s.powered = true →
    Answers (.evtRawClear g hi m) s fun t =>
      t.rd (if hi then 0x010014 else 0x010010) = s.rd (if hi then 0x010014 else 0x010010) &&& ~~~m)
  ∧ (∀ (g : Agent) (src : BitVec 6) (s : State), s.powered = true → s.unlocked g.who = true → (s.isP8 = true ∨
    absentSource src.toNat = false) →
    Answers (.eventTest g src) s fun t =>
      t.on (Fld.evtRaw src.toNat) = true ∧ t.get Fld.EVT_TEST_SRC = src.toNat ∧ t.unlocked g.who = false)
  ∧ (∀ (e : LogEntry) (l : List LogEntry) (s : State), s.powered = true → s.log.intake = e :: l → s.on
    Fld.LOG_ST_FROZEN = false → s.on Fld.LOG_ST_TRIG = false → s.get Fld.LOG_CFG_FREEZE_SEV > 5 → s.log.dropped = 0
    →
    Answers .logEntryWrite s fun t =>
      t.logEntry (s.get Fld.LOG_ST_NEXT) = e ∧ t.get Fld.LOG_ST_NEXT = (s.get Fld.LOG_ST_NEXT + 1) % 4096 ∧
      t.log.intake.take l.length = l)
  ∧ (∀ (e : LogEntry) (l : List LogEntry) (s : State), s.powered = true → s.log.archPend = e :: l → (s.log.archSecond
    ≠ s.time.now / 1000000000 ∨ s.log.archCount < 64) →
    Answers .logArchiveAppend s fun t => t.log.archive = archiveAdd s.log.archive e ∧ t.log.archPend = l)
  ∧ (∀ (g : Agent) (s : State), s.powered = true → s.on Fld.LOG_ST_FROZEN = false →
    Answers (.logFreeze g) s fun t =>
      t.on Fld.LOG_ST_FROZEN = true ∧ t.on Fld.LOG_ST_TRIG = false ∧ t.get Fld.LOG_FROZEN_AT_COUNT = s.get
      Fld.LOG_COUNT_COUNT)
  ∧ (∀ (g : Agent) (s : State), s.powered = true → s.on Fld.LOG_ST_FROZEN = true →
    Answers (.logUnfreeze g) s fun t => t.on Fld.LOG_ST_FROZEN = false)
  ∧ (∀ (g : Agent) (s : State), s.powered = true → s.unlocked g.who = true → s.inAlarm = false →
    Answers (.logClear g) s fun t =>
      t.log.bank.map (·.1) = [0] ∧ t.get Fld.LOG_ST_NEXT = 1 ∧ t.on Fld.LOG_ST_WRAPPED = false ∧ t.on
      Fld.LOG_ST_FROZEN = false)

/-! ### Rules of the whole machine -/

/-- Where a command stands at the front of the queue, a step at that state is exec of that command at the state with the
rest of the queue; and the queue waits first in, first out, since no command changes it. -/
def Obligations.StepRunsTheFrontCommand : Prop :=
  (∀ (c : Instr) (l : List Instr) (s : State), s.pending = c :: l → step s = exec c { s with pending := l })
  ∧ (∀ (c : Instr) (l : List Instr) (s t : State), s.pending = c :: l → step s = .next t → t.pending = l)

/-- The counter stands at 0, the mode is ATTEST, every octet of the exchange RAM reads 0, every semaphore is free with no
port waiting, no ring runs, both unlocks are closed, the shadow and the hatband log are empty, every cell of the pool
is free, and TIME_STEP_THRESH holds 10,000 ns. The model's own readings that this rests on: assumption 6. -/
def Obligations.ResetLeaves : Prop :=
  State.reset.time.counter = 0 ∧ State.reset.mode = modeAttest ∧ State.reset.shadow = [] ∧ State.reset.log.bank = []
  ∧ State.reset.unlocked .portA = false ∧ State.reset.unlocked .portB = false ∧ State.reset.freeCells = 16384
  ∧ State.reset.get Fld.TIME_STEP_THRESH_THRESH_NS = 10000 ∧ (∀ a, State.reset.exchByte a = 0)
  ∧ (∀ n : Fin 32, State.reset.on (Fld.SEM_HELD n) = false ∧ State.reset.on (Fld.SEM_WAIT_A n) = false
      ∧ State.reset.on (Fld.SEM_WAIT_B n) = false)
  ∧ (∀ (p : Port) (n : Fin 64), State.reset.ringRuns p n = false)

/-- The exchange RAM of the reset state lists its octets by strictly rising addresses below 64 KiB, and none that is 0.
The list form is the model's own choice of data (assumption 126). -/
def Obligations.ResetKeepsInv : Prop :=
  State.reset.Inv

/-- From every state whose exchange RAM is in canonical form, whatever command waits, a step that answers a next state
leaves it in canonical form: addresses strictly rising below 64 KiB and no listed octet 0, so that equal contents are
equal data. The list form is the model's own choice of data (assumption 126). -/
def Obligations.StepKeepsInv : Prop :=
  ∀ s t : State, s.Inv → step s = .next t → t.Inv

/-- In OFF every command but POWER_VALID leaves the whole state as it is, and so does POWER_VALID below 8.8 V. The model's
own readings that this rests on: assumption 5. -/
def Obligations.OffIsLeftByPowerAlone : Prop :=
  (∀ (c : Instr) (s : State), s.powered = false → (∀ v, c ≠ .powerValid v) → exec c s = .next s)
  ∧ (∀ (v : BitVec 16) (s : State), s.powered = false → v.toNat < 880 → exec (.powerValid v) s = .next s)

/-- No command changes the ordering code or the queue; only BRIM_START, which applies orders and with them changes of the
life cycle, changes the OTP array; only accesses of the exchange RAM by its masters, and the loss and return of the
module's supply, change an octet of it, which restarts and PERST_N therefore leave unchanged. -/
def Obligations.OutOfReach : Prop :=
  ∀ (c : Instr) (s t : State), exec c s = .next t →
    t.variant = s.variant ∧ t.pending = s.pending ∧ ((∀ b, c ≠ .brimStart b) → t.otp = s.otp)
    ∧ (touchesExch c = false → ∀ a, t.exchByte a = s.exchByte a)

/-- A read returns 0 and a write is discarded: it leaves the word, and every register and table word but the agent's
IADDR, the block's status and those that telling reaches, and the shadow. Either sets IND_RANGE for both ports, raises
event 59 with reason 5 and is logged, and the address advances under AUTOINC. It states completion: of each of these
commands it concludes, from conditions on the state and the operands alone, that exec answers a next state, and what
that state holds: idataRead (IDATA_READ), idataWrite (IDATA_WRITE). -/
def Obligations.UndefinedIndirectWords : Prop :=
  (∀ (g : Agent) (code : BitVec 8) (s : State), s.powered = true → s.holds g = false → (s.regHere (code.toNat *
    0x10000 + 0xFF4)).isSome = true → indFields code.toNat (s.iaddr g.who code.toNat) = none → s.resp.length = 3 →
    Answers (.idataRead g code 15) s fun t =>
      t.resp.getD g.who.num 0 = 0 ∧ t.on (Fld.blkStatus code.toNat 0 2) = true ∧ t.on (Fld.blkStatus code.toNat 1
      2) = true ∧ t.on (Fld.evtRaw 59) = true ∧ s.loggedAs t 59 g.who.origin (indAddr code.toNat (s.iaddr g.who
      code.toNat)) 5 = true ∧ t.rd (iaddrKey g.who code.toNat) = (if (s.rd (iaddrKey g.who code.toNat)).getLsbD 31
      then Word.withField (s.rd (iaddrKey g.who code.toNat)) 23 0 (s.iaddr g.who code.toNat + 1) else s.rd
      (iaddrKey g.who code.toNat)))
  ∧ (∀ (g : Agent) (code : BitVec 8) (data : Word) (k : Nat) (s : State), s.powered = true → s.holds g = false →
    (s.regHere (code.toNat * 0x10000 + 0xFF4)).isSome = true → foreign g.who (code.toNat * 0x10000 + 0xFF4) = false
    → indFields code.toNat (s.iaddr g.who code.toNat) = none → ((tellKey k = false ∧ k ≠ (iaddrKey g.who code.toNat)
    ∧ k ≠ code.toNat * 0x10000 + 8 ∧ k ≠ code.toNat * 0x10000 + 0x1000008) ∨ k = indKey code.toNat (s.iaddr g.who
    code.toNat)) →
    Answers (.idataWrite g code 15 data) s fun t =>
      t.rd k = s.rd k ∧ t.shadow = s.shadow ∧ t.heldW = s.heldW ∧ t.on (Fld.blkStatus code.toNat 0 2) = true ∧
      t.on (Fld.blkStatus code.toNat 1 2) = true ∧ t.on (Fld.evtRaw 59) = true ∧ s.loggedAs t 59 g.who.origin
      (indAddr code.toNat (s.iaddr g.who code.toNat)) 5 = true ∧ t.rd (iaddrKey g.who code.toNat) = (if (s.rd
      (iaddrKey g.who code.toNat)).getLsbD 31 then Word.withField (s.rd (iaddrKey g.who code.toNat)) 23 0 (s.iaddr
      g.who code.toNat + 1) else s.rd (iaddrKey g.who code.toNat)))

/-- A write with partial byte enables changes nothing but what telling reaches, raises event 59 with reason 1 and is
logged; a read with partial byte enables returns 0xFFFF_FFFF, reaches no table word, does not advance the address,
raises event 59 and is logged. It states completion: of each of these commands it concludes, from conditions on the
state and the operands alone, that exec answers a next state, and what that state holds: idataRead (IDATA_READ),
idataWrite (IDATA_WRITE). -/
def Obligations.PartialIdataAccesses : Prop :=
  (∀ (g : Agent) (code : BitVec 8) (be : BitVec 4) (k : Nat) (s : State), s.powered = true → s.holds g = false →
    (s.regHere (code.toNat * 0x10000 + 0xFF4)).isSome = true → be ≠ 15 → be ≠ 0 → s.resp.length = 3 → tellKey k =
    false →
    Answers (.idataRead g code be) s fun t =>
      t.resp.getD g.who.num 0 = 0xFFFFFFFF ∧ t.rd k = s.rd k ∧ t.iaddr g.who code.toNat = s.iaddr g.who code.toNat
      ∧ t.on (Fld.evtRaw 59) = true ∧ s.loggedAs t 59 g.who.origin (code.toNat * 0x10000 + 0xFF4) 1 = true)
  ∧ (∀ (g : Agent) (code : BitVec 8) (be : BitVec 4) (data : Word) (k : Nat) (s : State), s.powered = true → s.holds
    g = false → (s.regHere (code.toNat * 0x10000 + 0xFF4)).isSome = true → be ≠ 15 → tellKey k = false →
    Answers (.idataWrite g code be data) s fun t =>
      t.rd k = s.rd k ∧ t.shadow = s.shadow ∧ t.heldW = s.heldW ∧ t.iaddr g.who code.toNat = s.iaddr g.who
      code.toNat ∧ t.on (Fld.evtRaw 59) = true ∧ s.loggedAs t 59 g.who.origin (code.toNat * 0x10000 + 0xFF4) 1 =
      true)

/-- On the -L0 every offset of the AMP and LINE blocks, BLK_ID among them, reads 0 for every agent; every write to them is
discarded, raises event 59 and is logged with the address and the originating agent. It states completion: of each of
these commands it concludes, from conditions on the state and the operands alone, that exec answers a next state, and
what that state holds: clearOnRead (CLEAR_ON_READ), registerWrite (REGISTER_WRITE). -/
def Obligations.AbsentBlocksOfTheL0 : Prop :=
  (∀ (g : Agent) (off : BitVec 24) (be : BitVec 4) (s : State), s.powered = true → s.holds g = false → s.variant =
    .l0 → (off.toNat / 0x10000 = 0x30 ∨ off.toNat / 0x10000 = 0x31) → s.resp.length = 3 →
    Answers (.clearOnRead g off be .plain) s fun t => t.resp.getD g.who.num 0 = 0 ∧ s.readReg g.who off.toNat = 0)
  ∧ (∀ (g : Agent) (off : BitVec 24) (be : BitVec 4) (data : Word) (k : Nat) (s : State), s.powered = true → s.holds
    g = false → s.variant = .l0 → (off.toNat / 0x10000 = 0x30 ∨ off.toNat / 0x10000 = 0x31) → tellKey k = false →
    Answers (.registerWrite g off be data .plain) s fun t =>
      t.rd k = s.rd k ∧ t.shadow = s.shadow ∧ t.on (Fld.evtRaw 59) = true ∧ s.loggedAs t 59 g.who.origin
      (off.toNat) 3 = true)

/-! ### Frames -/

/-- The commands of the time base, the references, the holdover and the synthesizers. Every register and table word of
another block than those that the command's reach names, but for TOP_MODE_STATUS and the blocks EVT, LOG and HIF that
events and the log reach, reads as before, and every component of the state that its reach does not name is as it was. -/
def Obligations.ClockFrames : Prop :=
  ∀ (c : Instr) (s t : State), (reach c).family = .clock → exec c s = .next t → s.Framed c t

/-- The commands of the network ports, the ring switch and MACsec. Every register and table word of another block than
those that the command's reach names, but for TOP_MODE_STATUS and the blocks EVT, LOG and HIF that events and the log
reach, reads as before, and every component of the state that its reach does not name is as it was. -/
def Obligations.NetworkFrames : Prop :=
  ∀ (c : Instr) (s t : State), (reach c).family = .network → exec c s = .next t → s.Framed c t

/-- The commands of the stream engine, the fabric, the processing graph and the local audio ports. Every register and
table word of another block than those that the command's reach names, but for TOP_MODE_STATUS and the blocks EVT, LOG
and HIF that events and the log reach, reads as before, and every component of the state that its reach does not name
is as it was. -/
def Obligations.AudioFrames : Prop :=
  ∀ (c : Instr) (s t : State), (reach c).family = .audio → exec c s = .next t → s.Framed c t

/-- The commands of the power stage and the line supervisor, of the Crown and the pairing, and of the panel link. Every
register and table word of another block than those that the command's reach names, but for TOP_MODE_STATUS and the
blocks EVT, LOG and HIF that events and the log reach, reads as before, and every component of the state that its
reach does not name is as it was. -/
def Obligations.PowerAndDutyFrames : Prop :=
  ∀ (c : Instr) (s t : State), ((reach c).family = .power ∨ (reach c).family = .duty) → exec c s = .next t → s.Framed c t

/-- The commands of modes, supply, temperature, restarts, firmware and repair, and of sealed orders and tamper. Every
register and table word of another block than those that the command's reach names, but for TOP_MODE_STATUS and the
blocks EVT, LOG and HIF that events and the log reach, reads as before, and every component of the state that its
reach does not name is as it was. -/
def Obligations.PlatformFrames : Prop :=
  ∀ (c : Instr) (s t : State), (reach c).family = .platform → exec c s = .next t → s.Framed c t

/-- The commands of the host ports, rings and semaphores, of the memory, of reads and of the log. Every register and table
word of another block than those that the command's reach names, but for TOP_MODE_STATUS and the blocks EVT, LOG and
HIF that events and the log reach, reads as before, and every component of the state that its reach does not name is
as it was. -/
def Obligations.HostFrames : Prop :=
  ∀ (c : Instr) (s t : State), (reach c).family = .host → exec c s = .next t → s.Framed c t

/-- Ticks, brims, register writes, resets of blocks, the end of ATTEST, the scrubber, and the supply's arrival and loss.
Every register and table word of another block than those that the command's reach names, but for TOP_MODE_STATUS and
the blocks EVT, LOG and HIF that events and the log reach, reads as before, and every component of the state that its
reach does not name is as it was. -/
def Obligations.BroadFrames : Prop :=
  ∀ (c : Instr) (s t : State), (reach c).family = .broad → exec c s = .next t → s.Framed c t

end
end

