-- ==== Sys2Proof/Laws/Exec.lean ====
section
/-! SUPPORT. What `exec` does with each command: its meaning, by name. -/

namespace Sys2Proof.Machine

theorem exec_tickStart (t : TickIn) (s : State) : exec (.tickStart t) s = execTickStart t s := rfl
theorem exec_brimStart (b : BrimIn) (s : State) : exec (.brimStart b) s = execBrimStart b s := rfl
theorem exec_schedLost (s : State) : exec (.schedLost) s = execSchedLost s := rfl
theorem exec_applyHold (g : Agent) (hold : Bool) (s : State) : exec (.applyHold g hold) s = execApplyHold g hold s := rfl
theorem exec_applyHoldLimit (g : Agent) (limit : BitVec 8) (s : State) : exec (.applyHoldLimit g limit) s = execApplyHoldLimit g limit s := rfl
theorem exec_applyArm (g : Agent) (s : State) : exec (.applyArm g) s = execApplyArm g s := rfl
theorem exec_applyDisarm (g : Agent) (s : State) : exec (.applyDisarm g) s = execApplyDisarm g s := rfl
theorem exec_applyTickWrite (g : Agent) (tick : Word) (s : State) : exec (.applyTickWrite g tick) s = execApplyTickWrite g tick s := rfl
theorem exec_holdLimitExpire (s : State) : exec (.holdLimitExpire) s = execHoldLimitExpire s := rfl
theorem exec_timeSysLoRead (g : Agent) (s : State) : exec (.timeSysLoRead g) s = execTimeSysLoRead g s := rfl
theorem exec_syncMeasurement (m : PtpMeas) (s : State) : exec (.syncMeasurement m) s = execSyncMeasurement m s := rfl
theorem exec_ptpStep (s : State) : exec (.ptpStep) s = execPtpStep s := rfl
theorem exec_refActivityLoss (n : Fin 8) (phase : List Int) (s : State) : exec (.refActivityLoss n phase) s = execRefActivityLoss n phase s := rfl
theorem exec_refGlitch (n : Fin 8) (phase : List Int) (s : State) : exec (.refGlitch n phase) s = execRefGlitch n phase s := rfl
theorem exec_refEvaluation (e : RefEval) (s : State) : exec (.refEvaluation e) s = execRefEvaluation e s := rfl
theorem exec_refQualify (n : Fin 8) (s : State) : exec (.refQualify n) s = execRefQualify n s := rfl
theorem exec_waitToRestoreExpire (n : Fin 8) (phase : List Int) (s : State) : exec (.waitToRestoreExpire n phase) s = execWaitToRestoreExpire n phase s := rfl
theorem exec_refLock (s : State) : exec (.refLock) s = execRefLock s := rfl
theorem exec_refLockLoss (s : State) : exec (.refLockLoss) s = execRefLockLoss s := rfl
theorem exec_bandwidthStep (s : State) : exec (.bandwidthStep) s = execBandwidthStep s := rfl
theorem exec_holdoverValidityExpire (s : State) : exec (.holdoverValidityExpire) s = execHoldoverValidityExpire s := rfl
theorem exec_holdoverLearnSample (s : State) : exec (.holdoverLearnSample) s = execHoldoverLearnSample s := rfl
theorem exec_holdoverModelSave (s : State) : exec (.holdoverModelSave) s = execHoldoverModelSave s := rfl
theorem exec_holdoverModelReset (g : Agent) (s : State) : exec (.holdoverModelReset g) s = execHoldoverModelReset g s := rfl
theorem exec_xoInFail (phase : Int) (s : State) : exec (.xoInFail phase) s = execXoInFail phase s := rfl
theorem exec_corePllLock (n : Bool) (s : State) : exec (.corePllLock n) s = execCorePllLock n s := rfl
theorem exec_synOutputStart (n : Fin 6) (band : BitVec 4) (s : State) : exec (.synOutputStart n band) s = execSynOutputStart n band s := rfl
theorem exec_synLockLoss (src : LossSource) (s : State) : exec (.synLockLoss src) s = execSynLockLoss src s := rfl
theorem exec_synRelock (x : Relock) (s : State) : exec (.synRelock x) s = execSynRelock x s := rfl
theorem exec_synStuck (n : Fin 6) (s : State) : exec (.synStuck n) s = execSynStuck n s := rfl
theorem exec_synRelockCmd (g : Agent) (mask : BitVec 6) (s : State) : exec (.synRelockCmd g mask) s = execSynRelockCmd g mask s := rfl
theorem exec_synPhaseStep (g : Agent) (n : Fin 6) (ps : BitVec 16) (s : State) : exec (.synPhaseStep g n ps) s = execSynPhaseStep g n ps s := rfl
theorem exec_synPhaseStepDone (n : Fin 6) (s : State) : exec (.synPhaseStepDone n) s = execSynPhaseStepDone n s := rfl
theorem exec_pulseEmit (k : Fin 3) (s : State) : exec (.pulseEmit k) s = execPulseEmit k s := rfl
theorem exec_pulseRealign (g : Agent) (mask : BitVec 3) (s : State) : exec (.pulseRealign g mask) s = execPulseRealign g mask s := rfl
theorem exec_linkChange (p : Port) (speed : BitVec 3) (eee : PartnerEee) (s : State) : exec (.linkChange p speed eee) s = execLinkChange p speed eee s := rfl
theorem exec_frameReceive (p : Port) (f : Frame) (m : RxMark) (s : State) : exec (.frameReceive p f m) s = execFrameReceive p f m s := rfl
theorem exec_frameTransmit (p : Port) (s : State) : exec (.frameTransmit p) s = execFrameTransmit p s := rfl
theorem exec_lpiEnter (p : Port) (s : State) : exec (.lpiEnter p) s = execLpiEnter p s := rfl
theorem exec_speedTargetEval (p : Port) (target : BitVec 3) (s : State) : exec (.speedTargetEval p target) s = execSpeedTargetEval p target s := rfl
theorem exec_speedPendingEnd (p : Port) (s : State) : exec (.speedPendingEnd p) s = execSpeedPendingEnd p s := rfl
theorem exec_speedRetrainTimeout (p : Port) (s : State) : exec (.speedRetrainTimeout p) s = execSpeedRetrainTimeout p s := rfl
theorem exec_speedSettleTimeout (p : Port) (s : State) : exec (.speedSettleTimeout p) s = execSpeedSettleTimeout p s := rfl
theorem exec_speedSuspendExpire (p : Port) (s : State) : exec (.speedSuspendExpire p) s = execSpeedSuspendExpire p s := rfl
theorem exec_nodeAnnounceSend (s : State) : exec (.nodeAnnounceSend) s = execNodeAnnounceSend s := rfl
theorem exec_nodeAnnounceReceive (p : Port) (m : Announce) (s : State) : exec (.nodeAnnounceReceive p m) s = execNodeAnnounceReceive p m s := rfl
theorem exec_nodeEntryExpire (n : BitVec 12) (s : State) : exec (.nodeEntryExpire n) s = execNodeEntryExpire n s := rfl
theorem exec_nodeConflictClear (s : State) : exec (.nodeConflictClear) s = execNodeConflictClear s := rfl
theorem exec_ringCheckSend (s : State) : exec (.ringCheckSend) s = execRingCheckSend s := rfl
theorem exec_ringCheckReceive (x : CheckCopy) (s : State) : exec (.ringCheckReceive x) s = execRingCheckReceive x s := rfl
theorem exec_ringCheckTimeout (p : Port) (s : State) : exec (.ringCheckTimeout p) s = execRingCheckTimeout p s := rfl
theorem exec_dupEntryForget (t : Fin 3) (src : Nat) (s : State) : exec (.dupEntryForget t src) s = execDupEntryForget t src s := rfl
theorem exec_ringOriginateResume (s : State) : exec (.ringOriginateResume) s = execRingOriginateResume s := rfl
theorem exec_frerRecoveryReset (flow : Fin 128) (s : State) : exec (.frerRecoveryReset flow) s = execFrerRecoveryReset flow s := rfl
theorem exec_supervisionSend (s : State) : exec (.supervisionSend) s = execSupervisionSend s := rfl
theorem exec_mkaHello (p : Port) (s : State) : exec (.mkaHello p) s = execMkaHello p s := rfl
theorem exec_mkpduReceive (p : Port) (m : Mkpdu) (s : State) : exec (.mkpduReceive p m) s = execMkpduReceive p m s := rfl
theorem exec_oldSaDelete (p : Port) (s : State) : exec (.oldSaDelete p) s = execOldSaDelete p s := rfl
theorem exec_mkaPeerLoss (p : Port) (s : State) : exec (.mkaPeerLoss p) s = execMkaPeerLoss p s := rfl
theorem exec_qbvCycleStart (p : Port) (s : State) : exec (.qbvCycleStart p) s = execQbvCycleStart p s := rfl
theorem exec_qbvEntryEnd (p : Port) (s : State) : exec (.qbvEntryEnd p) s = execQbvEntryEnd p s := rfl
theorem exec_pauseReceive (p : Port) (pfc : Option (BitVec 3)) (quanta : BitVec 16) (s : State) : exec (.pauseReceive p pfc quanta) s = execPauseReceive p pfc quanta s := rfl
theorem exec_pauseQuantaExpire (p : Port) (c : Fin 7) (s : State) : exec (.pauseQuantaExpire p c) s = execPauseQuantaExpire p c s := rfl
theorem exec_pauseWatchdog (p : Port) (c : Fin 7) (s : State) : exec (.pauseWatchdog p c) s = execPauseWatchdog p c s := rfl
theorem exec_pauseHoldoffEnd (p : Port) (c : Fin 7) (s : State) : exec (.pauseHoldoffEnd p c) s = execPauseHoldoffEnd p c s := rfl
theorem exec_streamPacketReceive (p : Port) (k : RtpPacket) (s : State) : exec (.streamPacketReceive p k) s = execStreamPacketReceive p k s := rfl
theorem exec_flowLost (flow : Fin 128) (s : State) : exec (.flowLost flow) s = execFlowLost flow s := rfl
theorem exec_streamPacketRelease (flow : Fin 128) (s : State) : exec (.streamPacketRelease flow) s = execStreamPacketRelease flow s := rfl
theorem exec_txSchedMiss (p : Port) (flow : Fin 128) (s : State) : exec (.txSchedMiss p flow) s = execTxSchedMiss p flow s := rfl
theorem exec_sealEpochAdvance (g : Fin 16) (s : State) : exec (.sealEpochAdvance g) s = execSealEpochAdvance g s := rfl
theorem exec_zcTimeout (inp out : Fin 512) (s : State) : exec (.zcTimeout inp out) s = execZcTimeout inp out s := rfl
theorem exec_coefSwapCmd (g : Agent) (atTick : Bool) (s : State) : exec (.coefSwapCmd g atTick) s = execCoefSwapCmd g atTick s := rfl
theorem exec_coefSwapCancel (g : Agent) (s : State) : exec (.coefSwapCancel g) s = execCoefSwapCancel g s := rfl
theorem exec_coefTickWrite (g : Agent) (tick : Word) (s : State) : exec (.coefTickWrite g tick) s = execCoefTickWrite g tick s := rfl
theorem exec_graphSwapArm (g : Agent) (s : State) : exec (.graphSwapArm g) s = execGraphSwapArm g s := rfl
theorem exec_graphSwapCancel (g : Agent) (s : State) : exec (.graphSwapCancel g) s = execGraphSwapCancel g s := rfl
theorem exec_graphTickWrite (g : Agent) (tick : Word) (s : State) : exec (.graphTickWrite g tick) s = execGraphTickWrite g tick s := rfl
theorem exec_jobReenable (g : Agent) (job : BitVec 8) (s : State) : exec (.jobReenable g job) s = execJobReenable g job s := rfl
theorem exec_ansWindowEnd (inst : Fin 2048) (s : State) : exec (.ansWindowEnd inst) s = execAnsWindowEnd inst s := rfl
theorem exec_tdmSlaveLocked (p : Fin 4) (rate : Nat) (s : State) : exec (.tdmSlaveLocked p rate) s = execTdmSlaveLocked p rate s := rfl
theorem exec_tdmPrerollEnd (p : Fin 4) (s : State) : exec (.tdmPrerollEnd p) s = execTdmPrerollEnd p s := rfl
theorem exec_tdmClkLoss (p : Fin 4) (s : State) : exec (.tdmClkLoss p) s = execTdmClkLoss p s := rfl
theorem exec_tdmClkHoldEnd (p : Fin 4) (s : State) : exec (.tdmClkHoldEnd p) s = execTdmClkHoldEnd p s := rfl
theorem exec_tdmClkReturn (p : Fin 4) (rate : Nat) (s : State) : exec (.tdmClkReturn p rate) s = execTdmClkReturn p rate s := rfl
theorem exec_tdmRetrack (p : Fin 4) (rate : Nat) (s : State) : exec (.tdmRetrack p rate) s = execTdmRetrack p rate s := rfl
theorem exec_tdmStopComplete (p : Fin 4) (s : State) : exec (.tdmStopComplete p) s = execTdmStopComplete p s := rfl
theorem exec_aes3Lock (r : Fin 4) (rate : Nat) (s : State) : exec (.aes3Lock r rate) s = execAes3Lock r rate s := rfl
theorem exec_aes3Unlock (r : Fin 4) (s : State) : exec (.aes3Unlock r) s = execAes3Unlock r s := rfl
theorem exec_aes3BlockEnd (r : Fin 4) (b : AesBlock) (s : State) : exec (.aes3BlockEnd r b) s = execAes3BlockEnd r b s := rfl
theorem exec_aes3ValidityMute (r : Fin 4) (c : Fin 2) (s : State) : exec (.aes3ValidityMute r c) s = execAes3ValidityMute r c s := rfl
theorem exec_aes3TxStart (t : Fin 4) (s : State) : exec (.aes3TxStart t) s = execAes3TxStart t s := rfl
theorem exec_aes3TxStop (t : Fin 4) (s : State) : exec (.aes3TxStop t) s = execAes3TxStop t s := rfl
theorem exec_ampPrechargeDone (c : Fin 8) (s : State) : exec (.ampPrechargeDone c) s = execAmpPrechargeDone c s := rfl
theorem exec_ampCurrentLimit (x : SwitchCurrent) (s : State) : exec (.ampCurrentLimit x) s = execAmpCurrentLimit x s := rfl
theorem exec_ampShortLatch (c : Fin 8) (periods : List SwitchPeriod) (s : State) : exec (.ampShortLatch c periods) s = execAmpShortLatch c periods s := rfl
theorem exec_ampEnergyDumpEnd (c : Fin 8) (s : State) : exec (.ampEnergyDumpEnd c) s = execAmpEnergyDumpEnd c s := rfl
theorem exec_ampProbeStart (c : Fin 8) (s : State) : exec (.ampProbeStart c) s = execAmpProbeStart c s := rfl
theorem exec_ampProbeEnd (c : Fin 8) (result : ProbeEnd) (s : State) : exec (.ampProbeEnd c result) s = execAmpProbeEnd c result s := rfl
theorem exec_ampRetry (c : Fin 8) (s : State) : exec (.ampRetry c) s = execAmpRetry c s := rfl
theorem exec_ampRetryRestore (c : Fin 8) (s : State) : exec (.ampRetryRestore c) s = execAmpRetryRestore c s := rfl
theorem exec_ampDcFault (c : Fin 8) (s : State) : exec (.ampDcFault c) s = execAmpDcFault c s := rfl
theorem exec_ampThermalTrip (c : Fin 8) (tj : Int) (s : State) : exec (.ampThermalTrip c tj) s = execAmpThermalTrip c tj s := rfl
theorem exec_ampRailFault (rail : Fin 2) (x : RailOut) (s : State) : exec (.ampRailFault rail x) s = execAmpRailFault rail x s := rfl
theorem exec_ampRailRestore (rail : Fin 2) (v : BitVec 16) (s : State) : exec (.ampRailRestore rail v) s = execAmpRailRestore rail v s := rfl
theorem exec_ampSpareTakeover (c : Fin 8) (s : State) : exec (.ampSpareTakeover c) s = execAmpSpareTakeover c s := rfl
theorem exec_ampSpareSettled (s : State) : exec (.ampSpareSettled) s = execAmpSpareSettled s := rfl
theorem exec_ampSpareRelease (g : Agent) (s : State) : exec (.ampSpareRelease g) s = execAmpSpareRelease g s := rfl
theorem exec_ampSpareReturn (s : State) : exec (.ampSpareReturn) s = execAmpSpareReturn s := rfl
theorem exec_ampChannelClear (g : Agent) (mask : BitVec 8) (s : State) : exec (.ampChannelClear g mask) s = execAmpChannelClear g mask s := rfl
theorem exec_lineRoundStart (s : State) : exec (.lineRoundStart) s = execLineRoundStart s := rfl
theorem exec_lineTestSlotEnd (t : LineTest) (s : State) : exec (.lineTestSlotEnd t) s = execLineTestSlotEnd t s := rfl
theorem exec_lineTestNow (g : Agent) (mask : BitVec 8) (s : State) : exec (.lineTestNow g mask) s = execLineTestNow g mask s := rfl
theorem exec_lineStale (c : Fin 8) (s : State) : exec (.lineStale c) s = execLineStale c s := rfl
theorem exec_earthFaultMeasure (a : Nat) (s : State) : exec (.earthFaultMeasure a) s = execEarthFaultMeasure a s := rfl
theorem exec_efLocate (g : Agent) (s : State) : exec (.efLocate g) s = execEfLocate g s := rfl
theorem exec_efLocateStepEnd (d : Int) (a : Nat) (s : State) : exec (.efLocateStepEnd d a) s = execEfLocateStepEnd d a s := rfl
theorem exec_lineCal (g : Agent) (mask : BitVec 8) (s : State) : exec (.lineCal g mask) s = execLineCal g mask s := rfl
theorem exec_lineCalStored (c : Fin 8) (s : State) : exec (.lineCalStored c) s = execLineCalStored c s := rfl
theorem exec_crownLaneCycle (x : LaneIn) (s : State) : exec (.crownLaneCycle x) s = execCrownLaneCycle x s := rfl
theorem exec_laneRepairDone (lane : Fin 3) (s : State) : exec (.laneRepairDone lane) s = execLaneRepairDone lane s := rfl
theorem exec_laneOscCheck (edges : List Nat) (s : State) : exec (.laneOscCheck edges) s = execLaneOscCheck edges s := rfl
theorem exec_trigSample (mohm : List Nat) (s : State) : exec (.trigSample mohm) s = execTrigSample mohm s := rfl
theorem exec_alarmStartCmd (g : Agent) (value : BitVec 32) (s : State) : exec (.alarmStartCmd g value) s = execAlarmStartCmd g value s := rfl
theorem exec_contentTurnEnd (entry : Fin 16) (s : State) : exec (.contentTurnEnd entry) s = execContentTurnEnd entry s := rfl
theorem exec_liveFallbackReturn (s : State) : exec (.liveFallbackReturn) s = execLiveFallbackReturn s := rfl
theorem exec_fallbackClockReturn (s : State) : exec (.fallbackClockReturn) s = execFallbackClockReturn s := rfl
theorem exec_pairStartupDecide (high : Bool) (s : State) : exec (.pairStartupDecide high) s = execPairStartupDecide high s := rfl
theorem exec_pairClaim (s : State) : exec (.pairClaim) s = execPairClaim s := rfl
theorem exec_pairLinerClaim (s : State) : exec (.pairLinerClaim) s = execPairLinerClaim s := rfl
theorem exec_pairSettleDone (s : State) : exec (.pairSettleDone) s = execPairSettleDone s := rfl
theorem exec_pairYieldRelease (s : State) : exec (.pairYieldRelease) s = execPairYieldRelease s := rfl
theorem exec_pairYieldFail (s : State) : exec (.pairYieldFail) s = execPairYieldFail s := rfl
theorem exec_standbyRecordSend (s : State) : exec (.standbyRecordSend) s = execStandbyRecordSend s := rfl
theorem exec_standbyRecordReceive (x : PairRec) (s : State) : exec (.standbyRecordReceive x) s = execStandbyRecordReceive x s := rfl
theorem exec_linerLoss (s : State) : exec (.linerLoss) s = execLinerLoss s := rfl
theorem exec_standbyRecordLoss (s : State) : exec (.standbyRecordLoss) s = execStandbyRecordLoss s := rfl
theorem exec_proofSwap (g : Agent) (s : State) : exec (.proofSwap g) s = execProofSwap g s := rfl
theorem exec_proofEnd (g : Agent) (s : State) : exec (.proofEnd g) s = execProofEnd g s := rfl
theorem exec_proofWindowEnd (s : State) : exec (.proofWindowEnd) s = execProofWindowEnd s := rfl
theorem exec_modbusRequest (frame : MbFrame) (s : State) : exec (.modbusRequest frame) s = execModbusRequest frame s := rfl
theorem exec_panelByteReceive (byte : BitVec 8) (err : Bool) (s : State) : exec (.panelByteReceive byte err) s = execPanelByteReceive byte err s := rfl
theorem exec_panelGapClose (s : State) : exec (.panelGapClose) s = execPanelGapClose s := rfl
theorem exec_panelRxPop (g : Agent) (s : State) : exec (.panelRxPop g) s = execPanelRxPop g s := rfl
theorem exec_panelTxWrite (g : Agent) (data : BitVec 32) (s : State) : exec (.panelTxWrite g data) s = execPanelTxWrite g data s := rfl
theorem exec_panelRxFlush (g : Agent) (s : State) : exec (.panelRxFlush g) s = execPanelRxFlush g s := rfl
theorem exec_panelRxDiscard (g : Agent) (s : State) : exec (.panelRxDiscard g) s = execPanelRxDiscard g s := rfl
theorem exec_panelTxDiscard (g : Agent) (s : State) : exec (.panelTxDiscard g) s = execPanelTxDiscard g s := rfl
theorem exec_powerValid (v : BitVec 16) (s : State) : exec (.powerValid v) s = execPowerValid v s := rfl
theorem exec_attestComplete (a : AttestIn) (s : State) : exec (.attestComplete a) s = execAttestComplete a s := rfl
theorem exec_modeRequest (g : Agent) (target : BitVec 4) (s : State) : exec (.modeRequest g target) s = execModeRequest g target s := rfl
theorem exec_powerDownDone (s : State) : exec (.powerDownDone) s = execPowerDownDone s := rfl
theorem exec_wakeRegulatorsReady (s : State) : exec (.wakeRegulatorsReady) s = execWakeRegulatorsReady s := rfl
theorem exec_wakeBanksZeroed (s : State) : exec (.wakeBanksZeroed) s = execWakeBanksZeroed s := rfl
theorem exec_vinCtlWarn (v : BitVec 16) (s : State) : exec (.vinCtlWarn v) s = execVinCtlWarn v s := rfl
theorem exec_vinCtlWarnRestore (v : BitVec 16) (s : State) : exec (.vinCtlWarnRestore v) s = execVinCtlWarnRestore v s := rfl
theorem exec_vinCtlUndervoltage (v : BitVec 16) (s : State) : exec (.vinCtlUndervoltage v) s = execVinCtlUndervoltage v s := rfl
theorem exec_vinCtlOvervoltage (v : BitVec 16) (s : State) : exec (.vinCtlOvervoltage v) s = execVinCtlOvervoltage v s := rfl
theorem exec_vinCtlRestore (v : BitVec 16) (s : State) : exec (.vinCtlRestore v) s = execVinCtlRestore v s := rfl
theorem exec_vinCtlLoss (v : BitVec 16) (s : State) : exec (.vinCtlLoss v) s = execVinCtlLoss v s := rfl
theorem exec_pfwAssert (s : State) : exec (.pfwAssert) s = execPfwAssert s := rfl
theorem exec_pfwRelease (s : State) : exec (.pfwRelease) s = execPfwRelease s := rfl
theorem exec_pfwDelayExpire (s : State) : exec (.pfwDelayExpire) s = execPfwDelayExpire s := rfl
theorem exec_pfwShelterRestore (s : State) : exec (.pfwShelterRestore) s = execPfwShelterRestore s := rfl
theorem exec_tempSample (die base : Int) (s : State) : exec (.tempSample die base) s = execTempSample die base s := rfl
theorem exec_moduleThermalShutdown (s : State) : exec (.moduleThermalShutdown) s = execModuleThermalShutdown s := rfl
theorem exec_thermalRestore (s : State) : exec (.thermalRestore) s = execThermalRestore s := rfl
theorem exec_domainRestart (g : Agent) (mask : BitVec 9) (s : State) : exec (.domainRestart g mask) s = execDomainRestart g mask s := rfl
theorem exec_domainRestartReady (d : Fin 9) (s : State) : exec (.domainRestartReady d) s = execDomainRestartReady d s := rfl
theorem exec_watchdogWarn (s : State) : exec (.watchdogWarn) s = execWatchdogWarn s := rfl
theorem exec_watchdogTimeout (s : State) : exec (.watchdogTimeout) s = execWatchdogTimeout s := rfl
theorem exec_lockstepMismatch (s : State) : exec (.lockstepMismatch) s = execLockstepMismatch s := rfl
theorem exec_fwSwitch (g : Agent) (s : State) : exec (.fwSwitch g) s = execFwSwitch g s := rfl
theorem exec_fwSwitchCancel (g : Agent) (s : State) : exec (.fwSwitchCancel g) s = execFwSwitchCancel g s := rfl
theorem exec_fwPreloadDone (s : State) : exec (.fwPreloadDone) s = execFwPreloadDone s := rfl
theorem exec_fwProbationEnd (healthy : Bool) (s : State) : exec (.fwProbationEnd healthy) s = execFwProbationEnd healthy s := rfl
theorem exec_repairRequest (g : Agent) (bank : BitVec 6) (s : State) : exec (.repairRequest g bank) s = execRepairRequest g bank s := rfl
theorem exec_repairCopyDone (s : State) : exec (.repairCopyDone) s = execRepairCopyDone s := rfl
theorem exec_repairMapStored (s : State) : exec (.repairMapStored) s = execRepairMapStored s := rfl
theorem exec_order (p : Port) (ring : Fin 64) (cookie : BitVec 32) (s : State) : exec (.order p ring cookie) s = execOrder p ring cookie s := rfl
theorem exec_orderVerified (tamperLow : Bool) (s : State) : exec (.orderVerified tamperLow) s = execOrderVerified tamperLow s := rfl
theorem exec_orderComplete (s : State) : exec (.orderComplete) s = execOrderComplete s := rfl
theorem exec_allowImageExpire (ty num : BitVec 8) (s : State) : exec (.allowImageExpire ty num) s = execAllowImageExpire ty num s := rfl
theorem exec_tamperDetect (src : TamperSource) (s : State) : exec (.tamperDetect src) s = execTamperDetect src s := rfl
theorem exec_tamperFlashErased (s : State) : exec (.tamperFlashErased) s = execTamperFlashErased s := rfl
theorem exec_perstAssert (p : Port) (s : State) : exec (.perstAssert p) s = execPerstAssert p s := rfl
theorem exec_ringStart (p : Port) (ring : Fin 64) (cfg : Word) (s : State) : exec (.ringStart p ring cfg) s = execRingStart p ring cfg s := rfl
theorem exec_ringStop (p : Port) (ring : Fin 64) (s : State) : exec (.ringStop p ring) s = execRingStop p ring s := rfl
theorem exec_doorbell (p : Port) (ring : Fin 64) (prod : BitVec 16) (descs : List Desc) (s : State) : exec (.doorbell p ring prod descs) s = execDoorbell p ring prod descs s := rfl
theorem exec_fwImage (p : Port) (ring : Fin 64) (header : Option (BitVec 16)) (s : State) : exec (.fwImage p ring header) s = execFwImage p ring header s := rfl
theorem exec_graphImage (p : Port) (ring : Fin 64) (img : GImage) (cookie : BitVec 32) (s : State) : exec (.graphImage p ring img cookie) s = execGraphImage p ring img cookie s := rfl
theorem exec_msgImage (p : Port) (ring : Fin 64) (cookie : BitVec 32) (s : State) : exec (.msgImage p ring cookie) s = execMsgImage p ring cookie s := rfl
theorem exec_msgDelete (p : Port) (ring : Fin 64) (s : State) : exec (.msgDelete p ring) s = execMsgDelete p ring s := rfl
theorem exec_nop (p : Port) (ring : Fin 64) (s : State) : exec (.nop p ring) s = execNop p ring s := rfl
theorem exec_hostFrameTransmit (p : Port) (ring : Fin 64) (f : Frame) (s : State) : exec (.hostFrameTransmit p ring f) s = execHostFrameTransmit p ring f s := rfl
theorem exec_netrxHoldExpire (p : Port) (ring : Fin 64) (s : State) : exec (.netrxHoldExpire p ring) s = execNetrxHoldExpire p ring s := rfl
theorem exec_evtqBufferClose (p : Port) (ring : Fin 64) (s : State) : exec (.evtqBufferClose p ring) s = execEvtqBufferClose p ring s := rfl
theorem exec_msixModerationEnd (p : Port) (ring : Fin 64) (s : State) : exec (.msixModerationEnd p ring) s = execMsixModerationEnd p ring s := rfl
theorem exec_dmaError (p : Port) (ring : Fin 64) (s : State) : exec (.dmaError p ring) s = execDmaError p ring s := rfl
theorem exec_heartbeat (p : Port) (value : Word) (s : State) : exec (.heartbeat p value) s = execHeartbeat p value s := rfl
theorem exec_hostLost (p : Port) (linkDown : Bool) (s : State) : exec (.hostLost p linkDown) s = execHostLost p linkDown s := rfl
theorem exec_semaphoreAcquire (p : Port) (n : Fin 32) (token : BitVec 16) (tie : Option (BitVec 16)) (s : State) : exec (.semaphoreAcquire p n token tie) s = execSemaphoreAcquire p n token tie s := rfl
theorem exec_semaphoreRelease (p : Port) (n : Fin 32) (token : BitVec 16) (s : State) : exec (.semaphoreRelease p n token) s = execSemaphoreRelease p n token s := rfl
theorem exec_semaphoreForce (g : Agent) (n : Fin 32) (s : State) : exec (.semaphoreForce g n) s = execSemaphoreForce g n s := rfl
theorem exec_hostQuotaWrite (p : Port) (value : Word) (s : State) : exec (.hostQuotaWrite p value) s = execHostQuotaWrite p value s := rfl
theorem exec_msixUnmask (p : Port) (v : Fin 128) (s : State) : exec (.msixUnmask p v) s = execMsixUnmask p v s := rfl
theorem exec_scrub (found : List EccFind) (s : State) : exec (.scrub found) s = execScrub found s := rfl
theorem exec_eccWindowEnd (b : Fin 66) (s : State) : exec (.eccWindowEnd b) s = execEccWindowEnd b s := rfl
theorem exec_exchangeWrite (m : ExMaster) (addr : BitVec 16) (be : BitVec 4) (data : Word) (met : Option (Fin 16)) (ecc : EccState) (s : State) : exec (.exchangeWrite m addr be data met ecc) s = execExchangeWrite m addr be data met ecc s := rfl
theorem exec_exchangeSet (m : ExMaster) (addr : BitVec 16) (be : BitVec 4) (data : Word) (met : Option (Fin 16)) (ecc : EccState) (s : State) : exec (.exchangeSet m addr be data met ecc) s = execExchangeSet m addr be data met ecc s := rfl
theorem exec_exchangeClear (m : ExMaster) (addr : BitVec 16) (be : BitVec 4) (data : Word) (met : Option (Fin 16)) (ecc : EccState) (s : State) : exec (.exchangeClear m addr be data met ecc) s = execExchangeClear m addr be data met ecc s := rfl
theorem exec_queueFlush (g : Agent) (q : BitVec 5) (s : State) : exec (.queueFlush g q) s = execQueueFlush g q s := rfl
theorem exec_registerWrite (g : Agent) (off : BitVec 24) (be : BitVec 4) (data : Word) (kind : ReqKind) (s : State) : exec (.registerWrite g off be data kind) s = execRegisterWrite g off be data kind s := rfl
theorem exec_clearOnRead (g : Agent) (off : BitVec 24) (be : BitVec 4) (kind : ReqKind) (s : State) : exec (.clearOnRead g off be kind) s = execClearOnRead g off be kind s := rfl
theorem exec_blockReset (g : Agent) (code : BitVec 8) (data : Word) (s : State) : exec (.blockReset g code data) s = execBlockReset g code data s := rfl
theorem exec_idataRead (g : Agent) (code : BitVec 8) (be : BitVec 4) (s : State) : exec (.idataRead g code be) s = execIdataRead g code be s := rfl
theorem exec_idataWrite (g : Agent) (code : BitVec 8) (be : BitVec 4) (data : Word) (s : State) : exec (.idataWrite g code be data) s = execIdataWrite g code be data s := rfl
theorem exec_idataWriteComplete (g : Agent) (s : State) : exec (.idataWriteComplete g) s = execIdataWriteComplete g s := rfl
theorem exec_unlockKey (p : Port) (key : BitVec 16) (s : State) : exec (.unlockKey p key) s = execUnlockKey p key s := rfl
theorem exec_unlockExpire (p : Port) (s : State) : exec (.unlockExpire p) s = execUnlockExpire p s := rfl
theorem exec_evtRawClear (g : Agent) (hi : Bool) (mask : Word) (s : State) : exec (.evtRawClear g hi mask) s = execEvtRawClear g hi mask s := rfl
theorem exec_eventTest (g : Agent) (src : BitVec 6) (s : State) : exec (.eventTest g src) s = execEventTest g src s := rfl
theorem exec_logEntryWrite (s : State) : exec (.logEntryWrite) s = execLogEntryWrite s := rfl
theorem exec_logArchiveAppend (s : State) : exec (.logArchiveAppend) s = execLogArchiveAppend s := rfl
theorem exec_logFreeze (g : Agent) (s : State) : exec (.logFreeze g) s = execLogFreeze g s := rfl
theorem exec_logUnfreeze (g : Agent) (s : State) : exec (.logUnfreeze g) s = execLogUnfreeze g s := rfl
theorem exec_logClear (g : Agent) (s : State) : exec (.logClear g) s = execLogClear g s := rfl
theorem exec_ptpMessageSend (kind : PtpKind) (p : Port) (s : State) : exec (.ptpMessageSend kind p) s = execPtpMessageSend kind p s := rfl
theorem exec_grandmasterLoss (s : State) : exec (.grandmasterLoss) s = execGrandmasterLoss s := rfl
theorem exec_tdmRetrackEnd (p : Fin 4) (rate : Nat) (s : State) : exec (.tdmRetrackEnd p rate) s = execTdmRetrackEnd p rate s := rfl
theorem exec_aes3Retrack (r : Fin 4) (rate : Nat) (s : State) : exec (.aes3Retrack r rate) s = execAes3Retrack r rate s := rfl
theorem exec_aes3RetrackEnd (r : Fin 4) (rate : Nat) (s : State) : exec (.aes3RetrackEnd r rate) s = execAes3RetrackEnd r rate s := rfl
theorem exec_aes3ValidityUnmute (r : Fin 4) (c : Fin 2) (s : State) : exec (.aes3ValidityUnmute r c) s = execAes3ValidityUnmute r c s := rfl
theorem exec_panelCharacterSent (s : State) : exec (.panelCharacterSent) s = execPanelCharacterSent s := rfl
theorem exec_pcieConfigWrite (p : Port) (bme msixEn fmask : Bool) (s : State) : exec (.pcieConfigWrite p bme msixEn fmask) s = execPcieConfigWrite p bme msixEn fmask s := rfl
theorem exec_pcieLinkUp (p : Port) (gen : Fin 3) (wide : Bool) (s : State) : exec (.pcieLinkUp p gen wide) s = execPcieLinkUp p gen wide s := rfl
theorem exec_proofPermanentJudge (s : State) : exec (.proofPermanentJudge) s = execProofPermanentJudge s := rfl

end Sys2Proof.Machine
end

