-- ==== Sys2Proof/Laws/State.lean ====
section
/-! SUPPORT. The small laws of the state: what reading a key, a field or a component gives after each update. -/

namespace Sys2Proof.Machine

/-! ### Sparse data -/

theorem Store.get_erase_same {α : Type} (d : Nat → α) (m : List (Nat × α)) (k : Nat) :
    Store.get d (Store.erase k m) k = d k := by
  induction m with
  | nil => rfl
  | cons x m ih => obtain ⟨a, v⟩ := x; by_cases h : a = k <;> simp [Store.erase, Store.get, h, ih]

theorem Store.get_erase_ne {α : Type} (d : Nat → α) (m : List (Nat × α)) (k k' : Nat) (h : k ≠ k') :
    Store.get d (Store.erase k m) k' = Store.get d m k' := by
  induction m with
  | nil => rfl
  | cons x m ih =>
    obtain ⟨a, v⟩ := x
    by_cases ha : a = k
    · subst ha; simp [Store.erase, Store.get, h, ih]
    · simp [Store.erase, Store.get, ha, ih]

/-- Reading a key after an entry is put among entries of other keys. -/
theorem Store.get_insert {α : Type} (d : Nat → α) (m : List (Nat × α)) (k k' : Nat) (v : α)
    (free : ∀ x ∈ m, x.1 = k → False) :
    Store.get d (Store.insert k v m) k' = if k = k' then v else Store.get d m k' := by
  induction m with
  | nil => simp [Store.insert, Store.get]
  | cons x m ih =>
    obtain ⟨a, w⟩ := x
    have ha : a ≠ k := fun e => free (a, w) (by simp) e
    by_cases hl : k < a
    · rw [Store.insert, if_pos hl, Store.get]
    · rw [Store.insert, if_neg hl, Store.get, ih (fun y hy => free y (by simp [hy])), Store.get]
      by_cases h : k = k'
      · subst h; simp [ha]
      · simp [h]

theorem Store.erase_free {α : Type} (m : List (Nat × α)) (k : Nat) : ∀ x ∈ Store.erase k m, x.1 = k → False := by
  induction m with
  | nil => simp [Store.erase]
  | cons x m ih =>
    obtain ⟨a, v⟩ := x
    by_cases h : a = k
    · simpa [Store.erase, h] using ih
    · intro y hy hk
      simp only [Store.erase, h, if_false, List.mem_cons] at hy
      rcases hy with rfl | hy
      · exact h hk
      · exact ih y hy hk

/-- Reading a key of sparse data after a write of a key. -/
theorem Store.get_set {α : Type} [DecidableEq α] (d : Nat → α) (m : List (Nat × α)) (k k' : Nat) (v : α) :
    Store.get d (Store.set d m k v) k' = if k = k' then v else Store.get d m k' := by
  unfold Store.set
  by_cases hv : v = d k
  · by_cases h : k = k'
    · subst h; simp [hv, Store.get_erase_same]
    · simp [hv, h, Store.get_erase_ne d m k k' h]
  · rw [if_neg hv, Store.get_insert _ _ _ _ _ (Store.erase_free m k)]
    by_cases h : k = k'
    · simp [h]
    · simp [h, Store.get_erase_ne d m k k' h]

/-! ### Registers and fields -/

/-- Reading a register after a write of a register. -/
theorem State.rd_wr (s : State) (k k' : Nat) (w : Word) : (s.wr k w).rd k' = if k = k' then w else s.rd k' :=
  Store.get_set _ _ _ _ _

@[simp] theorem State.rd_wr_same (s : State) (k : Nat) (w : Word) : (s.wr k w).rd k = w := by simp [State.rd_wr]

theorem State.rd_wr_ne (s : State) (k k' : Nat) (w : Word) (h : k ≠ k') : (s.wr k w).rd k' = s.rd k' := by
  simp [State.rd_wr, h]

/-- The bits of a word with a field replaced. -/
theorem Word.withField_testBit (w : Word) (hi lo v i : Nat) (hlo : lo ≤ hi) :
    (Word.withField w hi lo v).getLsbD i =
      (decide (i < 32) && if lo ≤ i ∧ i ≤ hi then v.testBit (i - lo) else w.getLsbD i) := by
  unfold Word.withField
  rw [BitVec.getLsbD_ofNat]
  congr 1
  have h3 : w.toNat % 2 ^ lo < 2 ^ lo := Nat.mod_lt _ (Nat.two_pow_pos _)
  have h4 : v % 2 ^ (hi + 1 - lo) < 2 ^ (hi + 1 - lo) := Nat.mod_lt _ (Nat.two_pow_pos _)
  have e : hi + 1 = lo + (hi + 1 - lo) := by omega
  have h5 : v % 2 ^ (hi + 1 - lo) * 2 ^ lo + w.toNat % 2 ^ lo < 2 ^ (hi + 1) := by
    have p : 2 ^ (hi + 1) = 2 ^ lo * 2 ^ (hi + 1 - lo) := by rw [← Nat.pow_add, ← e]
    rw [p]
    have : v % 2 ^ (hi + 1 - lo) + 1 ≤ 2 ^ (hi + 1 - lo) := h4
    have := Nat.mul_le_mul_left (2 ^ lo) this
    rw [Nat.mul_add, Nat.mul_one, Nat.mul_comm] at this
    omega
  rw [Nat.add_assoc, Nat.mul_comm (w.toNat / 2 ^ (hi + 1)), Nat.testBit_two_pow_mul_add _ h5,
    Nat.mul_comm (v % 2 ^ (hi + 1 - lo)), Nat.testBit_two_pow_mul_add _ h3]
  simp only [Nat.testBit_mod_two_pow, Nat.testBit_div_two_pow, BitVec.getLsbD, BitVec.toNat]
  by_cases a : i < hi + 1
  · by_cases b : i < lo
    · simp [a, b, show ¬ lo ≤ i by omega]
    · simp [a, b, show lo ≤ i by omega, show i ≤ hi by omega, show i - lo < hi + 1 - lo by omega]
  · simp [a, show ¬ i ≤ hi by omega, show i - (hi + 1) + (hi + 1) = i by omega]

/-- A bit of a field. -/
theorem Word.field_testBit (w : Word) (hi lo i : Nat) :
    (Word.field w hi lo).testBit i = (decide (i < hi + 1 - lo) && w.getLsbD (i + lo)) := by
  simp [Word.field, Nat.testBit_mod_two_pow, Nat.testBit_div_two_pow, BitVec.getLsbD]

/-- A field reads as it was written, its low bits. -/
@[simp] theorem Word.field_withField (w : Word) (hi lo v : Nat) (hlo : lo ≤ hi) (hhi : hi < 32) :
    Word.field (Word.withField w hi lo v) hi lo = v % 2 ^ (hi + 1 - lo) := by
  apply Nat.eq_of_testBit_eq
  intro i
  rw [Word.field_testBit, Word.withField_testBit _ _ _ _ _ hlo, Nat.testBit_mod_two_pow]
  by_cases h : i < hi + 1 - lo
  · simp [h, show i + lo < 32 by omega, show i + lo ≤ hi by omega]
  · simp [h]

/-- A field reads as before after a write of other bits of its word. -/
theorem Word.field_withField_off (w : Word) (hi lo hi' lo' v : Nat) (hlo : lo ≤ hi)
    (h : hi < lo' ∨ hi' < lo) : Word.field (Word.withField w hi lo v) hi' lo' = Word.field w hi' lo' := by
  apply Nat.eq_of_testBit_eq
  intro i
  rw [Word.field_testBit, Word.field_testBit, Word.withField_testBit _ _ _ _ _ hlo]
  by_cases h2 : i < hi' + 1 - lo'
  · by_cases h3 : i + lo' < 32
    · simp [h2, h3, show ¬ (lo ≤ i + lo' ∧ i + lo' ≤ hi) by omega]
    · simp [h2, h3, BitVec.getLsbD_of_ge w (i + lo') (by omega)]
  · simp [h2]

/-- Whether two fields share no bit. -/
abbrev Fld.apart (f g : Fld) : Prop := f.addr ≠ g.addr ∨ f.hi < g.lo ∨ g.hi < f.lo

/-- Whether a field lies within its word. -/
abbrev Fld.ok (f : Fld) : Prop := f.lo ≤ f.hi ∧ f.hi < 32

/-- A field reads as it was written, its low bits. -/
theorem State.get_put (s : State) (f : Fld) (v : Nat) (h : f.ok) : (s.put f v).get f = v % 2 ^ (f.hi + 1 - f.lo) := by
  simp [State.get, State.put, Word.field_withField _ _ _ _ h.1 h.2]

/-- A field reads as before after a write of another one. -/
theorem State.get_put_apart (s : State) (f g : Fld) (v : Nat) (h : f.ok) (ha : f.apart g) :
    (s.put f v).get g = s.get g := by
  unfold State.get State.put
  by_cases e : f.addr = g.addr
  · rw [← e, State.rd_wr_same, Word.field_withField_off _ _ _ _ _ _ h.1 (by
      rcases ha with ha | ha
      · exact absurd e ha
      · exact ha)]
  · rw [State.rd_wr_ne _ _ _ _ e]

/-- Reading depends on the registers alone. -/
theorem State.get_of_regs {s t : State} (h : t.regs = s.regs) (f : Fld) : t.get f = s.get f := by
  unfold State.get State.rd; rw [h]

theorem State.on_of_regs {s t : State} (h : t.regs = s.regs) (f : Fld) : t.on f = s.on f := by
  unfold State.on; rw [State.get_of_regs h]

theorem State.rd_of_regs {s t : State} (h : t.regs = s.regs) (k : Nat) : t.rd k = s.rd k := by
  unfold State.rd; rw [h]

theorem State.on_def (s : State) (f : Fld) : s.on f = decide (s.get f ≠ 0) := rfl

/-- A one-bit field reads as it was set. -/
theorem State.on_flag (s : State) (f : Fld) (b : Bool) (h : f.ok) (w : f.hi = f.lo) : (s.flag f b).on f = b := by
  have e : (2 : Nat) ^ (f.hi + 1 - f.lo) = 2 := by rw [w]; simp
  cases b <;> simp [State.on, State.flag, State.get_put _ _ _ h, e]

theorem State.get_flag (s : State) (f : Fld) (b : Bool) (h : f.ok) (w : f.hi = f.lo) :
    (s.flag f b).get f = if b then 1 else 0 := by
  have e : (2 : Nat) ^ (f.hi + 1 - f.lo) = 2 := by rw [w]; simp
  cases b <;> simp [State.flag, State.get_put _ _ _ h, e]

theorem State.get_flag_apart (s : State) (f g : Fld) (b : Bool) (h : f.ok) (ha : f.apart g) :
    (s.flag f b).get g = s.get g := State.get_put_apart s f g _ h ha

theorem State.on_put_apart (s : State) (f g : Fld) (v : Nat) (h : f.ok) (ha : f.apart g) :
    (s.put f v).on g = s.on g := by simp [State.on, State.get_put_apart s f g v h ha]

theorem State.on_flag_apart (s : State) (f g : Fld) (b : Bool) (h : f.ok) (ha : f.apart g) :
    (s.flag f b).on g = s.on g := State.on_put_apart s f g _ h ha

theorem State.rd_put_ne (s : State) (f : Fld) (v k : Nat) (h : f.addr ≠ k) : (s.put f v).rd k = s.rd k :=
  State.rd_wr_ne s _ _ _ h

theorem State.rd_flag_ne (s : State) (f : Fld) (b : Bool) (k : Nat) (h : f.addr ≠ k) : (s.flag f b).rd k = s.rd k :=
  State.rd_wr_ne s _ _ _ h

theorem State.rd_bump_ne (s : State) (f : Fld) (n k : Nat) (h : f.addr ≠ k) : (s.bump f n).rd k = s.rd k := by
  unfold State.bump
  split
  · rfl
  · exact State.rd_put_ne s f _ k h

/-! ### The components under each update -/

@[simp] theorem State.wr_variant (s : State) (k : Nat) (w : Word) : (s.wr k w).variant = s.variant := rfl
@[simp] theorem State.wr_shadow (s : State) (k : Nat) (w : Word) : (s.wr k w).shadow = s.shadow := rfl
@[simp] theorem State.wr_resp (s : State) (k : Nat) (w : Word) : (s.wr k w).resp = s.resp := rfl
@[simp] theorem State.wr_out (s : State) (k : Nat) (w : Word) : (s.wr k w).out = s.out := rfl
@[simp] theorem State.wr_free (s : State) (k : Nat) (w : Word) : (s.wr k w).free = s.free := rfl
@[simp] theorem State.wr_log (s : State) (k : Nat) (w : Word) : (s.wr k w).log = s.log := rfl
@[simp] theorem State.wr_time (s : State) (k : Nat) (w : Word) : (s.wr k w).time = s.time := rfl
@[simp] theorem State.wr_tsqA (s : State) (k : Nat) (w : Word) : (s.wr k w).tsqA = s.tsqA := rfl
@[simp] theorem State.wr_tsqB (s : State) (k : Nat) (w : Word) : (s.wr k w).tsqB = s.tsqB := rfl
@[simp] theorem State.wr_refs (s : State) (k : Nat) (w : Word) : (s.wr k w).refs = s.refs := rfl
@[simp] theorem State.wr_syn (s : State) (k : Nat) (w : Word) : (s.wr k w).syn = s.syn := rfl
@[simp] theorem State.wr_netA (s : State) (k : Nat) (w : Word) : (s.wr k w).netA = s.netA := rfl
@[simp] theorem State.wr_netB (s : State) (k : Nat) (w : Word) : (s.wr k w).netB = s.netB := rfl
@[simp] theorem State.wr_rsw (s : State) (k : Nat) (w : Word) : (s.wr k w).rsw = s.rsw := rfl
@[simp] theorem State.wr_host (s : State) (k : Nat) (w : Word) : (s.wr k w).host = s.host := rfl
@[simp] theorem State.wr_mem (s : State) (k : Nat) (w : Word) : (s.wr k w).mem = s.mem := rfl
@[simp] theorem State.wr_pnl (s : State) (k : Nat) (w : Word) : (s.wr k w).pnl = s.pnl := rfl
@[simp] theorem State.wr_fab (s : State) (k : Nat) (w : Word) : (s.wr k w).fab = s.fab := rfl
@[simp] theorem State.wr_dsp (s : State) (k : Nat) (w : Word) : (s.wr k w).dsp = s.dsp := rfl
@[simp] theorem State.wr_plat (s : State) (k : Nat) (w : Word) : (s.wr k w).plat = s.plat := rfl
@[simp] theorem State.wr_strm (s : State) (k : Nat) (w : Word) : (s.wr k w).strm = s.strm := rfl
@[simp] theorem State.wr_lap (s : State) (k : Nat) (w : Word) : (s.wr k w).lap = s.lap := rfl
@[simp] theorem State.wr_amp (s : State) (k : Nat) (w : Word) : (s.wr k w).amp = s.amp := rfl
@[simp] theorem State.wr_line (s : State) (k : Nat) (w : Word) : (s.wr k w).line = s.line := rfl
@[simp] theorem State.wr_crown (s : State) (k : Nat) (w : Word) : (s.wr k w).crown = s.crown := rfl
@[simp] theorem State.wr_pair (s : State) (k : Nat) (w : Word) : (s.wr k w).pair = s.pair := rfl
@[simp] theorem State.wr_cerk (s : State) (k : Nat) (w : Word) : (s.wr k w).cerk = s.cerk := rfl
@[simp] theorem State.wr_heldW (s : State) (k : Nat) (w : Word) : (s.wr k w).heldW = s.heldW := rfl
@[simp] theorem State.wr_timers (s : State) (k : Nat) (w : Word) : (s.wr k w).timers = s.timers := rfl
@[simp] theorem State.wr_flash (s : State) (k : Nat) (w : Word) : (s.wr k w).flash = s.flash := rfl
@[simp] theorem State.wr_otp (s : State) (k : Nat) (w : Word) : (s.wr k w).otp = s.otp := rfl
@[simp] theorem State.wr_pending (s : State) (k : Nat) (w : Word) : (s.wr k w).pending = s.pending := rfl

@[simp] theorem State.put_variant (s : State) (f : Fld) (v : Nat) : (s.put f v).variant = s.variant := rfl
@[simp] theorem State.put_shadow (s : State) (f : Fld) (v : Nat) : (s.put f v).shadow = s.shadow := rfl
@[simp] theorem State.put_resp (s : State) (f : Fld) (v : Nat) : (s.put f v).resp = s.resp := rfl
@[simp] theorem State.put_out (s : State) (f : Fld) (v : Nat) : (s.put f v).out = s.out := rfl
@[simp] theorem State.put_free (s : State) (f : Fld) (v : Nat) : (s.put f v).free = s.free := rfl
@[simp] theorem State.put_log (s : State) (f : Fld) (v : Nat) : (s.put f v).log = s.log := rfl
@[simp] theorem State.put_time (s : State) (f : Fld) (v : Nat) : (s.put f v).time = s.time := rfl
@[simp] theorem State.put_tsqA (s : State) (f : Fld) (v : Nat) : (s.put f v).tsqA = s.tsqA := rfl
@[simp] theorem State.put_tsqB (s : State) (f : Fld) (v : Nat) : (s.put f v).tsqB = s.tsqB := rfl
@[simp] theorem State.put_refs (s : State) (f : Fld) (v : Nat) : (s.put f v).refs = s.refs := rfl
@[simp] theorem State.put_syn (s : State) (f : Fld) (v : Nat) : (s.put f v).syn = s.syn := rfl
@[simp] theorem State.put_netA (s : State) (f : Fld) (v : Nat) : (s.put f v).netA = s.netA := rfl
@[simp] theorem State.put_netB (s : State) (f : Fld) (v : Nat) : (s.put f v).netB = s.netB := rfl
@[simp] theorem State.put_rsw (s : State) (f : Fld) (v : Nat) : (s.put f v).rsw = s.rsw := rfl
@[simp] theorem State.put_host (s : State) (f : Fld) (v : Nat) : (s.put f v).host = s.host := rfl
@[simp] theorem State.put_mem (s : State) (f : Fld) (v : Nat) : (s.put f v).mem = s.mem := rfl
@[simp] theorem State.put_pnl (s : State) (f : Fld) (v : Nat) : (s.put f v).pnl = s.pnl := rfl
@[simp] theorem State.put_fab (s : State) (f : Fld) (v : Nat) : (s.put f v).fab = s.fab := rfl
@[simp] theorem State.put_dsp (s : State) (f : Fld) (v : Nat) : (s.put f v).dsp = s.dsp := rfl
@[simp] theorem State.put_plat (s : State) (f : Fld) (v : Nat) : (s.put f v).plat = s.plat := rfl
@[simp] theorem State.put_strm (s : State) (f : Fld) (v : Nat) : (s.put f v).strm = s.strm := rfl
@[simp] theorem State.put_lap (s : State) (f : Fld) (v : Nat) : (s.put f v).lap = s.lap := rfl
@[simp] theorem State.put_amp (s : State) (f : Fld) (v : Nat) : (s.put f v).amp = s.amp := rfl
@[simp] theorem State.put_line (s : State) (f : Fld) (v : Nat) : (s.put f v).line = s.line := rfl
@[simp] theorem State.put_crown (s : State) (f : Fld) (v : Nat) : (s.put f v).crown = s.crown := rfl
@[simp] theorem State.put_pair (s : State) (f : Fld) (v : Nat) : (s.put f v).pair = s.pair := rfl
@[simp] theorem State.put_cerk (s : State) (f : Fld) (v : Nat) : (s.put f v).cerk = s.cerk := rfl
@[simp] theorem State.put_heldW (s : State) (f : Fld) (v : Nat) : (s.put f v).heldW = s.heldW := rfl
@[simp] theorem State.put_timers (s : State) (f : Fld) (v : Nat) : (s.put f v).timers = s.timers := rfl
@[simp] theorem State.put_flash (s : State) (f : Fld) (v : Nat) : (s.put f v).flash = s.flash := rfl
@[simp] theorem State.put_otp (s : State) (f : Fld) (v : Nat) : (s.put f v).otp = s.otp := rfl
@[simp] theorem State.put_pending (s : State) (f : Fld) (v : Nat) : (s.put f v).pending = s.pending := rfl

@[simp] theorem State.flag_variant (s : State) (f : Fld) (b : Bool) : (s.flag f b).variant = s.variant := rfl
@[simp] theorem State.flag_shadow (s : State) (f : Fld) (b : Bool) : (s.flag f b).shadow = s.shadow := rfl
@[simp] theorem State.flag_resp (s : State) (f : Fld) (b : Bool) : (s.flag f b).resp = s.resp := rfl
@[simp] theorem State.flag_out (s : State) (f : Fld) (b : Bool) : (s.flag f b).out = s.out := rfl
@[simp] theorem State.flag_free (s : State) (f : Fld) (b : Bool) : (s.flag f b).free = s.free := rfl
@[simp] theorem State.flag_log (s : State) (f : Fld) (b : Bool) : (s.flag f b).log = s.log := rfl
@[simp] theorem State.flag_time (s : State) (f : Fld) (b : Bool) : (s.flag f b).time = s.time := rfl
@[simp] theorem State.flag_tsqA (s : State) (f : Fld) (b : Bool) : (s.flag f b).tsqA = s.tsqA := rfl
@[simp] theorem State.flag_tsqB (s : State) (f : Fld) (b : Bool) : (s.flag f b).tsqB = s.tsqB := rfl
@[simp] theorem State.flag_refs (s : State) (f : Fld) (b : Bool) : (s.flag f b).refs = s.refs := rfl
@[simp] theorem State.flag_syn (s : State) (f : Fld) (b : Bool) : (s.flag f b).syn = s.syn := rfl
@[simp] theorem State.flag_netA (s : State) (f : Fld) (b : Bool) : (s.flag f b).netA = s.netA := rfl
@[simp] theorem State.flag_netB (s : State) (f : Fld) (b : Bool) : (s.flag f b).netB = s.netB := rfl
@[simp] theorem State.flag_rsw (s : State) (f : Fld) (b : Bool) : (s.flag f b).rsw = s.rsw := rfl
@[simp] theorem State.flag_host (s : State) (f : Fld) (b : Bool) : (s.flag f b).host = s.host := rfl
@[simp] theorem State.flag_mem (s : State) (f : Fld) (b : Bool) : (s.flag f b).mem = s.mem := rfl
@[simp] theorem State.flag_pnl (s : State) (f : Fld) (b : Bool) : (s.flag f b).pnl = s.pnl := rfl
@[simp] theorem State.flag_fab (s : State) (f : Fld) (b : Bool) : (s.flag f b).fab = s.fab := rfl
@[simp] theorem State.flag_dsp (s : State) (f : Fld) (b : Bool) : (s.flag f b).dsp = s.dsp := rfl
@[simp] theorem State.flag_plat (s : State) (f : Fld) (b : Bool) : (s.flag f b).plat = s.plat := rfl
@[simp] theorem State.flag_strm (s : State) (f : Fld) (b : Bool) : (s.flag f b).strm = s.strm := rfl
@[simp] theorem State.flag_lap (s : State) (f : Fld) (b : Bool) : (s.flag f b).lap = s.lap := rfl
@[simp] theorem State.flag_amp (s : State) (f : Fld) (b : Bool) : (s.flag f b).amp = s.amp := rfl
@[simp] theorem State.flag_line (s : State) (f : Fld) (b : Bool) : (s.flag f b).line = s.line := rfl
@[simp] theorem State.flag_crown (s : State) (f : Fld) (b : Bool) : (s.flag f b).crown = s.crown := rfl
@[simp] theorem State.flag_pair (s : State) (f : Fld) (b : Bool) : (s.flag f b).pair = s.pair := rfl
@[simp] theorem State.flag_cerk (s : State) (f : Fld) (b : Bool) : (s.flag f b).cerk = s.cerk := rfl
@[simp] theorem State.flag_heldW (s : State) (f : Fld) (b : Bool) : (s.flag f b).heldW = s.heldW := rfl
@[simp] theorem State.flag_timers (s : State) (f : Fld) (b : Bool) : (s.flag f b).timers = s.timers := rfl
@[simp] theorem State.flag_flash (s : State) (f : Fld) (b : Bool) : (s.flag f b).flash = s.flash := rfl
@[simp] theorem State.flag_otp (s : State) (f : Fld) (b : Bool) : (s.flag f b).otp = s.otp := rfl
@[simp] theorem State.flag_pending (s : State) (f : Fld) (b : Bool) : (s.flag f b).pending = s.pending := rfl

@[simp] theorem State.putS_variant (s : State) (f : Fld) (z : Int) : (s.putS f z).variant = s.variant := rfl
@[simp] theorem State.putS_shadow (s : State) (f : Fld) (z : Int) : (s.putS f z).shadow = s.shadow := rfl
@[simp] theorem State.putS_resp (s : State) (f : Fld) (z : Int) : (s.putS f z).resp = s.resp := rfl
@[simp] theorem State.putS_out (s : State) (f : Fld) (z : Int) : (s.putS f z).out = s.out := rfl
@[simp] theorem State.putS_free (s : State) (f : Fld) (z : Int) : (s.putS f z).free = s.free := rfl
@[simp] theorem State.putS_log (s : State) (f : Fld) (z : Int) : (s.putS f z).log = s.log := rfl
@[simp] theorem State.putS_time (s : State) (f : Fld) (z : Int) : (s.putS f z).time = s.time := rfl
@[simp] theorem State.putS_tsqA (s : State) (f : Fld) (z : Int) : (s.putS f z).tsqA = s.tsqA := rfl
@[simp] theorem State.putS_tsqB (s : State) (f : Fld) (z : Int) : (s.putS f z).tsqB = s.tsqB := rfl
@[simp] theorem State.putS_refs (s : State) (f : Fld) (z : Int) : (s.putS f z).refs = s.refs := rfl
@[simp] theorem State.putS_syn (s : State) (f : Fld) (z : Int) : (s.putS f z).syn = s.syn := rfl
@[simp] theorem State.putS_netA (s : State) (f : Fld) (z : Int) : (s.putS f z).netA = s.netA := rfl
@[simp] theorem State.putS_netB (s : State) (f : Fld) (z : Int) : (s.putS f z).netB = s.netB := rfl
@[simp] theorem State.putS_rsw (s : State) (f : Fld) (z : Int) : (s.putS f z).rsw = s.rsw := rfl
@[simp] theorem State.putS_host (s : State) (f : Fld) (z : Int) : (s.putS f z).host = s.host := rfl
@[simp] theorem State.putS_mem (s : State) (f : Fld) (z : Int) : (s.putS f z).mem = s.mem := rfl
@[simp] theorem State.putS_pnl (s : State) (f : Fld) (z : Int) : (s.putS f z).pnl = s.pnl := rfl
@[simp] theorem State.putS_fab (s : State) (f : Fld) (z : Int) : (s.putS f z).fab = s.fab := rfl
@[simp] theorem State.putS_dsp (s : State) (f : Fld) (z : Int) : (s.putS f z).dsp = s.dsp := rfl
@[simp] theorem State.putS_plat (s : State) (f : Fld) (z : Int) : (s.putS f z).plat = s.plat := rfl
@[simp] theorem State.putS_strm (s : State) (f : Fld) (z : Int) : (s.putS f z).strm = s.strm := rfl
@[simp] theorem State.putS_lap (s : State) (f : Fld) (z : Int) : (s.putS f z).lap = s.lap := rfl
@[simp] theorem State.putS_amp (s : State) (f : Fld) (z : Int) : (s.putS f z).amp = s.amp := rfl
@[simp] theorem State.putS_line (s : State) (f : Fld) (z : Int) : (s.putS f z).line = s.line := rfl
@[simp] theorem State.putS_crown (s : State) (f : Fld) (z : Int) : (s.putS f z).crown = s.crown := rfl
@[simp] theorem State.putS_pair (s : State) (f : Fld) (z : Int) : (s.putS f z).pair = s.pair := rfl
@[simp] theorem State.putS_cerk (s : State) (f : Fld) (z : Int) : (s.putS f z).cerk = s.cerk := rfl
@[simp] theorem State.putS_heldW (s : State) (f : Fld) (z : Int) : (s.putS f z).heldW = s.heldW := rfl
@[simp] theorem State.putS_timers (s : State) (f : Fld) (z : Int) : (s.putS f z).timers = s.timers := rfl
@[simp] theorem State.putS_flash (s : State) (f : Fld) (z : Int) : (s.putS f z).flash = s.flash := rfl
@[simp] theorem State.putS_otp (s : State) (f : Fld) (z : Int) : (s.putS f z).otp = s.otp := rfl
@[simp] theorem State.putS_pending (s : State) (f : Fld) (z : Int) : (s.putS f z).pending = s.pending := rfl

@[simp] theorem State.wrapInc_variant (s : State) (f : Fld) : (s.wrapInc f).variant = s.variant := rfl
@[simp] theorem State.wrapInc_shadow (s : State) (f : Fld) : (s.wrapInc f).shadow = s.shadow := rfl
@[simp] theorem State.wrapInc_resp (s : State) (f : Fld) : (s.wrapInc f).resp = s.resp := rfl
@[simp] theorem State.wrapInc_out (s : State) (f : Fld) : (s.wrapInc f).out = s.out := rfl
@[simp] theorem State.wrapInc_free (s : State) (f : Fld) : (s.wrapInc f).free = s.free := rfl
@[simp] theorem State.wrapInc_log (s : State) (f : Fld) : (s.wrapInc f).log = s.log := rfl
@[simp] theorem State.wrapInc_time (s : State) (f : Fld) : (s.wrapInc f).time = s.time := rfl
@[simp] theorem State.wrapInc_tsqA (s : State) (f : Fld) : (s.wrapInc f).tsqA = s.tsqA := rfl
@[simp] theorem State.wrapInc_tsqB (s : State) (f : Fld) : (s.wrapInc f).tsqB = s.tsqB := rfl
@[simp] theorem State.wrapInc_refs (s : State) (f : Fld) : (s.wrapInc f).refs = s.refs := rfl
@[simp] theorem State.wrapInc_syn (s : State) (f : Fld) : (s.wrapInc f).syn = s.syn := rfl
@[simp] theorem State.wrapInc_netA (s : State) (f : Fld) : (s.wrapInc f).netA = s.netA := rfl
@[simp] theorem State.wrapInc_netB (s : State) (f : Fld) : (s.wrapInc f).netB = s.netB := rfl
@[simp] theorem State.wrapInc_rsw (s : State) (f : Fld) : (s.wrapInc f).rsw = s.rsw := rfl
@[simp] theorem State.wrapInc_host (s : State) (f : Fld) : (s.wrapInc f).host = s.host := rfl
@[simp] theorem State.wrapInc_mem (s : State) (f : Fld) : (s.wrapInc f).mem = s.mem := rfl
@[simp] theorem State.wrapInc_pnl (s : State) (f : Fld) : (s.wrapInc f).pnl = s.pnl := rfl
@[simp] theorem State.wrapInc_fab (s : State) (f : Fld) : (s.wrapInc f).fab = s.fab := rfl
@[simp] theorem State.wrapInc_dsp (s : State) (f : Fld) : (s.wrapInc f).dsp = s.dsp := rfl
@[simp] theorem State.wrapInc_plat (s : State) (f : Fld) : (s.wrapInc f).plat = s.plat := rfl
@[simp] theorem State.wrapInc_strm (s : State) (f : Fld) : (s.wrapInc f).strm = s.strm := rfl
@[simp] theorem State.wrapInc_lap (s : State) (f : Fld) : (s.wrapInc f).lap = s.lap := rfl
@[simp] theorem State.wrapInc_amp (s : State) (f : Fld) : (s.wrapInc f).amp = s.amp := rfl
@[simp] theorem State.wrapInc_line (s : State) (f : Fld) : (s.wrapInc f).line = s.line := rfl
@[simp] theorem State.wrapInc_crown (s : State) (f : Fld) : (s.wrapInc f).crown = s.crown := rfl
@[simp] theorem State.wrapInc_pair (s : State) (f : Fld) : (s.wrapInc f).pair = s.pair := rfl
@[simp] theorem State.wrapInc_cerk (s : State) (f : Fld) : (s.wrapInc f).cerk = s.cerk := rfl
@[simp] theorem State.wrapInc_heldW (s : State) (f : Fld) : (s.wrapInc f).heldW = s.heldW := rfl
@[simp] theorem State.wrapInc_timers (s : State) (f : Fld) : (s.wrapInc f).timers = s.timers := rfl
@[simp] theorem State.wrapInc_flash (s : State) (f : Fld) : (s.wrapInc f).flash = s.flash := rfl
@[simp] theorem State.wrapInc_otp (s : State) (f : Fld) : (s.wrapInc f).otp = s.otp := rfl
@[simp] theorem State.wrapInc_pending (s : State) (f : Fld) : (s.wrapInc f).pending = s.pending := rfl

@[simp] theorem State.bump_variant (s : State) (f : Fld) (n : Nat) : (s.bump f n).variant = s.variant := by unfold State.bump; split <;> rfl
@[simp] theorem State.bump_shadow (s : State) (f : Fld) (n : Nat) : (s.bump f n).shadow = s.shadow := by unfold State.bump; split <;> rfl
@[simp] theorem State.bump_resp (s : State) (f : Fld) (n : Nat) : (s.bump f n).resp = s.resp := by unfold State.bump; split <;> rfl
@[simp] theorem State.bump_out (s : State) (f : Fld) (n : Nat) : (s.bump f n).out = s.out := by unfold State.bump; split <;> rfl
@[simp] theorem State.bump_free (s : State) (f : Fld) (n : Nat) : (s.bump f n).free = s.free := by unfold State.bump; split <;> rfl
@[simp] theorem State.bump_log (s : State) (f : Fld) (n : Nat) : (s.bump f n).log = s.log := by unfold State.bump; split <;> rfl
@[simp] theorem State.bump_time (s : State) (f : Fld) (n : Nat) : (s.bump f n).time = s.time := by unfold State.bump; split <;> rfl
@[simp] theorem State.bump_tsqA (s : State) (f : Fld) (n : Nat) : (s.bump f n).tsqA = s.tsqA := by unfold State.bump; split <;> rfl
@[simp] theorem State.bump_tsqB (s : State) (f : Fld) (n : Nat) : (s.bump f n).tsqB = s.tsqB := by unfold State.bump; split <;> rfl
@[simp] theorem State.bump_refs (s : State) (f : Fld) (n : Nat) : (s.bump f n).refs = s.refs := by unfold State.bump; split <;> rfl
@[simp] theorem State.bump_syn (s : State) (f : Fld) (n : Nat) : (s.bump f n).syn = s.syn := by unfold State.bump; split <;> rfl
@[simp] theorem State.bump_netA (s : State) (f : Fld) (n : Nat) : (s.bump f n).netA = s.netA := by unfold State.bump; split <;> rfl
@[simp] theorem State.bump_netB (s : State) (f : Fld) (n : Nat) : (s.bump f n).netB = s.netB := by unfold State.bump; split <;> rfl
@[simp] theorem State.bump_rsw (s : State) (f : Fld) (n : Nat) : (s.bump f n).rsw = s.rsw := by unfold State.bump; split <;> rfl
@[simp] theorem State.bump_host (s : State) (f : Fld) (n : Nat) : (s.bump f n).host = s.host := by unfold State.bump; split <;> rfl
@[simp] theorem State.bump_mem (s : State) (f : Fld) (n : Nat) : (s.bump f n).mem = s.mem := by unfold State.bump; split <;> rfl
@[simp] theorem State.bump_pnl (s : State) (f : Fld) (n : Nat) : (s.bump f n).pnl = s.pnl := by unfold State.bump; split <;> rfl
@[simp] theorem State.bump_fab (s : State) (f : Fld) (n : Nat) : (s.bump f n).fab = s.fab := by unfold State.bump; split <;> rfl
@[simp] theorem State.bump_dsp (s : State) (f : Fld) (n : Nat) : (s.bump f n).dsp = s.dsp := by unfold State.bump; split <;> rfl
@[simp] theorem State.bump_plat (s : State) (f : Fld) (n : Nat) : (s.bump f n).plat = s.plat := by unfold State.bump; split <;> rfl
@[simp] theorem State.bump_strm (s : State) (f : Fld) (n : Nat) : (s.bump f n).strm = s.strm := by unfold State.bump; split <;> rfl
@[simp] theorem State.bump_lap (s : State) (f : Fld) (n : Nat) : (s.bump f n).lap = s.lap := by unfold State.bump; split <;> rfl
@[simp] theorem State.bump_amp (s : State) (f : Fld) (n : Nat) : (s.bump f n).amp = s.amp := by unfold State.bump; split <;> rfl
@[simp] theorem State.bump_line (s : State) (f : Fld) (n : Nat) : (s.bump f n).line = s.line := by unfold State.bump; split <;> rfl
@[simp] theorem State.bump_crown (s : State) (f : Fld) (n : Nat) : (s.bump f n).crown = s.crown := by unfold State.bump; split <;> rfl
@[simp] theorem State.bump_pair (s : State) (f : Fld) (n : Nat) : (s.bump f n).pair = s.pair := by unfold State.bump; split <;> rfl
@[simp] theorem State.bump_cerk (s : State) (f : Fld) (n : Nat) : (s.bump f n).cerk = s.cerk := by unfold State.bump; split <;> rfl
@[simp] theorem State.bump_heldW (s : State) (f : Fld) (n : Nat) : (s.bump f n).heldW = s.heldW := by unfold State.bump; split <;> rfl
@[simp] theorem State.bump_timers (s : State) (f : Fld) (n : Nat) : (s.bump f n).timers = s.timers := by unfold State.bump; split <;> rfl
@[simp] theorem State.bump_flash (s : State) (f : Fld) (n : Nat) : (s.bump f n).flash = s.flash := by unfold State.bump; split <;> rfl
@[simp] theorem State.bump_otp (s : State) (f : Fld) (n : Nat) : (s.bump f n).otp = s.otp := by unfold State.bump; split <;> rfl
@[simp] theorem State.bump_pending (s : State) (f : Fld) (n : Nat) : (s.bump f n).pending = s.pending := by unfold State.bump; split <;> rfl

@[simp] theorem State.emit_variant (s : State) (o : Out): (s.emit o).variant = s.variant := rfl
@[simp] theorem State.emit_shadow (s : State) (o : Out): (s.emit o).shadow = s.shadow := rfl
@[simp] theorem State.emit_resp (s : State) (o : Out): (s.emit o).resp = s.resp := rfl
@[simp] theorem State.emit_free (s : State) (o : Out): (s.emit o).free = s.free := rfl
@[simp] theorem State.emit_log (s : State) (o : Out): (s.emit o).log = s.log := rfl
@[simp] theorem State.emit_time (s : State) (o : Out): (s.emit o).time = s.time := rfl
@[simp] theorem State.emit_tsqA (s : State) (o : Out): (s.emit o).tsqA = s.tsqA := rfl
@[simp] theorem State.emit_tsqB (s : State) (o : Out): (s.emit o).tsqB = s.tsqB := rfl
@[simp] theorem State.emit_refs (s : State) (o : Out): (s.emit o).refs = s.refs := rfl
@[simp] theorem State.emit_syn (s : State) (o : Out): (s.emit o).syn = s.syn := rfl
@[simp] theorem State.emit_netA (s : State) (o : Out): (s.emit o).netA = s.netA := rfl
@[simp] theorem State.emit_netB (s : State) (o : Out): (s.emit o).netB = s.netB := rfl
@[simp] theorem State.emit_rsw (s : State) (o : Out): (s.emit o).rsw = s.rsw := rfl
@[simp] theorem State.emit_host (s : State) (o : Out): (s.emit o).host = s.host := rfl
@[simp] theorem State.emit_mem (s : State) (o : Out): (s.emit o).mem = s.mem := rfl
@[simp] theorem State.emit_pnl (s : State) (o : Out): (s.emit o).pnl = s.pnl := rfl
@[simp] theorem State.emit_fab (s : State) (o : Out): (s.emit o).fab = s.fab := rfl
@[simp] theorem State.emit_dsp (s : State) (o : Out): (s.emit o).dsp = s.dsp := rfl
@[simp] theorem State.emit_plat (s : State) (o : Out): (s.emit o).plat = s.plat := rfl
@[simp] theorem State.emit_strm (s : State) (o : Out): (s.emit o).strm = s.strm := rfl
@[simp] theorem State.emit_lap (s : State) (o : Out): (s.emit o).lap = s.lap := rfl
@[simp] theorem State.emit_amp (s : State) (o : Out): (s.emit o).amp = s.amp := rfl
@[simp] theorem State.emit_line (s : State) (o : Out): (s.emit o).line = s.line := rfl
@[simp] theorem State.emit_crown (s : State) (o : Out): (s.emit o).crown = s.crown := rfl
@[simp] theorem State.emit_pair (s : State) (o : Out): (s.emit o).pair = s.pair := rfl
@[simp] theorem State.emit_cerk (s : State) (o : Out): (s.emit o).cerk = s.cerk := rfl
@[simp] theorem State.emit_heldW (s : State) (o : Out): (s.emit o).heldW = s.heldW := rfl
@[simp] theorem State.emit_timers (s : State) (o : Out): (s.emit o).timers = s.timers := rfl
@[simp] theorem State.emit_flash (s : State) (o : Out): (s.emit o).flash = s.flash := rfl
@[simp] theorem State.emit_otp (s : State) (o : Out): (s.emit o).otp = s.otp := rfl
@[simp] theorem State.emit_pending (s : State) (o : Out): (s.emit o).pending = s.pending := rfl
@[simp] theorem State.emit_regs (s : State) (o : Out): (s.emit o).regs = s.regs := rfl

@[simp] theorem State.draw_variant (s : State) : s.draw.variant = s.variant := rfl
@[simp] theorem State.draw_shadow (s : State) : s.draw.shadow = s.shadow := rfl
@[simp] theorem State.draw_resp (s : State) : s.draw.resp = s.resp := rfl
@[simp] theorem State.draw_out (s : State) : s.draw.out = s.out := rfl
@[simp] theorem State.draw_log (s : State) : s.draw.log = s.log := rfl
@[simp] theorem State.draw_time (s : State) : s.draw.time = s.time := rfl
@[simp] theorem State.draw_tsqA (s : State) : s.draw.tsqA = s.tsqA := rfl
@[simp] theorem State.draw_tsqB (s : State) : s.draw.tsqB = s.tsqB := rfl
@[simp] theorem State.draw_refs (s : State) : s.draw.refs = s.refs := rfl
@[simp] theorem State.draw_syn (s : State) : s.draw.syn = s.syn := rfl
@[simp] theorem State.draw_netA (s : State) : s.draw.netA = s.netA := rfl
@[simp] theorem State.draw_netB (s : State) : s.draw.netB = s.netB := rfl
@[simp] theorem State.draw_rsw (s : State) : s.draw.rsw = s.rsw := rfl
@[simp] theorem State.draw_host (s : State) : s.draw.host = s.host := rfl
@[simp] theorem State.draw_mem (s : State) : s.draw.mem = s.mem := rfl
@[simp] theorem State.draw_pnl (s : State) : s.draw.pnl = s.pnl := rfl
@[simp] theorem State.draw_fab (s : State) : s.draw.fab = s.fab := rfl
@[simp] theorem State.draw_dsp (s : State) : s.draw.dsp = s.dsp := rfl
@[simp] theorem State.draw_plat (s : State) : s.draw.plat = s.plat := rfl
@[simp] theorem State.draw_strm (s : State) : s.draw.strm = s.strm := rfl
@[simp] theorem State.draw_lap (s : State) : s.draw.lap = s.lap := rfl
@[simp] theorem State.draw_amp (s : State) : s.draw.amp = s.amp := rfl
@[simp] theorem State.draw_line (s : State) : s.draw.line = s.line := rfl
@[simp] theorem State.draw_crown (s : State) : s.draw.crown = s.crown := rfl
@[simp] theorem State.draw_pair (s : State) : s.draw.pair = s.pair := rfl
@[simp] theorem State.draw_cerk (s : State) : s.draw.cerk = s.cerk := rfl
@[simp] theorem State.draw_heldW (s : State) : s.draw.heldW = s.heldW := rfl
@[simp] theorem State.draw_timers (s : State) : s.draw.timers = s.timers := rfl
@[simp] theorem State.draw_flash (s : State) : s.draw.flash = s.flash := rfl
@[simp] theorem State.draw_otp (s : State) : s.draw.otp = s.otp := rfl
@[simp] theorem State.draw_pending (s : State) : s.draw.pending = s.pending := rfl
@[simp] theorem State.draw_regs (s : State) : s.draw.regs = s.regs := rfl

@[simp] theorem State.shadowWrite_variant (s : State) (k : Nat) (w : Word): (s.shadowWrite k w).variant = s.variant := rfl
@[simp] theorem State.shadowWrite_resp (s : State) (k : Nat) (w : Word): (s.shadowWrite k w).resp = s.resp := rfl
@[simp] theorem State.shadowWrite_out (s : State) (k : Nat) (w : Word): (s.shadowWrite k w).out = s.out := rfl
@[simp] theorem State.shadowWrite_free (s : State) (k : Nat) (w : Word): (s.shadowWrite k w).free = s.free := rfl
@[simp] theorem State.shadowWrite_log (s : State) (k : Nat) (w : Word): (s.shadowWrite k w).log = s.log := rfl
@[simp] theorem State.shadowWrite_time (s : State) (k : Nat) (w : Word): (s.shadowWrite k w).time = s.time := rfl
@[simp] theorem State.shadowWrite_tsqA (s : State) (k : Nat) (w : Word): (s.shadowWrite k w).tsqA = s.tsqA := rfl
@[simp] theorem State.shadowWrite_tsqB (s : State) (k : Nat) (w : Word): (s.shadowWrite k w).tsqB = s.tsqB := rfl
@[simp] theorem State.shadowWrite_refs (s : State) (k : Nat) (w : Word): (s.shadowWrite k w).refs = s.refs := rfl
@[simp] theorem State.shadowWrite_syn (s : State) (k : Nat) (w : Word): (s.shadowWrite k w).syn = s.syn := rfl
@[simp] theorem State.shadowWrite_netA (s : State) (k : Nat) (w : Word): (s.shadowWrite k w).netA = s.netA := rfl
@[simp] theorem State.shadowWrite_netB (s : State) (k : Nat) (w : Word): (s.shadowWrite k w).netB = s.netB := rfl
@[simp] theorem State.shadowWrite_rsw (s : State) (k : Nat) (w : Word): (s.shadowWrite k w).rsw = s.rsw := rfl
@[simp] theorem State.shadowWrite_host (s : State) (k : Nat) (w : Word): (s.shadowWrite k w).host = s.host := rfl
@[simp] theorem State.shadowWrite_mem (s : State) (k : Nat) (w : Word): (s.shadowWrite k w).mem = s.mem := rfl
@[simp] theorem State.shadowWrite_pnl (s : State) (k : Nat) (w : Word): (s.shadowWrite k w).pnl = s.pnl := rfl
@[simp] theorem State.shadowWrite_fab (s : State) (k : Nat) (w : Word): (s.shadowWrite k w).fab = s.fab := rfl
@[simp] theorem State.shadowWrite_dsp (s : State) (k : Nat) (w : Word): (s.shadowWrite k w).dsp = s.dsp := rfl
@[simp] theorem State.shadowWrite_plat (s : State) (k : Nat) (w : Word): (s.shadowWrite k w).plat = s.plat := rfl
@[simp] theorem State.shadowWrite_strm (s : State) (k : Nat) (w : Word): (s.shadowWrite k w).strm = s.strm := rfl
@[simp] theorem State.shadowWrite_lap (s : State) (k : Nat) (w : Word): (s.shadowWrite k w).lap = s.lap := rfl
@[simp] theorem State.shadowWrite_amp (s : State) (k : Nat) (w : Word): (s.shadowWrite k w).amp = s.amp := rfl
@[simp] theorem State.shadowWrite_line (s : State) (k : Nat) (w : Word): (s.shadowWrite k w).line = s.line := rfl
@[simp] theorem State.shadowWrite_crown (s : State) (k : Nat) (w : Word): (s.shadowWrite k w).crown = s.crown := rfl
@[simp] theorem State.shadowWrite_pair (s : State) (k : Nat) (w : Word): (s.shadowWrite k w).pair = s.pair := rfl
@[simp] theorem State.shadowWrite_cerk (s : State) (k : Nat) (w : Word): (s.shadowWrite k w).cerk = s.cerk := rfl
@[simp] theorem State.shadowWrite_heldW (s : State) (k : Nat) (w : Word): (s.shadowWrite k w).heldW = s.heldW := rfl
@[simp] theorem State.shadowWrite_timers (s : State) (k : Nat) (w : Word): (s.shadowWrite k w).timers = s.timers := rfl
@[simp] theorem State.shadowWrite_flash (s : State) (k : Nat) (w : Word): (s.shadowWrite k w).flash = s.flash := rfl
@[simp] theorem State.shadowWrite_otp (s : State) (k : Nat) (w : Word): (s.shadowWrite k w).otp = s.otp := rfl
@[simp] theorem State.shadowWrite_pending (s : State) (k : Nat) (w : Word): (s.shadowWrite k w).pending = s.pending := rfl
@[simp] theorem State.shadowWrite_regs (s : State) (k : Nat) (w : Word): (s.shadowWrite k w).regs = s.regs := rfl

@[simp] theorem State.setPort_variant (s : State) (p : Port) (x : PortSt) : (s.setPort p x).variant = s.variant := by cases p <;> rfl
@[simp] theorem State.setPort_shadow (s : State) (p : Port) (x : PortSt) : (s.setPort p x).shadow = s.shadow := by cases p <;> rfl
@[simp] theorem State.setPort_resp (s : State) (p : Port) (x : PortSt) : (s.setPort p x).resp = s.resp := by cases p <;> rfl
@[simp] theorem State.setPort_out (s : State) (p : Port) (x : PortSt) : (s.setPort p x).out = s.out := by cases p <;> rfl
@[simp] theorem State.setPort_free (s : State) (p : Port) (x : PortSt) : (s.setPort p x).free = s.free := by cases p <;> rfl
@[simp] theorem State.setPort_log (s : State) (p : Port) (x : PortSt) : (s.setPort p x).log = s.log := by cases p <;> rfl
@[simp] theorem State.setPort_time (s : State) (p : Port) (x : PortSt) : (s.setPort p x).time = s.time := by cases p <;> rfl
@[simp] theorem State.setPort_tsqA (s : State) (p : Port) (x : PortSt) : (s.setPort p x).tsqA = s.tsqA := by cases p <;> rfl
@[simp] theorem State.setPort_tsqB (s : State) (p : Port) (x : PortSt) : (s.setPort p x).tsqB = s.tsqB := by cases p <;> rfl
@[simp] theorem State.setPort_refs (s : State) (p : Port) (x : PortSt) : (s.setPort p x).refs = s.refs := by cases p <;> rfl
@[simp] theorem State.setPort_syn (s : State) (p : Port) (x : PortSt) : (s.setPort p x).syn = s.syn := by cases p <;> rfl
@[simp] theorem State.setPort_netA (s : State) (p : Port) (x : PortSt) : (s.setPort p x).netA = s.netA := by cases p <;> rfl
@[simp] theorem State.setPort_netB (s : State) (p : Port) (x : PortSt) : (s.setPort p x).netB = s.netB := by cases p <;> rfl
@[simp] theorem State.setPort_rsw (s : State) (p : Port) (x : PortSt) : (s.setPort p x).rsw = s.rsw := by cases p <;> rfl
@[simp] theorem State.setPort_mem (s : State) (p : Port) (x : PortSt) : (s.setPort p x).mem = s.mem := by cases p <;> rfl
@[simp] theorem State.setPort_pnl (s : State) (p : Port) (x : PortSt) : (s.setPort p x).pnl = s.pnl := by cases p <;> rfl
@[simp] theorem State.setPort_fab (s : State) (p : Port) (x : PortSt) : (s.setPort p x).fab = s.fab := by cases p <;> rfl
@[simp] theorem State.setPort_dsp (s : State) (p : Port) (x : PortSt) : (s.setPort p x).dsp = s.dsp := by cases p <;> rfl
@[simp] theorem State.setPort_plat (s : State) (p : Port) (x : PortSt) : (s.setPort p x).plat = s.plat := by cases p <;> rfl
@[simp] theorem State.setPort_strm (s : State) (p : Port) (x : PortSt) : (s.setPort p x).strm = s.strm := by cases p <;> rfl
@[simp] theorem State.setPort_lap (s : State) (p : Port) (x : PortSt) : (s.setPort p x).lap = s.lap := by cases p <;> rfl
@[simp] theorem State.setPort_amp (s : State) (p : Port) (x : PortSt) : (s.setPort p x).amp = s.amp := by cases p <;> rfl
@[simp] theorem State.setPort_line (s : State) (p : Port) (x : PortSt) : (s.setPort p x).line = s.line := by cases p <;> rfl
@[simp] theorem State.setPort_crown (s : State) (p : Port) (x : PortSt) : (s.setPort p x).crown = s.crown := by cases p <;> rfl
@[simp] theorem State.setPort_pair (s : State) (p : Port) (x : PortSt) : (s.setPort p x).pair = s.pair := by cases p <;> rfl
@[simp] theorem State.setPort_cerk (s : State) (p : Port) (x : PortSt) : (s.setPort p x).cerk = s.cerk := by cases p <;> rfl
@[simp] theorem State.setPort_heldW (s : State) (p : Port) (x : PortSt) : (s.setPort p x).heldW = s.heldW := by cases p <;> rfl
@[simp] theorem State.setPort_timers (s : State) (p : Port) (x : PortSt) : (s.setPort p x).timers = s.timers := by cases p <;> rfl
@[simp] theorem State.setPort_flash (s : State) (p : Port) (x : PortSt) : (s.setPort p x).flash = s.flash := by cases p <;> rfl
@[simp] theorem State.setPort_otp (s : State) (p : Port) (x : PortSt) : (s.setPort p x).otp = s.otp := by cases p <;> rfl
@[simp] theorem State.setPort_pending (s : State) (p : Port) (x : PortSt) : (s.setPort p x).pending = s.pending := by cases p <;> rfl
@[simp] theorem State.setPort_regs (s : State) (p : Port) (x : PortSt) : (s.setPort p x).regs = s.regs := by cases p <;> rfl

@[simp] theorem State.setRing_variant (s : State) (p : Port) (n : Nat) (r : Ring) : (s.setRing p n r).variant = s.variant := rfl
@[simp] theorem State.setRing_shadow (s : State) (p : Port) (n : Nat) (r : Ring) : (s.setRing p n r).shadow = s.shadow := rfl
@[simp] theorem State.setRing_resp (s : State) (p : Port) (n : Nat) (r : Ring) : (s.setRing p n r).resp = s.resp := rfl
@[simp] theorem State.setRing_out (s : State) (p : Port) (n : Nat) (r : Ring) : (s.setRing p n r).out = s.out := rfl
@[simp] theorem State.setRing_free (s : State) (p : Port) (n : Nat) (r : Ring) : (s.setRing p n r).free = s.free := rfl
@[simp] theorem State.setRing_log (s : State) (p : Port) (n : Nat) (r : Ring) : (s.setRing p n r).log = s.log := rfl
@[simp] theorem State.setRing_time (s : State) (p : Port) (n : Nat) (r : Ring) : (s.setRing p n r).time = s.time := rfl
@[simp] theorem State.setRing_tsqA (s : State) (p : Port) (n : Nat) (r : Ring) : (s.setRing p n r).tsqA = s.tsqA := rfl
@[simp] theorem State.setRing_tsqB (s : State) (p : Port) (n : Nat) (r : Ring) : (s.setRing p n r).tsqB = s.tsqB := rfl
@[simp] theorem State.setRing_refs (s : State) (p : Port) (n : Nat) (r : Ring) : (s.setRing p n r).refs = s.refs := rfl
@[simp] theorem State.setRing_syn (s : State) (p : Port) (n : Nat) (r : Ring) : (s.setRing p n r).syn = s.syn := rfl
@[simp] theorem State.setRing_netA (s : State) (p : Port) (n : Nat) (r : Ring) : (s.setRing p n r).netA = s.netA := rfl
@[simp] theorem State.setRing_netB (s : State) (p : Port) (n : Nat) (r : Ring) : (s.setRing p n r).netB = s.netB := rfl
@[simp] theorem State.setRing_rsw (s : State) (p : Port) (n : Nat) (r : Ring) : (s.setRing p n r).rsw = s.rsw := rfl
@[simp] theorem State.setRing_mem (s : State) (p : Port) (n : Nat) (r : Ring) : (s.setRing p n r).mem = s.mem := rfl
@[simp] theorem State.setRing_pnl (s : State) (p : Port) (n : Nat) (r : Ring) : (s.setRing p n r).pnl = s.pnl := rfl
@[simp] theorem State.setRing_fab (s : State) (p : Port) (n : Nat) (r : Ring) : (s.setRing p n r).fab = s.fab := rfl
@[simp] theorem State.setRing_dsp (s : State) (p : Port) (n : Nat) (r : Ring) : (s.setRing p n r).dsp = s.dsp := rfl
@[simp] theorem State.setRing_plat (s : State) (p : Port) (n : Nat) (r : Ring) : (s.setRing p n r).plat = s.plat := rfl
@[simp] theorem State.setRing_strm (s : State) (p : Port) (n : Nat) (r : Ring) : (s.setRing p n r).strm = s.strm := rfl
@[simp] theorem State.setRing_lap (s : State) (p : Port) (n : Nat) (r : Ring) : (s.setRing p n r).lap = s.lap := rfl
@[simp] theorem State.setRing_amp (s : State) (p : Port) (n : Nat) (r : Ring) : (s.setRing p n r).amp = s.amp := rfl
@[simp] theorem State.setRing_line (s : State) (p : Port) (n : Nat) (r : Ring) : (s.setRing p n r).line = s.line := rfl
@[simp] theorem State.setRing_crown (s : State) (p : Port) (n : Nat) (r : Ring) : (s.setRing p n r).crown = s.crown := rfl
@[simp] theorem State.setRing_pair (s : State) (p : Port) (n : Nat) (r : Ring) : (s.setRing p n r).pair = s.pair := rfl
@[simp] theorem State.setRing_cerk (s : State) (p : Port) (n : Nat) (r : Ring) : (s.setRing p n r).cerk = s.cerk := rfl
@[simp] theorem State.setRing_heldW (s : State) (p : Port) (n : Nat) (r : Ring) : (s.setRing p n r).heldW = s.heldW := rfl
@[simp] theorem State.setRing_timers (s : State) (p : Port) (n : Nat) (r : Ring) : (s.setRing p n r).timers = s.timers := rfl
@[simp] theorem State.setRing_flash (s : State) (p : Port) (n : Nat) (r : Ring) : (s.setRing p n r).flash = s.flash := rfl
@[simp] theorem State.setRing_otp (s : State) (p : Port) (n : Nat) (r : Ring) : (s.setRing p n r).otp = s.otp := rfl
@[simp] theorem State.setRing_pending (s : State) (p : Port) (n : Nat) (r : Ring) : (s.setRing p n r).pending = s.pending := rfl
@[simp] theorem State.setRing_regs (s : State) (p : Port) (n : Nat) (r : Ring) : (s.setRing p n r).regs = s.regs := rfl

@[simp] theorem State.startAt_regs (s : State) (t : Timer) (n : Nat) : (s.startAt t n).regs = s.regs := rfl
@[simp] theorem State.startAt_variant (s : State) (t : Timer) (n : Nat) : (s.startAt t n).variant = s.variant := rfl
@[simp] theorem State.startAt_shadow (s : State) (t : Timer) (n : Nat) : (s.startAt t n).shadow = s.shadow := rfl
@[simp] theorem State.startAt_resp (s : State) (t : Timer) (n : Nat) : (s.startAt t n).resp = s.resp := rfl
@[simp] theorem State.startAt_out (s : State) (t : Timer) (n : Nat) : (s.startAt t n).out = s.out := rfl
@[simp] theorem State.startAt_free (s : State) (t : Timer) (n : Nat) : (s.startAt t n).free = s.free := rfl
@[simp] theorem State.startAt_log (s : State) (t : Timer) (n : Nat) : (s.startAt t n).log = s.log := rfl
@[simp] theorem State.startAt_time (s : State) (t : Timer) (n : Nat) : (s.startAt t n).time = s.time := rfl
@[simp] theorem State.startAt_tsqA (s : State) (t : Timer) (n : Nat) : (s.startAt t n).tsqA = s.tsqA := rfl
@[simp] theorem State.startAt_tsqB (s : State) (t : Timer) (n : Nat) : (s.startAt t n).tsqB = s.tsqB := rfl
@[simp] theorem State.startAt_refs (s : State) (t : Timer) (n : Nat) : (s.startAt t n).refs = s.refs := rfl
@[simp] theorem State.startAt_syn (s : State) (t : Timer) (n : Nat) : (s.startAt t n).syn = s.syn := rfl
@[simp] theorem State.startAt_netA (s : State) (t : Timer) (n : Nat) : (s.startAt t n).netA = s.netA := rfl
@[simp] theorem State.startAt_netB (s : State) (t : Timer) (n : Nat) : (s.startAt t n).netB = s.netB := rfl
@[simp] theorem State.startAt_rsw (s : State) (t : Timer) (n : Nat) : (s.startAt t n).rsw = s.rsw := rfl
@[simp] theorem State.startAt_host (s : State) (t : Timer) (n : Nat) : (s.startAt t n).host = s.host := rfl
@[simp] theorem State.startAt_mem (s : State) (t : Timer) (n : Nat) : (s.startAt t n).mem = s.mem := rfl
@[simp] theorem State.startAt_pnl (s : State) (t : Timer) (n : Nat) : (s.startAt t n).pnl = s.pnl := rfl
@[simp] theorem State.startAt_fab (s : State) (t : Timer) (n : Nat) : (s.startAt t n).fab = s.fab := rfl
@[simp] theorem State.startAt_dsp (s : State) (t : Timer) (n : Nat) : (s.startAt t n).dsp = s.dsp := rfl
@[simp] theorem State.startAt_plat (s : State) (t : Timer) (n : Nat) : (s.startAt t n).plat = s.plat := rfl
@[simp] theorem State.startAt_strm (s : State) (t : Timer) (n : Nat) : (s.startAt t n).strm = s.strm := rfl
@[simp] theorem State.startAt_lap (s : State) (t : Timer) (n : Nat) : (s.startAt t n).lap = s.lap := rfl
@[simp] theorem State.startAt_amp (s : State) (t : Timer) (n : Nat) : (s.startAt t n).amp = s.amp := rfl
@[simp] theorem State.startAt_line (s : State) (t : Timer) (n : Nat) : (s.startAt t n).line = s.line := rfl
@[simp] theorem State.startAt_crown (s : State) (t : Timer) (n : Nat) : (s.startAt t n).crown = s.crown := rfl
@[simp] theorem State.startAt_pair (s : State) (t : Timer) (n : Nat) : (s.startAt t n).pair = s.pair := rfl
@[simp] theorem State.startAt_cerk (s : State) (t : Timer) (n : Nat) : (s.startAt t n).cerk = s.cerk := rfl
@[simp] theorem State.startAt_heldW (s : State) (t : Timer) (n : Nat) : (s.startAt t n).heldW = s.heldW := rfl
@[simp] theorem State.startAt_flash (s : State) (t : Timer) (n : Nat) : (s.startAt t n).flash = s.flash := rfl
@[simp] theorem State.startAt_otp (s : State) (t : Timer) (n : Nat) : (s.startAt t n).otp = s.otp := rfl
@[simp] theorem State.startAt_pending (s : State) (t : Timer) (n : Nat) : (s.startAt t n).pending = s.pending := rfl

@[simp] theorem State.start_regs (s : State) (t : Timer) : (s.start t).regs = s.regs := rfl
@[simp] theorem State.start_variant (s : State) (t : Timer) : (s.start t).variant = s.variant := rfl
@[simp] theorem State.start_shadow (s : State) (t : Timer) : (s.start t).shadow = s.shadow := rfl
@[simp] theorem State.start_resp (s : State) (t : Timer) : (s.start t).resp = s.resp := rfl
@[simp] theorem State.start_out (s : State) (t : Timer) : (s.start t).out = s.out := rfl
@[simp] theorem State.start_free (s : State) (t : Timer) : (s.start t).free = s.free := rfl
@[simp] theorem State.start_log (s : State) (t : Timer) : (s.start t).log = s.log := rfl
@[simp] theorem State.start_time (s : State) (t : Timer) : (s.start t).time = s.time := rfl
@[simp] theorem State.start_tsqA (s : State) (t : Timer) : (s.start t).tsqA = s.tsqA := rfl
@[simp] theorem State.start_tsqB (s : State) (t : Timer) : (s.start t).tsqB = s.tsqB := rfl
@[simp] theorem State.start_refs (s : State) (t : Timer) : (s.start t).refs = s.refs := rfl
@[simp] theorem State.start_syn (s : State) (t : Timer) : (s.start t).syn = s.syn := rfl
@[simp] theorem State.start_netA (s : State) (t : Timer) : (s.start t).netA = s.netA := rfl
@[simp] theorem State.start_netB (s : State) (t : Timer) : (s.start t).netB = s.netB := rfl
@[simp] theorem State.start_rsw (s : State) (t : Timer) : (s.start t).rsw = s.rsw := rfl
@[simp] theorem State.start_host (s : State) (t : Timer) : (s.start t).host = s.host := rfl
@[simp] theorem State.start_mem (s : State) (t : Timer) : (s.start t).mem = s.mem := rfl
@[simp] theorem State.start_pnl (s : State) (t : Timer) : (s.start t).pnl = s.pnl := rfl
@[simp] theorem State.start_fab (s : State) (t : Timer) : (s.start t).fab = s.fab := rfl
@[simp] theorem State.start_dsp (s : State) (t : Timer) : (s.start t).dsp = s.dsp := rfl
@[simp] theorem State.start_plat (s : State) (t : Timer) : (s.start t).plat = s.plat := rfl
@[simp] theorem State.start_strm (s : State) (t : Timer) : (s.start t).strm = s.strm := rfl
@[simp] theorem State.start_lap (s : State) (t : Timer) : (s.start t).lap = s.lap := rfl
@[simp] theorem State.start_amp (s : State) (t : Timer) : (s.start t).amp = s.amp := rfl
@[simp] theorem State.start_line (s : State) (t : Timer) : (s.start t).line = s.line := rfl
@[simp] theorem State.start_crown (s : State) (t : Timer) : (s.start t).crown = s.crown := rfl
@[simp] theorem State.start_pair (s : State) (t : Timer) : (s.start t).pair = s.pair := rfl
@[simp] theorem State.start_cerk (s : State) (t : Timer) : (s.start t).cerk = s.cerk := rfl
@[simp] theorem State.start_heldW (s : State) (t : Timer) : (s.start t).heldW = s.heldW := rfl
@[simp] theorem State.start_flash (s : State) (t : Timer) : (s.start t).flash = s.flash := rfl
@[simp] theorem State.start_otp (s : State) (t : Timer) : (s.start t).otp = s.otp := rfl
@[simp] theorem State.start_pending (s : State) (t : Timer) : (s.start t).pending = s.pending := rfl

/-! ### Timers -/

@[simp] theorem State.start_get (s : State) (t : Timer) (f : Fld) : (s.start t).get f = s.get f := rfl
@[simp] theorem State.start_on (s : State) (t : Timer) (f : Fld) : (s.start t).on f = s.on f := rfl
@[simp] theorem State.start_rd (s : State) (t : Timer) (k : Nat) : (s.start t).rd k = s.rd k := rfl

/-- A timer that has been set counts from that instant. -/
@[simp] theorem State.startAt_since (s : State) (t : Timer) (n : Nat) : (s.startAt t n).since t = n := by
  simp [State.since, State.startAt]

/-- Setting a timer leaves every other one. -/
theorem State.startAt_since_ne (s : State) (t u : Timer) (n : Nat) (h : u ≠ t) : (s.startAt t n).since u = s.since u := by
  have hl : ∀ l : List (Timer × Nat), (l.filter fun x => !decide (x.1 = t)).lookup u = l.lookup u := by
    intro l
    induction l with
    | nil => rfl
    | cons a l ih =>
      obtain ⟨v, m⟩ := a
      by_cases hv : v = t
      · subst hv
        simpa [List.lookup_cons, beq_false_of_ne h] using ih
      · by_cases hu : u = v
        · subst hu; simp [hv]
        · simpa [hv, List.lookup_cons, beq_false_of_ne hu] using ih
  simp [State.since, State.startAt, List.lookup_cons, beq_false_of_ne h, hl]

/-- A timer started now has run for no time yet. -/
@[simp] theorem State.start_since (s : State) (t : Timer) : (s.start t).since t = s.time.now := s.startAt_since t s.time.now

end Sys2Proof.Machine
end

