-- ==== Sys2Proof/Laws/Store.lean ====
section
/-! SUPPORT. A write of sparse data keeps its canonical form. -/

namespace Sys2Proof.Machine

/-- Every key of a list lies above a bound. -/
def Store.above {α : Type} (m : List (Nat × α)) (k : Nat) : Prop := ∀ c ∈ m, k < c.1

theorem Store.wf_cons {α : Type} [DecidableEq α] (d : Nat → α) (a : Nat) (v : α) (m : List (Nat × α)) :
    Store.wf d ((a, v) :: m) = true ↔ v ≠ d a ∧ Store.above m a ∧ Store.wf d m = true := by
  induction m generalizing a v with
  | nil => simp [Store.wf, Store.above]
  | cons c m ih =>
    obtain ⟨b, w⟩ := c
    have hb := ih b w
    simp only [Store.wf, Bool.and_eq_true, decide_eq_true_eq, hb, Store.above, List.mem_cons, forall_eq_or_imp]
    constructor
    · rintro ⟨⟨h1, h2⟩, h3, h4, h5⟩
      exact ⟨h1, ⟨h2, fun c hc => Nat.lt_trans h2 (h4 c hc)⟩, h3, h4, h5⟩
    · rintro ⟨h1, ⟨h2, _⟩, h3, h4, h5⟩
      exact ⟨⟨h1, h2⟩, h3, h4, h5⟩

theorem Store.erase_sub {α : Type} (k : Nat) (m : List (Nat × α)) (c : Nat × α) (h : c ∈ Store.erase k m) : c ∈ m := by
  induction m with
  | nil => simp [Store.erase] at h
  | cons e m ih =>
    obtain ⟨a, v⟩ := e
    rw [Store.erase] at h
    split at h
    · exact List.mem_cons_of_mem _ (ih h)
    · rcases List.mem_cons.1 h with h | h
      · exact h ▸ List.mem_cons_self
      · exact List.mem_cons_of_mem _ (ih h)

theorem Store.wf_erase {α : Type} [DecidableEq α] (d : Nat → α) (k : Nat) (m : List (Nat × α)) (h : Store.wf d m = true) :
    Store.wf d (Store.erase k m) = true := by
  induction m with
  | nil => rfl
  | cons e m ih =>
    obtain ⟨a, v⟩ := e
    obtain ⟨h1, h2, h3⟩ := (Store.wf_cons d a v m).1 h
    rw [Store.erase]
    split
    · exact ih h3
    · exact (Store.wf_cons d a v _).2 ⟨h1, fun c hc => h2 c (Store.erase_sub k m c hc), ih h3⟩

theorem Store.insert_mem {α : Type} (k : Nat) (v : α) (m : List (Nat × α)) (c : Nat × α) (h : c ∈ Store.insert k v m) :
    c = (k, v) ∨ c ∈ m := by
  induction m with
  | nil => simp [Store.insert] at h; exact .inl h
  | cons e m ih =>
    obtain ⟨a, w⟩ := e
    rw [Store.insert] at h
    split at h
    · rcases List.mem_cons.1 h with h | h
      · exact .inl h
      · exact .inr h
    · rcases List.mem_cons.1 h with h | h
      · exact .inr (h ▸ List.mem_cons_self)
      · exact (ih h).imp_right (List.mem_cons_of_mem _)

theorem Store.wf_insert {α : Type} [DecidableEq α] (d : Nat → α) (k : Nat) (v : α) (m : List (Nat × α)) (hv : v ≠ d k)
    (hk : ∀ c ∈ m, c.1 ≠ k) (h : Store.wf d m = true) : Store.wf d (Store.insert k v m) = true := by
  induction m with
  | nil => simpa [Store.insert, Store.wf] using hv
  | cons e m ih =>
    obtain ⟨a, w⟩ := e
    obtain ⟨h1, h2, h3⟩ := (Store.wf_cons d a w m).1 h
    have ha : a ≠ k := hk (a, w) List.mem_cons_self
    rw [Store.insert]
    split
    · rename_i hlt
      refine (Store.wf_cons d k v _).2 ⟨hv, ?_, h⟩
      intro c hc
      rcases List.mem_cons.1 hc with hc | hc
      · rw [hc]; exact hlt
      · exact Nat.lt_trans hlt (h2 c hc)
    · rename_i hge
      refine (Store.wf_cons d a w _).2 ⟨h1, ?_, ih (fun c hc => hk c (List.mem_cons_of_mem _ hc)) h3⟩
      intro c hc
      rcases Store.insert_mem k v m c hc with hc | hc
      · rw [hc]; exact Nat.lt_of_le_of_ne (Nat.le_of_not_lt hge) ha
      · exact h2 c hc

/-- A write keeps the canonical form. -/
theorem Store.wf_set {α : Type} [DecidableEq α] (d : Nat → α) (m : List (Nat × α)) (k : Nat) (v : α)
    (h : Store.wf d m = true) : Store.wf d (Store.set d m k v) = true := by
  rw [Store.set]
  split
  · exact Store.wf_erase d k m h
  · rename_i hv
    exact Store.wf_insert d k v _ hv (fun c hc e => Store.erase_free m k c hc e) (Store.wf_erase d k m h)

theorem Store.set_mem {α : Type} [DecidableEq α] (d : Nat → α) (m : List (Nat × α)) (k : Nat) (v : α) (c : Nat × α)
    (h : c ∈ Store.set d m k v) : c = (k, v) ∨ c ∈ m := by
  rw [Store.set] at h
  split at h
  · exact .inr (Store.erase_sub k m c h)
  · exact (Store.insert_mem k v _ c h).imp_right (Store.erase_sub k m c)

end Sys2Proof.Machine
end

