-- ==== Sys2Proof/Laws/Mem.lean ====
section
/-! SUPPORT. The exchange RAM: what is read after a write, and that every operation over it keeps its canonical form. -/

namespace Sys2Proof.Machine

/-- An octet read after an octet is written. -/
theorem State.exchByte_set (s : State) (a b : Nat) (v : Byte) :
    (s.setExchByte a v).exchByte b = if a = b then v else s.exchByte b := Store.get_set _ _ _ _ _

@[simp] theorem State.setExchByte_regs (s : State) (a : Nat) (v : Byte) : (s.setExchByte a v).regs = s.regs := rfl
@[simp] theorem State.setExchByte_free (s : State) (a : Nat) (v : Byte) : (s.setExchByte a v).free = s.free := rfl
@[simp] theorem State.setExchByte_log (s : State) (a : Nat) (v : Byte) : (s.setExchByte a v).log = s.log := rfl

/-- The empty exchange RAM is in canonical form. -/
theorem Memory.wf_empty : Memory.wf [] = true := rfl

/-- The canonical form in two parts. -/
theorem Memory.wf_iff (m : List Host.Cell) :
    Memory.wf m = true ↔ Store.wf exchEmpty m = true ∧ ∀ c ∈ m, c.1 < 65536 := by
  simp [Memory.wf]

/-- A write of an octet below 64 KiB keeps the canonical form. -/
theorem State.wf_setExchByte (s : State) (a : Nat) (v : Byte) (ha : a < 65536) (h : Memory.wf s.mem.exch = true) :
    Memory.wf (s.setExchByte a v).mem.exch = true := by
  obtain ⟨h1, h2⟩ := (Memory.wf_iff _).1 h
  refine (Memory.wf_iff _).2 ⟨Store.wf_set _ _ _ _ h1, fun c hc => ?_⟩
  rcases Store.set_mem _ _ _ _ _ hc with hc | hc
  · rw [hc]; exact ha
  · exact h2 c hc

/-- The octets of a word lie below 64 KiB. -/
theorem exchAddr_lt (addr : BitVec 16) (i : Nat) (hi : i < 4) : exchAddr addr i < 65536 := by
  have := addr.isLt
  rw [exchAddr]
  omega

/-- A read-modify-write of a word keeps the canonical form. -/
theorem State.wf_exchUpdate (s : State) (addr : BitVec 16) (be : BitVec 4) (ecc : EccState) (f : Nat → Byte → Byte)
    (h : Memory.wf s.mem.exch = true) : Memory.wf (s.exchUpdate addr be ecc f).mem.exch = true := by
  simp only [State.exchUpdate, List.foldl]
  have k := exchAddr_lt addr
  exact State.wf_setExchByte _ _ _ (k 3 (by decide)) (State.wf_setExchByte _ _ _ (k 2 (by decide))
    (State.wf_setExchByte _ _ _ (k 1 (by decide)) (State.wf_setExchByte _ _ _ (k 0 (by decide)) h)))

/-- A word's octet after its update under the byte enables. -/
theorem State.exchByte_update (s : State) (addr : BitVec 16) (be : BitVec 4) (ecc : EccState) (f : Nat → Byte → Byte) (i : Nat)
    (hi : i < 4) :
    (s.exchUpdate addr be ecc f).exchByte (exchAddr addr i) =
      if be.getLsbD i then f i (s.exchRead addr ecc i) else s.exchRead addr ecc i := by
  have e (a b : Nat) : (exchAddr addr a = exchAddr addr b) = (a = b) := by simp [exchAddr]
  have hc : i = 0 ∨ i = 1 ∨ i = 2 ∨ i = 3 := by omega
  rcases hc with rfl | rfl | rfl | rfl <;> simp [State.exchUpdate, State.exchByte_set, e]

/-- An octet outside a word after the word's update. -/
theorem State.exchByte_update_other (s : State) (addr : BitVec 16) (be : BitVec 4) (ecc : EccState) (f : Nat → Byte → Byte)
    (a : Nat) (h : ∀ i < 4, exchAddr addr i ≠ a) : (s.exchUpdate addr be ecc f).exchByte a = s.exchByte a := by
  simp [State.exchUpdate, State.exchByte_set, h 0 (by decide), h 1 (by decide), h 2 (by decide), h 3 (by decide)]

end Sys2Proof.Machine
end

