-- ==== Sys2Proof/Laws/PerInstr.lean ====
section
/-! SUPPORT. For every command: the components that its frame lets it reach (`reach`) are each named once, and lie among those of its
family. So no command of the network reaches the fabric, the graph, the power stage or Cerkeha, and none of the clocks the fabric or the graph. -/

open Sys2Proof.Machine

/-- The components that the commands of a family reach between them. -/
def Sys2Proof.Laws.Reach.parts : Family → List Part
  | .clock => [.shadow, .resp, .time, .refs, .syn, .net, .rsw, .mem, .strm, .lap, .amp, .line, .timers, .flash]
  | .network => [.free, .time, .tsq, .refs, .net, .rsw, .mem, .strm, .cerk, .timers]
  | .audio => [.free, .tsq, .net, .rsw, .mem, .fab, .dsp, .strm, .lap]
  | .power => [.amp, .line, .flash]
  | .duty => [.resp, .net, .rsw, .mem, .pnl, .amp, .line, .crown, .pair, .timers, .flash]
  | .platform => [.time, .net, .mem, .plat, .strm, .amp, .line, .cerk, .timers, .flash]
  | .host => [.shadow, .resp, .free, .time, .tsq, .syn, .net, .rsw, .mem, .pnl, .dsp, .plat, .strm, .heldW, .timers, .flash]
  | .broad => [.shadow, .resp, .free, .time, .tsq, .refs, .syn, .net, .rsw, .mem, .pnl, .fab, .dsp, .plat, .strm, .lap, .amp, .line, .crown, .pair, .cerk, .heldW, .timers, .flash]

/-- What the law says of a reach. -/
def Sys2Proof.Laws.Reach.sound (r : Reach) : Bool := r.parts.Nodup && r.parts.all ((Laws.Reach.parts r.family).contains ·)

/-- A command's reach is sound. -/
def Sys2Proof.Laws.Reach.Statement (i : Instr) : Prop := Laws.Reach.sound (reach i) = true

namespace Sys2Proof

theorem Laws.Reach.tickStart (t : TickIn) : Laws.Reach.Statement (.tickStart t) := by rfl
theorem Laws.Reach.brimStart (b : BrimIn) : Laws.Reach.Statement (.brimStart b) := by rfl
theorem Laws.Reach.schedLost : Laws.Reach.Statement (.schedLost) := by rfl
theorem Laws.Reach.applyHold (g : Agent) (hold : Bool) : Laws.Reach.Statement (.applyHold g hold) := by rfl
theorem Laws.Reach.applyHoldLimit (g : Agent) (limit : BitVec 8) : Laws.Reach.Statement (.applyHoldLimit g limit) := by rfl
theorem Laws.Reach.applyArm (g : Agent) : Laws.Reach.Statement (.applyArm g) := by rfl
theorem Laws.Reach.applyDisarm (g : Agent) : Laws.Reach.Statement (.applyDisarm g) := by rfl
theorem Laws.Reach.applyTickWrite (g : Agent) (tick : Word) : Laws.Reach.Statement (.applyTickWrite g tick) := by rfl
theorem Laws.Reach.holdLimitExpire : Laws.Reach.Statement (.holdLimitExpire) := by rfl
theorem Laws.Reach.timeSysLoRead (g : Agent) : Laws.Reach.Statement (.timeSysLoRead g) := by rfl
theorem Laws.Reach.syncMeasurement (m : PtpMeas) : Laws.Reach.Statement (.syncMeasurement m) := by rfl
theorem Laws.Reach.ptpStep : Laws.Reach.Statement (.ptpStep) := by rfl
theorem Laws.Reach.refActivityLoss (n : Fin 8) (phase : List Int) : Laws.Reach.Statement (.refActivityLoss n phase) := by rfl
theorem Laws.Reach.refGlitch (n : Fin 8) (phase : List Int) : Laws.Reach.Statement (.refGlitch n phase) := by rfl
theorem Laws.Reach.refEvaluation (e : RefEval) : Laws.Reach.Statement (.refEvaluation e) := by rfl
theorem Laws.Reach.refQualify (n : Fin 8) : Laws.Reach.Statement (.refQualify n) := by rfl
theorem Laws.Reach.waitToRestoreExpire (n : Fin 8) (phase : List Int) : Laws.Reach.Statement (.waitToRestoreExpire n phase) := by rfl
theorem Laws.Reach.refLock : Laws.Reach.Statement (.refLock) := by rfl
theorem Laws.Reach.refLockLoss : Laws.Reach.Statement (.refLockLoss) := by rfl
theorem Laws.Reach.bandwidthStep : Laws.Reach.Statement (.bandwidthStep) := by rfl
theorem Laws.Reach.holdoverValidityExpire : Laws.Reach.Statement (.holdoverValidityExpire) := by rfl
theorem Laws.Reach.holdoverLearnSample : Laws.Reach.Statement (.holdoverLearnSample) := by rfl
theorem Laws.Reach.holdoverModelSave : Laws.Reach.Statement (.holdoverModelSave) := by rfl
theorem Laws.Reach.holdoverModelReset (g : Agent) : Laws.Reach.Statement (.holdoverModelReset g) := by rfl
theorem Laws.Reach.xoInFail (phase : Int) : Laws.Reach.Statement (.xoInFail phase) := by rfl
theorem Laws.Reach.corePllLock (n : Bool) : Laws.Reach.Statement (.corePllLock n) := by rfl
theorem Laws.Reach.synOutputStart (n : Fin 6) (band : BitVec 4) : Laws.Reach.Statement (.synOutputStart n band) := by rfl
theorem Laws.Reach.synLockLoss (src : LossSource) : Laws.Reach.Statement (.synLockLoss src) := by rfl
theorem Laws.Reach.synRelock (x : Relock) : Laws.Reach.Statement (.synRelock x) := by rfl
theorem Laws.Reach.synStuck (n : Fin 6) : Laws.Reach.Statement (.synStuck n) := by rfl
theorem Laws.Reach.synRelockCmd (g : Agent) (mask : BitVec 6) : Laws.Reach.Statement (.synRelockCmd g mask) := by rfl
theorem Laws.Reach.synPhaseStep (g : Agent) (n : Fin 6) (ps : BitVec 16) : Laws.Reach.Statement (.synPhaseStep g n ps) := by rfl
theorem Laws.Reach.synPhaseStepDone (n : Fin 6) : Laws.Reach.Statement (.synPhaseStepDone n) := by rfl
theorem Laws.Reach.pulseEmit (k : Fin 3) : Laws.Reach.Statement (.pulseEmit k) := by rfl
theorem Laws.Reach.pulseRealign (g : Agent) (mask : BitVec 3) : Laws.Reach.Statement (.pulseRealign g mask) := by rfl
theorem Laws.Reach.linkChange (p : Port) (speed : BitVec 3) (eee : PartnerEee) : Laws.Reach.Statement (.linkChange p speed eee) := by rfl
theorem Laws.Reach.frameReceive (p : Port) (f : Frame) (m : RxMark) : Laws.Reach.Statement (.frameReceive p f m) := by rfl
theorem Laws.Reach.frameTransmit (p : Port) : Laws.Reach.Statement (.frameTransmit p) := by rfl
theorem Laws.Reach.lpiEnter (p : Port) : Laws.Reach.Statement (.lpiEnter p) := by rfl
theorem Laws.Reach.speedTargetEval (p : Port) (target : BitVec 3) : Laws.Reach.Statement (.speedTargetEval p target) := by rfl
theorem Laws.Reach.speedPendingEnd (p : Port) : Laws.Reach.Statement (.speedPendingEnd p) := by rfl
theorem Laws.Reach.speedRetrainTimeout (p : Port) : Laws.Reach.Statement (.speedRetrainTimeout p) := by rfl
theorem Laws.Reach.speedSettleTimeout (p : Port) : Laws.Reach.Statement (.speedSettleTimeout p) := by rfl
theorem Laws.Reach.speedSuspendExpire (p : Port) : Laws.Reach.Statement (.speedSuspendExpire p) := by rfl
theorem Laws.Reach.nodeAnnounceSend : Laws.Reach.Statement (.nodeAnnounceSend) := by rfl
theorem Laws.Reach.nodeAnnounceReceive (p : Port) (m : Announce) : Laws.Reach.Statement (.nodeAnnounceReceive p m) := by rfl
theorem Laws.Reach.nodeEntryExpire (n : BitVec 12) : Laws.Reach.Statement (.nodeEntryExpire n) := by rfl
theorem Laws.Reach.nodeConflictClear : Laws.Reach.Statement (.nodeConflictClear) := by rfl
theorem Laws.Reach.ringCheckSend : Laws.Reach.Statement (.ringCheckSend) := by rfl
theorem Laws.Reach.ringCheckReceive (x : CheckCopy) : Laws.Reach.Statement (.ringCheckReceive x) := by rfl
theorem Laws.Reach.ringCheckTimeout (p : Port) : Laws.Reach.Statement (.ringCheckTimeout p) := by rfl
theorem Laws.Reach.dupEntryForget (t : Fin 3) (src : Nat) : Laws.Reach.Statement (.dupEntryForget t src) := by rfl
theorem Laws.Reach.ringOriginateResume : Laws.Reach.Statement (.ringOriginateResume) := by rfl
theorem Laws.Reach.frerRecoveryReset (flow : Fin 128) : Laws.Reach.Statement (.frerRecoveryReset flow) := by rfl
theorem Laws.Reach.supervisionSend : Laws.Reach.Statement (.supervisionSend) := by rfl
theorem Laws.Reach.mkaHello (p : Port) : Laws.Reach.Statement (.mkaHello p) := by rfl
theorem Laws.Reach.mkpduReceive (p : Port) (m : Mkpdu) : Laws.Reach.Statement (.mkpduReceive p m) := by rfl
theorem Laws.Reach.oldSaDelete (p : Port) : Laws.Reach.Statement (.oldSaDelete p) := by rfl
theorem Laws.Reach.mkaPeerLoss (p : Port) : Laws.Reach.Statement (.mkaPeerLoss p) := by rfl
theorem Laws.Reach.qbvCycleStart (p : Port) : Laws.Reach.Statement (.qbvCycleStart p) := by rfl
theorem Laws.Reach.qbvEntryEnd (p : Port) : Laws.Reach.Statement (.qbvEntryEnd p) := by rfl
theorem Laws.Reach.pauseReceive (p : Port) (pfc : Option (BitVec 3)) (quanta : BitVec 16) : Laws.Reach.Statement (.pauseReceive p pfc quanta) := by rfl
theorem Laws.Reach.pauseQuantaExpire (p : Port) (c : Fin 7) : Laws.Reach.Statement (.pauseQuantaExpire p c) := by rfl
theorem Laws.Reach.pauseWatchdog (p : Port) (c : Fin 7) : Laws.Reach.Statement (.pauseWatchdog p c) := by rfl
theorem Laws.Reach.pauseHoldoffEnd (p : Port) (c : Fin 7) : Laws.Reach.Statement (.pauseHoldoffEnd p c) := by rfl
theorem Laws.Reach.streamPacketReceive (p : Port) (k : RtpPacket) : Laws.Reach.Statement (.streamPacketReceive p k) := by rfl
theorem Laws.Reach.flowLost (flow : Fin 128) : Laws.Reach.Statement (.flowLost flow) := by rfl
theorem Laws.Reach.streamPacketRelease (flow : Fin 128) : Laws.Reach.Statement (.streamPacketRelease flow) := by rfl
theorem Laws.Reach.txSchedMiss (p : Port) (flow : Fin 128) : Laws.Reach.Statement (.txSchedMiss p flow) := by rfl
theorem Laws.Reach.sealEpochAdvance (g : Fin 16) : Laws.Reach.Statement (.sealEpochAdvance g) := by rfl
theorem Laws.Reach.zcTimeout (inp out : Fin 512) : Laws.Reach.Statement (.zcTimeout inp out) := by rfl
theorem Laws.Reach.coefSwapCmd (g : Agent) (atTick : Bool) : Laws.Reach.Statement (.coefSwapCmd g atTick) := by rfl
theorem Laws.Reach.coefSwapCancel (g : Agent) : Laws.Reach.Statement (.coefSwapCancel g) := by rfl
theorem Laws.Reach.coefTickWrite (g : Agent) (tick : Word) : Laws.Reach.Statement (.coefTickWrite g tick) := by rfl
theorem Laws.Reach.graphSwapArm (g : Agent) : Laws.Reach.Statement (.graphSwapArm g) := by rfl
theorem Laws.Reach.graphSwapCancel (g : Agent) : Laws.Reach.Statement (.graphSwapCancel g) := by rfl
theorem Laws.Reach.graphTickWrite (g : Agent) (tick : Word) : Laws.Reach.Statement (.graphTickWrite g tick) := by rfl
theorem Laws.Reach.jobReenable (g : Agent) (job : BitVec 8) : Laws.Reach.Statement (.jobReenable g job) := by rfl
theorem Laws.Reach.ansWindowEnd (inst : Fin 2048) : Laws.Reach.Statement (.ansWindowEnd inst) := by rfl
theorem Laws.Reach.tdmSlaveLocked (p : Fin 4) (rate : Nat) : Laws.Reach.Statement (.tdmSlaveLocked p rate) := by rfl
theorem Laws.Reach.tdmPrerollEnd (p : Fin 4) : Laws.Reach.Statement (.tdmPrerollEnd p) := by rfl
theorem Laws.Reach.tdmClkLoss (p : Fin 4) : Laws.Reach.Statement (.tdmClkLoss p) := by rfl
theorem Laws.Reach.tdmClkHoldEnd (p : Fin 4) : Laws.Reach.Statement (.tdmClkHoldEnd p) := by rfl
theorem Laws.Reach.tdmClkReturn (p : Fin 4) (rate : Nat) : Laws.Reach.Statement (.tdmClkReturn p rate) := by rfl
theorem Laws.Reach.tdmRetrack (p : Fin 4) (rate : Nat) : Laws.Reach.Statement (.tdmRetrack p rate) := by rfl
theorem Laws.Reach.tdmStopComplete (p : Fin 4) : Laws.Reach.Statement (.tdmStopComplete p) := by rfl
theorem Laws.Reach.aes3Lock (r : Fin 4) (rate : Nat) : Laws.Reach.Statement (.aes3Lock r rate) := by rfl
theorem Laws.Reach.aes3Unlock (r : Fin 4) : Laws.Reach.Statement (.aes3Unlock r) := by rfl
theorem Laws.Reach.aes3BlockEnd (r : Fin 4) (b : AesBlock) : Laws.Reach.Statement (.aes3BlockEnd r b) := by rfl
theorem Laws.Reach.aes3ValidityMute (r : Fin 4) (c : Fin 2) : Laws.Reach.Statement (.aes3ValidityMute r c) := by rfl
theorem Laws.Reach.aes3TxStart (t : Fin 4) : Laws.Reach.Statement (.aes3TxStart t) := by rfl
theorem Laws.Reach.aes3TxStop (t : Fin 4) : Laws.Reach.Statement (.aes3TxStop t) := by rfl
theorem Laws.Reach.ampPrechargeDone (c : Fin 8) : Laws.Reach.Statement (.ampPrechargeDone c) := by rfl
theorem Laws.Reach.ampCurrentLimit (x : SwitchCurrent) : Laws.Reach.Statement (.ampCurrentLimit x) := by rfl
theorem Laws.Reach.ampShortLatch (c : Fin 8) (periods : List SwitchPeriod) : Laws.Reach.Statement (.ampShortLatch c periods) := by rfl
theorem Laws.Reach.ampEnergyDumpEnd (c : Fin 8) : Laws.Reach.Statement (.ampEnergyDumpEnd c) := by rfl
theorem Laws.Reach.ampProbeStart (c : Fin 8) : Laws.Reach.Statement (.ampProbeStart c) := by rfl
theorem Laws.Reach.ampProbeEnd (c : Fin 8) (result : ProbeEnd) : Laws.Reach.Statement (.ampProbeEnd c result) := by rfl
theorem Laws.Reach.ampRetry (c : Fin 8) : Laws.Reach.Statement (.ampRetry c) := by rfl
theorem Laws.Reach.ampRetryRestore (c : Fin 8) : Laws.Reach.Statement (.ampRetryRestore c) := by rfl
theorem Laws.Reach.ampDcFault (c : Fin 8) : Laws.Reach.Statement (.ampDcFault c) := by rfl
theorem Laws.Reach.ampThermalTrip (c : Fin 8) (tj : Int) : Laws.Reach.Statement (.ampThermalTrip c tj) := by rfl
theorem Laws.Reach.ampRailFault (rail : Fin 2) (x : RailOut) : Laws.Reach.Statement (.ampRailFault rail x) := by rfl
theorem Laws.Reach.ampRailRestore (rail : Fin 2) (v : BitVec 16) : Laws.Reach.Statement (.ampRailRestore rail v) := by rfl
theorem Laws.Reach.ampSpareTakeover (c : Fin 8) : Laws.Reach.Statement (.ampSpareTakeover c) := by rfl
theorem Laws.Reach.ampSpareSettled : Laws.Reach.Statement (.ampSpareSettled) := by rfl
theorem Laws.Reach.ampSpareRelease (g : Agent) : Laws.Reach.Statement (.ampSpareRelease g) := by rfl
theorem Laws.Reach.ampSpareReturn : Laws.Reach.Statement (.ampSpareReturn) := by rfl
theorem Laws.Reach.ampChannelClear (g : Agent) (mask : BitVec 8) : Laws.Reach.Statement (.ampChannelClear g mask) := by rfl
theorem Laws.Reach.lineRoundStart : Laws.Reach.Statement (.lineRoundStart) := by rfl
theorem Laws.Reach.lineTestSlotEnd (t : LineTest) : Laws.Reach.Statement (.lineTestSlotEnd t) := by rfl
theorem Laws.Reach.lineTestNow (g : Agent) (mask : BitVec 8) : Laws.Reach.Statement (.lineTestNow g mask) := by rfl
theorem Laws.Reach.lineStale (c : Fin 8) : Laws.Reach.Statement (.lineStale c) := by rfl
theorem Laws.Reach.earthFaultMeasure (a : Nat) : Laws.Reach.Statement (.earthFaultMeasure a) := by rfl
theorem Laws.Reach.efLocate (g : Agent) : Laws.Reach.Statement (.efLocate g) := by rfl
theorem Laws.Reach.efLocateStepEnd (d : Int) (a : Nat) : Laws.Reach.Statement (.efLocateStepEnd d a) := by rfl
theorem Laws.Reach.lineCal (g : Agent) (mask : BitVec 8) : Laws.Reach.Statement (.lineCal g mask) := by rfl
theorem Laws.Reach.lineCalStored (c : Fin 8) : Laws.Reach.Statement (.lineCalStored c) := by rfl
theorem Laws.Reach.crownLaneCycle (x : LaneIn) : Laws.Reach.Statement (.crownLaneCycle x) := by rfl
theorem Laws.Reach.laneRepairDone (lane : Fin 3) : Laws.Reach.Statement (.laneRepairDone lane) := by rfl
theorem Laws.Reach.laneOscCheck (edges : List Nat) : Laws.Reach.Statement (.laneOscCheck edges) := by rfl
theorem Laws.Reach.trigSample (mohm : List Nat) : Laws.Reach.Statement (.trigSample mohm) := by rfl
theorem Laws.Reach.alarmStartCmd (g : Agent) (value : BitVec 32) : Laws.Reach.Statement (.alarmStartCmd g value) := by rfl
theorem Laws.Reach.contentTurnEnd (entry : Fin 16) : Laws.Reach.Statement (.contentTurnEnd entry) := by rfl
theorem Laws.Reach.liveFallbackReturn : Laws.Reach.Statement (.liveFallbackReturn) := by rfl
theorem Laws.Reach.fallbackClockReturn : Laws.Reach.Statement (.fallbackClockReturn) := by rfl
theorem Laws.Reach.pairStartupDecide (high : Bool) : Laws.Reach.Statement (.pairStartupDecide high) := by rfl
theorem Laws.Reach.pairClaim : Laws.Reach.Statement (.pairClaim) := by rfl
theorem Laws.Reach.pairLinerClaim : Laws.Reach.Statement (.pairLinerClaim) := by rfl
theorem Laws.Reach.pairSettleDone : Laws.Reach.Statement (.pairSettleDone) := by rfl
theorem Laws.Reach.pairYieldRelease : Laws.Reach.Statement (.pairYieldRelease) := by rfl
theorem Laws.Reach.pairYieldFail : Laws.Reach.Statement (.pairYieldFail) := by rfl
theorem Laws.Reach.standbyRecordSend : Laws.Reach.Statement (.standbyRecordSend) := by rfl
theorem Laws.Reach.standbyRecordReceive (x : PairRec) : Laws.Reach.Statement (.standbyRecordReceive x) := by rfl
theorem Laws.Reach.linerLoss : Laws.Reach.Statement (.linerLoss) := by rfl
theorem Laws.Reach.standbyRecordLoss : Laws.Reach.Statement (.standbyRecordLoss) := by rfl
theorem Laws.Reach.proofSwap (g : Agent) : Laws.Reach.Statement (.proofSwap g) := by rfl
theorem Laws.Reach.proofEnd (g : Agent) : Laws.Reach.Statement (.proofEnd g) := by rfl
theorem Laws.Reach.proofWindowEnd : Laws.Reach.Statement (.proofWindowEnd) := by rfl
theorem Laws.Reach.modbusRequest (frame : MbFrame) : Laws.Reach.Statement (.modbusRequest frame) := by rfl
theorem Laws.Reach.panelByteReceive (byte : BitVec 8) (err : Bool) : Laws.Reach.Statement (.panelByteReceive byte err) := by rfl
theorem Laws.Reach.panelGapClose : Laws.Reach.Statement (.panelGapClose) := by rfl
theorem Laws.Reach.panelRxPop (g : Agent) : Laws.Reach.Statement (.panelRxPop g) := by rfl
theorem Laws.Reach.panelTxWrite (g : Agent) (data : BitVec 32) : Laws.Reach.Statement (.panelTxWrite g data) := by rfl
theorem Laws.Reach.panelRxFlush (g : Agent) : Laws.Reach.Statement (.panelRxFlush g) := by rfl
theorem Laws.Reach.panelRxDiscard (g : Agent) : Laws.Reach.Statement (.panelRxDiscard g) := by rfl
theorem Laws.Reach.panelTxDiscard (g : Agent) : Laws.Reach.Statement (.panelTxDiscard g) := by rfl
theorem Laws.Reach.powerValid (v : BitVec 16) : Laws.Reach.Statement (.powerValid v) := by rfl
theorem Laws.Reach.attestComplete (a : AttestIn) : Laws.Reach.Statement (.attestComplete a) := by rfl
theorem Laws.Reach.modeRequest (g : Agent) (target : BitVec 4) : Laws.Reach.Statement (.modeRequest g target) := by rfl
theorem Laws.Reach.powerDownDone : Laws.Reach.Statement (.powerDownDone) := by rfl
theorem Laws.Reach.wakeRegulatorsReady : Laws.Reach.Statement (.wakeRegulatorsReady) := by rfl
theorem Laws.Reach.wakeBanksZeroed : Laws.Reach.Statement (.wakeBanksZeroed) := by rfl
theorem Laws.Reach.vinCtlWarn (v : BitVec 16) : Laws.Reach.Statement (.vinCtlWarn v) := by rfl
theorem Laws.Reach.vinCtlWarnRestore (v : BitVec 16) : Laws.Reach.Statement (.vinCtlWarnRestore v) := by rfl
theorem Laws.Reach.vinCtlUndervoltage (v : BitVec 16) : Laws.Reach.Statement (.vinCtlUndervoltage v) := by rfl
theorem Laws.Reach.vinCtlOvervoltage (v : BitVec 16) : Laws.Reach.Statement (.vinCtlOvervoltage v) := by rfl
theorem Laws.Reach.vinCtlRestore (v : BitVec 16) : Laws.Reach.Statement (.vinCtlRestore v) := by rfl
theorem Laws.Reach.vinCtlLoss (v : BitVec 16) : Laws.Reach.Statement (.vinCtlLoss v) := by rfl
theorem Laws.Reach.pfwAssert : Laws.Reach.Statement (.pfwAssert) := by rfl
theorem Laws.Reach.pfwRelease : Laws.Reach.Statement (.pfwRelease) := by rfl
theorem Laws.Reach.pfwDelayExpire : Laws.Reach.Statement (.pfwDelayExpire) := by rfl
theorem Laws.Reach.pfwShelterRestore : Laws.Reach.Statement (.pfwShelterRestore) := by rfl
theorem Laws.Reach.tempSample (die base : Int) : Laws.Reach.Statement (.tempSample die base) := by rfl
theorem Laws.Reach.moduleThermalShutdown : Laws.Reach.Statement (.moduleThermalShutdown) := by rfl
theorem Laws.Reach.thermalRestore : Laws.Reach.Statement (.thermalRestore) := by rfl
theorem Laws.Reach.domainRestart (g : Agent) (mask : BitVec 9) : Laws.Reach.Statement (.domainRestart g mask) := by rfl
theorem Laws.Reach.domainRestartReady (d : Fin 9) : Laws.Reach.Statement (.domainRestartReady d) := by rfl
theorem Laws.Reach.watchdogWarn : Laws.Reach.Statement (.watchdogWarn) := by rfl
theorem Laws.Reach.watchdogTimeout : Laws.Reach.Statement (.watchdogTimeout) := by rfl
theorem Laws.Reach.lockstepMismatch : Laws.Reach.Statement (.lockstepMismatch) := by rfl
theorem Laws.Reach.fwSwitch (g : Agent) : Laws.Reach.Statement (.fwSwitch g) := by rfl
theorem Laws.Reach.fwSwitchCancel (g : Agent) : Laws.Reach.Statement (.fwSwitchCancel g) := by rfl
theorem Laws.Reach.fwPreloadDone : Laws.Reach.Statement (.fwPreloadDone) := by rfl
theorem Laws.Reach.fwProbationEnd (healthy : Bool) : Laws.Reach.Statement (.fwProbationEnd healthy) := by rfl
theorem Laws.Reach.repairRequest (g : Agent) (bank : BitVec 6) : Laws.Reach.Statement (.repairRequest g bank) := by rfl
theorem Laws.Reach.repairCopyDone : Laws.Reach.Statement (.repairCopyDone) := by rfl
theorem Laws.Reach.repairMapStored : Laws.Reach.Statement (.repairMapStored) := by rfl
theorem Laws.Reach.order (p : Port) (ring : Fin 64) (cookie : BitVec 32) : Laws.Reach.Statement (.order p ring cookie) := by rfl
theorem Laws.Reach.orderVerified (tamperLow : Bool) : Laws.Reach.Statement (.orderVerified tamperLow) := by rfl
theorem Laws.Reach.orderComplete : Laws.Reach.Statement (.orderComplete) := by rfl
theorem Laws.Reach.allowImageExpire (ty num : BitVec 8) : Laws.Reach.Statement (.allowImageExpire ty num) := by rfl
theorem Laws.Reach.tamperDetect (src : TamperSource) : Laws.Reach.Statement (.tamperDetect src) := by rfl
theorem Laws.Reach.tamperFlashErased : Laws.Reach.Statement (.tamperFlashErased) := by rfl
theorem Laws.Reach.perstAssert (p : Port) : Laws.Reach.Statement (.perstAssert p) := by rfl
theorem Laws.Reach.ringStart (p : Port) (ring : Fin 64) (cfg : Word) : Laws.Reach.Statement (.ringStart p ring cfg) := by rfl
theorem Laws.Reach.ringStop (p : Port) (ring : Fin 64) : Laws.Reach.Statement (.ringStop p ring) := by rfl
theorem Laws.Reach.doorbell (p : Port) (ring : Fin 64) (prod : BitVec 16) (descs : List Desc) : Laws.Reach.Statement (.doorbell p ring prod descs) := by rfl
theorem Laws.Reach.fwImage (p : Port) (ring : Fin 64) (header : Option (BitVec 16)) : Laws.Reach.Statement (.fwImage p ring header) := by rfl
theorem Laws.Reach.graphImage (p : Port) (ring : Fin 64) (img : GImage) (cookie : BitVec 32) : Laws.Reach.Statement (.graphImage p ring img cookie) := by rfl
theorem Laws.Reach.msgImage (p : Port) (ring : Fin 64) (cookie : BitVec 32) : Laws.Reach.Statement (.msgImage p ring cookie) := by rfl
theorem Laws.Reach.msgDelete (p : Port) (ring : Fin 64) : Laws.Reach.Statement (.msgDelete p ring) := by rfl
theorem Laws.Reach.nop (p : Port) (ring : Fin 64) : Laws.Reach.Statement (.nop p ring) := by rfl
theorem Laws.Reach.hostFrameTransmit (p : Port) (ring : Fin 64) (f : Frame) : Laws.Reach.Statement (.hostFrameTransmit p ring f) := by rfl
theorem Laws.Reach.netrxHoldExpire (p : Port) (ring : Fin 64) : Laws.Reach.Statement (.netrxHoldExpire p ring) := by rfl
theorem Laws.Reach.evtqBufferClose (p : Port) (ring : Fin 64) : Laws.Reach.Statement (.evtqBufferClose p ring) := by rfl
theorem Laws.Reach.msixModerationEnd (p : Port) (ring : Fin 64) : Laws.Reach.Statement (.msixModerationEnd p ring) := by rfl
theorem Laws.Reach.dmaError (p : Port) (ring : Fin 64) : Laws.Reach.Statement (.dmaError p ring) := by rfl
theorem Laws.Reach.heartbeat (p : Port) (value : Word) : Laws.Reach.Statement (.heartbeat p value) := by rfl
theorem Laws.Reach.hostLost (p : Port) (linkDown : Bool) : Laws.Reach.Statement (.hostLost p linkDown) := by rfl
theorem Laws.Reach.semaphoreAcquire (p : Port) (n : Fin 32) (token : BitVec 16) (tie : Option (BitVec 16)) : Laws.Reach.Statement (.semaphoreAcquire p n token tie) := by rfl
theorem Laws.Reach.semaphoreRelease (p : Port) (n : Fin 32) (token : BitVec 16) : Laws.Reach.Statement (.semaphoreRelease p n token) := by rfl
theorem Laws.Reach.semaphoreForce (g : Agent) (n : Fin 32) : Laws.Reach.Statement (.semaphoreForce g n) := by rfl
theorem Laws.Reach.hostQuotaWrite (p : Port) (value : Word) : Laws.Reach.Statement (.hostQuotaWrite p value) := by rfl
theorem Laws.Reach.msixUnmask (p : Port) (v : Fin 128) : Laws.Reach.Statement (.msixUnmask p v) := by rfl
theorem Laws.Reach.scrub (found : List EccFind) : Laws.Reach.Statement (.scrub found) := by rfl
theorem Laws.Reach.eccWindowEnd (b : Fin 66) : Laws.Reach.Statement (.eccWindowEnd b) := by rfl
theorem Laws.Reach.exchangeWrite (m : ExMaster) (addr : BitVec 16) (be : BitVec 4) (data : Word) (met : Option (Fin 16)) (ecc : EccState) : Laws.Reach.Statement (.exchangeWrite m addr be data met ecc) := by rfl
theorem Laws.Reach.exchangeSet (m : ExMaster) (addr : BitVec 16) (be : BitVec 4) (data : Word) (met : Option (Fin 16)) (ecc : EccState) : Laws.Reach.Statement (.exchangeSet m addr be data met ecc) := by rfl
theorem Laws.Reach.exchangeClear (m : ExMaster) (addr : BitVec 16) (be : BitVec 4) (data : Word) (met : Option (Fin 16)) (ecc : EccState) : Laws.Reach.Statement (.exchangeClear m addr be data met ecc) := by rfl
theorem Laws.Reach.queueFlush (g : Agent) (q : BitVec 5) : Laws.Reach.Statement (.queueFlush g q) := by rfl
theorem Laws.Reach.registerWrite (g : Agent) (off : BitVec 24) (be : BitVec 4) (data : Word) (kind : ReqKind) : Laws.Reach.Statement (.registerWrite g off be data kind) := by rfl
theorem Laws.Reach.clearOnRead (g : Agent) (off : BitVec 24) (be : BitVec 4) (kind : ReqKind) : Laws.Reach.Statement (.clearOnRead g off be kind) := by rfl
theorem Laws.Reach.blockReset (g : Agent) (code : BitVec 8) (data : Word) : Laws.Reach.Statement (.blockReset g code data) := by rfl
theorem Laws.Reach.idataRead (g : Agent) (code : BitVec 8) (be : BitVec 4) : Laws.Reach.Statement (.idataRead g code be) := by rfl
theorem Laws.Reach.idataWrite (g : Agent) (code : BitVec 8) (be : BitVec 4) (data : Word) : Laws.Reach.Statement (.idataWrite g code be data) := by rfl
theorem Laws.Reach.idataWriteComplete (g : Agent) : Laws.Reach.Statement (.idataWriteComplete g) := by rfl
theorem Laws.Reach.unlockKey (p : Port) (key : BitVec 16) : Laws.Reach.Statement (.unlockKey p key) := by rfl
theorem Laws.Reach.unlockExpire (p : Port) : Laws.Reach.Statement (.unlockExpire p) := by rfl
theorem Laws.Reach.evtRawClear (g : Agent) (hi : Bool) (mask : Word) : Laws.Reach.Statement (.evtRawClear g hi mask) := by rfl
theorem Laws.Reach.eventTest (g : Agent) (src : BitVec 6) : Laws.Reach.Statement (.eventTest g src) := by rfl
theorem Laws.Reach.logEntryWrite : Laws.Reach.Statement (.logEntryWrite) := by rfl
theorem Laws.Reach.logArchiveAppend : Laws.Reach.Statement (.logArchiveAppend) := by rfl
theorem Laws.Reach.logFreeze (g : Agent) : Laws.Reach.Statement (.logFreeze g) := by rfl
theorem Laws.Reach.logUnfreeze (g : Agent) : Laws.Reach.Statement (.logUnfreeze g) := by rfl
theorem Laws.Reach.logClear (g : Agent) : Laws.Reach.Statement (.logClear g) := by rfl
theorem Laws.Reach.ptpMessageSend (kind : PtpKind) (p : Port) : Laws.Reach.Statement (.ptpMessageSend kind p) := by rfl
theorem Laws.Reach.grandmasterLoss : Laws.Reach.Statement (.grandmasterLoss) := by rfl
theorem Laws.Reach.tdmRetrackEnd (p : Fin 4) (rate : Nat) : Laws.Reach.Statement (.tdmRetrackEnd p rate) := by rfl
theorem Laws.Reach.aes3Retrack (r : Fin 4) (rate : Nat) : Laws.Reach.Statement (.aes3Retrack r rate) := by rfl
theorem Laws.Reach.aes3RetrackEnd (r : Fin 4) (rate : Nat) : Laws.Reach.Statement (.aes3RetrackEnd r rate) := by rfl
theorem Laws.Reach.aes3ValidityUnmute (r : Fin 4) (c : Fin 2) : Laws.Reach.Statement (.aes3ValidityUnmute r c) := by rfl
theorem Laws.Reach.panelCharacterSent : Laws.Reach.Statement (.panelCharacterSent) := by rfl
theorem Laws.Reach.pcieConfigWrite (p : Port) (bme msixEn fmask : Bool) : Laws.Reach.Statement (.pcieConfigWrite p bme msixEn fmask) := by rfl
theorem Laws.Reach.pcieLinkUp (p : Port) (gen : Fin 3) (wide : Bool) : Laws.Reach.Statement (.pcieLinkUp p gen wide) := by rfl
theorem Laws.Reach.proofPermanentJudge : Laws.Reach.Statement (.proofPermanentJudge) := by rfl

end Sys2Proof
end

