-- ==== Sys2Proof/Laws/Tell.lean ====
section
/-! SUPPORT. What telling the outside changes: raising an event (R474), a hatband entry (R478), a vector (R475) and the
condition flags (R351) reach the log, the host ports, the outputs and the registers of EVT, LOG, HIF and TOP, and nothing
else. -/

namespace Sys2Proof.Machine

/-- Everything that telling leaves alone. -/
def State.mute (s : State) : State :=
  { s with regs := [], log := LogSt.reset, host := HostSt.reset, out := [] }

/-- Whether a state differs from another only in what telling reaches. -/
structure State.Tells (s t : State) : Prop where
  mute : t.mute = s.mute
  regs : s.KeepsRegs tellKey t

theorem State.KeepsRegs.refl (c : Nat → Bool) (s : State) : s.KeepsRegs c s := fun _ _ => rfl

theorem State.KeepsRegs.trans {c : Nat → Bool} {s t u : State} (h : s.KeepsRegs c t) (g : t.KeepsRegs c u) :
    s.KeepsRegs c u := fun k hk => (g k hk).trans (h k hk)

theorem State.KeepsRegs.mono {c d : Nat → Bool} {s t : State} (h : s.KeepsRegs c t) (hs : ∀ k, d k = false → c k = false) :
    s.KeepsRegs d t := fun k hk => h k (hs k hk)

theorem State.KeepsRegs.wr (c : Nat → Bool) (s : State) (k : Nat) (w : Word) (h : c k = true) :
    s.KeepsRegs c (s.wr k w) := fun j hj => State.rd_wr_ne s k j w fun e => by rw [e, hj] at h; cases h

theorem State.KeepsRegs.put (c : Nat → Bool) (s : State) (f : Fld) (v : Nat) (h : c f.addr = true) :
    s.KeepsRegs c (s.put f v) := State.KeepsRegs.wr c s _ _ h

theorem State.KeepsRegs.flag (c : Nat → Bool) (s : State) (f : Fld) (b : Bool) (h : c f.addr = true) :
    s.KeepsRegs c (s.flag f b) := State.KeepsRegs.wr c s _ _ h

theorem State.KeepsRegs.bump (c : Nat → Bool) (s : State) (f : Fld) (n : Nat) (h : c f.addr = true) :
    s.KeepsRegs c (s.bump f n) := by
  unfold State.bump; split
  · exact State.KeepsRegs.refl c s
  · exact State.KeepsRegs.put c s _ _ h

theorem State.KeepsRegs.get {c : Nat → Bool} {s t : State} (h : s.KeepsRegs c t) (f : Fld) (hf : c f.addr = false) :
    t.get f = s.get f := by unfold State.get; rw [h _ hf]

theorem State.KeepsRegs.on {c : Nat → Bool} {s t : State} (h : s.KeepsRegs c t) (f : Fld) (hf : c f.addr = false) :
    t.on f = s.on f := by unfold State.on; rw [h.get f hf]

theorem tellKey_of_code {k : Nat} (h : keyCode k ∈ [1, 2, 4, 5]) : tellKey k = true := by
  unfold tellKey; rw [List.contains_iff_mem.mpr h, Bool.or_true]

theorem State.Tells.refl (s : State) : s.Tells s := ⟨rfl, State.KeepsRegs.refl _ _⟩

theorem State.Tells.trans {s t u : State} (h : s.Tells t) (g : t.Tells u) : s.Tells u :=
  ⟨g.mute.trans h.mute, h.regs.trans g.regs⟩

theorem State.Tells.ite {s t u : State} (b : Prop) [Decidable b] (h : s.Tells t) (g : s.Tells u) :
    s.Tells (if b then t else u) := by split <;> assumption

/-- A register of a telling block written. -/
theorem State.Tells.wr (s : State) (k : Nat) (w : Word) (h : tellKey k = true) : s.Tells (s.wr k w) :=
  ⟨rfl, State.KeepsRegs.wr _ s k w h⟩

theorem State.Tells.put (s : State) (f : Fld) (v : Nat) (h : tellKey f.addr = true) : s.Tells (s.put f v) :=
  State.Tells.wr s _ _ h

theorem State.Tells.flag (s : State) (f : Fld) (b : Bool) (h : tellKey f.addr = true) : s.Tells (s.flag f b) :=
  State.Tells.wr s _ _ h

theorem State.Tells.bump (s : State) (f : Fld) (n : Nat) (h : tellKey f.addr = true) : s.Tells (s.bump f n) := by
  unfold State.bump; exact State.Tells.ite _ (.refl s) (.put s _ _ h)

/-- A change of the log, the host ports or the outputs alone. -/
theorem State.Tells.quiet {s t : State} (h : t.mute = s.mute) (r : t.regs = s.regs) : s.Tells t :=
  ⟨h, fun k _ => by unfold State.rd; rw [r]⟩

theorem State.Tells.emit (s : State) (o : Out) : s.Tells (s.emit o) := .quiet rfl rfl

theorem State.Tells.setPort (s : State) (p : Port) (x : PortSt) : s.Tells (s.setPort p x) := by
  cases p <;> exact .quiet rfl rfl

theorem State.Tells.setRing (s : State) (p : Port) (n : Nat) (r : Ring) : s.Tells (s.setRing p n r) := .quiet rfl rfl

/-- An entry put into the intake (R480). -/
theorem State.Tells.logPut (s : State) (e : LogEntry) : s.Tells (s.logPut e) := by
  unfold State.logPut
  refine .ite _ (.trans (t := { s with log := { s.log with intake := s.log.intake ++ [e] } }) (.quiet rfl rfl) (.put _ _ _ (by decide)))
    (.trans (t := { s with log := { s.log with dropped := s.log.dropped + 1 } }) (.quiet rfl rfl) (.bump _ _ _ (by decide)))

/-- A change of state recorded without an event. -/
theorem State.Tells.note (s : State) (sub : Nat) (dw : List Nat) : s.Tells (s.note sub dw) := by
  unfold State.note State.logNote
  rw [if_neg (by decide)]
  exact .logPut _ _

theorem State.Tells.msixDue (s : State) (p : Port) (v : Nat) : s.Tells (s.msixDue p v) := by
  unfold State.msixDue
  exact .ite _ (.refl s) (.ite _ (.refl s) (.ite _ (.emit s _) (.ite _ (.refl s) (.setPort s p _))))

theorem State.Tells.ringVector (s : State) (p : Port) (n : Nat) : s.Tells (s.ringVector p n) := by
  unfold State.ringVector
  exact .ite _ (.msixDue s p _) (.ite _ (.setRing s p n _) (.trans (.setRing s p n _) (.msixDue _ p _)))

/-- The block code of a plain register and of an indirect word. -/
theorem keyCode_reg (k c : Nat) (h : c * 0x10000 ≤ k) (h2 : k < c * 0x10000 + 0x10000) (h3 : c < 256) : keyCode k = c := by
  unfold keyCode; rw [if_pos (by omega)]; omega

theorem keyCode_ind (c w : Nat) : keyCode (indKey c w) = c := by
  unfold keyCode indKey indBase; rw [if_neg (by omega)]; omega

theorem port_num_lt (p : Port) : p.num < 2 := by cases p <;> decide

/-- The registers of a ring, and those behind the last ring's, are of HIF. -/
theorem tellKey_ringSt (p : Port) (n off : Nat) (ho : off < 0x200) :
    tellKey (0x040000 + off + p.num * 0x10000 + min n 64 * 0x20) = true := by
  have := port_num_lt p
  have e : keyCode (0x040000 + off + p.num * 0x10000 + min n 64 * 0x20) = 4 + p.num := keyCode_reg _ _ (by omega) (by omega) (by omega)
  exact tellKey_of_code (by rw [e]; cases p <;> decide)

theorem tellKey_ringCnt (p : Port) (n w : Nat) : tellKey (Fld.ringCnt p.num n w).addr = true := by
  have e : keyCode (Fld.ringCnt p.num n w).addr = 4 + p.num := keyCode_ind _ _
  exact tellKey_of_code (by rw [e]; cases p <;> decide)

theorem State.Tells.finishDesc (s : State) (p : Port) (n : Nat) (d : Desc) : s.Tells (s.finishDesc p n d) := by
  unfold State.finishDesc
  dsimp only
  refine .ite _ (.trans ?_ (.ringVector _ p n)) ?_ <;>
  exact .trans (.trans (.trans (.trans (.setRing s p n _) (.emit _ _)) (.put _ _ _ (tellKey_ringSt p n 0x11C (by decide))))
      (.emit _ _)) (.bump _ _ _ (tellKey_ringCnt p n 0))

theorem State.Tells.closeBuffer (s : State) (p : Port) (n : Nat) : s.Tells (s.closeBuffer p n) := by
  unfold State.closeBuffer
  dsimp only
  split
  · exact .refl s
  · exact .trans (.trans (.emit s _) (.finishDesc _ p n _)) (.setRing _ p n _)

theorem State.Tells.makeRoom (s : State) (p : Port) (n n2 : Nat) : s.Tells (s.makeRoom p n n2) := by
  unfold State.makeRoom
  exact .ite _ (.closeBuffer s p n) (.refl s)

theorem State.Tells.pushRecord (s : State) (p : Port) (n : Nat) (rec : List Word) :
    s.Tells (s.pushRecord p n rec).1 := by
  unfold State.pushRecord
  have h1 := State.Tells.makeRoom s p n rec.length
  revert h1
  generalize s.makeRoom p n rec.length = t
  intro h1
  dsimp only
  split
  · exact .trans h1 (.bump _ _ _ (tellKey_ringCnt p n 1))
  · split
    · exact .trans (.trans h1 (.finishDesc _ p n _)) (.bump _ _ _ (tellKey_ringCnt p n 1))
    · exact .trans (.trans h1 (.setRing _ p n _)) (.ite _ (.closeBuffer _ p n) (.refl _))

/-- The ring that a search finds is one of the 64. -/
theorem State.findRing_lt {s : State} {p : Port} {ty n : Nat} (h : s.findRing p ty = some n) : n < 64 := by
  have := List.mem_of_find?_eq_some h
  simpa using this

/-- The key of a bit of a pair of words. -/
theorem pairBit_addr (lo hi n : Nat) : (pairBit lo hi n).addr = lo ∨ (pairBit lo hi n).addr = hi := by
  unfold pairBit; split <;> simp

theorem tellKey_pairBit (lo hi n : Nat) (h : tellKey lo = true) (h2 : tellKey hi = true) :
    tellKey (pairBit lo hi n).addr = true := by
  rcases pairBit_addr lo hi n with e | e <;> rw [e] <;> assumption

theorem State.Tells.deliver (s : State) (p : Port) (src seq : Nat) : s.Tells (s.deliver p src seq).1 := by
  unfold State.deliver
  split
  · dsimp only
    have h1 : s.Tells (s.flag (Fld.evtLat p.num src) true) :=
      .flag s _ _ (tellKey_pairBit _ _ _ (by cases p <;> decide) (by cases p <;> decide))
    refine .trans h1 (.trans ?_ (.msixDue _ p src))
    split
    · exact .refl _
    · rename_i n hf
      split
      · exact .trans (.pushRecord _ p n _)
          (.flag _ _ _ (tellKey_pairBit _ _ _ (by cases p <;> decide) (by cases p <;> decide)))
      · exact .pushRecord _ p n _
  · exact .refl s

theorem State.Tells.raiseCore (s : State) (src sub sev org : Nat) (dw : List Nat) :
    s.Tells (s.raiseCore src sub sev org dw).1 := by
  unfold State.raiseCore
  dsimp only
  refine .trans (.trans (.trans (.trans (.trans (.logPut s _) (.ite _ (.put _ _ _ (by decide)) (.refl _))) (.flag _ _ _ ?_)) (.bump _ _ _ ?_))
    (.deliver _ .a src _)) (.deliver _ .b src _)
  · exact tellKey_pairBit _ _ _ (by decide) (by decide)
  · have e : keyCode (Fld.ind 1 src).addr = 1 := keyCode_ind _ _
    exact tellKey_of_code (by rw [e]; decide)

theorem State.Tells.ringSummary (s : State) (p : Port) : s.Tells (s.ringSummary p) := by
  unfold State.ringSummary
  exact .ite _ (.trans (.setPort s p _) (.raiseCore _ _ _ _ _ _)) (.refl s)

theorem State.Tells.raiseAs (s : State) (src sub sev org : Nat) (dw : List Nat) :
    s.Tells (s.raiseAs src sub sev org dw) := by
  unfold State.raiseAs
  dsimp only
  have h1 := State.Tells.raiseCore s src sub sev org dw
  have h2 : s.Tells (if (s.raiseCore src sub sev org dw).2.1 then (s.raiseCore src sub sev org dw).1.ringSummary .a
      else (s.raiseCore src sub sev org dw).1) := .ite _ (.trans h1 (.ringSummary _ .a)) h1
  exact .ite _ (.trans h2 (.ringSummary _ .b)) h2

/-- Raising an event (R474). -/
theorem State.Tells.raise (s : State) (src sub : Nat) (dw : List Nat) : s.Tells (s.raise src sub dw) := .raiseAs s _ _ _ _ _

theorem State.Tells.ringError (s : State) (p : Port) (n : Nat) : s.Tells (s.ringError p n) := by
  unfold State.ringError
  exact .ite _ (.refl s) (.trans (.flag _ _ _ (tellKey_pairBit _ _ _ (by cases p <;> decide) (by cases p <;> decide))) (.ringSummary _ p))

/-- A command recorded (R478). -/
theorem State.Tells.command (s : State) (g : Who) (off data : Nat) : s.Tells (s.command g off data) := by
  unfold State.command State.logNote
  rw [if_neg (by decide)]
  exact .logPut _ _

theorem State.Tells.setFlag (s : State) (i : Nat) (c : Bool) : s.Tells (s.setFlag i c) := by
  unfold State.setFlag
  exact .ite _ (.refl s) (.trans (.flag s _ _ (by show tellKey 0x20 = true; decide)) (.note _ _ _))

theorem State.Tells.foldl {α : Type} (f : State → α → State) (h : ∀ (s : State) a, s.Tells (f s a)) :
    ∀ (l : List α) (s : State), s.Tells (l.foldl f s)
  | [], s => .refl s
  | a :: l, s => .trans (h s a) (State.Tells.foldl f h l (f s a))

/-- The condition flags brought to their conditions (R351). -/
theorem State.Tells.watchFlags (s : State) : s.Tells s.watchFlags := by
  unfold State.watchFlags
  exact State.Tells.foldl _ (fun s (c : Nat × Bool) => State.Tells.setFlag s c.1 c.2) _ s

/-! ### What follows from it -/

theorem State.Tells.variant_eq {s t : State} (h : s.Tells t) : t.variant = s.variant := (congrArg State.variant h.mute : _)
theorem State.Tells.shadow_eq {s t : State} (h : s.Tells t) : t.shadow = s.shadow := (congrArg State.shadow h.mute : _)
theorem State.Tells.resp_eq {s t : State} (h : s.Tells t) : t.resp = s.resp := (congrArg State.resp h.mute : _)
theorem State.Tells.free_eq {s t : State} (h : s.Tells t) : t.free = s.free := (congrArg State.free h.mute : _)
theorem State.Tells.time_eq {s t : State} (h : s.Tells t) : t.time = s.time := (congrArg State.time h.mute : _)
theorem State.Tells.tsqA_eq {s t : State} (h : s.Tells t) : t.tsqA = s.tsqA := (congrArg State.tsqA h.mute : _)
theorem State.Tells.tsqB_eq {s t : State} (h : s.Tells t) : t.tsqB = s.tsqB := (congrArg State.tsqB h.mute : _)
theorem State.Tells.refs_eq {s t : State} (h : s.Tells t) : t.refs = s.refs := (congrArg State.refs h.mute : _)
theorem State.Tells.syn_eq {s t : State} (h : s.Tells t) : t.syn = s.syn := (congrArg State.syn h.mute : _)
theorem State.Tells.netA_eq {s t : State} (h : s.Tells t) : t.netA = s.netA := (congrArg State.netA h.mute : _)
theorem State.Tells.netB_eq {s t : State} (h : s.Tells t) : t.netB = s.netB := (congrArg State.netB h.mute : _)
theorem State.Tells.rsw_eq {s t : State} (h : s.Tells t) : t.rsw = s.rsw := (congrArg State.rsw h.mute : _)
theorem State.Tells.mem_eq {s t : State} (h : s.Tells t) : t.mem = s.mem := (congrArg State.mem h.mute : _)
theorem State.Tells.pnl_eq {s t : State} (h : s.Tells t) : t.pnl = s.pnl := (congrArg State.pnl h.mute : _)
theorem State.Tells.fab_eq {s t : State} (h : s.Tells t) : t.fab = s.fab := (congrArg State.fab h.mute : _)
theorem State.Tells.dsp_eq {s t : State} (h : s.Tells t) : t.dsp = s.dsp := (congrArg State.dsp h.mute : _)
theorem State.Tells.plat_eq {s t : State} (h : s.Tells t) : t.plat = s.plat := (congrArg State.plat h.mute : _)
theorem State.Tells.strm_eq {s t : State} (h : s.Tells t) : t.strm = s.strm := (congrArg State.strm h.mute : _)
theorem State.Tells.lap_eq {s t : State} (h : s.Tells t) : t.lap = s.lap := (congrArg State.lap h.mute : _)
theorem State.Tells.amp_eq {s t : State} (h : s.Tells t) : t.amp = s.amp := (congrArg State.amp h.mute : _)
theorem State.Tells.line_eq {s t : State} (h : s.Tells t) : t.line = s.line := (congrArg State.line h.mute : _)
theorem State.Tells.crown_eq {s t : State} (h : s.Tells t) : t.crown = s.crown := (congrArg State.crown h.mute : _)
theorem State.Tells.pair_eq {s t : State} (h : s.Tells t) : t.pair = s.pair := (congrArg State.pair h.mute : _)
theorem State.Tells.cerk_eq {s t : State} (h : s.Tells t) : t.cerk = s.cerk := (congrArg State.cerk h.mute : _)
theorem State.Tells.heldW_eq {s t : State} (h : s.Tells t) : t.heldW = s.heldW := (congrArg State.heldW h.mute : _)
theorem State.Tells.flash_eq {s t : State} (h : s.Tells t) : t.flash = s.flash := (congrArg State.flash h.mute : _)
theorem State.Tells.otp_eq {s t : State} (h : s.Tells t) : t.otp = s.otp := (congrArg State.otp h.mute : _)
theorem State.Tells.pending_eq {s t : State} (h : s.Tells t) : t.pending = s.pending := (congrArg State.pending h.mute : _)

theorem State.Tells.get_eq {s t : State} (h : s.Tells t) (f : Fld) (hf : tellKey f.addr = false) : t.get f = s.get f :=
  h.regs.get f hf

theorem State.Tells.on_eq {s t : State} (h : s.Tells t) (f : Fld) (hf : tellKey f.addr = false) : t.on f = s.on f :=
  h.regs.on f hf

end Sys2Proof.Machine
end

