-- ==== Sys2Proof/Laws/Run.lean ====
section
/-! SUPPORT. What the runners of the meanings leave: the queue, the ordering code, the OTP array and the exchange RAM as
they were, the rest as the effect has it. -/

namespace Sys2Proof.Machine

/-- A command's outcome while the part is powered. -/
theorem State.run_on (s : State) (f : State → State) (h : s.powered = true) : s.run f = .next (s.holdMost (f s)) := by
  simp [State.run, h]

theorem State.runF_on (s : State) (f : State → State) (h : s.powered = true) :
    s.runF f = .next (s.holdMost (f s).watchFlags) := State.run_on s _ h

theorem State.runBrim_on (s : State) (f : State → State) (h : s.powered = true) :
    s.runBrim f = .next ((s.holdFast (f s).watchFlags).withExch s.mem.exch) := by simp [State.runBrim, h]

theorem State.runExch_on (s : State) (f : State → State) (h : s.powered = true) :
    s.runExch f = .next { s.holdFast (f s) with otp := s.otp } := by simp [State.runExch, h]

/-- In OFF a command finds nothing to act on. -/
theorem State.run_off (s : State) (f : State → State) (h : s.powered = false) : s.run f = .next s := by
  simp [State.run, h]

/-- A condition that holds lets the effect take place. -/
theorem State.when_on (s : State) (c : Bool) (f : State → State) (h : c = true) : s.when c f = f s := by
  simp [State.when, h]

theorem State.when_off (s : State) (c : Bool) (f : State → State) (h : c = false) : s.when c f = s := by
  simp [State.when, h]

@[simp] theorem State.holdMost_regs (s t : State) : (s.holdMost t).regs = t.regs := rfl
@[simp] theorem State.holdMost_shadow (s t : State) : (s.holdMost t).shadow = t.shadow := rfl
@[simp] theorem State.holdMost_resp (s t : State) : (s.holdMost t).resp = t.resp := rfl
@[simp] theorem State.holdMost_out (s t : State) : (s.holdMost t).out = t.out := rfl
@[simp] theorem State.holdMost_free (s t : State) : (s.holdMost t).free = t.free := rfl
@[simp] theorem State.holdMost_log (s t : State) : (s.holdMost t).log = t.log := rfl
@[simp] theorem State.holdMost_time (s t : State) : (s.holdMost t).time = t.time := rfl
@[simp] theorem State.holdMost_tsqA (s t : State) : (s.holdMost t).tsqA = t.tsqA := rfl
@[simp] theorem State.holdMost_tsqB (s t : State) : (s.holdMost t).tsqB = t.tsqB := rfl
@[simp] theorem State.holdMost_refs (s t : State) : (s.holdMost t).refs = t.refs := rfl
@[simp] theorem State.holdMost_syn (s t : State) : (s.holdMost t).syn = t.syn := rfl
@[simp] theorem State.holdMost_netA (s t : State) : (s.holdMost t).netA = t.netA := rfl
@[simp] theorem State.holdMost_netB (s t : State) : (s.holdMost t).netB = t.netB := rfl
@[simp] theorem State.holdMost_rsw (s t : State) : (s.holdMost t).rsw = t.rsw := rfl
@[simp] theorem State.holdMost_host (s t : State) : (s.holdMost t).host = t.host := rfl
@[simp] theorem State.holdMost_pnl (s t : State) : (s.holdMost t).pnl = t.pnl := rfl
@[simp] theorem State.holdMost_fab (s t : State) : (s.holdMost t).fab = t.fab := rfl
@[simp] theorem State.holdMost_dsp (s t : State) : (s.holdMost t).dsp = t.dsp := rfl
@[simp] theorem State.holdMost_plat (s t : State) : (s.holdMost t).plat = t.plat := rfl
@[simp] theorem State.holdMost_strm (s t : State) : (s.holdMost t).strm = t.strm := rfl
@[simp] theorem State.holdMost_lap (s t : State) : (s.holdMost t).lap = t.lap := rfl
@[simp] theorem State.holdMost_amp (s t : State) : (s.holdMost t).amp = t.amp := rfl
@[simp] theorem State.holdMost_line (s t : State) : (s.holdMost t).line = t.line := rfl
@[simp] theorem State.holdMost_crown (s t : State) : (s.holdMost t).crown = t.crown := rfl
@[simp] theorem State.holdMost_pair (s t : State) : (s.holdMost t).pair = t.pair := rfl
@[simp] theorem State.holdMost_cerk (s t : State) : (s.holdMost t).cerk = t.cerk := rfl
@[simp] theorem State.holdMost_heldW (s t : State) : (s.holdMost t).heldW = t.heldW := rfl
@[simp] theorem State.holdMost_flash (s t : State) : (s.holdMost t).flash = t.flash := rfl
@[simp] theorem State.holdMost_pending (s t : State) : (s.holdMost t).pending = s.pending := rfl
@[simp] theorem State.holdMost_variant (s t : State) : (s.holdMost t).variant = s.variant := rfl
@[simp] theorem State.holdMost_otp (s t : State) : (s.holdMost t).otp = s.otp := rfl
@[simp] theorem State.holdMost_exch (s t : State) : (s.holdMost t).mem.exch = s.mem.exch := rfl
@[simp] theorem State.holdMost_items (s t : State) : (s.holdMost t).mem.items = t.mem.items := rfl
@[simp] theorem State.holdMost_moving (s t : State) : (s.holdMost t).mem.moving = t.mem.moving := rfl
@[simp] theorem State.holdMost_copied (s t : State) : (s.holdMost t).mem.copied = t.mem.copied := rfl
@[simp] theorem State.holdMost_windows (s t : State) : (s.holdMost t).mem.windows = t.mem.windows := rfl
@[simp] theorem State.holdMost_rd (s t : State) (k : Nat) : (s.holdMost t).rd k = t.rd k := State.rd_of_regs rfl k
@[simp] theorem State.holdMost_get (s t : State) (f : Fld) : (s.holdMost t).get f = t.get f := State.get_of_regs rfl f
@[simp] theorem State.holdMost_on (s t : State) (f : Fld) : (s.holdMost t).on f = t.on f := State.on_of_regs rfl f

/-- A running command answers what its effect leaves. -/
theorem Answers.run {c : Instr} {s : State} {f : State → State} {P : State → Prop} (h : exec c s = s.run f)
    (p : s.powered = true) (q : P (s.holdMost (f s))) : Answers c s P :=
  ⟨_, by rw [h, State.run_on s f p], q⟩

theorem Answers.runF {c : Instr} {s : State} {f : State → State} {P : State → Prop} (h : exec c s = s.runF f)
    (p : s.powered = true) (q : P (s.holdMost (f s).watchFlags)) : Answers c s P :=
  ⟨_, by rw [h, State.runF_on s f p], q⟩

theorem Answers.mono {c : Instr} {s : State} {P Q : State → Prop} (h : Answers c s P) (g : ∀ t, P t → Q t) :
    Answers c s Q := by obtain ⟨t, e, p⟩ := h; exact ⟨t, e, g t p⟩

end Sys2Proof.Machine
end

