-- ==== Sys2Proof/WellFormed.lean ====
section
/-! DEFINITION. Which commands are well formed: the operands that a wider type carries lie within what the rule of the
command's row gives them. Most operands have a type that admits no other value. -/

namespace Sys2Proof

/-- Whether a field of an optional part lies within its bound. -/
def optAll {α : Type} (o : Option α) (p : α → Bool) : Bool := match o with
  | some x => p x
  | none => true

/-- A frame's fields fit their octets (R141, R144): 48-bit addresses, a 3-bit priority and a 12-bit VLAN, a 16-bit EtherType
and body start, 16-bit sequence numbers, and the addresses and port of its datagram. -/
def Frame.wf (f : Frame) : Bool :=
  f.dst < 2 ^ 48 && f.src < 2 ^ 48 && f.etype < 2 ^ 16 && f.sub < 2 ^ 16
    && optAll f.vlan (fun v => v.1 < 8 && v.2 < 4096)
    && optAll f.hsr (· < 2 ^ 16) && optAll f.prp (fun x => x.1 < 2 ^ 16 && x.2 < 16) && optAll f.rtag (· < 2 ^ 16)
    && optAll f.udp (fun u => u.1 < 2 ^ 32 && u.2.1 < 2 ^ 32 && u.2.2 < 2 ^ 16)

/-- A packet's addresses, port, VLAN and sequence number fit their octets, and the packet an IPv4 datagram (R174). -/
def RtpPacket.wf (k : RtpPacket) : Bool :=
  k.src < 2 ^ 32 && k.dst < 2 ^ 32 && k.port < 2 ^ 16 && k.vid < 4096 && optAll k.rtag (· < 2 ^ 16) && k.octets.length ≤ 65507

/-- A whole second brings one measurement and one phase for each of the eight references (R72). -/
def RefEval.wf (e : RefEval) : Bool := e.y1.length = 3 && e.edges.length = 5 && e.phase.length = 8 && e.errors.all (·.1 ≤ 1000000000)

/-- A block of an AES3 receiver brings 24 octets of each kind and subframe (R249). -/
def AesBlock.wf (b : AesBlock) : Bool :=
  b.csA.length = 6 && b.csB.length = 6 && b.userA.length = 6 && b.userB.length = 6

/-- A tick brings samples for four TDM ports, four AES3 receivers and transmitters, eight power-stage channels and two rails at
most, and the cycles of four DSP cores (R11). -/
def TickIn.wf (t : TickIn) : Bool :=
  t.tdm.length ≤ 4 && t.aes.length ≤ 4 && t.aesTx.length ≤ 4 && t.amp.length ≤ 8 && t.rails.length ≤ 2
    && t.cycles.length ≤ 4

/-- Whether a command is well formed. -/
def Instr.wf (i : Instr) : Bool := match i with
  | .tickStart t => t.wf
  | .brimStart b => b.phase.length ≤ 9
  | .refActivityLoss _ l => l.length = 8
  | .refGlitch _ l => l.length = 8
  | .refEvaluation e => e.wf
  | .waitToRestoreExpire _ l => l.length = 8
  | .frameReceive _ f _ => f.wf
  | .nodeAnnounceReceive _ m => m.mac < 2 ^ 48
  | .dupEntryForget _ src => src < 2 ^ 48
  | .streamPacketReceive _ k => k.wf
  | .aes3BlockEnd _ b => b.wf
  | .trigSample l => l.length = 8
  | .laneOscCheck l => l.length = 3
  | .attestComplete a => a.bands.length ≤ 64
  | .modbusRequest m => m.octets.length ≤ 256
  | .hostFrameTransmit _ _ f => f.wf
  | .schedLost | .applyHold _ _ | .applyHoldLimit _ _ | .applyArm _ | .applyDisarm _ | .applyTickWrite _ _
  | .holdLimitExpire | .timeSysLoRead _ | .syncMeasurement _ | .ptpStep | .refQualify _ | .refLock | .refLockLoss
  | .bandwidthStep | .holdoverValidityExpire | .holdoverLearnSample | .holdoverModelSave | .holdoverModelReset _
  | .xoInFail _ | .corePllLock _ | .synOutputStart _ _ | .synLockLoss _ | .synRelock _ | .synStuck _
  | .synRelockCmd _ _ | .synPhaseStep _ _ _ | .synPhaseStepDone _ | .pulseEmit _ | .pulseRealign _ _
  | .linkChange _ _ _ | .frameTransmit _ | .lpiEnter _ | .speedTargetEval _ _ | .speedPendingEnd _
  | .speedRetrainTimeout _ | .speedSettleTimeout _ | .speedSuspendExpire _ | .nodeAnnounceSend | .nodeEntryExpire _
  | .nodeConflictClear | .ringCheckSend | .ringCheckReceive _ | .ringCheckTimeout _ | .ringOriginateResume
  | .frerRecoveryReset _ | .supervisionSend | .mkaHello _ | .mkpduReceive _ _ | .oldSaDelete _ | .mkaPeerLoss _
  | .qbvCycleStart _ | .qbvEntryEnd _ | .pauseReceive _ _ _ | .pauseQuantaExpire _ _ | .pauseWatchdog _ _
  | .pauseHoldoffEnd _ _ | .flowLost _ | .streamPacketRelease _ | .txSchedMiss _ _ | .sealEpochAdvance _
  | .zcTimeout _ _ | .coefSwapCmd _ _ | .coefSwapCancel _ | .coefTickWrite _ _ | .graphSwapArm _ | .graphSwapCancel _
  | .graphTickWrite _ _ | .jobReenable _ _ | .ansWindowEnd _ | .tdmSlaveLocked _ _ | .tdmPrerollEnd _ | .tdmClkLoss _
  | .tdmClkHoldEnd _ | .tdmClkReturn _ _ | .tdmRetrack _ _ | .tdmStopComplete _ | .aes3Lock _ _ | .aes3Unlock _
  | .aes3ValidityMute _ _ | .aes3TxStart _ | .aes3TxStop _ | .ampPrechargeDone _ | .ampCurrentLimit _
  | .ampShortLatch _ _ | .ampEnergyDumpEnd _ | .ampProbeStart _ | .ampProbeEnd _ _ | .ampRetry _ | .ampRetryRestore _
  | .ampDcFault _ | .ampThermalTrip _ _ | .ampRailFault _ _ | .ampRailRestore _ _ | .ampSpareTakeover _
  | .ampSpareSettled | .ampSpareRelease _ | .ampSpareReturn | .ampChannelClear _ _ | .lineRoundStart
  | .lineTestSlotEnd _ | .lineTestNow _ _ | .lineStale _ | .earthFaultMeasure _ | .efLocate _ | .efLocateStepEnd _ _
  | .lineCal _ _ | .lineCalStored _ | .crownLaneCycle _ | .laneRepairDone _ | .alarmStartCmd _ _
  | .contentTurnEnd _ | .liveFallbackReturn | .fallbackClockReturn | .pairStartupDecide _ | .pairClaim
  | .pairLinerClaim | .pairSettleDone | .pairYieldRelease | .pairYieldFail | .standbyRecordSend
  | .standbyRecordReceive _ | .linerLoss | .standbyRecordLoss | .proofSwap _ | .proofEnd _ | .proofWindowEnd
  | .panelByteReceive _ _ | .panelGapClose | .panelRxPop _ | .panelTxWrite _ _ | .panelRxFlush _
  | .panelRxDiscard _ | .panelTxDiscard _ | .powerValid _ | .modeRequest _ _ | .powerDownDone | .wakeRegulatorsReady
  | .wakeBanksZeroed | .vinCtlWarn _ | .vinCtlWarnRestore _ | .vinCtlUndervoltage _ | .vinCtlOvervoltage _
  | .vinCtlRestore _ | .vinCtlLoss _ | .pfwAssert | .pfwRelease | .pfwDelayExpire | .pfwShelterRestore
  | .tempSample _ _ | .moduleThermalShutdown | .thermalRestore | .domainRestart _ _ | .domainRestartReady _
  | .watchdogWarn | .watchdogTimeout | .lockstepMismatch | .fwSwitch _ | .fwSwitchCancel _ | .fwPreloadDone
  | .fwProbationEnd _ | .repairRequest _ _ | .repairCopyDone | .repairMapStored | .orderVerified _ | .orderComplete
  | .allowImageExpire _ _ | .tamperDetect _ | .tamperFlashErased | .perstAssert _ | .ringStart _ _ _ | .ringStop _ _
  | .doorbell _ _ _ _ | .order _ _ _ | .fwImage _ _ _ | .graphImage _ _ _ _ | .msgImage _ _ _ | .msgDelete _ _ | .nop _ _
  | .netrxHoldExpire _ _ | .evtqBufferClose _ _ | .msixModerationEnd _ _ | .dmaError _ _ | .heartbeat _ _
  | .hostLost _ _ | .semaphoreAcquire _ _ _ _ | .semaphoreRelease _ _ _ | .semaphoreForce _ _ | .hostQuotaWrite _ _
  | .msixUnmask _ _ | .scrub _ | .eccWindowEnd _ | .exchangeWrite _ _ _ _ _ _ | .exchangeSet _ _ _ _ _ _
  | .exchangeClear _ _ _ _ _ _ | .queueFlush _ _ | .registerWrite _ _ _ _ _ | .clearOnRead _ _ _ _
  | .blockReset _ _ _ | .idataRead _ _ _ | .idataWrite _ _ _ _ | .idataWriteComplete _ | .unlockKey _ _
  | .unlockExpire _ | .evtRawClear _ _ _ | .eventTest _ _ | .logEntryWrite | .logArchiveAppend | .logFreeze _
  | .logUnfreeze _ | .logClear _ | .ptpMessageSend _ _ | .grandmasterLoss | .tdmRetrackEnd _ _ | .aes3Retrack _ _
  | .aes3RetrackEnd _ _ | .aes3ValidityUnmute _ _ | .panelCharacterSent | .pcieConfigWrite _ _ _ _
  | .pcieLinkUp _ _ _ | .proofPermanentJudge => true

end Sys2Proof
end

