-- ==== Sys2Proof/Tests/Slice0.lean ====
section
/-! SUPPORT. Small tests of one step each: states that meet the statements' conditions, ill-formed commands that the check refuses,
and worked examples of the spec. -/

section

set_option linter.unusedVariables false
set_option Elab.async false

open Sys2Proof Sys2Proof.Machine

/-- A state with some fields written over the reset state. -/
def st (l : List (Fld × Nat)) : State := l.foldl (fun s x => s.put x.1 x.2) State.reset

/-- A state with some fields written over the reset state, an hour on, with the firmware running. -/
def up (l : List (Fld × Nat)) : State :=
  { st l with time := { TimeSt.reset with now := 3600000000000 }, plat := { PlatSt.reset with fwUp := true } }

/-- The words of a receive flow 127 that takes the packets of one address and port: one channel of 24 bits at 48 kHz, one tick a packet. -/
def oneFlow : List (Fld × Nat) :=
  [(Fld.rxState 127, 1), (⟨indKey 0x18 (16 * 127), 31, 0⟩, 0x80000000 + 5004), (⟨indKey 0x18 (16 * 127 + 1), 31, 0⟩, 0xE0000105),
   (⟨indKey 0x18 (16 * 127 + 4), 31, 0⟩, 0x80000000 + 98 * 65536), (Fld.STRM_CFG_LINK_OFF, 4), (Fld.blkEn 0x18, 1)]

def dsc (flags op len : Nat) : Desc :=
  { addr := 0, len := len, spec := 0, flags := flags, cookie := 0, time := 0, done := 0, status := 0, dw7 := BitVec.ofNat 32 op,
    data := [] }

def withRing (s : State) (p : Port) (n ty : Nat) (l : List Desc) : State :=
  (((((s.flag (Fld.HIF_PORT_ST_BME p.num) true).flag (Fld.HIF_R_ST_RUN p.num n) true).flag (Fld.HIF_R_CFG_EN p.num n) true).put
    (Fld.HIF_R_CFG_TYPE p.num n) ty).put (Fld.HIF_R_CFG_SIZE_LOG2 p.num n) 3).setRing p n { Ring.empty with given := l }

def aKey : List Word := keyWords (4 :: beOctets 48 0xEC3A4E415B4E19A4568618029F427FA5DA9A8BC4AE92E02E06AAE5286B300C64DEF8F0EA9055866064A254515480BC13 ++ beOctets 48 0x8015D9B72D7D57244EA8EF9AC0C621896708A59367F9DFB9F54CA84B3F1C9DB1288B231C3AE0D4FE7344FD2533264720)

def sigBlock (signer r s : Nat) : List Nat :=
  beOctets 4 0x4B534947 ++ [1, signer, 0, 0] ++ beOctets 48 r ++ beOctets 48 s

def signedOrder : List Nat := (beOctets 32 0x4B4F524401000000000000000000000000000000000000010000000000000000) ++ sigBlock 1 0xE154EEEEB6B5B8DFD6637E83600656C3CF1DF6CD61A2C0112DDED81248CC318E8A0774AECD15F2D081AE7F5D319314C3 0x4A1B2891B9CB0BF40668CAB66D85657E1B562FE33FBC0ABF0CBF061D6CABABE658A004737BB4D3B3119531F5255B5CFB

def signedFw : List Nat := [0x46, 0x57] ++ sigBlock 0 0x24F17A1C87C83D92B037C69FBC31E6F6CB19501E3887DA9D5F1B83999958C8006180658BD4AD7033BFE2FC368EE390B7 0xC3736024D1B73822115F1F9897BCF0D6C0C5C5F85D8C1E38E74DFFD3E8FD7FABFF6B86ACAA15102964E0F3E36C1977C9

def signedGraph : List Nat := [0x47] ++ sigBlock 1 0x5B61D44FBF5098E2DB6BD63D2E42546AD4634F5101067AB039ACF7D92FDE1F0D2B47AFF1BE225BB2805A9534BAB72AA6 0x483C646C03B92E81114E1AE8D5EF60C5E55451E76B9F31B7A6A10C31EC1CD9A4DF98D072A00038F259B8311A4DFE57AD

def signedMsg : List Nat := (beOctets 72 0x4B4D5347013F000000000002000000000000000000000000000000000000000000000000000000000000000000000000000000000000000000000000000000000000000000018000) ++ sigBlock 1 0x57317766C8E6FF5779BD4573CC89A1C6E89D6B76ABDC57B4EA68FEEEECDA2B6DB30B6CBCA7BB9B232F568C06DD303332 0xF203A3BD0AB076F5508046A27F4348AE8CA7A5C68A2D30D5998922D2D8B29C0CF3C071007A6E9335A745461E9C34982B

def packed (l : List Nat) : List Word := (List.range (l.length / 4 + 1)).map fun i =>
  BitVec.ofNat 32 (l.getD (4 * i) 0 + l.getD (4 * i + 1) 0 * 256 + l.getD (4 * i + 2) 0 * 65536 + l.getD (4 * i + 3) 0 * 16777216)

def cmdDesc (op : Nat) (l : List Nat) : Desc := { dsc 0xE0 op l.length with data := packed l }

def sited (cycle : Nat) (s : State) : State :=
  { s with otp := { OtpSt.blank with cycle := cycle, root := some 0, roots := [(0, aKey)], factory := aKey } }

def anOrder : OrderIn := { orderOf signedOrder with serial := 1 }

def aJob : OrderJob := { port := .b, ring := 63, index := 7, cookie := 9, cpl := 1, order := anOrder }

def signedJob : OrderJob := { aJob with order := orderOf signedOrder }
/-- States and operands that meet the conditions of each clause of TimeAdvances, from clause 1 on. -/
theorem wit_TimeAdvances_a :
    (let s : State := State.reset; let i : TickIn := ⟨[], [], [], [], [], [], false⟩; (s.powered = true) ∧ (s.time.stepped = false) ∧ (s.time.counter.toNat < s.boundary) ∧ (s.boundary < 2 ^ 64))
    ∧ (let s : State := State.reset; let b : BrimIn := ⟨[], [], none, []⟩; (s.powered = true) ∧ (s.time.brim = false))
    ∧ (let s : State := { State.reset with time := { TimeSt.reset with stepDelta := some 37 } }; let d : Int := 37; (s.powered = true) ∧ (s.time.stepDelta = some d) ∧ (s.inAlarm = false) ∧ (s.time.stepped = false))
    ∧ (let s : State := State.reset; let g : Agent := .portB; (s.powered = true)) := by
  decide +kernel

/-- States and operands that meet the conditions of each clause of TimeAdvances, from clause 5 on. -/
theorem wit_TimeAdvances_b :
    (let s : State := { st [(Fld.TIME_PTP_CFG_EN, 1), (Fld.blkEn 0x08, 1)] with time := { TimeSt.reset with validRole := some (1, 1, 0) } }; let m : PtpMeas := ⟨-5, 100, 9, 4, 2, .b, .b, -3⟩; (s.powered = true) ∧ (s.usesMeasurement m = true))
    ∧ (let s : State := { st [(Fld.TIME_PTP_STATUS_GM_PRESENT, 1), (Fld.TIME_PTP_CFG_EN, 1)] with time := { TimeSt.reset with validRole := some (1, 1, 0) } }; (s.powered = true) ∧ (s.ptpRuns = true) ∧ (s.on Fld.TIME_PTP_STATUS_GM_PRESENT = true)) := by
  decide +kernel

/-- States and operands that meet the conditions of each clause of ApplicationControlCompletes, from clause 1 on. -/
theorem wit_ApplicationControlCompletes_a :
    (let s : State := { State.reset with time := { TimeSt.reset with misses := 16 } }; (s.powered = true) ∧ (s.time.misses ≥ 16) ∧ (s.on Fld.CROWN_STATUS_SCHED_LOST = false))
    ∧ (let s : State := State.reset; let hold : Bool := true; (s.powered = true))
    ∧ (let s : State := State.reset; let hold : Bool := true; (s.powered = true))
    ∧ (let s : State := State.reset; let g : Agent := .portA; let limit : BitVec 8 := 3; (s.powered = true)) := by
  decide +kernel

/-- States and operands that meet the conditions of each clause of ApplicationControlCompletes, from clause 5 on. -/
theorem wit_ApplicationControlCompletes_b :
    (let s : State := st [(Fld.TOP_APPLY_TICK_BRIM_TICK, 5)]; let g : Agent := .portA; (s.powered = true) ∧ (s.on Fld.TOP_APPLY_STATUS_ARMED = false) ∧ (s.brimMissed (s.get Fld.TOP_APPLY_TICK_BRIM_TICK) = false))
    ∧ (let s : State := st [(Fld.TOP_APPLY_STATUS_ARMED, 1)]; let g : Agent := .portA; (s.powered = true))
    ∧ (let s : State := State.reset; let g : Agent := .portA; let tick : Word := 9; (s.powered = true) ∧ (s.on Fld.TOP_APPLY_STATUS_ARMED = false))
    ∧ (let s : State := { st [(Fld.TOP_APPLY_CTRL_HOLD_A, 1), (Fld.TOP_APPLY_CTRL_HOLD_LIMIT, 255)] with time := { TimeSt.reset with now := 255000000, holdSince := some 0 } }; (s.powered = true) ∧ (s.held = true) ∧ (s.holdOver = true)) := by
  decide +kernel

/-- States and operands that meet the conditions of each clause of ReferenceQualificationCompletes. -/
theorem wit_ReferenceQualificationCompletes :
    (let s : State := st [(Fld.REFS_CFG_EN 7, 1), (Fld.REFS_ST_QUAL 7, 1)]; let n : Fin 8 := 7; let phase : List Int := []; (s.powered = true) ∧ (((s.refOne n).alive || s.refQual n || s.on (Fld.REFS_ST_QUALIFYING n)) = true) ∧ (s.edgeOverdue n = true) ∧ (s.refUsable n = true))
    ∧ (let s : State := st [(Fld.REFS_CFG_EN 1, 1), (Fld.REFS_CNT_GLITCH 1, 0xFFFF)]; let n : Fin 8 := 1; let phase : List Int := []; (s.powered = true) ∧ (n.val ≠ 0) ∧ ((s.refOne n).glitches = []) ∧ (s.on (Fld.blkFreeze 0x09) = false))
    ∧ (let s : State := { st [(Fld.REFS_CFG_EN 1, 1), (Fld.REFS_ST_QUALIFYING 1, 1)] with time := { TimeSt.reset with now := 300000000000 } }; let n : Fin 8 := 1; (s.powered = true) ∧ (s.refUsable n = true) ∧ (s.on (Fld.REFS_ST_QUALIFYING n) = true) ∧ (s.refQual n = false) ∧ (s.time.now ≥ (s.refOne n).winAt + s.get Fld.REFS_QUAL_QWIN * 1000000000) ∧ ((n.val ≠ 0 ∨ (s.get Fld.TIME_PTP_STATUS_SERVO ≠ servoDisabled ∧ s.get Fld.TIME_PTP_STATUS_SERVO ≠ servoStepPending))))
    ∧ (let s : State := State.reset.setRef 3 { RefOne.reset with wtr := true } |>.put Fld.REFS_SEL_CTRL_WTR_S 0; let n : Fin 8 := 3; let phase : List Int := []; (s.powered = true) ∧ ((s.refOne n).wtr = true) ∧ (s.ran (.wtr n) (s.get Fld.REFS_SEL_CTRL_WTR_S * 1000000000) = true)) := by
  decide +kernel

/-- States and operands that meet the conditions of each clause of ReferenceLoopCompletes. -/
theorem wit_ReferenceLoopCompletes :
    (let s : State := { st [(Fld.REFS_SEL_STATUS_STATE, 1)] with time := { TimeSt.reset with now := 300000000000 }, refs := { RefsSt.reset with nearAt := some 0 } }; (s.powered = true) ∧ (s.get Fld.REFS_SEL_STATUS_STATE = 1) ∧ (s.heldFor s.refs.nearAt = true) ∧ (s.domDown 2 = false))
    ∧ (let s : State := { st [(Fld.REFS_SEL_STATUS_STATE, 2)] with time := { TimeSt.reset with now := 300000000000 }, refs := { RefsSt.reset with farAt := some 0 } }; (s.powered = true) ∧ (s.get Fld.REFS_SEL_STATUS_STATE = 2) ∧ (s.heldFor s.refs.farAt = true))
    ∧ (let s : State := { st [(Fld.REFS_SEL_STATUS_STATE, 2)] with time := { TimeSt.reset with now := 2000000000 } }; (s.powered = true) ∧ (s.get Fld.REFS_SEL_STATUS_STATE = 2) ∧ (s.ran .bandwidth 2000000000 = true))
    ∧ (let s : State := { st [(Fld.REFS_SEL_STATUS_STATE, 3)] with time := { TimeSt.reset with now := 600000000000 } }; (s.powered = true) ∧ (s.get Fld.REFS_SEL_STATUS_STATE = 3) ∧ (s.time.now ≥ s.refs.holdoverSince + s.validMinutes * 60000000000))
    ∧ (let s : State := State.reset; let e : RefEval := ⟨[some 1, some 2, some 3], [none, some (48000, 4000000000), none, none, none], [0, 0, 0, 0, 0, 0, 0, 0], 7, 25, []⟩; (s.powered = true) ∧ (s.domDown 2 = false)) := by
  decide +kernel

/-- States and operands that meet the conditions of each clause of HoldoverModelCompletes. -/
theorem wit_HoldoverModelCompletes :
    (let s : State := { st [(Fld.REFS_SEL_STATUS_STATE, 2), (Fld.REFS_SEL_STATUS_ACT_VALID, 1)] with time := { TimeSt.reset with now := 16000000000 } }; (s.powered = true) ∧ (s.mayLearn = true) ∧ (s.ran .learn 16000000000 = true))
    ∧ (let s : State := { st [(Fld.REFS_SEL_STATUS_STATE, 2), (Fld.REFS_SEL_STATUS_ACT_VALID, 1)] with time := { TimeSt.reset with now := 3600000000000 } }; (s.powered = true) ∧ (s.mayLearn = true) ∧ (s.ran .save 3600000000000 = true))
    ∧ (let s : State := { State.reset with time := { TimeSt.reset with unlockB := true } }; let g : Agent := .portB; (s.powered = true) ∧ (s.unlocked g.who = true))
    ∧ (let s : State := st [(Fld.REFS_OSC_XO_RUN, 1)]; let phase : Int := -12; (s.powered = true) ∧ (s.on Fld.REFS_OSC_XO_RUN = true)) := by
  decide +kernel

/-- States and operands that meet the conditions of each clause of SynthesizersComplete, from clause 1 on. -/
theorem wit_SynthesizersComplete_a :
    (let s : State := ((st [(Fld.blkEn 0x0A, 1)]).wr (indKey 0x0A 62) 0x80000000).wr (indKey 0x0A 63) 0x00FFFFFF; let n : Bool := true; let e : Nat := 31; (s.powered = true) ∧ (s.enabled 0x0A = true) ∧ (s.domDown 2 = false) ∧ ((List.range 32).find? (s.bandMatches (s.get (Fld.cpllVco n))) = some e))
    ∧ (let s : State := { st [(Fld.SYN_CFG_EN 5, 1), (Fld.SYN_CPLL_STATUS_LOCK_M, 1), (Fld.SYN_CPLL_STATUS_LOCK_N, 1)] with time := { TimeSt.reset with now := 2200000 }, syn := { SynSt.reset with start := [none, none, none, none, none, some 0] } }; let n : Fin 6 := 5; (s.powered = true) ∧ (s.mayStartSyn n = true))
    ∧ (let s : State := st [(Fld.SYN_ST_LOCK 0, 1)]; let n : Fin 6 := 0; (s.powered = true) ∧ (s.synRuns n = true))
    ∧ (let s : State := st [(Fld.SYN_CPLL_STATUS_LOCK_M, 1)]; (s.powered = true)) := by
  decide +kernel

/-- States and operands that meet the conditions of each clause of SynthesizersComplete, from clause 5 on. -/
theorem wit_SynthesizersComplete_b :
    (let s : State := st [(Fld.SYN_CPLL_STATUS_LOCK_N, 1)]; (s.powered = true))
    ∧ (let s : State := { st [(Fld.SYN_ST_COASTING 2, 1), (Fld.SYN_CPLL_STATUS_LOCK_M, 1), (Fld.SYN_CPLL_STATUS_LOCK_N, 1)] with time := { TimeSt.reset with now := 1000000 } }; let n : Fin 6 := 2; let ps : Int := -7; (s.powered = true) ∧ (s.on (Fld.SYN_ST_COASTING n) = true) ∧ (s.on (Fld.cpllLock (s.synFromN n)) = true) ∧ (s.domDown 2 = false) ∧ (s.ran (.coast n) 1000000 = true) ∧ (s.syn.absorbed.length = 6))
    ∧ (let s : State := { st [(Fld.SYN_ST_COASTING 4, 1)] with time := { TimeSt.reset with now := 10000000 } }; let n : Fin 6 := 4; (s.powered = true) ∧ (s.on (Fld.SYN_ST_COASTING n) = true) ∧ (s.on (Fld.SYN_ST_STUCK n) = false) ∧ (s.ran (.coast n) 10000000 = true))
    ∧ (let s : State := st [(Fld.SYN_CFG_EN 5, 1), (Fld.SYN_ST_COASTING 5, 1), (Fld.SYN_CPLL_STATUS_LOCK_M, 1)]; let g : Agent := .portA; let mask : BitVec 6 := 0x20; let n : Fin 6 := 5; (s.powered = true) ∧ (mask.getLsbD n = true) ∧ (n.val ≠ 1) ∧ (s.mayLock n = true) ∧ (s.on (Fld.SYN_ST_LOCK n) = false)) := by
  decide +kernel

/-- States and operands that meet the conditions of each clause of PhaseAndPulsesComplete. -/
theorem wit_PhaseAndPulsesComplete :
    (let s : State := State.reset; let g : Agent := .portB; let n : Fin 6 := 4; let ps : BitVec 16 := 0xFFFF; (s.powered = true) ∧ ((n.val = 0 ∨ n.val = 4 ∨ n.val = 5)))
    ∧ (let s : State := st [(Fld.SYN_PHST_BUSY 5, 1), (Fld.SYN_ST_LOCK 5, 1)]; let n : Fin 6 := 5; (s.powered = true) ∧ (s.on (Fld.SYN_PHST_BUSY n) = true) ∧ (s.on (Fld.SYN_ST_LOCK n) = true) ∧ ((s.movePhase n).get (Fld.SYN_PHST_LEFT_PS n) = 0))
    ∧ (let s : State := State.reset.setTrain 2 { PulseTrain.reset with run := true, last := some 5 }; let k : Fin 3 := 2; let l : Int := 5; (s.powered = true) ∧ ((s.train k).run = true) ∧ ((s.train k).due = none) ∧ ((s.train k).last = some l))
    ∧ (let s : State := State.reset.setTrain 2 { PulseTrain.reset with run := true }; let g : Agent := .portA; let mask : BitVec 3 := 4; let k : Fin 3 := 2; (s.powered = true) ∧ ((s.train k).run = true) ∧ (mask.getLsbD k = true)) := by
  decide +kernel

/-- States and operands that meet the conditions of each clause of LinksAndFramesComplete, from clause 1 on. -/
theorem wit_LinksAndFramesComplete_a :
    (let s : State := up [(Fld.TOP_MODE_STATUS_MODE, 3), (Fld.blkEn 0x10, 1), (Fld.blkEn 0x11, 1), (Fld.blkEn 0x12, 1)]; let p : Port := .b; let speed : BitVec 3 := 4; let eee : Bool := true; let lpi : Bool := true; (s.powered = true) ∧ (s.portRuns p = true) ∧ (s.link p = false) ∧ (speed ≠ 0) ∧ (speed.toNat ≤ 4) ∧ ((s.get (Fld.NET_CFG_SERDES p.num) ≠ 1 ∨ speed = 4)) ∧ ((s.net p).speedState ≠ .retrain))
    ∧ (let s : State := up [(Fld.TOP_MODE_STATUS_MODE, 3), (Fld.blkEn 0x10, 1), (Fld.blkEn 0x11, 1), (Fld.blkEn 0x12, 1), (Fld.NET_STATUS_LINK 0, 1), (Fld.NET_STATUS_SPEED 0, 1), (Fld.NET_STATUS_LINK 1, 1), (Fld.NET_STATUS_SPEED 1, 4)]; let p : Port := .a; let eee : Bool := false; let lpi : Bool := false; (s.powered = true) ∧ (s.link p = true) ∧ (((s.net p).inflight.bind (·.host)).all (fun h => h.ring < 64) = true))
    ∧ (let s : State := up [(Fld.TOP_MODE_STATUS_MODE, 3), (Fld.blkEn 0x10, 1), (Fld.blkEn 0x11, 1), (Fld.blkEn 0x12, 1), (Fld.NET_STATUS_LINK 0, 1), (Fld.NET_STATUS_SPEED 0, 1), (Fld.NET_STATUS_LINK 1, 1), (Fld.NET_STATUS_SPEED 1, 4), (Fld.NET_EEE_EN 1, 1), (Fld.NET_STATUS_EEE_ACTIVE 1, 1)]; let p : Port := .b; (s.powered = true) ∧ (s.portRuns p = true) ∧ (s.link p = true) ∧ (s.on (Fld.NET_EEE_EN p.num) = true) ∧ (s.on (Fld.NET_STATUS_EEE_ACTIVE p.num) = true) ∧ (s.on (Fld.NET_STATUS_LPI_TX p.num) = false) ∧ ((s.net p).inflight = none) ∧ ((s.net p).queues.all (fun q => q = []) = true) ∧ (s.time.now ≥ (s.net p).idleAt + max 1 (s.get (Fld.NET_EEE_IDLE_US p.num)) * 1000) ∧ (s.tc5Near p (Config.wakeNs (s.speed p)) = false))
    ∧ (let s : State := up [(Fld.TOP_MODE_STATUS_MODE, 3), (Fld.blkEn 0x10, 1), (Fld.blkEn 0x11, 1), (Fld.blkEn 0x12, 1), (Fld.NET_STATUS_LINK 0, 1), (Fld.NET_STATUS_SPEED 0, 1), (Fld.NET_STATUS_LINK 1, 1), (Fld.NET_STATUS_SPEED 1, 4), (Fld.RSW_CFG_TOPO, 3), (Fld.NET_MAXFRAME_MAX 0, 1522)]; let p : Port := .a; let f : Frame := { dst := 2, src := 5, vlan := none, etype := 0x0800, sub := 0, len := 64, hsr := none, prp := none, rtag := none, udp := none, corr := none, body := [] }; let m : RxMark := { fcsOk := true, poisoned := false, linkLost := false, sec := none }; (s.powered = true) ∧ (s.portRuns p = true) ∧ (s.link p = true) ∧ (s.secyDrop p f m = none) ∧ (s.rxFault p f m = .none) ∧ (m.sec = none) ∧ (s.on (Fld.SECY_CFG_EN p.num) = false) ∧ (s.topo = topoSingle) ∧ (linkLocal f = false) ∧ (f.dst ≠ s.mac) ∧ (isGroup f.dst = false) ∧ (s.on (Fld.blkFreeze (0x10 + p.num)) = false)) := by
  decide +kernel

/-- States and operands that meet the conditions of each clause of LinksAndFramesComplete, from clause 5 on. -/
theorem wit_LinksAndFramesComplete_b :
    (let s : State := up [(Fld.TOP_MODE_STATUS_MODE, 3), (Fld.blkEn 0x10, 1), (Fld.blkEn 0x11, 1), (Fld.blkEn 0x12, 1), (Fld.NET_STATUS_LINK 0, 1), (Fld.NET_STATUS_SPEED 0, 1), (Fld.NET_STATUS_LINK 1, 1), (Fld.NET_STATUS_SPEED 1, 4), (Fld.RSW_CFG_TOPO, 0), (Fld.NET_MAXFRAME_MAX 1, 1522)]; let p : Port := .b; let f : Frame := { dst := 2, src := 0, vlan := none, etype := 0x0800, sub := 0, len := 64, hsr := some 7, prp := none, rtag := none, udp := none, corr := none, body := [] }; let m : RxMark := { fcsOk := true, poisoned := false, linkLost := false, sec := none }; (s.powered = true) ∧ (s.portRuns p = true) ∧ (s.link p = true) ∧ (s.secyDrop p f m = none) ∧ (s.topo = topoHsr) ∧ (linkLocal f = false) ∧ (f.src = s.mac) ∧ (s.rxFault p f m = .none) ∧ (m.sec = none) ∧ (s.on (Fld.SECY_CFG_EN p.num) = false) ∧ (s.on (Fld.blkFreeze 0x12) = false))
    ∧ (let s : State := up [(Fld.TOP_MODE_STATUS_MODE, 3), (Fld.blkEn 0x10, 1), (Fld.blkEn 0x11, 1), (Fld.blkEn 0x12, 1), (Fld.NET_STATUS_LINK 0, 1), (Fld.NET_STATUS_SPEED 0, 1), (Fld.NET_STATUS_LINK 1, 1), (Fld.NET_STATUS_SPEED 1, 4), (Fld.RSW_CFG_TOPO, 3), (Fld.NET_MAXFRAME_MAX 0, 1522)]; let p : Port := .a; let f : Frame := { dst := 0, src := 5, vlan := none, etype := 0x88F7, sub := 0, len := 64, hsr := none, prp := none, rtag := none, udp := none, corr := none, body := [] }; let m : RxMark := { fcsOk := true, poisoned := false, linkLost := false, sec := none }; (s.powered = true) ∧ (s.portRuns p = true) ∧ (s.link p = true) ∧ (s.secyDrop p f m = none) ∧ (s.rxFault p f m = .none) ∧ (m.sec = none) ∧ (s.on (Fld.SECY_CFG_EN p.num) = false) ∧ (s.topo = topoSingle) ∧ (s.forLocal f = true) ∧ (mgmtClaims f = true) ∧ (s.streamClaims f = false) ∧ (f.etype ≠ 0x8808) ∧ (s.grantAll 16 (cellsFor f.len) true = true))
    ∧ (let s : State := (up [(Fld.TOP_MODE_STATUS_MODE, 3), (Fld.blkEn 0x10, 1), (Fld.blkEn 0x11, 1), (Fld.blkEn 0x12, 1), (Fld.NET_STATUS_LINK 0, 1), (Fld.NET_STATUS_SPEED 0, 1), (Fld.NET_STATUS_LINK 1, 1), (Fld.NET_STATUS_SPEED 1, 4)]).queueFrame .a { cls := 6, frame := { dst := 2, src := 5, vlan := none, etype := 0x0800, sub := 0, len := 64, hsr := none, prp := none, rtag := none, udp := none, corr := none, body := [] }, mgmtStamp := false, host := none, item := none, poison := false, flow := none, rx := none, start := 0 }; let p : Port := .a; let c : Nat := 6; let x : TxFrame := { cls := 6, frame := { dst := 2, src := 5, vlan := none, etype := 0x0800, sub := 0, len := 64, hsr := none, prp := none, rtag := none, udp := none, corr := none, body := [] }, mgmtStamp := false, host := none, item := none, poison := false, flow := none, rx := none, start := 0 }; (s.powered = true) ∧ (s.portRuns p = true) ∧ (s.link p = true) ∧ ((s.net p).inflight = none) ∧ ((s.accrueAll p).awake p = true) ∧ ((s.accrueAll p).selectClass p = some (c, x)) ∧ (s.secyBlocks p x.frame = false)) := by
  decide +kernel

/-- States and operands that meet the conditions of each clause of SpeedChangesComplete, from clause 1 on. -/
theorem wit_SpeedChangesComplete_a :
    (let s : State := { (up [(Fld.TOP_MODE_STATUS_MODE, 3), (Fld.blkEn 0x10, 1), (Fld.blkEn 0x11, 1), (Fld.blkEn 0x12, 1), (Fld.NET_STATUS_LINK 0, 1), (Fld.NET_STATUS_SPEED 0, 1), (Fld.NET_STATUS_LINK 1, 1), (Fld.NET_STATUS_SPEED 1, 4), (Fld.RSW_CFG_TOPO, 0), (Fld.RSW_RING_ST_CLOSED, 1), (Fld.NET_CFG_AUTO_SPEED 0, 1), (Fld.NET_CFG_SERDES 0, 0), (Fld.NET_CFG_SPEED_ALLOW 0, 0), (Fld.NET_STATUS_SPEED 0, 4), (Fld.NET_SPD_UP_PCT 0, 80), (Fld.NET_SPD_DOWN_PCT 0, 30)]) with time := { TimeSt.reset with now := 20000000000 } }; let p : Port := .a; let target : BitVec 3 := 1; (s.powered = true) ∧ (target.toNat = s.targetSpeed p) ∧ (s.mgmtRuns = true) ∧ (s.portRuns p = true) ∧ (s.link p = true) ∧ (s.time.now ≥ (s.net p).loadAt + 1000000000) ∧ ((s.net p).speedState = .steady) ∧ (s.speedGuards p = true) ∧ (s.nodesWhere (·.getLsbD 28) = 0) ∧ (((s.net p).narrowed = true ∨ ∀ c : Fin 4, (s.net p).advert.testBit c = true → c.val + 1 ≤ s.speed p)) ∧ (s.targetSpeed p ≠ s.speed p))
    ∧ (let s : State := { (up [(Fld.TOP_MODE_STATUS_MODE, 3), (Fld.blkEn 0x10, 1), (Fld.blkEn 0x11, 1), (Fld.blkEn 0x12, 1), (Fld.NET_STATUS_LINK 0, 1), (Fld.NET_STATUS_SPEED 0, 1), (Fld.NET_STATUS_LINK 1, 1), (Fld.NET_STATUS_SPEED 1, 4), (Fld.NET_STATUS_SPEED 0, 4), (Fld.NET_SPD_UP_PCT 0, 80), (Fld.NET_SPD_DOWN_PCT 0, 30)]) with time := { TimeSt.reset with now := 20000000000 } }; let p : Port := .a; let target : BitVec 3 := 1; (s.powered = true) ∧ (target.toNat = s.targetSpeed p) ∧ (s.mgmtRuns = true) ∧ (s.portRuns p = true) ∧ (s.link p = true) ∧ (s.time.now ≥ (s.net p).loadAt + 1000000000) ∧ ((s.net p).speedState = .steady) ∧ ((s.speedGuards p = false ∨ s.nodesWhere (·.getLsbD 28) ≠ 0 ∨ s.targetSpeed p = s.speed p)))
    ∧ (let s : State := { ({ (up [(Fld.TOP_MODE_STATUS_MODE, 3), (Fld.blkEn 0x10, 1), (Fld.blkEn 0x11, 1), (Fld.blkEn 0x12, 1), (Fld.NET_STATUS_LINK 0, 1), (Fld.NET_STATUS_SPEED 0, 1), (Fld.NET_STATUS_LINK 1, 1), (Fld.NET_STATUS_SPEED 1, 4)]) with time := { TimeSt.reset with now := 20000000000 } }) with netA := { NetOne.reset with speedState := .pending, target := 3 } }; let p : Port := .a; (s.powered = true) ∧ ((s.net p).speedState = .pending) ∧ (s.ran (.speed p) 2000000000 = true) ∧ (s.speedGuards p = false))
    ∧ (let s : State := { ({ (up [(Fld.TOP_MODE_STATUS_MODE, 3), (Fld.blkEn 0x10, 1), (Fld.blkEn 0x11, 1), (Fld.blkEn 0x12, 1), (Fld.NET_STATUS_LINK 0, 1), (Fld.NET_STATUS_SPEED 0, 1), (Fld.NET_STATUS_LINK 1, 1), (Fld.NET_STATUS_SPEED 1, 4), (Fld.RSW_CFG_TOPO, 0), (Fld.RSW_RING_ST_CLOSED, 1), (Fld.NET_CFG_AUTO_SPEED 0, 1), (Fld.NET_CFG_SERDES 0, 0), (Fld.NET_CFG_SPEED_ALLOW 0, 0)]) with time := { TimeSt.reset with now := 20000000000 } }) with netA := { NetOne.reset with speedState := .pending, target := 3 } }; let p : Port := .a; (s.powered = true) ∧ ((s.net p).speedState = .pending) ∧ (s.ran (.speed p) 2000000000 = true) ∧ (s.speedGuards p = true)) := by
  decide +kernel

/-- States and operands that meet the conditions of each clause of SpeedChangesComplete, from clause 5 on. -/
theorem wit_SpeedChangesComplete_b :
    (let s : State := { (up []) with netA := { NetOne.reset with speedState := .retrain } }; let p : Port := .a; (s.powered = true) ∧ ((s.net p).speedState = .retrain) ∧ (s.ran (.speed p) 10000000000 = true))
    ∧ (let s : State := { (up []) with netA := { NetOne.reset with speedState := .settle } }; let p : Port := .a; (s.powered = true) ∧ ((s.net p).speedState = .settle) ∧ (s.ran (.speed p) 10000000000 = true))
    ∧ (let s : State := { (up []) with netA := { NetOne.reset with suspended := true } }; let p : Port := .a; (s.powered = true) ∧ (s.ran (.suspend p) 3600000000000 = true)) := by
  decide +kernel

/-- States and operands that meet the conditions of each clause of NodesComplete, from clause 1 on. -/
theorem wit_NodesComplete_a :
    (let s : State := up [(Fld.TOP_MODE_STATUS_MODE, 3), (Fld.blkEn 0x10, 1), (Fld.blkEn 0x11, 1), (Fld.blkEn 0x12, 1), (Fld.NET_STATUS_LINK 0, 1), (Fld.NET_STATUS_SPEED 0, 1), (Fld.NET_STATUS_LINK 1, 1), (Fld.NET_STATUS_SPEED 1, 4), (Fld.RSW_NODE_VALID, 1), (Fld.RSW_CFG_TOPO, 2)]; (s.powered = true) ∧ (s.mgmtRuns = true) ∧ (s.ran .announce 1000000000 = true) ∧ (s.nodeValid = true) ∧ (s.rsw.sentCounts.length = 3) ∧ (s.mayOriginate = true))
    ∧ (let s : State := up [(Fld.TOP_MODE_STATUS_MODE, 3), (Fld.blkEn 0x10, 1), (Fld.blkEn 0x11, 1), (Fld.blkEn 0x12, 1), (Fld.NET_STATUS_LINK 0, 1), (Fld.NET_STATUS_SPEED 0, 1), (Fld.NET_STATUS_LINK 1, 1), (Fld.NET_STATUS_SPEED 1, 4)]; let p : Port := .b; let m : Announce := ⟨0xFFF, 0x123456789ABC, true, false, false, 9, 1⟩; (s.powered = true) ∧ (s.mgmtRuns = true) ∧ (s.portRuns p = true) ∧ (m.mac ≠ s.mac) ∧ ((s.nodeValid && decide (m.node.toNat = s.get Fld.RSW_NODE_NODE)) = false) ∧ ((s.rd (nodeKey m.node.toNat + 1)).getLsbD 31 = false))
    ∧ (let s : State := up [(Fld.TOP_MODE_STATUS_MODE, 3), (Fld.blkEn 0x10, 1), (Fld.blkEn 0x11, 1), (Fld.blkEn 0x12, 1), (Fld.NET_STATUS_LINK 0, 1), (Fld.NET_STATUS_SPEED 0, 1), (Fld.NET_STATUS_LINK 1, 1), (Fld.NET_STATUS_SPEED 1, 4), (Fld.RSW_NODE_VALID, 1), (Fld.RSW_NODE_NODE, 5)]; let p : Port := .a; let m : Announce := ⟨5, 0x123456789ABC, false, false, false, 9, 1⟩; (s.powered = true) ∧ (s.mgmtRuns = true) ∧ (s.portRuns p = true) ∧ (m.mac ≠ s.mac) ∧ (s.nodeValid = true) ∧ (m.node.toNat = s.get Fld.RSW_NODE_NODE))
    ∧ (let s : State := up []; let n : BitVec 12 := 0xFFF; (s.powered = true) ∧ (s.ran (.node n.toNat) 3000000000 = true)) := by
  decide +kernel

/-- States and operands that meet the conditions of each clause of NodesComplete, from clause 5 on. -/
theorem wit_NodesComplete_b :
    (let s : State := up [(Fld.RSW_NODE_ST_CONFLICT, 1)]; (s.powered = true) ∧ (s.on Fld.RSW_NODE_ST_CONFLICT = true) ∧ (s.ran .conflict 3000000000 = true))
    ∧ (let s : State := { up [(Fld.TOP_MODE_STATUS_MODE, 3), (Fld.blkEn 0x10, 1), (Fld.blkEn 0x11, 1), (Fld.blkEn 0x12, 1), (Fld.NET_STATUS_LINK 0, 1), (Fld.NET_STATUS_SPEED 0, 1), (Fld.NET_STATUS_LINK 1, 1), (Fld.NET_STATUS_SPEED 1, 4), (Fld.RSW_CFG_TOPO, 0)] with rsw := { RswSt.reset with originate := true, hsrSeq := 65535 } }; (s.powered = true) ∧ (s.mgmtRuns = true) ∧ (s.topo = topoHsr) ∧ (s.rsw.originate = true) ∧ (s.ran .supervision 2000000000 = true)) := by
  decide +kernel

/-- States and operands that meet the conditions of each clause of RingSupervisionCompletes, from clause 1 on. -/
theorem wit_RingSupervisionCompletes_a :
    (let s : State := { up [(Fld.TOP_MODE_STATUS_MODE, 3), (Fld.blkEn 0x10, 1), (Fld.blkEn 0x11, 1), (Fld.blkEn 0x12, 1), (Fld.NET_STATUS_LINK 0, 1), (Fld.NET_STATUS_SPEED 0, 1), (Fld.NET_STATUS_LINK 1, 1), (Fld.NET_STATUS_SPEED 1, 4), (Fld.RSW_CFG_TOPO, 0)] with rsw := { RswSt.reset with originate := true } }; (s.powered = true) ∧ (s.mgmtRuns = true) ∧ (s.topo = topoHsr) ∧ (s.rsw.sentCounts.length = 3) ∧ (s.mayOriginate = true) ∧ (s.ran .ringCheck s.checkNs = true))
    ∧ (let s : State := { up [(Fld.TOP_MODE_STATUS_MODE, 3), (Fld.blkEn 0x10, 1), (Fld.blkEn 0x11, 1), (Fld.blkEn 0x12, 1), (Fld.NET_STATUS_LINK 0, 1), (Fld.NET_STATUS_SPEED 0, 1), (Fld.NET_STATUS_LINK 1, 1), (Fld.NET_STATUS_SPEED 1, 4), (Fld.RSW_CFG_TOPO, 0)] with rsw := { RswSt.reset with checks := [⟨7, 3600000000000, .waiting, .waiting⟩] } }; let p : Port := .a; let count : BitVec 32 := 7; (s.powered = true) ∧ (s.mgmtRuns = true) ∧ (s.topo = topoHsr) ∧ (s.link p = true))
    ∧ (let s : State := { up [(Fld.TOP_MODE_STATUS_MODE, 3), (Fld.blkEn 0x10, 1), (Fld.blkEn 0x11, 1), (Fld.blkEn 0x12, 1), (Fld.NET_STATUS_LINK 0, 1), (Fld.NET_STATUS_SPEED 0, 1), (Fld.NET_STATUS_LINK 1, 1), (Fld.NET_STATUS_SPEED 1, 4), (Fld.RSW_CFG_TOPO, 0)] with rsw := { RswSt.reset with checks := [⟨9, 3600000000000, .returned, .waiting⟩, ⟨8, 0, .returned, .returned⟩, ⟨7, 0, .returned, .returned⟩] } }; let p : Port := .b; let count : BitVec 32 := 9; (s.powered = true) ∧ (s.mgmtRuns = true) ∧ (s.topo = topoHsr) ∧ (s.link .a = true) ∧ (s.link .b = true) ∧ (s.on Fld.RSW_RING_ST_CLOSED = false) ∧ (threeChecks (fun c => c.a = .returned && c.b = .returned) ((s.rsw.checks.map fun c => if c.count = count.toNat && c.copy p = .waiting && s.time.now ≤ c.sentAt + s.checkNs then c.setCopy p .returned else c)) = true))
    ∧ (let s : State := { up [(Fld.TOP_MODE_STATUS_MODE, 3), (Fld.blkEn 0x10, 1), (Fld.blkEn 0x11, 1), (Fld.blkEn 0x12, 1), (Fld.NET_STATUS_LINK 0, 1), (Fld.NET_STATUS_SPEED 0, 1), (Fld.NET_STATUS_LINK 1, 1), (Fld.NET_STATUS_SPEED 1, 4), (Fld.RSW_CFG_TOPO, 0), (Fld.RSW_RING_ST_CLOSED, 1)] with rsw := { RswSt.reset with checks := [⟨9, 0, .returned, .waiting⟩, ⟨8, 0, .returned, .missed⟩, ⟨7, 0, .returned, .missed⟩] } }; let p : Port := .b; (s.powered = true) ∧ (s.mgmtRuns = true) ∧ (s.topo = topoHsr) ∧ (threeChecks (fun c => c.copy p = .missed) ((s.rsw.checks.map fun c => if c.copy p = .waiting && s.time.now ≥ c.sentAt + s.checkNs then c.setCopy p .missed else c)) = true)) := by
  decide +kernel

/-- States and operands that meet the conditions of each clause of RingSupervisionCompletes, from clause 5 on. -/
theorem wit_RingSupervisionCompletes_b :
    (let s : State := { up [(Fld.TOP_MODE_STATUS_MODE, 3), (Fld.blkEn 0x10, 1), (Fld.blkEn 0x11, 1), (Fld.blkEn 0x12, 1), (Fld.NET_STATUS_LINK 0, 1), (Fld.NET_STATUS_SPEED 0, 1), (Fld.NET_STATUS_LINK 1, 1), (Fld.NET_STATUS_SPEED 1, 4), (Fld.RSW_CFG_TOPO, 0), (Fld.RSW_RING_ST_CLOSED, 1)] with rsw := { RswSt.reset with checks := [⟨9, 0, .waiting, .returned⟩] } }; let p : Port := .a; (s.powered = true) ∧ (s.mgmtRuns = true) ∧ (s.topo = topoHsr) ∧ (threeChecks (fun c => c.copy p = .missed) ((s.rsw.checks.map fun c => if c.copy p = .waiting && s.time.now ≥ c.sentAt + s.checkNs then c.setCopy p .missed else c)) = false))
    ∧ (let s : State := State.reset; let n : Fin 3 := 2; let src : Nat := 0x00AABBCCDDEE; (s.powered = true))
    ∧ (let s : State := { up [] with rsw := { RswSt.reset with originate := false, hsrSeq := 9 } }; (s.powered = true) ∧ (s.domDown 0 = false) ∧ (s.rsw.originate = false) ∧ (s.ran .originate s.forgetNs = true))
    ∧ (let s : State := { up [] with rsw := { RswSt.reset with frer := [(127, ⟨127, 0, 1, 0⟩)] } }; let flow : Fin 128 := 127; (s.powered = true) ∧ (s.rsw.frer.any (fun x => x.1 = flow.val && s.time.now ≥ x.2.used + s.get Fld.RSW_FRER_CFG_RESET_MS * 1000000) = true)) := by
  decide +kernel

/-- States and operands that meet the conditions of each clause of MkaCompletes, from clause 1 on. -/
theorem wit_MkaCompletes_a :
    (let s : State := up [(Fld.TOP_MODE_STATUS_MODE, 3), (Fld.blkEn 0x10, 1), (Fld.blkEn 0x11, 1), (Fld.blkEn 0x12, 1), (Fld.NET_STATUS_LINK 0, 1), (Fld.NET_STATUS_SPEED 0, 1), (Fld.NET_STATUS_LINK 1, 1), (Fld.NET_STATUS_SPEED 1, 4), (Fld.SECY_CFG_EN 1, 1)]; let p : Port := .b; (s.powered = true) ∧ (s.mgmtRuns = true) ∧ (s.on (Fld.SECY_CFG_EN p.num) = true) ∧ (s.ran (.hello p) 2000000000 = true) ∧ ((s.net p).queues.length = 8) ∧ ((s.net p).offered = none) ∧ (s.sakDue p = false) ∧ (s.admitQueues (cellsFor 64) [17, egressQueue p 6] = [17, egressQueue p 6]))
    ∧ (let s : State := { up [(Fld.TOP_MODE_STATUS_MODE, 3), (Fld.blkEn 0x10, 1), (Fld.blkEn 0x11, 1), (Fld.blkEn 0x12, 1), (Fld.NET_STATUS_LINK 0, 1), (Fld.NET_STATUS_SPEED 0, 1), (Fld.NET_STATUS_LINK 1, 1), (Fld.NET_STATUS_SPEED 1, 4), (Fld.SECY_CFG_EN 1, 1), (Fld.cakHeld 1, 1), (Fld.SECY_ST_LIVE 1, 1), (Fld.SECY_ST_TX_AN 1, 3)] with netB := { NetOne.reset with server := true } }; let p : Port := .b; (s.powered = true) ∧ (s.mgmtRuns = true) ∧ (s.on (Fld.SECY_CFG_EN p.num) = true) ∧ (s.ran (.hello p) 2000000000 = true) ∧ (s.sakDue p = true) ∧ ((s.net p).rxPn.length = 4))
    ∧ (let s : State := up [(Fld.TOP_MODE_STATUS_MODE, 3), (Fld.blkEn 0x10, 1), (Fld.blkEn 0x11, 1), (Fld.blkEn 0x12, 1), (Fld.NET_STATUS_LINK 0, 1), (Fld.NET_STATUS_SPEED 0, 1), (Fld.NET_STATUS_LINK 1, 1), (Fld.NET_STATUS_SPEED 1, 4), (Fld.SECY_CFG_EN 1, 1), (Fld.cakHeld 1, 1)]; let p : Port := .b; let m : Mkpdu := ⟨true, false, some (3, BitVec.ofNat 320 (keyWrap (State.reset.kek .b) 5)), none, (beOctets 16 (cmac (State.reset.ick .b) [])).map (BitVec.ofNat 8)⟩; let an : Fin 4 := 3; let w : BitVec 320 := BitVec.ofNat 320 (keyWrap (State.reset.kek .b) 5); let sak : Nat := 5; (s.powered = true) ∧ (s.mgmtRuns = true) ∧ (s.portRuns p = true) ∧ (s.on (Fld.SECY_CFG_EN p.num) = true) ∧ (s.mkaKeys p = true) ∧ (s.icvOk p m = true) ∧ (m.install = some (an, w)) ∧ (keyUnwrap (s.kek p) w.toNat = some sak) ∧ ((s.net p).rxPn.length = 4) ∧ ((s.net p).saks.length = 4))
    ∧ (let s : State := up [(Fld.TOP_MODE_STATUS_MODE, 3), (Fld.blkEn 0x10, 1), (Fld.blkEn 0x11, 1), (Fld.blkEn 0x12, 1), (Fld.NET_STATUS_LINK 0, 1), (Fld.NET_STATUS_SPEED 0, 1), (Fld.NET_STATUS_LINK 1, 1), (Fld.NET_STATUS_SPEED 1, 4), (Fld.SECY_CFG_EN 0, 1), (Fld.cakHeld 0, 1), (Fld.SECY_ST_RX_AN_VALID 0, 8)]; let p : Port := .a; let m : Mkpdu := ⟨true, false, none, some 3, (beOctets 16 (cmac (State.reset.ick .a) [])).map (BitVec.ofNat 8)⟩; let an : Fin 4 := 3; (s.powered = true) ∧ (s.mgmtRuns = true) ∧ (s.portRuns p = true) ∧ (s.on (Fld.SECY_CFG_EN p.num) = true) ∧ (s.mkaKeys p = true) ∧ (s.icvOk p m = true) ∧ (m.confirm = some an) ∧ ((s.get (Fld.SECY_ST_RX_AN_VALID p.num)).testBit an.val = true) ∧ ((s.on (Fld.SECY_ST_TX_KEYED p.num) = false ∨ s.get (Fld.SECY_ST_TX_AN p.num) ≠ an.val)) ∧ ((s.net p).txPn.length = 4)) := by
  decide +kernel

/-- States and operands that meet the conditions of each clause of MkaCompletes, from clause 5 on. -/
theorem wit_MkaCompletes_b :
    (let s : State := up [(Fld.TOP_MODE_STATUS_MODE, 3), (Fld.blkEn 0x10, 1), (Fld.blkEn 0x11, 1), (Fld.blkEn 0x12, 1), (Fld.NET_STATUS_LINK 0, 1), (Fld.NET_STATUS_SPEED 0, 1), (Fld.NET_STATUS_LINK 1, 1), (Fld.NET_STATUS_SPEED 1, 4), (Fld.SECY_CFG_EN 0, 1), (Fld.cakHeld 0, 1), (Fld.SECY_ST_RX_AN_VALID 0, 8), (Fld.SECY_ST_TX_KEYED 0, 1), (Fld.SECY_ST_TX_AN 0, 3)]; let p : Port := .a; let m : Mkpdu := ⟨true, false, none, some 3, (beOctets 16 (cmac (State.reset.ick .a) [])).map (BitVec.ofNat 8)⟩; let an : Fin 4 := 3; (s.powered = true) ∧ (s.mgmtRuns = true) ∧ (s.portRuns p = true) ∧ (s.on (Fld.SECY_CFG_EN p.num) = true) ∧ (s.on (Fld.cakHeld p.num) = true) ∧ (s.icvOk p m = true) ∧ (m.confirm = some an) ∧ (s.on (Fld.SECY_ST_TX_KEYED p.num) = true) ∧ (s.get (Fld.SECY_ST_TX_AN p.num) = an.val))
    ∧ (let s : State := { (up [(Fld.SECY_ST_RX_AN_VALID 0, 9)]) with netA := { NetOne.reset with oldAns := [(3, 0), (1, 3600000000000)] } }; let p : Port := .a; let a : Nat := 3; let u : Nat := 0; (s.powered = true) ∧ ((s.net p).oldAns.contains (a, u) = true) ∧ (a < 4) ∧ (s.time.now ≥ u + 2000000000))
    ∧ (let s : State := up [(Fld.SECY_ST_LIVE 1, 1)]; let p : Port := .b; (s.powered = true) ∧ (s.ran (.peer p) 6000000000 = true)) := by
  decide +kernel

/-- States and operands that meet the conditions of each clause of GatesAndPauseComplete, from clause 1 on. -/
theorem wit_GatesAndPauseComplete_a :
    (let s : State := st [(Fld.RSW_QBV_CFG_EN_B, 1), (Fld.RSW_QBV_CFG_BANK_B, 1)]; let p : Port := .b; (s.powered = true) ∧ (s.qbvEn p = true) ∧ (s.time.tick.toNat % 2 ^ s.qbvCyc p = 0) ∧ (s.time.counter = s.time.tickStart))
    ∧ (let s : State := { (st [(Fld.RSW_QBV_CFG_EN_A, 1)]) with netA := { NetOne.reset with gate := some (15, 0) } }; let p : Port := .a; let e : Nat := 15; let at0 : Nat := 0; (s.powered = true) ∧ (s.qbvEn p = true) ∧ ((s.net p).gate = some (e, at0)) ∧ (s.time.now ≥ at0 + s.gateDur p (s.gateBank p) e))
    ∧ (let s : State := up [(Fld.TOP_MODE_STATUS_MODE, 3), (Fld.blkEn 0x10, 1), (Fld.blkEn 0x11, 1), (Fld.blkEn 0x12, 1), (Fld.NET_STATUS_LINK 0, 1), (Fld.NET_STATUS_SPEED 0, 1), (Fld.NET_STATUS_LINK 1, 1), (Fld.NET_STATUS_SPEED 1, 4), (Fld.NET_CFG_PAUSE_EN 1, 1)]; let p : Port := .b; let quanta : BitVec 16 := 0xFFFF; let c : Fin 7 := 6; (s.powered = true) ∧ (s.portRuns p = true) ∧ (s.link p = true) ∧ (s.on (Fld.NET_CFG_PAUSE_EN p.num) = true) ∧ (s.holdoff p c.val = false))
    ∧ (let s : State := up [(Fld.TOP_MODE_STATUS_MODE, 3), (Fld.blkEn 0x10, 1), (Fld.blkEn 0x11, 1), (Fld.blkEn 0x12, 1), (Fld.NET_STATUS_LINK 0, 1), (Fld.NET_STATUS_SPEED 0, 1), (Fld.NET_STATUS_LINK 1, 1), (Fld.NET_STATUS_SPEED 1, 4), (Fld.NET_CFG_PFC_EN 0, 0x7F)]; let p : Port := .a; let pr : BitVec 3 := 7; let quanta : BitVec 16 := 1; (s.powered = true) ∧ (s.portRuns p = true) ∧ (s.link p = true) ∧ ((s.get (Fld.NET_CFG_PFC_EN p.num)).testBit (s.pcpClass pr.toNat) = true) ∧ (s.holdoff p (s.pcpClass pr.toNat) = false)) := by
  decide +kernel

/-- States and operands that meet the conditions of each clause of GatesAndPauseComplete, from clause 5 on. -/
theorem wit_GatesAndPauseComplete_b :
    (let s : State := st [(pausedBit .b 6, 1)]; let p : Port := .b; let c : Fin 7 := 6; (s.powered = true) ∧ (s.ran (.pause p c.val) 0 = true))
    ∧ (let s : State := up [(pausedBit .b 6, 1), (Fld.NET_PWD_WD 1, 65535)]; let p : Port := .b; let c : Fin 7 := 6; (s.powered = true) ∧ (s.paused p c.val = true) ∧ (s.ran (.watch p c.val) (max 1 (s.get (Fld.NET_PWD_WD p.num)) * 500000) = true))
    ∧ (let s : State := up [(holdoffBit .b 0, 1)]; let p : Port := .b; let c : Fin 7 := 0; (s.powered = true) ∧ (s.ran (.holdoff p c.val) 100000000 = true))
    ∧ (let s : State := { up [(Fld.TOP_MODE_STATUS_MODE, 3), (Fld.blkEn 0x10, 1), (Fld.blkEn 0x11, 1), (Fld.blkEn 0x12, 1), (Fld.NET_STATUS_LINK 0, 1), (Fld.NET_STATUS_SPEED 0, 1), (Fld.NET_STATUS_LINK 1, 1), (Fld.NET_STATUS_SPEED 1, 4), (Fld.TIME_PTP_CFG_SLAVE_ONLY, 0), (Fld.TIME_PTP_CFG_EN, 1)] with time := { TimeSt.reset with now := 1000000000, validRole := some (0, 0, 0) } }; let p : Port := .a; (s.powered = true) ∧ (s.mgmtRuns = true) ∧ (s.ptpRuns = true) ∧ (s.portRuns p = true) ∧ (s.link p = true) ∧ (s.mayMaster = true) ∧ (s.on Fld.TIME_PTP_STATUS_GM_PRESENT = false) ∧ (s.ran (.ptp .sync p) s.syncNs = true)) := by
  decide +kernel

/-- States and operands that meet the conditions of each clause of GatesAndPauseComplete, from clause 9 on. -/
theorem wit_GatesAndPauseComplete_c :
    (let s : State := { up [(Fld.TOP_MODE_STATUS_MODE, 3), (Fld.blkEn 0x10, 1), (Fld.blkEn 0x11, 1), (Fld.blkEn 0x12, 1), (Fld.NET_STATUS_LINK 0, 1), (Fld.NET_STATUS_SPEED 0, 1), (Fld.NET_STATUS_LINK 1, 1), (Fld.NET_STATUS_SPEED 1, 4), (Fld.TIME_PTP_CFG_EN, 1)] with time := { TimeSt.reset with now := 1000000000, validRole := some (2, 0, 1) } }; let k : PtpKind := .pdelayResp; let p : Port := .b; (s.powered = true) ∧ (s.mgmtRuns = true) ∧ (s.ptpRuns = true) ∧ (s.portRuns p = true) ∧ (s.link p = true) ∧ ((masterKind k = false ∨ s.mayMaster = true)) ∧ (s.delayKind k = true) ∧ (k ≠ .sync)) := by
  decide +kernel

/-- States and operands that meet the conditions of each clause of StreamsComplete, from clause 1 on. -/
theorem wit_StreamsComplete_a :
    (let s : State := st ([(Fld.TOP_MODE_STATUS_MODE, 3), (Fld.blkEn 0x10, 1), (Fld.blkEn 0x11, 1), (Fld.blkEn 0x12, 1), (Fld.NET_STATUS_LINK 0, 1), (Fld.NET_STATUS_SPEED 0, 1), (Fld.NET_STATUS_LINK 1, 1), (Fld.NET_STATUS_SPEED 1, 4)] ++ oneFlow); let p : Port := .a; let k : RtpPacket := { src := 1, dst := 0xE0000105, port := 5004, vid := 0, rtag := none, octets := [0x80, 98, 0xFF, 0xFF, 0, 0, 0, 6, 0, 0, 0, 9] ++ List.replicate 18 0xFF }; let f : Fin 128 := 127; (s.powered = true) ∧ (s.strmRuns = true) ∧ (s.portRuns p = true) ∧ ((((List.range 128).filter fun g => s.rxFlowLive g && s.rxNames g k).find? (s.rxPasses · k)) = some f.val) ∧ (k.rtag = none) ∧ (pktHeaderOk k = true) ∧ ((pktPayload k).length = payloadLen (s.rxW f.val 0)) ∧ (flowSeal (s.rxW f.val 0) = false) ∧ (s.on (Fld.blkFreeze 0x18) = false))
    ∧ (let s : State := st ([(Fld.TOP_MODE_STATUS_MODE, 3), (Fld.blkEn 0x10, 1), (Fld.blkEn 0x11, 1), (Fld.blkEn 0x12, 1), (Fld.NET_STATUS_LINK 0, 1), (Fld.NET_STATUS_SPEED 0, 1), (Fld.NET_STATUS_LINK 1, 1), (Fld.NET_STATUS_SPEED 1, 4)] ++ oneFlow); let p : Port := .a; let k : RtpPacket := { src := 1, dst := 0xE0000105, port := 5004, vid := 0, rtag := none, octets := [0x80, 98, 0xFF, 0xFF, 0, 0, 0, 6, 0, 0, 0, 9] ++ List.replicate 18 0xFF }; let f : Fin 128 := 127; (s.powered = true) ∧ (s.strmRuns = true) ∧ (s.portRuns p = true) ∧ ((((List.range 128).filter fun g => s.rxFlowLive g && s.rxNames g k).find? (s.rxPasses · k)) = some f.val) ∧ (k.rtag = none) ∧ (pktHeaderOk k = true) ∧ ((pktPayload k).length = payloadLen (s.rxW f.val 0)) ∧ (flowSeal (s.rxW f.val 0) = false) ∧ (flowP (s.rxW f.val 0) = 1) ∧ ((s.rxFlow f.val).buf = []) ∧ (2 - (s.linkOff : Int) < tickDiff (s.mediaTick (flowK (s.rxW f.val 0)) (s.rxW f.val 5).toNat (pktTs k)) s.time.tick.toNat) ∧ (tickDiff (s.mediaTick (flowK (s.rxW f.val 0)) (s.rxW f.val 5).toNat (pktTs k)) s.time.tick.toNat ≤ 64 - (s.linkOff : Int)))
    ∧ (let s : State := (st [(Fld.rxState 127, 2), (Fld.STRM_CFG_LOST_TICKS, 3)]).setRx 127 { RxFlow.reset with gap := 3 }; let f : Fin 128 := 127; (s.powered = true) ∧ ((s.rxSt f.val = 1 ∨ s.rxSt f.val = 2)) ∧ ((s.rxFlow f.val).gap ≥ s.lostTicks))
    ∧ (let s : State := st [(Fld.sealSent 15, 2 ^ 20), (Fld.sealEpoch 15, 255)]; let g : Fin 16 := 15; (s.powered = true) ∧ (s.sealDue g.val = true)) := by
  decide +kernel

/-- States and operands that meet the conditions of each clause of StreamsComplete, from clause 5 on. -/
theorem wit_StreamsComplete_b :
    (let s : State := { (st []).setTx 127 { TxFlow.reset with closed := [(3, { dst := 2, src := 0, vlan := none, etype := 0x0800, sub := 0x4500, len := 80, hsr := none, prp := none, rtag := none, udp := none, corr := none, body := [] })] } with time := { TimeSt.reset with tick := 4 } }; let f : Fin 128 := 127; let m : Nat := 3; let fr : Frame := { dst := 2, src := 0, vlan := none, etype := 0x0800, sub := 0x4500, len := 80, hsr := none, prp := none, rtag := none, udp := none, corr := none, body := [] }; let rest : List (Nat × Frame) := []; (s.powered = true) ∧ ((s.txFlow f.val).closed = (m, fr) :: rest) ∧ (s.releaseDue f.val m = true))
    ∧ (let s : State := { (st [(Fld.RSW_CFG_TOPO, 3)]).setTx 0 { TxFlow.reset with closed := [(3, { dst := 2, src := 0, vlan := none, etype := 0x0800, sub := 0x4500, len := 80, hsr := none, prp := none, rtag := none, udp := none, corr := none, body := [] })] } with time := { TimeSt.reset with tick := 4 } }; let f : Fin 128 := 0; let m : Nat := 3; let fr : Frame := { dst := 2, src := 0, vlan := none, etype := 0x0800, sub := 0x4500, len := 80, hsr := none, prp := none, rtag := none, udp := none, corr := none, body := [] }; let rest : List (Nat × Frame) := []; (s.powered = true) ∧ ((s.txFlow f.val).closed = (m, fr) :: rest) ∧ (s.releaseDue f.val m = true) ∧ (s.txSt f.val ≠ 2) ∧ (s.topo = topoSingle) ∧ ((s.net .a).queues.length = 8) ∧ (s.admitQueues (cellsFor fr.len) [egressQueue .a 5] = [egressQueue .a 5]))
    ∧ (let s : State := { (st [(Fld.txState 0, 2)]).setTx 0 { TxFlow.reset with closed := [(3, { dst := 2, src := 0, vlan := none, etype := 0x0800, sub := 0x4500, len := 80, hsr := none, prp := none, rtag := none, udp := none, corr := none, body := [] })] } with time := { TimeSt.reset with tick := 4 } }; let f : Fin 128 := 0; let m : Nat := 3; let fr : Frame := { dst := 2, src := 0, vlan := none, etype := 0x0800, sub := 0x4500, len := 80, hsr := none, prp := none, rtag := none, udp := none, corr := none, body := [] }; let rest : List (Nat × Frame) := []; (s.powered = true) ∧ ((s.txFlow f.val).closed = (m, fr) :: rest) ∧ (s.releaseDue f.val m = true) ∧ (s.txSt f.val = 2) ∧ (s.on (Fld.blkFreeze 0x18) = false))
    ∧ (let s : State := { (st []).queueFrame .b { cls := 5, frame := { dst := 2, src := 0, vlan := none, etype := 0x0800, sub := 0x4500, len := 80, hsr := none, prp := none, rtag := none, udp := none, corr := none, body := [] }, mgmtStamp := false, host := none, item := none, poison := false, flow := some (7, 0), rx := none, start := 0 } with time := { TimeSt.reset with now := 125000 } }; let p : Port := .b; let f : Fin 128 := 7; let x : TxFrame := { cls := 5, frame := { dst := 2, src := 0, vlan := none, etype := 0x0800, sub := 0x4500, len := 80, hsr := none, prp := none, rtag := none, udp := none, corr := none, body := [] }, mgmtStamp := false, host := none, item := none, poison := false, flow := some (7, 0), rx := none, start := 0 }; let r : Nat := 0; (s.powered = true) ∧ (((s.net p).queue 5).find? (ofFlow f.val) = some x) ∧ (x.flow = some (f.val, r)) ∧ (s.time.now ≥ r + 125000) ∧ (x.host = none) ∧ (s.on (Fld.blkFreeze 0x18) = false)) := by
  decide +kernel

/-- States and operands that meet the conditions of each clause of GateAndJobsComplete. -/
theorem wit_GateAndJobsComplete :
    (let s : State := { st [(Fld.FAB_CFG_ZC_TIMEOUT, 8)] with fab := { FabSt.reset with conns := [{ owner := some 1, inp := 511, out := 0, st := .closing, ramp := ⟨0, 0, 0, 0⟩, gain := 0x3F800000, code := 0, age := 64 }] } }; let i : Fin 512 := 511; let o : Fin 512 := 0; let c : Conn := { owner := some 1, inp := 511, out := 0, st := .closing, ramp := ⟨0, 0, 0, 0⟩, gain := 0x3F800000, code := 0, age := 64 }; (s.powered = true) ∧ (s.fab.conns.find? (fun x => x.inp = i.val && x.out = o.val && s.overdue x) = some c))
    ∧ (let s : State := { st [(Fld.TOP_MODE_STATUS_MODE, 3), (Fld.blkEn 0x21, 1)] with dsp := { DspSt.reset with bank0 := some ⟨{ header := true, rate := 0, jobs := [⟨false, 0⟩], insts := [⟨6, 0, 0, 12, 0, 0, []⟩], params := List.replicate 12 0 }, List.replicate 12 0, List.replicate 12 0, [], []⟩, insts := [{ hist := [], nums := [0, 0, 0, 0, 0, 5, 6, 48000, 0], outp := [] }], jobs := [{ disabled := true, consec := 3, cross := false, rampIn := false, ran := false }] } }; let g : Agent := .portA; let job : BitVec 8 := 0; let im : GImage := { header := true, rate := 0, jobs := [⟨false, 0⟩], insts := [⟨6, 0, 0, 12, 0, 0, []⟩], params := List.replicate 12 0 }; let x : JobSt := ⟨true, 3, false, false, false⟩; (s.powered = true) ∧ (s.image = some im) ∧ (s.dsp.jobs[job.toNat]? = some x) ∧ (x.disabled = true))
    ∧ (let s : State := { st [(Fld.TOP_MODE_STATUS_MODE, 3), (Fld.blkEn 0x21, 1)] with dsp := { DspSt.reset with bank0 := some ⟨{ header := true, rate := 0, jobs := [⟨false, 0⟩], insts := [⟨6, 0, 0, 12, 0, 0, []⟩], params := List.replicate 12 0 }, List.replicate 12 0, List.replicate 12 0, [], []⟩, insts := [{ hist := [], nums := [0, 0, 0, 0, 0, 5, 6, 48000, 0], outp := [] }], jobs := [{ disabled := true, consec := 3, cross := false, rampIn := false, ran := false }] } }; let inst : Fin 2048 := 0; let b : GBank := ⟨{ header := true, rate := 0, jobs := [⟨false, 0⟩], insts := [⟨6, 0, 0, 12, 0, 0, []⟩], params := List.replicate 12 0 }, List.replicate 12 0, List.replicate 12 0, [], []⟩; let i : GInst := ⟨6, 0, 0, 12, 0, 0, []⟩; let x : InstSt := { hist := [], nums := [0, 0, 0, 0, 0, 5, 6, 48000, 0], outp := [] }; (s.powered = true) ∧ (s.actBank = some b) ∧ (s.dsp.insts[inst.val]? = some x) ∧ (b.img.insts[inst.val]? = some i) ∧ (i.ty = 6) ∧ (x.nums ≠ []) ∧ (s.ansWindow ((b.act.drop i.base).take i.size) ≤ (x.nums.getD 7 0).toNat) ∧ (s.graphRuns = true)) := by
  decide +kernel

/-- States and operands that meet the conditions of each clause of SwapsComplete, from clause 1 on. -/
theorem wit_SwapsComplete_a :
    (let s : State := st [(Fld.DSP_COEF_TICK_BRIM_TICK, 1)]; let g : Agent := .portB; let atTick : Bool := true; (s.powered = true) ∧ (s.on Fld.DSP_STATUS_COEF_ARMED = false) ∧ ((s.inAlarm = false ∨ s.dirtyAlarm = false)))
    ∧ (let s : State := st [(Fld.DSP_STATUS_COEF_ARMED, 1)]; let g : Agent := .mgmt; (s.powered = true))
    ∧ (let s : State := State.reset; let g : Agent := .portA; let tick : Word := 0xFFFFFFFF; (s.powered = true) ∧ (s.on Fld.DSP_STATUS_COEF_ARMED = false))
    ∧ (let s : State := st [(Fld.DSP_STATUS_IDLE_VALID, 1), (Fld.DSP_GRAPH_TICK_BRIM_TICK, 1)]; let g : Agent := .portB; (s.powered = true) ∧ (s.on Fld.DSP_STATUS_GRAPH_ARMED = false) ∧ (s.inAlarm = false) ∧ (s.on Fld.DSP_STATUS_IDLE_VALID = true) ∧ (s.brimMissed (s.get Fld.DSP_GRAPH_TICK_BRIM_TICK) = false)) := by
  decide +kernel

/-- States and operands that meet the conditions of each clause of SwapsComplete, from clause 5 on. -/
theorem wit_SwapsComplete_b :
    (let s : State := st [(Fld.DSP_STATUS_GRAPH_ARMED, 1)]; let g : Agent := .portA; (s.powered = true))
    ∧ (let s : State := State.reset; let g : Agent := .portA; let tick : Word := 0xFFFFFFFF; (s.powered = true) ∧ (s.on Fld.DSP_STATUS_GRAPH_ARMED = false)) := by
  decide +kernel

/-- States and operands that meet the conditions of each clause of TdmPortsComplete, from clause 1 on. -/
theorem wit_TdmPortsComplete_a :
    (let s : State := (st [(Fld.blkEn 0x28, 1), (Fld.LAP_TDM_ST_STATE 3, 1), (Fld.LAP_TDM_CFG_MASTER 3, 0), (Fld.LAP_TDM_CFG_ASYNC 3, 0)]).setTdm 3 { TdmPort.reset with bits := some 256 }; let p : Fin 4 := 3; let rate : Nat := 47995200; (s.powered = true) ∧ (s.lapRuns = true) ∧ (s.tdmSt p = 1) ∧ (s.tdmMaster p = false) ∧ (s.tdmAsync p = false) ∧ (s.tdmCompat p = false) ∧ (withinPpm rate s.fsMilli 100 = true) ∧ ((s.tdm p).bits.isSome = true) ∧ (s.lap.tdm.length = 4))
    ∧ (let s : State := (st [(Fld.blkEn 0x28, 1), (Fld.LAP_TDM_ST_STATE 3, 1), (Fld.LAP_TDM_CFG_MASTER 3, 0), (Fld.LAP_TDM_CFG_ASYNC 3, 1)]).setTdm 3 { TdmPort.reset with bits := some 256 }; let p : Fin 4 := 3; let rate : Nat := 32000000; (s.powered = true) ∧ (s.lapRuns = true) ∧ (s.tdmSt p = 1) ∧ (s.tdmMaster p = false) ∧ (s.tdmAsync p = true) ∧ (s.tdmCompat p = false) ∧ (portRate rate = true) ∧ ((s.tdm p).bits.isSome = true) ∧ (s.lap.tdm.length = 4))
    ∧ (let s : State := (st [(Fld.blkEn 0x28, 1), (Fld.LAP_TDM_ST_STATE 0, 1), (Fld.LAP_TDM_CFG_MASTER 0, 0), (Fld.LAP_TDM_CFG_ASYNC 0, 0)]).setTdm 0 { TdmPort.reset with bits := some 64 }; let p : Fin 4 := 0; let rate : Nat := 47995199; (s.powered = true) ∧ (s.lapRuns = true) ∧ (s.tdmSt p = 1) ∧ (s.tdmMaster p = false) ∧ (s.tdmAsync p = false) ∧ (withinPpm rate s.fsMilli 100 = false) ∧ ((s.tdm p).bits.isSome = true))
    ∧ (let s : State := ((up [(Fld.LAP_TDM_ST_STATE 3, 1), (Fld.LAP_TDM_CFG_MASTER 3, 1), (Fld.LAP_TDM_CFG_COMPAT 3, 1)]).setTdm 3 { TdmPort.reset with since := some 0 }); let p : Fin 4 := 3; (s.powered = true) ∧ (s.tdmSt p = 1) ∧ (s.tdmCompat p = true) ∧ (s.tdmRate p ≠ 0) ∧ (s.prerolled p = true) ∧ (s.lap.tdm.length = 4)) := by
  decide +kernel

/-- States and operands that meet the conditions of each clause of TdmPortsComplete, from clause 5 on. -/
theorem wit_TdmPortsComplete_b :
    (let s : State := st [(Fld.LAP_TDM_ST_STATE 0, 2), (Fld.LAP_TDM_CFG_MASTER 0, 0)]; let p : Fin 4 := 0; (s.powered = true) ∧ (s.tdmSt p = 2) ∧ (s.tdmMaster p = false) ∧ (s.lap.tdm.length = 4))
    ∧ (let s : State := (st [(Fld.LAP_TDM_ST_STATE 1, 3)]).setTdm 1 { TdmPort.reset with hold := true }; let p : Fin 4 := 1; (s.powered = true) ∧ (s.tdmSt p = 3) ∧ ((s.tdm p).hold = true) ∧ (s.held1ms p = true) ∧ (s.lap.tdm.length = 4))
    ∧ (let s : State := (st [(Fld.LAP_TDM_ST_STATE 2, 3)]).setTdm 2 { TdmPort.reset with hold := true, rate := 48000000, since := some 0 }; let p : Fin 4 := 2; let rate : Nat := 48009600; (s.powered = true) ∧ (s.tdmSt p = 3))
    ∧ (let s : State := (st [(Fld.LAP_TDM_ST_STATE 2, 2), (Fld.LAP_TDM_CFG_MASTER 2, 0)]).setTdm 2 { TdmPort.reset with rate := 48000000 }; let p : Fin 4 := 2; let rate : Nat := 48048001; (s.powered = true) ∧ (s.tdmSt p = 2) ∧ (s.tdmMaster p = false) ∧ ((withinPpm rate (s.tdm p).rate 1000 = false ∨ s.misframed p = true ∨ (s.tdmAsync p = false ∧ withinPpm rate s.fsMilli 100 = false))) ∧ (s.lap.tdm.length = 4)) := by
  decide +kernel

/-- States and operands that meet the conditions of each clause of TdmPortsComplete, from clause 9 on. -/
theorem wit_TdmPortsComplete_c :
    (let s : State := st [(Fld.blkEn 0x28, 1), (Fld.LAP_TDM_ST_STATE 0, 4), (Fld.LAP_TDM_CFG_ASYNC 0, 0)]; let p : Fin 4 := 0; let rate : Nat := 48004800; (s.powered = true) ∧ (s.lapRuns = true) ∧ (s.tdmSt p = 4) ∧ ((if s.tdmAsync p = true then 32000000 ≤ rate ∧ rate ≤ 192000000 else withinPpm rate s.fsMilli 100 = true)) ∧ (s.lap.tdm.length = 4))
    ∧ (let s : State := st [(Fld.LAP_TDM_ST_STATE 3, 5)]; let p : Fin 4 := 3; (s.powered = true) ∧ (s.tdmSt p = 5) ∧ (s.tdmStopped p = true) ∧ (s.lap.tdm.length = 4)) := by
  decide +kernel

/-- States and operands that meet the conditions of each clause of Aes3PortsComplete, from clause 1 on. -/
theorem wit_Aes3PortsComplete_a :
    (let s : State := (st [(Fld.blkEn 0x28, 1), (Fld.LAP_AESR_CFG_SYNC 3, 1)]).setAes 3 { AesRx.reset with on := true }; let r : Fin 4 := 3; let rate : Nat := 44100000; (s.powered = true) ∧ (s.lapRuns = true) ∧ ((s.aes r).on = true) ∧ (portRate rate = true) ∧ (s.on (Fld.LAP_AESR_ST_LOCK r) = false) ∧ ((s.on (Fld.LAP_AESR_CFG_SYNC r) = true ∨ (s.aes r).asrc = true)) ∧ (s.lap.aes.length = 4))
    ∧ (let s : State := st [(Fld.LAP_AESR_ST_LOCK 0, 1)]; let r : Fin 4 := 0; (s.powered = true) ∧ (s.on (Fld.LAP_AESR_ST_LOCK r) = true) ∧ (s.lap.aes.length = 4) ∧ (s.on (Fld.blkFreeze 0x28) = false))
    ∧ (let s : State := (st [(Fld.LAP_AESR_ST_LOCK 1, 1)]).setAes 1 { AesRx.reset with rate := 48000000 }; let r : Fin 4 := 1; let rate : Nat := 48048001; (s.powered = true) ∧ (s.on (Fld.LAP_AESR_ST_LOCK r) = true) ∧ (s.on (Fld.LAP_AESR_ST_RETRACK r) = false) ∧ (withinPpm rate (s.aes r).rate 1000 = false) ∧ (s.lap.aes.length = 4))
    ∧ (let s : State := st [(Fld.LAP_AESR_ST_RETRACK 2, 1), (Fld.LAP_AESR_CFG_SYNC 2, 0)]; let r : Fin 4 := 2; let rate : Nat := 32000000; (s.powered = true) ∧ (s.on (Fld.LAP_AESR_ST_RETRACK r) = true) ∧ ((s.on (Fld.LAP_AESR_CFG_SYNC r) = false ∨ withinPpm rate s.fsMilli 100 = true)) ∧ (s.lap.aes.length = 4)) := by
  decide +kernel

/-- States and operands that meet the conditions of each clause of Aes3PortsComplete, from clause 5 on. -/
theorem wit_Aes3PortsComplete_b :
    (let s : State := (st [(Fld.LAP_AESR_ST_LOCK 3, 1), (Fld.LAP_AESR_CFG_VMUTE 3, 1)]).setAes 3 { AesRx.reset with vOne := [0, 8] }; let r : Fin 4 := 3; let c : Fin 2 := 1; (s.powered = true) ∧ (s.on (Fld.LAP_AESR_ST_LOCK r) = true) ∧ (s.on (Fld.LAP_AESR_CFG_VMUTE r) = true) ∧ (s.on (Fld.vmuted r c) = false) ∧ (8 ≤ (s.aes r).vOne.getD c.val 0))
    ∧ (let s : State := (st [(Fld.vmuted 0 0, 1)]).setAes 0 { AesRx.reset with vZero := [192, 0] }; let r : Fin 4 := 0; let c : Fin 2 := 0; (s.powered = true) ∧ (s.on (Fld.vmuted r c) = true) ∧ (192 ≤ (s.aes r).vZero.getD c.val 0))
    ∧ (let s : State := st [(Fld.blkEn 0x08, 1), (Fld.LAP_AESR_ST_LOCK 3, 1), (Fld.LAP_AESR_ST_BLK_SEQ 3, 255)]; let r : Fin 4 := 3; let b : AesBlock := ⟨[1, 0, 0, 0, 0, 0], [1, 0, 0, 0, 0, 0], [0, 0, 0, 0, 0, 0], [0, 0, 0, 0, 0, 0], true⟩; (s.powered = true) ∧ (s.on (Fld.LAP_AESR_ST_LOCK r) = true))
    ∧ (let s : State := st [(Fld.TOP_MODE_STATUS_MODE, 3), (Fld.blkEn 0x28, 1), (Fld.LAP_AEST_CFG_EN 3, 1)]; let n : Fin 4 := 3; (s.powered = true) ∧ (s.lapRuns = true) ∧ (s.audioOn = true) ∧ (s.aesTxOn n = true) ∧ (s.on (Fld.LAP_AEST_ST_RUN n) = false) ∧ (s.time.tick.toNat % s.blockTicks = 0) ∧ (s.pulseBefore 2 ≥ s.lap.beganNow) ∧ (s.on (Fld.PULSE_ST_REALIGN_PEND 2) = false) ∧ (s.lap.tx.length = 4)) := by
  decide +kernel

/-- States and operands that meet the conditions of each clause of Aes3PortsComplete, from clause 9 on. -/
theorem wit_Aes3PortsComplete_c :
    (let s : State := st [(Fld.LAP_AEST_ST_RUN 0, 1)]; let n : Fin 4 := 0; (s.powered = true) ∧ (s.on (Fld.LAP_AEST_ST_RUN n) = true) ∧ (s.aesTxOn n = false) ∧ ((s.aesTx n).words = [])) := by
  decide +kernel

/-- States and operands that meet the conditions of each clause of ChannelsSwitch. -/
theorem wit_ChannelsSwitch :
    (let s : State := { (up [(Fld.TOP_MODE_STATUS_MODE, 3), (Fld.blkEn 0x30, 1), (Fld.AMP_CH_ST_STATE 7, 1)]) with amp := { AmpSt.reset with fallback := true, crownPlay := 0x80 } }; let c : Fin 8 := 7; (s.powered = true) ∧ (s.ampSt (s.ampGov c.val) = 1) ∧ (s.ampKeeps (s.ampGov c.val) = true) ∧ (s.modClock = true) ∧ (s.time.now ≥ (s.amp1 (s.ampGov c.val)).startedAt + (s.amp1 (s.ampGov c.val)).precharge))
    ∧ (let s : State := { (st [(Fld.TOP_MODE_STATUS_MODE, 3), (Fld.blkEn 0x30, 1), (Fld.AMP_CH_ST_STATE 3, 4), (Fld.AMP_CH_ST_RETRIES 3, 1)]) with amp := { AmpSt.reset with fallback := true, crownPlay := 8, ch := List.replicate 8 { AmpCh.reset with due := some 0 } } }; let c : Fin 8 := 3; let d : Nat := 0; (s.powered = true) ∧ (s.ampSt (s.ampGov c.val) = 4) ∧ ((s.amp1 (s.ampGov c.val)).due = some d) ∧ (s.time.now ≥ d) ∧ (s.get (Fld.AMP_CH_ST_RETRIES (s.ampGov c.val)) ≠ 0) ∧ ((s.amp1 (s.ampGov c.val)).probing = false) ∧ ((s.amp1 (s.ampGov c.val)).dump = false) ∧ (s.ampMayStart (s.ampGov c.val) = true))
    ∧ (let s : State := { (st [(Fld.AMP_CH_ST_STATE 0, 2)]).setAmp 0 { AmpCh.reset with since := some 0 } with time := { TimeSt.reset with now := 60000000000 } }; let c : Fin 8 := 0; let t0 : Nat := 0; (s.powered = true) ∧ ((s.ampSt (s.ampGov c.val) = 2 ∨ s.ampSt (s.ampGov c.val) = 3)) ∧ ((s.amp1 (s.ampGov c.val)).since = some t0) ∧ (s.time.now ≥ t0 + 60000000000))
    ∧ (let s : State := st [(Fld.AMP_CH_ST_STATE 7, 7)]; let g : Agent := .portB; let mask : BitVec 8 := 0x80; let c : Fin 8 := 7; (s.powered = true) ∧ (s.isP8 = true) ∧ (mask.getLsbD c = true) ∧ (s.ampGov c.val = c.val) ∧ ((s.ampSt c = 4 ∨ s.ampSt c = 5 ∨ s.ampSt c = 7)) ∧ (s.on (Fld.AMP_CH_ST_SPARED c) = false) ∧ (s.amp.ch.length = 8)) := by
  decide +kernel

/-- States and operands that meet the conditions of each clause of ChannelsProtect, from clause 1 on. -/
theorem wit_ChannelsProtect_a :
    (let s : State := st [(Fld.AMP_CH_ST_STATE 7, 2)]; let y : SwitchCurrent := ⟨7, 100000⟩; (s.powered = true) ∧ (s.ampSwitches y.c.val = true) ∧ (10 * y.mA ≥ 9 * s.ilimMa y.c.val) ∧ (s.amp.ch.length = 8))
    ∧ (let s : State := st [(Fld.AMP_CFG_PAR, 1), (Fld.AMP_CH_ST_STATE 0, 3), (Fld.AMP_CH_CFG_EN 0, 1)]; let c : Fin 8 := 1; let l : List SwitchPeriod := List.replicate 16 ⟨true, 100000, false⟩; let bridge : Bool := true; (s.powered = true) ∧ ((s.ampSt (s.ampGov c.val) = 2 ∨ s.ampSt (s.ampGov c.val) = 3)) ∧ (s.on (Fld.AMP_CH_CFG_EN (s.ampGov c.val)) = true) ∧ (s.amp.ch.length = 8) ∧ (latchCause (s.ilimMa c.val) l = some bridge))
    ∧ (let s : State := (up []).setAmp 5 { AmpCh.reset with dump := true }; let c : Fin 8 := 5; (s.powered = true) ∧ ((s.amp1 (s.ampGov c.val)).dump = true) ∧ ((s.amp1 (s.ampGov c.val)).latchAt + 10000 ≤ s.time.now))
    ∧ (let s : State := (st [(Fld.AMP_CH_ST_STATE 2, 2), (Fld.AMP_CH_CFG_EN 2, 1)]).setAmp 2 { AmpCh.reset with dcLast := -9000000000 }; let c : Fin 8 := 2; (s.powered = true) ∧ ((s.ampSt (s.ampGov c.val) = 2 ∨ s.ampSt (s.ampGov c.val) = 3)) ∧ (s.on (Fld.AMP_CH_CFG_EN (s.ampGov c.val)) = true) ∧ ((s.dcOver c.val = true ∨ s.dcOver (s.ampGov c.val) = true))) := by
  decide +kernel

/-- States and operands that meet the conditions of each clause of ChannelsProtect, from clause 5 on. -/
theorem wit_ChannelsProtect_b :
    (let s : State := st [(Fld.AMP_CH_ST_STATE 7, 5)]; let c : Fin 8 := 7; let tj : Int := 135; (s.powered = true) ∧ (s.isP8 = true) ∧ (tj ≥ 135) ∧ (1 ≤ s.ampSt (s.ampGov c.val)) ∧ (s.ampSt (s.ampGov c.val) ≤ 5))
    ∧ (let s : State := st [(Fld.AMP_CH_ST_STATE 4, 3)]; let rail : Fin 2 := 1; let x : RailOut := ⟨6201, 10000⟩; let c : Fin 8 := 4; (s.powered = true) ∧ (s.isP8 = true) ∧ (s.amp.railBad.length = 2) ∧ (s.amp.railBad.getD rail.val false = false) ∧ (x.ns ≥ 10000) ∧ ((x.v.toNat < 850 ∨ x.v.toNat > 6200)) ∧ (railOf c = rail.val) ∧ (s.ampGov c.val = c.val) ∧ (1 ≤ s.ampSt c) ∧ (s.ampSt c ≤ 3))
    ∧ (let s : State := { (up []) with amp := { AmpSt.reset with railBad := [true, false], railGood := [some 0, none] } }; let rail : Fin 2 := 0; let v : BitVec 16 := 900; (s.powered = true) ∧ (s.amp.railBad.length = 2) ∧ (s.amp.railBad.getD rail.val false = true) ∧ (900 ≤ v.toNat) ∧ (v.toNat ≤ 6100) ∧ (s.railSettled rail.val = true)) := by
  decide +kernel

/-- States and operands that meet the conditions of each clause of ProbesAndSpareComplete, from clause 1 on. -/
theorem wit_ProbesAndSpareComplete_a :
    (let s : State := { { (st [(Fld.TOP_MODE_STATUS_MODE, 3), (Fld.blkEn 0x30, 1), (Fld.AMP_CH_ST_STATE 3, 4)]) with amp := { AmpSt.reset with fallback := true, crownPlay := 8, ch := List.replicate 8 { AmpCh.reset with probing := true } } } with time := { TimeSt.reset with now := 1000000000 } }; let c : Fin 8 := 3; (s.powered = true) ∧ (s.ampSt (s.ampGov c.val) = 4) ∧ ((s.amp1 (s.ampGov c.val)).probing = true) ∧ ((s.amp1 (s.ampGov c.val)).dump = false) ∧ (s.ampMayStart (s.ampGov c.val) = true) ∧ (s.time.now ≥ (s.amp1 (s.ampGov c.val)).latchAt + 1000000000))
    ∧ (let s : State := up [(Fld.AMP_CH_ST_STATE 0, 5)]; let c : Fin 8 := 0; (s.powered = true) ∧ (s.ampSt (s.ampGov c.val) = 5) ∧ ((s.amp1 (s.ampGov c.val)).probeAt + 200000000 ≤ s.time.now) ∧ (s.amp.ch.length = 8))
    ∧ (let s : State := st [(Fld.TOP_MODE_STATUS_MODE, 4), (Fld.blkEn 0x31, 1), (Fld.AMP_CH_ST_STATE 7, 5)]; let c : Fin 8 := 7; let mA : Nat := 6001; (s.powered = true) ∧ (s.ampSt (s.ampGov c.val) = 5) ∧ (s.amp.ch.length = 8) ∧ (6000 < mA) ∧ (s.lineRuns = true))
    ∧ (let s : State := up [(Fld.TOP_MODE_STATUS_MODE, 4), (Fld.blkEn 0x31, 1), (Fld.AMP_CH_ST_STATE 7, 5)]; let c : Fin 8 := 7; let m : Demod := ⟨300000, 400000, 1000000, 0, 0, 0⟩; (s.powered = true) ∧ (s.ampSt (s.ampGov c.val) = 5) ∧ (s.lineRuns = true) ∧ ((s.amp1 (s.ampGov c.val)).probeAt + (s.amp1 (s.ampGov c.val)).precharge + 100000000 ≤ s.time.now)) := by
  decide +kernel

/-- States and operands that meet the conditions of each clause of ProbesAndSpareComplete, from clause 5 on. -/
theorem wit_ProbesAndSpareComplete_b :
    (let s : State := st [(Fld.AMP_CFG_SPARE_EN, 1), (Fld.AMP_CFG_SPARE_CH, 7), (Fld.AMP_CH_ST_STATE 7, 2), (Fld.AMP_CH_CFG_XFER_EN 6, 1), (Fld.AMP_CH_CFG_XFER_ZSEL 6, 15), (Fld.AMP_CH_ST_STATE 6, 4), (Fld.AMP_CH_ST_CAUSE 6, 2)]; let c : Fin 8 := 6; let p : Nat := 7; (s.powered = true) ∧ (s.spareCh = some p) ∧ (p ≠ c.val) ∧ (s.ampPaired c = false) ∧ (s.on (Fld.AMP_CH_CFG_XFER_EN c) = true) ∧ (s.on Fld.AMP_SPARE_ST_ACTIVE = false) ∧ (s.ampSt p = 2) ∧ (s.callsSpare c p = true))
    ∧ (let s : State := up [(Fld.AMP_CFG_SPARE_EN, 1), (Fld.AMP_CFG_SPARE_CH, 7), (Fld.AMP_SPARE_ST_ACTIVE, 1)]; let p : Nat := 7; (s.powered = true) ∧ (s.spareCh = some p) ∧ (s.on Fld.AMP_SPARE_ST_ACTIVE = true) ∧ (s.amp.settled = false) ∧ (s.amp.releasing = false) ∧ (s.xferred = true))
    ∧ (let s : State := st [(Fld.AMP_SPARE_ST_ACTIVE, 1)]; let g : Agent := .mgmt; (s.powered = true) ∧ (s.isP8 = true) ∧ (s.inAlarm = false) ∧ (s.on Fld.AMP_SPARE_ST_ACTIVE = true) ∧ (s.amp.releasing = false))
    ∧ (let s : State := { (st [(Fld.AMP_CFG_SPARE_EN, 1), (Fld.AMP_CFG_SPARE_CH, 7), (Fld.AMP_SPARE_ST_ACTIVE, 1), (Fld.AMP_CH_ST_STATE 7, 4)]) with amp := { AmpSt.reset with xfer := some 3 } }; let g : Agent := .mgmt; let p : Nat := 7; let x : Nat := 3; (s.powered = true) ∧ (s.isP8 = true) ∧ (s.inAlarm = false) ∧ (s.on Fld.AMP_SPARE_ST_ACTIVE = true) ∧ (s.amp.releasing = false) ∧ (s.spareCh = some p) ∧ (s.amp.xfer = some x) ∧ ((s.ampSt p < 1 ∨ 3 < s.ampSt p))) := by
  decide +kernel

/-- States and operands that meet the conditions of each clause of ProbesAndSpareComplete, from clause 9 on. -/
theorem wit_ProbesAndSpareComplete_c :
    (let s : State := { (up [(Fld.AMP_SPARE_ST_ACTIVE, 1), (Fld.AMP_SPARE_ST_COVERS, 7), (Fld.AMP_CH_ST_SPARED 7, 1)]) with amp := { AmpSt.reset with releasing := true } }; (s.powered = true) ∧ (s.on Fld.AMP_SPARE_ST_ACTIVE = true) ∧ (s.amp.releasing = true) ∧ (s.amp.xfer = none) ∧ (s.xferred = true)) := by
  decide +kernel

/-- States and operands that meet the conditions of each clause of LineTestsComplete, from clause 1 on. -/
theorem wit_LineTestsComplete_a :
    (let s : State := { (up [(Fld.TOP_MODE_STATUS_MODE, 6), (Fld.blkEn 0x31, 1), (Fld.SYN_ST_LOCK 2, 1), (Fld.AMP_CH_ST_STATE 7, 2), (Fld.LINE_CH_CFG_SUP_EN 7, 1)]) with line := { LineSt.reset with inRound := true } }; (s.powered = true) ∧ (s.lineRuns = true) ∧ (s.audioOn = true) ∧ (s.line.roundAt + s.roundNs ≤ s.time.now) ∧ (s.line.inRound = true))
    ∧ (let s : State := up [(Fld.TOP_MODE_STATUS_MODE, 6), (Fld.blkEn 0x31, 1), (Fld.SYN_ST_LOCK 2, 1), (Fld.AMP_CH_ST_STATE 7, 2), (Fld.LINE_CH_CFG_SUP_EN 7, 1)]; let c : Nat := 7; (s.powered = true) ∧ (s.lineRuns = true) ∧ (s.audioOn = true) ∧ (s.line.roundAt + s.roundNs ≤ s.time.now) ∧ (s.line.inRound = false) ∧ (s.line.slot = none) ∧ (s.line.cal = []) ∧ (s.line.asked = []) ∧ (s.line.sweep = []) ∧ ((List.range 8).find? s.routine = some c))
    ∧ (let s : State := up [(Fld.TOP_MODE_STATUS_MODE, 6), (Fld.blkEn 0x31, 1), (Fld.SYN_ST_LOCK 2, 1), (Fld.AMP_CH_ST_STATE 7, 2), (Fld.LINE_CH_CFG_SUP_EN 7, 1)]; let g : Agent := .portA; let mask : BitVec 8 := 0xFF; let c : Nat := 7; (s.powered = true) ∧ (s.lineRuns = true) ∧ (s.line.slot = none) ∧ (s.line.cal = []) ∧ (s.line.asked = []) ∧ ((List.range 8).find? (fun d => mask.toNat.testBit d && s.testable d) = some c))
    ∧ (let s : State := { (up [(Fld.TOP_MODE_STATUS_MODE, 6), (Fld.blkEn 0x31, 1), (Fld.SYN_ST_LOCK 2, 1), (Fld.AMP_CH_ST_STATE 7, 2), (Fld.LINE_CH_CFG_SUP_EN 7, 1)]) with line := { LineSt.reset with slot := some (7, .round) } }; let x : LineTest := ⟨⟨2147483647, 0, 1, 0, 0, 0⟩, false, false⟩; let c : Fin 8 := 7; (s.powered = true) ∧ (s.line.slot = some (c.val, .round)) ∧ (s.slotDone = true) ∧ (x.content = false) ∧ ((if x.eightOhms then s.line.clip94 else s.line.clip93) = false) ∧ (s.line.bad = false) ∧ (s.testable c = true) ∧ (s.line.ch.length = 8) ∧ (s.on (Fld.blkFreeze 0x31) = false)) := by
  decide +kernel

/-- States and operands that meet the conditions of each clause of LineTestsComplete, from clause 5 on. -/
theorem wit_LineTestsComplete_b :
    (let s : State := { (up [(Fld.TOP_MODE_STATUS_MODE, 6), (Fld.blkEn 0x31, 1), (Fld.SYN_ST_LOCK 2, 1), (Fld.AMP_CH_ST_STATE 7, 2), (Fld.LINE_CH_CFG_SUP_EN 7, 1)]) with line := { LineSt.reset with slot := some (0, .round) } }; let x : LineTest := ⟨⟨0, 0, 0, 0, 0, 0⟩, true, false⟩; let c : Fin 8 := 0; (s.powered = true) ∧ (s.line.slot = some (c.val, .round)) ∧ (s.slotDone = true) ∧ (x.content = true) ∧ (s.on (Fld.blkFreeze 0x31) = false))
    ∧ (let s : State := { st [(Fld.LINE_CFG_TEST_S, 10)] with time := { TimeSt.reset with now := 30000000000 } }; let c : Fin 8 := 7; (s.powered = true) ∧ (s.isP8 = true) ∧ (s.time.now ≥ (s.line1 c).lastValid + 3 * s.get Fld.LINE_CFG_TEST_S * 1000000000)) := by
  decide +kernel

/-- States and operands that meet the conditions of each clause of EarthAndCalibrationComplete. -/
theorem wit_EarthAndCalibrationComplete :
    (let s : State := up [(Fld.TOP_MODE_STATUS_MODE, 6), (Fld.blkEn 0x31, 1), (Fld.SYN_ST_LOCK 2, 1), (Fld.AMP_CH_ST_STATE 7, 2), (Fld.LINE_CH_CFG_SUP_EN 7, 1), (Fld.LINE_EF_EN, 1)]; let a : Nat := 5000000; (s.powered = true) ∧ (s.lineRuns = true) ∧ (s.on Fld.LINE_EF_EN = true) ∧ (s.line.efAt + 2000000000 ≤ s.time.now))
    ∧ (let s : State := up [(Fld.TOP_MODE_STATUS_MODE, 6), (Fld.blkEn 0x31, 1), (Fld.SYN_ST_LOCK 2, 1), (Fld.AMP_CH_ST_STATE 7, 2), (Fld.LINE_CH_CFG_SUP_EN 7, 1), (Fld.LINE_EF_EN, 1)]; let g : Agent := .portB; (s.powered = true) ∧ (s.lineRuns = true) ∧ (s.on Fld.LINE_EF_EN = true) ∧ (s.on Fld.LINE_EF_ST_LOCATING = false))
    ∧ (let s : State := { (up [(Fld.TOP_MODE_STATUS_MODE, 6), (Fld.blkEn 0x31, 1), (Fld.SYN_ST_LOCK 2, 1), (Fld.AMP_CH_ST_STATE 7, 2), (Fld.LINE_CH_CFG_SUP_EN 7, 1), (Fld.LINE_EF_ST_LOCATING, 1)]) with line := { LineSt.reset with steps := [7] } }; let d : Int := -500000; let a : Nat := 0; let c : Nat := 7; let rest : List Nat := []; (s.powered = true) ∧ (s.on Fld.LINE_EF_ST_LOCATING = true) ∧ (s.line.stepAt + 4000000000 ≤ s.time.now) ∧ (s.line.steps = c :: rest) ∧ (s.efLines.contains c = true) ∧ (10 * d.natAbs ≥ 5000000 - a))
    ∧ (let s : State := up [(Fld.TOP_MODE_STATUS_MODE, 6), (Fld.blkEn 0x31, 1), (Fld.SYN_ST_LOCK 2, 1), (Fld.AMP_CH_ST_STATE 7, 2), (Fld.LINE_CH_CFG_SUP_EN 7, 1)]; let g : Agent := .portA; let mask : BitVec 8 := 0x80; let c : Fin 8 := 7; (s.powered = true) ∧ (s.lineRuns = true) ∧ (s.mode = modeMaintenance) ∧ (mask.getLsbD c = true) ∧ (s.testable c = true))
    ∧ (let s : State := { (State.reset) with line := { LineSt.reset with store := [7] } }; let c : Fin 8 := 7; (s.powered = true) ∧ (s.line.store.contains c.val = true)) := by
  decide +kernel

/-- States and operands that meet the conditions of each clause of CrownVotes, from clause 1 on. -/
theorem wit_CrownVotes_a :
    (let s : State := { (st [(⟨indKey 0x38 60, 31, 0⟩, 0x89000100), (⟨indKey 0x38 61, 31, 0⟩, 6)]) with crown := { CrownSt.reset with own := 0x8000 } }; let x : LaneIn := { shown := [], cuff := true, active := 0, failed := [] }; let e : Fin 16 := 15; (s.powered = true) ∧ (s.voting.length = 3) ∧ (x.shown.all (·.isNone) = true) ∧ (s.crown.shown.all (·.isNone) = true) ∧ (s.crown.laneOsc = 0) ∧ (s.on Fld.CROWN_STATUS_CROWN_FAIL = false) ∧ (s.crown.own.testBit e.val = true) ∧ (s.entryFit e.val = true))
    ∧ (let s : State := { (st [(Fld.laneState 2, 2)]) with crown := { CrownSt.reset with laneOsc := 1 } }; let x : LaneIn := { shown := [], cuff := true, active := 0, failed := [] }; (s.powered = true) ∧ (s.on Fld.CROWN_STATUS_CROWN_FAIL = false) ∧ (s.voteHeld s.crown.laneOsc = true) ∧ (s.beyondRepair = true))
    ∧ (let s : State := st [(Fld.laneState 2, 2)]; let x : LaneIn := { shown := [some ⟨true, 0, 0, 0, 0, true, true, 1, true, false, false, [], false⟩, some ⟨false, 0, 0, 0, 0, true, true, 1, true, false, false, [], false⟩], cuff := true, active := 0, failed := [] }; let a : Fin 3 := 0; let b : Fin 3 := 1; let y : LaneCopy := ⟨true, 0, 0, 0, 0, true, true, 1, true, false, false, [], false⟩; let z : LaneCopy := ⟨false, 0, 0, 0, 0, true, true, 1, true, false, false, [], false⟩; (s.powered = true) ∧ (s.on Fld.CROWN_STATUS_CROWN_FAIL = false) ∧ (s.lane a.val = laneVoting) ∧ (s.lane b.val = laneVoting) ∧ (s.voting.length = 2) ∧ ((List.range 3).any (fun l => s.lane l = laneRetired) = true) ∧ (x.shown.getD a.val none = some y) ∧ (x.shown.getD b.val none = some z) ∧ (y ≠ z))
    ∧ (let s : State := st [(Fld.laneState 2, 1)]; let l : Fin 3 := 2; (s.powered = true) ∧ (s.lane l = laneRepair)) := by
  decide +kernel

/-- States and operands that meet the conditions of each clause of CrownVotes, from clause 5 on. -/
theorem wit_CrownVotes_b :
    (let s : State := State.reset; let e : List Nat := [10000, 10000, 10011]; let l : Fin 3 := 2; (s.powered = true))
    ∧ (let s : State := st [(Fld.trigState 7, 3)]; let mohm : List Nat := []; let n : Fin 8 := 7; (s.powered = true) ∧ (s.on (Fld.CROWN_TRIG_EN n) = false))
    ∧ (let s : State := { (st [(Fld.CROWN_TRIG_EN 7, 1), (Fld.CROWN_TRIG_DEB_MS 7, 10)]) with crown := { CrownSt.reset with trig := List.replicate 8 (1, 10) } }; let mohm : List Nat := [0, 0, 0, 0, 0, 0, 0, 1500000]; let n : Fin 8 := 7; let run : Nat := 10; (s.powered = true) ∧ (s.on (Fld.CROWN_TRIG_EN n) = true) ∧ (150000 ≤ mohm.getD n.val 0xFFFFFFFF) ∧ (mohm.getD n.val 0xFFFFFFFF ≤ 1500000) ∧ (s.crown.trig.getD n.val (0, 0) = (1, run)) ∧ (run ≥ s.get (Fld.CROWN_TRIG_DEB_MS n)) ∧ (s.get (Fld.CROWN_TRIG_DEB_MS n) ≤ 1000)) := by
  decide +kernel

/-- States and operands that meet the conditions of each clause of AlarmContentCompletes. -/
theorem wit_AlarmContentCompletes :
    (let s : State := st [(⟨indKey 0x38 60, 31, 0⟩, 0x89000100), (⟨indKey 0x38 61, 31, 0⟩, 6)]; let g : Agent := .portB; let w : BitVec 32 := 0x10F; (s.powered = true) ∧ (w.getLsbD 8 = true) ∧ (s.entrySrc (Word.field w 3 0) = 9) ∧ (s.entryReady (Word.field w 3 0) = true))
    ∧ (let s : State := { (up [(⟨indKey 0x38 60, 31, 0⟩, 0x89000100), (⟨indKey 0x38 61, 31, 0⟩, 6), (Fld.CROWN_ACTIVE_ENTRIES, 0x8000)]) with crown := { CrownSt.reset with seqs := [(15, ⟨false, 0, none⟩)] } }; let e : Fin 16 := 15; (s.powered = true) ∧ (s.crown.seqs.any (fun x => x.1 = e.val) = true) ∧ (s.entryOn e.val = true) ∧ (s.turnEnds e.val (s.seqOf e.val) = true))
    ∧ (let s : State := { st [(Fld.CROWN_STATUS_LIVE_FALLBACK, 1)] with time := { TimeSt.reset with now := 1000000000 } }; (s.powered = true) ∧ (s.on Fld.CROWN_STATUS_LIVE_FALLBACK = true) ∧ (s.on Fld.CROWN_STATUS_SCHED_LOST = false) ∧ (s.overrunRecent = false) ∧ (s.time.now ≥ s.crown.schedClear + 1000000000) ∧ (s.crown.overruns.all (fun x => s.time.now ≥ x + 2000000000) = true))
    ∧ (let s : State := { { (st [(Fld.SYN_ST_LOCK 2, 1)]) with amp := { AmpSt.reset with fallback := true } } with time := { TimeSt.reset with now := 10000000000 } }; (s.powered = true) ∧ (s.amp.fallback = true) ∧ (s.crown.mux = none) ∧ (s.crown.held = false) ∧ (s.on (Fld.SYN_ST_LOCK 2) = true) ∧ (s.on Fld.CROWN_STATUS_SCHED_LOST = false) ∧ (s.time.now ≥ s.crown.schedClear + 10000000000) ∧ (s.ran (.synLock 2) 10000000000 = true)) := by
  decide +kernel

/-- States and operands that meet the conditions of each clause of RolesComplete, from clause 1 on. -/
theorem wit_RolesComplete_a :
    (let s : State := up [(Fld.PAIR_STATUS_ROLE, 1), (Fld.PAIR_STATUS_CUFF, 0)]; (s.powered = true) ∧ (s.role = roleStartup) ∧ (s.cuffFor false 2000000 = true))
    ∧ (let s : State := up [(Fld.PAIR_STATUS_ROLE, 1), (Fld.PAIR_STATUS_CUFF, 1)]; (s.powered = true) ∧ (s.role = roleStartup) ∧ (s.cuffFor true (if s.on Fld.PAIR_CFG_DUTY then 2000000 else 52000000) = true))
    ∧ (let s : State := { (up [(Fld.PAIR_STATUS_ROLE, 2), (Fld.PAIR_STATUS_CUFF, 1)]) with pair := { PairSt.reset with heard := some { ready := true, yielding := true, proof := false, proofEnd := false, result := 0, faults := 0, tick := 9, entries := 0xFFFF, mode := 4, cause := 1, crc := 0, act := none } } }; (s.powered = true) ∧ (s.role = roleStandby) ∧ (s.crown.held = false) ∧ (s.cuffFor true 2000000 = true))
    ∧ (let s : State := { (up [(Fld.PAIR_STATUS_ROLE, 2), (Fld.PAIR_STATUS_CUFF, 0)]) with pair := { PairSt.reset with heard := some { ready := true, yielding := true, proof := false, proofEnd := false, result := 0, faults := 0, tick := 9, entries := 0xFFFF, mode := 4, cause := 1, crc := 0, act := none } } }; let x : PairRec := { ready := true, yielding := true, proof := false, proofEnd := false, result := 0, faults := 0, tick := 9, entries := 0xFFFF, mode := 4, cause := 1, crc := 0, act := none }; (s.powered = true) ∧ (s.role = roleStandby) ∧ (s.cuffFor false 10000000 = true) ∧ (s.pair.heard = some x) ∧ (x.yielding = true)) := by
  decide +kernel

/-- States and operands that meet the conditions of each clause of RolesComplete, from clause 5 on. -/
theorem wit_RolesComplete_b :
    (let s : State := up [(Fld.PAIR_STATUS_ROLE, 3)]; (s.powered = true) ∧ (s.role = roleClaiming) ∧ (s.ran .claim (s.get Fld.PAIR_CFG_SETTLE_MS * 1000000) = true))
    ∧ (let s : State := up [(Fld.PAIR_STATUS_ROLE, 5), (Fld.PAIR_STATUS_CUFF, 0)]; (s.powered = true) ∧ (s.role = roleYielding) ∧ (s.cuffFor false 0 = true) ∧ (s.time.now ≥ s.pair.yieldAt + 100000))
    ∧ (let s : State := up [(Fld.PAIR_STATUS_ROLE, 5), (Fld.PAIR_STATUS_CUFF, 1)]; (s.powered = true) ∧ (s.role = roleYielding) ∧ (s.cuffFor true 20000000 = true)) := by
  decide +kernel

/-- States and operands that meet the conditions of each clause of RecordsAndProofComplete, from clause 1 on. -/
theorem wit_RecordsAndProofComplete_a :
    (let s : State := up [(Fld.PAIR_STATUS_ROLE, 2), (Fld.RSW_NODE_VALID, 1), (Fld.RSW_CFG_TOPO, 1), (Fld.PAIR_CFG_PEER_NODE, 7), (⟨nodeKey 7 + 1, 31, 0⟩, 0x80000000)]; (s.powered = true) ∧ (s.role = roleStandby) ∧ (s.ran .record 1000000 = true) ∧ (s.nodeValid = true) ∧ (s.mayOriginate = true) ∧ ((s.rd (nodeKey (s.get Fld.PAIR_CFG_PEER_NODE) + 1)).getLsbD 31 = true) ∧ (s.rsw.sentCounts.length = 3))
    ∧ (let s : State := st [(Fld.PAIR_STATUS_ROLE, 4), (Fld.PAIR_STATUS_PEER_LOST, 1)]; let x : PairRec := { ready := true, yielding := true, proof := false, proofEnd := false, result := 0, faults := 0, tick := 9, entries := 0xFFFF, mode := 4, cause := 1, crc := 0, act := none }; (s.powered = true) ∧ (x.act = none) ∧ (s.role = roleActive))
    ∧ (let s : State := { (st [(Fld.PAIR_STATUS_ROLE, 2)]) with pair := { PairSt.reset with missed := 16 } }; (s.powered = true) ∧ (s.role = roleStandby) ∧ (s.pair.missed ≥ 16))
    ∧ (let s : State := { st [(Fld.PAIR_STATUS_ROLE, 4)] with time := { TimeSt.reset with now := 16000000 } }; (s.powered = true) ∧ (s.role = roleActive) ∧ (s.time.now ≥ s.stbySince + 16000000)) := by
  decide +kernel

/-- States and operands that meet the conditions of each clause of RecordsAndProofComplete, from clause 5 on. -/
theorem wit_RecordsAndProofComplete_b :
    (let s : State := { (st [(Fld.TOP_MODE_STATUS_MODE, 6), (Fld.PAIR_STATUS_ROLE, 4)]) with pair := { PairSt.reset with stby := some { ready := true, yielding := true, proof := false, proofEnd := false, result := 0, faults := 0, tick := 9, entries := 0xFFFF, mode := 4, cause := 1, crc := 0, act := none } } }; let g : Agent := .portA; (s.powered = true) ∧ (s.role = roleActive) ∧ (s.mode = modeMaintenance) ∧ (s.on Fld.CROWN_STATUS_ALARM = false) ∧ (s.peerReady = true) ∧ (s.pair.stage = .none) ∧ (s.on Fld.PAIR_STATUS_PROOF = false))
    ∧ (let s : State := { (State.reset) with pair := { PairSt.reset with stage := .window } }; let g : Agent := .mgmt; (s.powered = true) ∧ (s.pair.stage = .window))
    ∧ (let s : State := { (up [(Fld.PAIR_PROOF_WIN_S, 60)]) with pair := { PairSt.reset with stage := .window } }; (s.powered = true) ∧ (s.pair.stage = .window) ∧ (s.get Fld.PAIR_PROOF_WIN_S ≠ 0xFFFF) ∧ (s.ran .proof s.windowNs = true) ∧ (s.on Fld.CROWN_STATUS_ALARM = false))
    ∧ (let s : State := { (up [(Fld.PAIR_PROOF_WIN_S, 0xFFFF)]) with pair := { PairSt.reset with stage := .window, inTime := true } }; (s.powered = true) ∧ (s.pair.stage = .window) ∧ (s.get Fld.PAIR_PROOF_WIN_S = 0xFFFF) ∧ (s.ran .proof 1000000000 = true)) := by
  decide +kernel

/-- States and operands that meet the conditions of each clause of ModbusCompletes. -/
theorem wit_ModbusCompletes :
    (let s : State := st [(Fld.blkEn 0x3A, 1), (Fld.PNL_CFG_MODE, 0), (Fld.PNL_CFG_ADDR, 17)]; let f : MbFrame := ⟨(mbFrame [17, 3, 0, 0, 0, 6]).map (BitVec.ofNat 8), 0⟩; let r : MbReq := mbParse (mbFrame [17, 3, 0, 0, 0, 6]); (s.powered = true) ∧ (s.panelModbus = true) ∧ (mbCrcOk (f.octets.map (·.toNat)) = true) ∧ (mbParse (f.octets.map (·.toNat)) = r) ∧ (r.lenOk = true) ∧ (r.addr = s.panelAddr) ∧ (r.addr ≠ 0) ∧ (r.fn = 3) ∧ (s.panelException r = none))
    ∧ (let s : State := st [(Fld.blkEn 0x3A, 1), (Fld.PNL_CFG_MODE, 0), (Fld.PNL_CFG_ADDR, 17)]; let f : MbFrame := ⟨(mbFrame [17, 6, 0, 0x2F, 0xFF, 0xFE]).map (BitVec.ofNat 8), 0⟩; let r : MbReq := mbParse (mbFrame [17, 6, 0, 0x2F, 0xFF, 0xFE]); let v : BitVec 16 := 0xFFFE; (s.powered = true) ∧ (s.panelModbus = true) ∧ (mbCrcOk (f.octets.map (·.toNat)) = true) ∧ (mbParse (f.octets.map (·.toNat)) = r) ∧ (r.lenOk = true) ∧ (r.addr = s.panelAddr) ∧ (r.addr ≠ 0) ∧ (r.fn = 6) ∧ (r.vals = [v]) ∧ (0x20 ≤ r.reg) ∧ (r.reg ≤ 0x2F))
    ∧ (let s : State := st [(Fld.blkEn 0x3A, 1), (Fld.PNL_CFG_MODE, 0), (Fld.PNL_CFG_ADDR, 17)]; let f : MbFrame := ⟨(mbFrame [17, 3, 0, 0x10, 0, 1]).map (BitVec.ofNat 8), 0⟩; let r : MbReq := mbParse (mbFrame [17, 3, 0, 0x10, 0, 1]); let e : Nat := 2; (s.powered = true) ∧ (s.panelModbus = true) ∧ (mbCrcOk (f.octets.map (·.toNat)) = true) ∧ (mbParse (f.octets.map (·.toNat)) = r) ∧ (r.lenOk = true) ∧ (r.addr = s.panelAddr) ∧ (r.addr ≠ 0) ∧ (s.panelException r = some e) ∧ (s.on (Fld.blkFreeze 0x3A) = false))
    ∧ (let s : State := st [(Fld.blkEn 0x3A, 1), (Fld.PNL_CFG_MODE, 0), (Fld.PNL_CFG_ADDR, 17)]; let f : MbFrame := ⟨[17, 6, 0, 0x2F, 0, 0, 0, 0], 0⟩; (s.powered = true) ∧ (s.panelModbus = true) ∧ (mbCrcOk (f.octets.map (·.toNat)) = false) ∧ (s.on (Fld.blkFreeze 0x3A) = false)) := by
  decide +kernel

/-- States and operands that meet the conditions of each clause of PanelQueuesComplete, from clause 1 on. -/
theorem wit_PanelQueuesComplete_a :
    (let s : State := { (st [(Fld.blkEn 0x3A, 1), (Fld.PNL_CFG_MODE, 1)]) with pnl := { PnlSt.reset with count := 2 } }; let b : BitVec 8 := 0xFF; (s.powered = true) ∧ (s.panelRaw = true) ∧ (s.rxFull = false) ∧ (s.pnl.count < 3))
    ∧ (let s : State := { (up [(Fld.blkEn 0x3A, 1), (Fld.PNL_CFG_MODE, 1)]) with pnl := { PnlSt.reset with count := 3 } }; (s.powered = true) ∧ (s.panelRaw = true) ∧ (s.ran .panelIn (s.get Fld.PNL_CFG_GAP_CH * s.charNs) = true) ∧ (s.pnl.count ≠ 0) ∧ (s.rxFull = false))
    ∧ (let s : State := { (State.reset) with pnl := { PnlSt.reset with count := 1 } }; let g : Agent := .portB; (s.powered = true) ∧ (s.pnl.count ≠ 0) ∧ (s.rxFull = false))
    ∧ (let s : State := { (State.reset) with pnl := { PnlSt.reset with count := 1, rx := [PnlItem.empty] } }; let g : Agent := .portA; (s.powered = true)) := by
  decide +kernel

/-- States and operands that meet the conditions of each clause of PanelQueuesComplete, from clause 5 on. -/
theorem wit_PanelQueuesComplete_b :
    (let s : State := { (State.reset) with pnl := { PnlSt.reset with rx := [PnlItem.empty] } }; let g : Agent := .mgmt; let x : PnlItem := PnlItem.empty; let l : List PnlItem := []; (s.powered = true) ∧ (s.pnl.rx = x :: l))
    ∧ (let s : State := State.reset; let g : Agent := .portB; (s.powered = true) ∧ (s.pnl.rx = []))
    ∧ (let s : State := { (State.reset) with pnl := { PnlSt.reset with sending := [1] } }; let g : Agent := .portA; let w : BitVec 32 := 0xFFFFFFFF; (s.powered = true) ∧ (s.pnl.tx.length < 1024) ∧ ((s.pnl.tx.length % 32 ≠ 0 ∨ s.grant 25 0 true = true)) ∧ (s.pnl.sending ≠ []))
    ∧ (let s : State := { (State.reset) with pnl := { PnlSt.reset with sending := [1, 2] } }; let g : Agent := .portA; (s.powered = true)) := by
  decide +kernel

/-- States and operands that meet the conditions of each clause of PanelQueuesComplete, from clause 9 on. -/
theorem wit_PanelQueuesComplete_c :
    (let s : State := { (up []) with pnl := { PnlSt.reset with sending := [255, 1] } }; let c : Nat := 255; let l : List Nat := [1]; (s.powered = true) ∧ (s.pnl.sending = c :: l) ∧ (s.ran .panelOut s.sendNs = true) ∧ (l ≠ []))
    ∧ (let s : State := { (up []) with pnl := { PnlSt.reset with sending := [0], sendingEnd := true } }; let c : Nat := 0; (s.powered = true) ∧ (s.pnl.sending = [c]) ∧ (s.ran .panelOut s.sendNs = true) ∧ (s.pnl.sendingEnd = true))
    ∧ (let s : State := { (up []) with pnl := { PnlSt.reset with silence := true } }; (s.powered = true) ∧ (s.pnl.sending = []) ∧ (s.pnl.silence = true) ∧ (s.pnl.tx = []) ∧ (s.ran .panelOut (7 * s.charNs / 2) = true)) := by
  decide +kernel

/-- States and operands that meet the conditions of each clause of PowerAndModesComplete, from clause 1 on. -/
theorem wit_PowerAndModesComplete_a :
    (let s : State := st [(Fld.TOP_MODE_STATUS_MODE, 0)]; let v : BitVec 16 := 880; let k : Nat := 0x480010; (s.powered = false) ∧ (v.toNat ≥ 880) ∧ (tellKey k = false) ∧ (k ≠ Fld.PLAT_SUPPLY_VIN_CTL.addr))
    ∧ (let s : State := State.reset; let v : BitVec 16 := 599; (s.powered = true) ∧ (v.toNat < 600))
    ∧ (let s : State := State.reset; let a : AttestIn := ⟨false, true, false, true, true, true, []⟩; let b : Nat := 0; (s.powered = true) ∧ (s.mode = modeAttest) ∧ (s.plat.attested = false) ∧ (s.otp.cycle ≠ 4) ∧ (s.bootBank a = some b) ∧ (a.selfTest = true))
    ∧ (let s : State := State.reset; let a : AttestIn := ⟨true, true, true, true, false, true, []⟩; let b : Nat := 0; (s.powered = true) ∧ (s.mode = modeAttest) ∧ (s.plat.attested = false) ∧ (s.otp.cycle ≠ 4) ∧ (s.bootBank a = some b) ∧ (a.selfTest = false)) := by
  decide +kernel

/-- States and operands that meet the conditions of each clause of PowerAndModesComplete, from clause 5 on. -/
theorem wit_PowerAndModesComplete_b :
    (let s : State := st [(Fld.TOP_MODE_STATUS_MODE, 3)]; let g : Agent := .portB; let m : BitVec 4 := 7; (s.powered = true) ∧ (s.inAlarm = false) ∧ ((modeTargets s.mode).contains m.toNat = true) ∧ (s.pairRefuses m.toNat = false))
    ∧ (let s : State := st [(Fld.TOP_MODE_STATUS_MODE, 7), (Fld.SYN_ST_LOCK 2, 1)]; (s.powered = true) ∧ ((s.mode = modeNightcap ∨ s.mode = modeShelter)) ∧ (s.plat.wake = 0) ∧ ((List.range 8).any s.ampSwitches = false))
    ∧ (let s : State := st [(Fld.TOP_MODE_STATUS_MODE, 7), (Fld.blkEn 0x30, 1), (Fld.SYN_ST_LOCK 2, 1)]; let i : TickIn := ⟨[], [], [], [], [], [], false⟩; (s.powered = true) ∧ (s.isP8 = true) ∧ ((s.mode = modeNightcap ∨ s.mode = modeShelter)) ∧ (s.enabled 0x30 = true) ∧ ((List.range 8).all (fun c => s.ampSt c = 0) = true))
    ∧ (let s : State := { (State.reset) with plat := { PlatSt.reset with wake := 1 } }; (s.powered = true) ∧ (s.plat.wake = 1)) := by
  decide +kernel

/-- States and operands that meet the conditions of each clause of PowerAndModesComplete, from clause 9 on. -/
theorem wit_PowerAndModesComplete_c :
    (let s : State := { (up []) with plat := { PlatSt.reset with wake := 2, down := true } }; (s.powered = true) ∧ (s.plat.wake = 2) ∧ (s.ran .zeroing 393216 = true)) := by
  decide +kernel

/-- States and operands that meet the conditions of each clause of SupplyCompletes, from clause 1 on. -/
theorem wit_SupplyCompletes_a :
    (let s : State := State.reset; let v : BitVec 16 := 899; (s.powered = true) ∧ (v.toNat < 900))
    ∧ (let s : State := st [(Fld.PLAT_SUPPLY_VIN_WARN, 1)]; let v : BitVec 16 := 920; (s.powered = true) ∧ (v.toNat ≥ 920))
    ∧ (let s : State := State.reset; let v : BitVec 16 := 799; (s.powered = true) ∧ (v.toNat < 800))
    ∧ (let s : State := State.reset; let v : BitVec 16 := 6201; (s.powered = true) ∧ (v.toNat > 6200)) := by
  decide +kernel

/-- States and operands that meet the conditions of each clause of SupplyCompletes, from clause 5 on. -/
theorem wit_SupplyCompletes_b :
    (let s : State := { (st [(Fld.PLAT_SUPPLY_VIN_OV, 1)]) with plat := { PlatSt.reset with causes := 6 } }; let v : BitVec 16 := 6100; (s.powered = true) ∧ (900 ≤ v.toNat) ∧ (v.toNat ≤ 6100))
    ∧ (let s : State := State.reset; (s.powered = true) ∧ (s.on Fld.PLAT_SUPPLY_PFW = false))
    ∧ (let s : State := st [(Fld.PLAT_SUPPLY_PFW, 1)]; (s.powered = true))
    ∧ (let s : State := up [(Fld.PLAT_SUPPLY_PFW, 1), (Fld.PLAT_SUPPLY_CFG_PFW_ACT, 2)]; (s.powered = true) ∧ (s.on Fld.PLAT_SUPPLY_PFW = true) ∧ (s.plat.pfwDone = false) ∧ (s.ran .pfw (s.get Fld.PLAT_SUPPLY_CFG_PFW_DELAY_S * 1000000000) = true) ∧ (s.get Fld.PLAT_SUPPLY_CFG_PFW_ACT = 2) ∧ (s.on Fld.CROWN_STATUS_ALARM = false) ∧ (s.inAlarm = false)) := by
  decide +kernel

/-- States and operands that meet the conditions of each clause of SupplyCompletes, from clause 9 on. -/
theorem wit_SupplyCompletes_c :
    (let s : State := { (up []) with plat := { PlatSt.reset with causes := 16 } }; (s.powered = true) ∧ (s.on Fld.PLAT_SUPPLY_PFW = false) ∧ (s.ran .pfwOff 10000000000 = true)) := by
  decide +kernel

/-- States and operands that meet the conditions of each clause of TemperatureCompletes. -/
theorem wit_TemperatureCompletes :
    (let s : State := State.reset; let die : Int := -128; let base : Int := 105; (s.powered = true) ∧ (-128 ≤ die) ∧ (die ≤ 127) ∧ (-128 ≤ base) ∧ (base ≤ 127))
    ∧ (let s : State := { (up [(Fld.AMP_CH_CFG_EN 7, 1), (Fld.AMP_CH_ST_STATE 7, 3)]) with plat := { PlatSt.reset with hotAt := some 0 } }; let c : Fin 8 := 7; (s.powered = true) ∧ (s.hasCause bitThermal = false) ∧ (s.heldNs s.plat.hotAt 100000000 = true) ∧ (s.isP8 = true) ∧ (s.ampGov c.val = c.val) ∧ (s.ampEn c = true))
    ∧ (let s : State := { (up []) with plat := { PlatSt.reset with causes := 8, coolAt := some 0 } }; (s.powered = true) ∧ (s.heldNs s.plat.coolAt 10000000000 = true)) := by
  decide +kernel

/-- States and operands that meet the conditions of each clause of RestartsComplete. -/
theorem wit_RestartsComplete :
    (let s : State := { State.reset with time := { TimeSt.reset with unlockB := true } }; let g : Agent := .portB; let mask : BitVec 9 := 0x100; let d : Fin 9 := 8; (s.powered = true) ∧ (s.unlocked g.who = true) ∧ (mask.getLsbD d = true) ∧ (s.on (Fld.rstBusy d) = false) ∧ (s.inAlarm = false) ∧ ((d.val ≠ 2 ∨ s.mode = modeMaintenance)) ∧ (s.plat.phase.length = 9))
    ∧ (let s : State := { (State.reset) with plat := { PlatSt.reset with phase := [0, 0, 0, 0, 0, 0, 0, 0, 3] } }; let d : Fin 9 := 8; (s.powered = true) ∧ (s.plat.phase.length = 9) ∧ (s.plat.phase.getD d.val 0 = 3))
    ∧ (let s : State := State.reset; (s.powered = true) ∧ (s.on (Fld.rstBusy 8) = false) ∧ (s.on (Fld.blkFreeze 0x01) = false))
    ∧ (let s : State := { (up []) with plat := { PlatSt.reset with warnAt := some 0 } }; (s.powered = true) ∧ (s.on (Fld.rstBusy 8) = false) ∧ (s.heldNs s.plat.warnAt (s.get Fld.PLAT_WDOG_TIMEOUT_MS * 500000) = true) ∧ (s.plat.phase.length = 9))
    ∧ (let s : State := State.reset; (s.powered = true) ∧ (s.on (Fld.rstBusy 8) = false) ∧ (s.plat.phase.length = 9)) := by
  decide +kernel

/-- States and operands that meet the conditions of each clause of FirmwareAndRepairComplete, from clause 1 on. -/
theorem wit_FirmwareAndRepairComplete_a :
    (let s : State := { st [(Fld.TOP_MODE_STATUS_MODE, 6), (Fld.PLAT_FW_ST_IDLE_VALID, 1), (Fld.PLAT_FW_TICK_BRIM_TICK, 1)] with time := { TimeSt.reset with unlockB := true } }; let g : Agent := .portB; (s.powered = true) ∧ (s.unlocked g.who = true) ∧ (s.on Fld.PLAT_FW_ST_ARMED = false) ∧ (s.mode = modeMaintenance) ∧ (s.on Fld.PLAT_FW_ST_IDLE_VALID = true) ∧ (s.brimMissed (s.get Fld.PLAT_FW_TICK_BRIM_TICK) = false))
    ∧ (let s : State := st [(Fld.PLAT_FW_ST_ARMED, 1)]; let g : Agent := .portA; (s.powered = true) ∧ (s.on Fld.PLAT_FW_ST_ARMED = true))
    ∧ (let s : State := st [(Fld.PLAT_FW_ST_ARMED, 1)]; (s.powered = true) ∧ (s.on Fld.PLAT_FW_ST_ARMED = true))
    ∧ (let s : State := up [(Fld.PLAT_FW_ST_PROBATION, 1)]; (s.powered = true) ∧ (s.on Fld.PLAT_FW_ST_PROBATION = true) ∧ (s.ran .probation 10000000000 = true)) := by
  decide +kernel

/-- States and operands that meet the conditions of each clause of FirmwareAndRepairComplete, from clause 5 on. -/
theorem wit_FirmwareAndRepairComplete_b :
    (let s : State := up [(Fld.PLAT_FW_ST_PROBATION, 1)]; (s.powered = true) ∧ (s.on Fld.PLAT_FW_ST_PROBATION = true) ∧ (s.ran .probation 10000000000 = true))
    ∧ (let s : State := { st [(Fld.TOP_MODE_STATUS_MODE, 3), (Fld.PLAT_REPAIR_ST_S0_USED, 1)] with time := { TimeSt.reset with unlockB := true } }; let g : Agent := .portB; let b : BitVec 6 := 63; let k : Nat := 1; (s.powered = true) ∧ (s.unlocked g.who = true) ∧ (s.mem.moving = none) ∧ (s.mem.candidates = []) ∧ (s.bankReplaced b.toNat = false) ∧ (s.freeSpare = some k) ∧ (s.bankPowered b.toNat = true))
    ∧ (let s : State := { State.reset with mem := { MemSt.reset with moving := some (63, 1) } }; (s.powered = true) ∧ (s.mem.moving.isSome = true))
    ∧ (let s : State := { st [(Fld.PLAT_REPAIR_ST_S1_USED, 1), (Fld.PLAT_REPAIR_ST_S1_BANK, 63)] with mem := { MemSt.reset with moving := some (63, 1) } }; let b : Nat := 63; let k : Nat := 1; (s.powered = true) ∧ (s.mem.moving = some (b, k)) ∧ (s.bankReplaced b = true) ∧ (s.mem.candidates = [])) := by
  decide +kernel

/-- States and operands that meet the conditions of each clause of OrdersAndTamperComplete, from clause 1 on. -/
theorem wit_OrdersAndTamperComplete_a :
    (let s : State := withRing State.reset .b 63 0 [cmdDesc 1 signedOrder]; let p : Port := .b; let ring : Fin 64 := 63; let n : Nat := 1; let d : Desc := cmdDesc 1 signedOrder; (s.powered = true) ∧ (s.headCmd p ring opOrder = some (n, d)) ∧ (s.domDown domCerk = false) ∧ (s.cmdFits p ring n = true) ∧ (s.cerk.queue.length < 8))
    ∧ (let s : State := sited 2 { State.reset with cerk := { CerkSt.reset with queue := [signedJob, aJob] } }; let low : Bool := true; let j : OrderJob := signedJob; let l : List OrderJob := [aJob]; (s.powered = true) ∧ (s.domDown domCerk = false) ∧ (s.cerk.queue = j :: l) ∧ ((s.flag Fld.CERK_TAMPER_ST_PIN_LOW (low && s.on Fld.CERK_TAMPER_CFG_PIN_EN)).checkOrder (s.opened j.order) = none))
    ∧ (let s : State := { st [(Fld.CERK_TAMPER_CFG_PIN_EN, 1)] with cerk := { CerkSt.reset with queue := [aJob] } }; let low : Bool := true; let j : OrderJob := aJob; let l : List OrderJob := []; let code : Nat := 4; (s.powered = true) ∧ (s.domDown domCerk = false) ∧ (s.cerk.queue = j :: l) ∧ (j.ring < 64) ∧ ((s.flag Fld.CERK_TAMPER_ST_PIN_LOW (low && s.on Fld.CERK_TAMPER_CFG_PIN_EN)).checkOrder (s.opened j.order) = some code))
    ∧ (let s : State := { State.reset with cerk := { CerkSt.reset with applied := [(aJob, 2, 3)], caks := [(0, [5])] } }; let j : OrderJob := aJob; let r : Nat := 2; let n : Nat := 3; let l : List (OrderJob × Nat × Nat) := []; (s.powered = true) ∧ (s.cerk.applied = (j, r, n) :: l)) := by
  decide +kernel

/-- States and operands that meet the conditions of each clause of OrdersAndTamperComplete, from clause 5 on. -/
theorem wit_OrdersAndTamperComplete_b :
    (let s : State := { up [] with cerk := { CerkSt.reset with allow := [(4, 63), (4, 62)] } }; let ty : BitVec 8 := 4; let num : BitVec 8 := 63; (s.powered = true) ∧ (s.ran (.allow ty.toNat num.toNat) 60000000000 = true))
    ∧ (let s : State := { st [(⟨indKey 0x40 31, 31, 31⟩, 1), (Fld.cakHeld 1, 1)] with cerk := { CerkSt.reset with caks := [(1, [5])] } }; let src : TamperSource := .temp; let n : Fin 32 := 31; (s.powered = true) ∧ ((src ≠ .pin ∨ s.on Fld.CERK_TAMPER_CFG_PIN_EN = true)))
    ∧ (let s : State := { State.reset with cerk := { CerkSt.reset with erasing := [.pin, .temp] }, flash := { FlashSt.reset with caks := [(0, 1)] } }; (s.powered = true) ∧ (s.cerk.erasing ≠ [])) := by
  decide +kernel

/-- States and operands that meet the conditions of each clause of ImagesComplete. -/
theorem wit_ImagesComplete :
    (let s : State := sited 2 (withRing State.reset .a 0 0 [cmdDesc 2 signedFw]) |> fun x => { x with otp := { x.otp with cycle := 0 } }; let p : Port := .a; let ring : Fin 64 := 0; let v : BitVec 16 := 65535; let n : Nat := 1; let d : Desc := cmdDesc 2 signedFw; (s.powered = true) ∧ (s.headCmd p ring opFw = some (n, d)) ∧ (s.domDown domCerk = false) ∧ (s.cmdFits p ring n = true) ∧ (s.inAlarm = false) ∧ (s.get Fld.CERK_FW_MIN_MIN_VER ≤ v.toNat) ∧ (s.fwRule (s.fwCheck (s.payload p ring n)) = true))
    ∧ (let s : State := sited 2 (withRing (st [(Fld.TOP_MODE_STATUS_MODE, 3)]) .a 0 0 [cmdDesc 3 signedGraph]); let p : Port := .a; let ring : Fin 64 := 0; let img : GImage := ⟨true, 0, [], [], []⟩; let n : Nat := 1; let d : Desc := cmdDesc 3 signedGraph; (s.powered = true) ∧ (s.headCmd p ring opGraph = some (n, d)) ∧ (s.domDown domCerk = false) ∧ (s.cmdFits p ring n = true) ∧ (s.siteImages = true) ∧ ((s.loadGraph img (s.payload p ring n) true).2 = 1) ∧ (s.siteSigned (s.payload p ring n) = true))
    ∧ (let s : State := sited 1 (withRing State.reset .a 0 0 [cmdDesc 4 signedMsg]); let p : Port := .a; let ring : Fin 64 := 0; let n : Nat := 1; let d : Desc := cmdDesc 4 signedMsg; let m : MsgRec := msgOf signedMsg; (s.powered = true) ∧ (s.headCmd p ring opMsg = some (n, d)) ∧ (s.domDown domCerk = false) ∧ (s.cmdFits p ring n = true) ∧ (msgForm (s.payload p ring n) = true) ∧ (m = msgOf (s.payload p ring n)) ∧ (s.msgLocked m.num = false) ∧ (s.siteImages = true) ∧ (sumOf ((s.flash.msgs.filter (·.num ≠ m.num)).map fun x => msgOctets x.samples.length) + msgOctets m.samples.length ≤ 8388608) ∧ (s.siteSigned (s.payload p ring n) = true))
    ∧ (let s : State := { withRing State.reset .a 0 0 [{ dsc 0xE0 5 0 with spec := 63 }] with flash := { FlashSt.reset with msgs := [⟨63, 0, [], [], false⟩] } }; let p : Port := .a; let ring : Fin 64 := 0; let n : Nat := 1; let d : Desc := { dsc 0xE0 5 0 with spec := 63 }; (s.powered = true) ∧ (s.headCmd p ring opDelete = some (n, d)) ∧ (s.msgLocked (d.spec % 64) = false))
    ∧ (let s : State := (withRing State.reset .b 63 0 [dsc 0xC0 6 0, dsc 0xA0 0 0]).put (Fld.HIF_R_CFG_CPL 1 63) 1; let p : Port := .b; let ring : Fin 64 := 63; let n : Nat := 2; let d : Desc := dsc 0xC0 6 0; (s.powered = true) ∧ (s.headCmd p ring opNop = some (n, d)) ∧ ((s.ring p ring).given.length = n) ∧ (s.portLost p = false) ∧ (s.ringMoves p (s.cplOf p ring) = false)) := by
  decide +kernel

/-- States and operands that meet the conditions of each clause of RingsComplete, from clause 1 on. -/
theorem wit_RingsComplete_a :
    (let s : State := st [(Fld.TOP_MODE_STATUS_MODE, 3), (Fld.blkEn 5, 1), (Fld.HIF_R_ST_CONS 1 63, 9)]; let p : Port := .b; let ring : Fin 64 := 63; let cfg : Word := 0x83040100; (s.powered = true) ∧ (s.on (Fld.HIF_R_CFG_EN p.num ring) = false) ∧ (((s.stopRing p ring 0).putRingCfg p ring cfg).ringCause p ring = 0))
    ∧ (let s : State := withRing State.reset .b 63 2 [dsc 0xE0 0 64]; let p : Port := .b; let ring : Fin 64 := 63; (s.powered = true) ∧ (s.on (Fld.HIF_R_CFG_EN p.num ring) = true) ∧ (s.ringRuns p ring = true) ∧ (s.ringBusy p ring = false))
    ∧ (let s : State := withRing State.reset .b 63 2 []; let p : Port := .b; let ring : Fin 64 := 63; let prod : BitVec 16 := 2; let l : List Desc := [dsc 0x80 0 64, dsc 0xE0 0 64]; (s.powered = true) ∧ (s.ringType p ring = 2) ∧ (s.on (Fld.HIF_R_CFG_EN p.num ring) = true) ∧ (l.all (·.has flagOwn) = true) ∧ (l.length = (prod.toNat + 65536 - s.get (Fld.HIF_R_ST_CONS p.num ring)) % 65536 - ((s.ring p ring).prod + 65536 - s.get (Fld.HIF_R_ST_CONS p.num ring)) % 65536) ∧ (((s.ring p ring).prod + 65536 - s.get (Fld.HIF_R_ST_CONS p.num ring)) % 65536 ≤ (prod.toNat + 65536 - s.get (Fld.HIF_R_ST_CONS p.num ring)) % 65536) ∧ ((prod.toNat + 65536 - s.get (Fld.HIF_R_ST_CONS p.num ring)) % 65536 ≤ 2 ^ s.get (Fld.HIF_R_CFG_SIZE_LOG2 p.num ring)))
    ∧ (let s : State := withRing (st [(Fld.TOP_MODE_STATUS_MODE, 3), (Fld.blkEn 0x10, 1), (Fld.blkEn 0x11, 1), (Fld.blkEn 0x12, 1), (Fld.NET_STATUS_LINK 0, 1), (Fld.NET_STATUS_SPEED 0, 1), (Fld.NET_STATUS_LINK 1, 1), (Fld.NET_STATUS_SPEED 1, 4), (Fld.RSW_CFG_TOPO, 3), (Fld.NET_MAXFRAME_MAX 0, 1522)]) .a 0 2 [{ dsc 0xE0 0 64 with spec := 16 }]; let p : Port := .a; let ring : Fin 64 := 0; let f : Frame := { dst := 2, src := 5, vlan := none, etype := 0x0800, sub := 0, len := 64, hsr := none, prp := none, rtag := none, udp := none, corr := none, body := [] }; let l : List Desc := [{ dsc 0xE0 0 64 with spec := 16 }]; (s.powered = true) ∧ (s.ringMoves p ring = true) ∧ (s.ringType p ring = 2) ∧ ((s.ring p ring).stopping = false) ∧ (s.txChain p ring = some l) ∧ ((l.headD Desc.blank).spec / 16 % 4 = 1) ∧ (s.link .a = true) ∧ (s.mayOriginate = true) ∧ (s.netA.queues.length = 8) ∧ ((chainFrame f l).len ≤ s.get (Fld.NET_MAXFRAME_MAX 0)) ∧ (s.grantAll (txQueue p) (cellsFor (s.tagged .a (chainFrame f l)).len) true = true) ∧ (s.admitQueues (cellsFor (s.tagged .a (chainFrame f l)).len) [txQueue p, egressQueue .a (s.pcpClass (Frame.prio (chainFrame f l)))] = [txQueue p, egressQueue .a (s.pcpClass (Frame.prio (chainFrame f l)))])) := by
  decide +kernel

/-- States and operands that meet the conditions of each clause of RingsComplete, from clause 5 on. -/
theorem wit_RingsComplete_b :
    (let s : State := { withRing (up []) .b 63 3 [] with host := { HostSt.reset with b := { PortSt.reset with held := [⟨63, 60, 60, none, 4, none, { dst := 2, src := 5, vlan := none, etype := 0x0800, sub := 0, len := 64, hsr := none, prp := none, rtag := none, udp := none, corr := none, body := [] }, 7⟩] } } }; let p : Port := .b; let ring : Fin 64 := 63; let h : RxHeld := ⟨63, 60, 60, none, 4, none, { dst := 2, src := 5, vlan := none, etype := 0x0800, sub := 0, len := 64, hsr := none, prp := none, rtag := none, udp := none, corr := none, body := [] }, 7⟩; (s.powered = true) ∧ ((s.portSt p).held = [h]) ∧ (h.ring = ring.val) ∧ (s.time.now ≥ h.since + max 1 (s.get (Fld.HIF_R_TIME_HOLD p.num ring.val)) * 8000))
    ∧ (let s : State := (withRing (up [(Fld.HIF_R_ST_CONS 1 63, 65535)]) .b 63 7 []).setRing .b 63 { Ring.empty with given := [dsc 0x90 0 64], buf := [1] }; let p : Port := .b; let ring : Fin 64 := 63; (s.powered = true) ∧ (s.ringMoves p ring = true) ∧ ((s.ringType p ring = 6 ∨ s.ringType p ring = 7)) ∧ ((s.ring p ring).buf ≠ []) ∧ (s.time.now ≥ (s.ring p ring).bufAt.getD 0 + s.get (Fld.HIF_R_TIME_MOD_US p.num ring.val) * 1000) ∧ ((s.ring p ring).given ≠ []))
    ∧ (let s : State := (up []).setRing .b 63 { Ring.empty with modOpen := true, modDue := true }; let p : Port := .b; let ring : Fin 64 := 63; (s.powered = true) ∧ ((s.ring p ring).modOpen = true) ∧ (s.time.now ≥ (s.ring p ring).windowAt + s.get (Fld.HIF_R_TIME_MOD_US p.num ring.val) * 1000))
    ∧ (let s : State := withRing State.reset .b 63 0 [dsc 0xE0 6 0]; let p : Port := .b; let ring : Fin 64 := 63; (s.powered = true) ∧ (s.ringMoves p ring = true)) := by
  decide +kernel

/-- States and operands that meet the conditions of each clause of HostPortsComplete, from clause 1 on. -/
theorem wit_HostPortsComplete_a :
    (let s : State := st [(Fld.HIF_HB_CFG_HB_EN 1, 1)]; let p : Port := .b; let v : Word := 0xFFFFFFFF; (s.powered = true) ∧ (s.on (Fld.HIF_HB_CFG_HB_EN p.num) = true) ∧ (s.get (Fld.HIF_PORT_ST_STATE p.num) = 0))
    ∧ (let s : State := withRing (st [(Fld.HIF_PORT_ST_STATE 1, 1), (Fld.HIF_PORT_ST_LINK 1, 1)]) .b 63 2 []; let p : Port := .b; let n : Fin 64 := 63; (s.powered = true) ∧ (s.get (Fld.HIF_PORT_ST_STATE p.num) = 1))
    ∧ (let s : State := withRing (st [(Fld.HIF_PORT_ST_STATE 1, 1)]) .b 63 2 [dsc 0xE0 0 64]; let p : Port := .b; let n : Fin 64 := 63; (s.powered = true))
    ∧ (let s : State := up []; let p : Port := .b; let bme : Bool := true; let en : Bool := true; let mask : Bool := true; (s.powered = true) ∧ (s.configTakes p = true)) := by
  decide +kernel

/-- States and operands that meet the conditions of each clause of HostPortsComplete, from clause 5 on. -/
theorem wit_HostPortsComplete_b :
    (let s : State := State.reset; let p : Port := .b; let gen : Fin 3 := 2; let wide : Bool := false; (s.powered = true))
    ∧ (let s : State := State.reset; let p : Port := .b; let v : Word := 0x7FFF0000; (s.powered = true))
    ∧ (let s : State := State.reset; let p : Port := .b; let v : Fin 128 := 127; (s.powered = true)) := by
  decide +kernel

/-- States and operands that meet the conditions of each clause of SemaphoresComplete. -/
theorem wit_SemaphoresComplete :
    (let s : State := State.reset; let p : Port := .b; let n : Fin 32 := 31; let tok : BitVec 16 := 0xFFFF; (s.powered = true) ∧ (s.on (Fld.SEM_HELD n) = false))
    ∧ (let s : State := State.reset; let p : Port := .b; let n : Fin 32 := 31; let tok : BitVec 16 := 1; let other : BitVec 16 := 2; (s.powered = true) ∧ (s.on (Fld.SEM_HELD n) = false) ∧ (s.host.semTie ≠ some .a))
    ∧ (let s : State := { State.reset with host := { HostSt.reset with semTie := some .a } }; let p : Port := .a; let n : Fin 32 := 0; let tok : BitVec 16 := 1; let other : BitVec 16 := 2; (s.powered = true) ∧ (s.on (Fld.SEM_HELD n) = false) ∧ (s.host.semTie = some .a))
    ∧ (let s : State := st [(Fld.SEM_HELD 31, 1), (Fld.SEM_OWNER 31, 2), (Fld.SEM_TOKEN 31, 5)]; let p : Port := .b; let n : Fin 32 := 31; let tok : BitVec 16 := 5; (s.powered = true) ∧ (s.on (Fld.SEM_HELD n) = true) ∧ (s.get (Fld.SEM_OWNER n) = semOwner p) ∧ (s.get (Fld.SEM_TOKEN n) = tok.toNat))
    ∧ (let s : State := { st [(Fld.SEM_HELD 31, 1), (Fld.SEM_OWNER 31, 1)] with time := { TimeSt.reset with unlockB := true } }; let g : Agent := .portB; let n : Fin 32 := 31; (s.powered = true) ∧ (s.unlocked g.who = true)) := by
  decide +kernel

/-- States and operands that meet the conditions of each clause of ExchangeRamCompletes, from clause 1 on. -/
theorem wit_ExchangeRamCompletes_a :
    (let s : State := { State.reset with mem := { MemSt.reset with exch := [(65532, 0x77), (65535, 0x0F)] } }; let m : ExMaster := .crown; let addr : BitVec 16 := 0xFFFF; let be : BitVec 4 := 5; let data : Word := 0xDEADBEEF; let met : Option (Fin 16) := some 3; let ecc : EccState := .corrected; let i : Fin 4 := 1; (s.powered = true))
    ∧ (let s : State := { State.reset with mem := { MemSt.reset with exch := [(65532, 0x77), (65535, 0x0F)] } }; let m : ExMaster := .crown; let addr : BitVec 16 := 0xFFFF; let be : BitVec 4 := 5; let data : Word := 0xDEADBEEF; let met : Option (Fin 16) := some 3; let ecc : EccState := .corrected; let i : Fin 4 := 2; (s.powered = true))
    ∧ (let s : State := { State.reset with mem := { MemSt.reset with exch := [(65532, 0x77), (65535, 0x0F)] } }; let m : ExMaster := .crown; let addr : BitVec 16 := 0xFFFF; let be : BitVec 4 := 5; let data : Word := 0xDEADBEEF; let met : Option (Fin 16) := some 3; let ecc : EccState := .corrected; let i : Fin 4 := 0; (s.powered = true))
    ∧ (let s : State := { State.reset with mem := { MemSt.reset with exch := [(65532, 0x77), (65535, 0x0F)] } }; let m : ExMaster := .crown; let addr : BitVec 16 := 0xFFFF; let be : BitVec 4 := 5; let data : Word := 0xDEADBEEF; let met : Option (Fin 16) := some 3; let ecc : EccState := .corrected; let a : Nat := 65531; (s.powered = true) ∧ (a / 4 ≠ addr.toNat / 4)) := by
  decide +kernel

/-- States and operands that meet the conditions of each clause of ExchangeRamCompletes, from clause 5 on. -/
theorem wit_ExchangeRamCompletes_b :
    (let s : State := { State.reset with mem := { MemSt.reset with exch := [(65532, 0x77), (65535, 0x0F)] } }; let m : ExMaster := .crown; let addr : BitVec 16 := 0xFFFF; let be : BitVec 4 := 5; let data : Word := 0xDEADBEEF; let met : Option (Fin 16) := some 3; let ecc : EccState := .corrected; let a : Nat := 65536; (s.powered = true) ∧ (a / 4 ≠ addr.toNat / 4))
    ∧ (let s : State := { State.reset with mem := { MemSt.reset with exch := [(65532, 0x77), (65535, 0x0F)] } }; let m : ExMaster := .crown; let addr : BitVec 16 := 0xFFFF; let be : BitVec 4 := 5; let data : Word := 0xDEADBEEF; let met : Option (Fin 16) := some 3; let ecc : EccState := .corrected; let a : Nat := 0; (s.powered = true) ∧ (a / 4 ≠ addr.toNat / 4)) := by
  decide +kernel

/-- States and operands that meet the conditions of each clause of BanksAndQueuesComplete. -/
theorem wit_BanksAndQueuesComplete :
    (let s : State := up [(Fld.bankCorr 65, 65535)]; let b : Fin 66 := 65; let item : Option EccItem := none; (s.powered = true) ∧ (s.bankPowered b = true) ∧ (s.ran .scrub 16000 = true) ∧ (s.on (Fld.blkFreeze 0x48) = false))
    ∧ (let s : State := up []; let b : Fin 66 := 58; (s.powered = true) ∧ (s.bankPowered b = true) ∧ (s.ran .scrub 16000 = true) ∧ (s.on (Fld.blkFreeze 0x48) = false) ∧ (16 ≤ b.val) ∧ (b.val ≤ 58))
    ∧ (let s : State := { up [(Fld.bankWin 65, 9), (Fld.PLAT_REPAIR_CFG_WIN_H, 1)] with mem := { MemSt.reset with windows := [64, 65] } }; let b : Fin 66 := 65; (s.powered = true) ∧ (s.mem.windows.contains b.val = true) ∧ (s.ran (.ecc b.val) (s.get Fld.PLAT_REPAIR_CFG_WIN_H * 3600000000000) = true))
    ∧ (let s : State := { st [(Fld.qFlushed 23, 4294967290)] with mem := { MemSt.reset with items := [⟨4, 7, [15, 23]⟩, ⟨5, 3, [23]⟩], nextItem := 6 } }; let g : Agent := .mgmt; let q : BitVec 5 := 23; (s.powered = true) ∧ (q.toNat < 26) ∧ ((s.inAlarm = false ∨ (q ≠ 7 ∧ q ≠ 15))) ∧ (s.on (Fld.blkFreeze 0x48) = false)) := by
  decide +kernel

/-- States and operands that meet the conditions of each clause of RegistersComplete, from clause 1 on. -/
theorem wit_RegistersComplete_a :
    (let s : State := State.reset; let g : Agent := .portA; let off : BitVec 24 := 0x500040; let data : Word := 0xFFFFFFFF; let r : RegSpec := ((State.reset.regHere 0x500040).getD (⟨0, 0, 0, [], false, []⟩, 0)).1; let n : Nat := 0; (s.powered = true) ∧ (s.holds g = false) ∧ (s.regHere off.toNat = some (r, n)) ∧ (r.fields.all (·.acc = .rw) = true) ∧ (off.toNat % 0x10000 ≠ 4) ∧ (off.toNat % 0x10000 ≠ 0xFF4) ∧ (foreign g.who off.toNat = false) ∧ (s.inAlarm = false) ∧ (lapCfgEn off.toNat = none) ∧ ((if off.toNat / 0x10000 < 0x12 then s.actLow g.who off.toNat r.fields data false else s.actHigh g.who off.toNat data false) = none))
    ∧ (let s : State := State.reset; let g : Agent := .mgmt; let off : BitVec 24 := 0x080104; let be : BitVec 4 := 1; let r : RegSpec := ((State.reset.regHere 0x080104).getD (⟨0, 0, 0, [], false, []⟩, 0)).1; let n : Nat := 0; (s.powered = true) ∧ (s.holds g = false) ∧ (s.regHere off.toNat = some (r, n)) ∧ (be ≠ 0) ∧ (off.toNat % 0x10000 ≠ 0xFF4) ∧ (off.toNat ≠ 0x080014) ∧ (off.toNat ≠ 0x3A0018) ∧ (off.toNat ≠ 0x480010) ∧ (s.resp.length = 3))
    ∧ (let s : State := State.reset; let g : Agent := .portA; let off : BitVec 24 := 0x050014; let be : BitVec 4 := 15; let data : Word := 1; (s.powered = true) ∧ (s.holds g = false) ∧ ((s.regHere off.toNat = none ∨ be ≠ 15 ∨ foreign g.who off.toNat = true)))
    ∧ (let s : State := st [(Fld.REFS_SLEW_SLEW, 7), (Fld.REFS_LIMITS_HARD, 11)]; let g : Agent := .portB; let data : Word := 5; (s.powered = true) ∧ (s.holds g = false)) := by
  decide +kernel

/-- States and operands that meet the conditions of each clause of RegistersComplete, from clause 5 on. -/
theorem wit_RegistersComplete_b :
    (let s : State := State.reset; let p : Port := .b; let k : BitVec 16 := 0x7A5C; (s.powered = true))
    ∧ (let s : State := { State.reset with time := { TimeSt.reset with unlockB := true, now := 1000000 } }; let p : Port := .b; (s.powered = true) ∧ (s.ran (.unlock p) 1000000 = true)) := by
  decide +kernel

/-- States and operands that meet the conditions of each clause of IndirectWordsComplete. -/
theorem wit_IndirectWordsComplete :
    (let s : State := st [(⟨iaddrKey .portB 0x48, 31, 31⟩, 1), (⟨iaddrKey .portB 0x48, 23, 0⟩, 0xC8)]; let g : Agent := .portB; let code : BitVec 8 := 0x48; let l : List FieldSpec := queueFields 0; (s.powered = true) ∧ (s.holds g = false) ∧ ((s.regHere (code.toNat * 0x10000 + 0xFF4)).isSome = true) ∧ (indFields code.toNat (s.iaddr g.who code.toNat) = some l) ∧ (s.indReady code.toNat = true) ∧ (s.resp.length = 3))
    ∧ (let s : State := st [(⟨iaddrKey .portB 0x28, 31, 31⟩, 1), (⟨iaddrKey .portB 0x28, 23, 0⟩, 0x177)]; let g : Agent := .portB; let data : Word := 0x80000001; (s.powered = true) ∧ (s.holds g = false) ∧ (0x100 ≤ s.iaddr g.who 0x28) ∧ (s.iaddr g.who 0x28 ≤ 0x177) ∧ (s.indReady 0x28 = true))
    ∧ (let s : State := { st [(⟨iaddrKey .portB 0x28, 31, 31⟩, 1), (⟨iaddrKey .portB 0x28, 23, 0⟩, 0x177)] with heldW := [⟨.portA, true, 0x280FF4, 15, 6⟩, ⟨.portB, true, 0x280FF4, 15, 5⟩] }; let g : Agent := .portB; let h : HeldAccess := ⟨.portB, true, 0x280FF4, 15, 5⟩; (s.powered = true) ∧ (s.heldW.filter (·.agent = g) = [h]) ∧ (h.write = true) ∧ (h.off = 0x280FF4) ∧ (h.be = 15) ∧ (0x100 ≤ s.iaddr g.who 0x28) ∧ (s.iaddr g.who 0x28 ≤ 0x177) ∧ (s.indReady 0x28 = true)) := by
  decide +kernel

/-- States and operands that meet the conditions of each clause of LogCompletes, from clause 1 on. -/
theorem wit_LogCompletes_a :
    (let s : State := st [(Fld.evtRaw 63, 1), (Fld.evtRaw 32, 1)]; let g : Agent := .portB; let hi : Bool := true; let m : Word := 0x80000000; (s.powered = true))
    ∧ (let s : State := { State.reset with time := { TimeSt.reset with unlockB := true } }; let g : Agent := .portB; let src : BitVec 6 := 63; (s.powered = true) ∧ (s.unlocked g.who = true) ∧ ((s.isP8 = true ∨ absentSource src.toNat = false)))
    ∧ (let s : State := { st [(Fld.LOG_ST_NEXT, 4095), (Fld.LOG_CFG_FREEZE_SEV, 6)] with log := { LogSt.reset with intake := [⟨1, 2, 3, 4, 5, 6, 7, 8⟩] } }; let e : LogEntry := ⟨1, 2, 3, 4, 5, 6, 7, 8⟩; let l : List LogEntry := []; (s.powered = true) ∧ (s.log.intake = e :: l) ∧ (s.on Fld.LOG_ST_FROZEN = false) ∧ (s.on Fld.LOG_ST_TRIG = false) ∧ (s.get Fld.LOG_CFG_FREEZE_SEV > 5) ∧ (s.log.dropped = 0))
    ∧ (let s : State := { State.reset with log := { LogSt.reset with archPend := [⟨1, 2, 3, 4, 5, 6, 7, 8⟩], archCount := 63 } }; let e : LogEntry := ⟨1, 2, 3, 4, 5, 6, 7, 8⟩; let l : List LogEntry := []; (s.powered = true) ∧ (s.log.archPend = e :: l) ∧ ((s.log.archSecond ≠ s.time.now / 1000000000 ∨ s.log.archCount < 64))) := by
  decide +kernel

/-- States and operands that meet the conditions of each clause of LogCompletes, from clause 5 on. -/
theorem wit_LogCompletes_b :
    (let s : State := st [(Fld.LOG_COUNT_COUNT, 4294967295)]; let g : Agent := .mgmt; (s.powered = true) ∧ (s.on Fld.LOG_ST_FROZEN = false))
    ∧ (let s : State := st [(Fld.LOG_ST_FROZEN, 1)]; let g : Agent := .portA; (s.powered = true) ∧ (s.on Fld.LOG_ST_FROZEN = true))
    ∧ (let s : State := { st [(Fld.LOG_ST_NEXT, 9), (Fld.LOG_ST_FROZEN, 1), (Fld.LOG_ST_WRAPPED, 1)] with time := { TimeSt.reset with unlockB := true } }; let g : Agent := .portB; (s.powered = true) ∧ (s.unlocked g.who = true) ∧ (s.inAlarm = false)) := by
  decide +kernel

/-- A state with a command at the front of its queue, and the state that its step answers. -/
theorem wit_StepRunsTheFrontCommand :
    let s : State := { State.reset with pending := [.evtRawClear .portA true 1, .linerLoss] }
    s.pending = .evtRawClear .portA true 1 :: [.linerLoss] ∧ (match step s with | .next t => t.pending | _ => []) = [.linerLoss] := by
  decide +kernel

/-- A state in canonical form that lists octets, and a step from it that stores others. -/
theorem wit_StepKeepsInv :
    let s : State := { State.reset with mem := { MemSt.reset with exch := [(4, 7), (65535, 1)] },
                                        pending := [.exchangeWrite .hostA 6 15 0x00010200 none .ok] }
    Memory.wf s.mem.exch = true ∧ (match step s with | .next t => t.mem.exch | _ => []) = [(5, 2), (6, 1), (65535, 1)] := by
  decide +kernel

/-- A state in OFF, and a command and a voltage that leave it there. -/
theorem wit_OffIsLeftByPowerAlone :
    let s := st [(Fld.TOP_MODE_STATUS_MODE, 0)]
    s.powered = false ∧ (match exec (.registerWrite .portA 0x000024 15 0x80000004 .plain) s with | .next t => decide (t = s) | _ => false) = true
    ∧ (match exec (.powerValid 879) s with | .next t => decide (t = s) | _ => false) = true := by
  decide +kernel

/-- A command that answers a next state and reaches neither the OTP array nor the exchange RAM. -/
theorem wit_OutOfReach :
    let s : State := { State.reset with mem := { MemSt.reset with exch := [(65535, 1)] } }
    (match exec (.perstAssert .a) s with | .next t => t.mem.exch | _ => []) = [(65535, 1)] ∧ touchesExch (.perstAssert .a) = false := by
  decide +kernel

/-- States and operands that meet the conditions of each clause of UndefinedIndirectWords. -/
theorem wit_UndefinedIndirectWords :
    (let s : State := st [(⟨0x280FF0 + 0x1000000, 31, 31⟩, 1), (⟨0x280FF0 + 0x1000000, 23, 0⟩, 0xFFFFFF)]; let g : Agent := .portB; let code : BitVec 8 := 0x28; (s.powered = true) ∧ (s.holds g = false) ∧ ((s.regHere (code.toNat * 0x10000 + 0xFF4)).isSome = true) ∧ (indFields code.toNat (s.iaddr g.who code.toNat) = none) ∧ (s.resp.length = 3))
    ∧ (let s : State := st [(⟨0x480FF0 + 0x1000000, 31, 31⟩, 1), (⟨0x480FF0 + 0x1000000, 23, 0⟩, 0xD0)]; let g : Agent := .portB; let code : BitVec 8 := 0x48; let data : Word := 5; let k : Nat := 0x480014; (s.powered = true) ∧ (s.holds g = false) ∧ ((s.regHere (code.toNat * 0x10000 + 0xFF4)).isSome = true) ∧ (foreign g.who (code.toNat * 0x10000 + 0xFF4) = false) ∧ (indFields code.toNat (s.iaddr g.who code.toNat) = none) ∧ (((tellKey k = false ∧ k ≠ (iaddrKey g.who code.toNat) ∧ k ≠ code.toNat * 0x10000 + 8 ∧ k ≠ code.toNat * 0x10000 + 0x1000008) ∨ k = indKey code.toNat (s.iaddr g.who code.toNat)))) := by
  decide +kernel

/-- States and operands that meet the conditions of each clause of PartialIdataAccesses. -/
theorem wit_PartialIdataAccesses :
    (let s : State := State.reset; let g : Agent := .portA; let code : BitVec 8 := 0x48; let be : BitVec 4 := 7; let k : Nat := 0x480FF0; (s.powered = true) ∧ (s.holds g = false) ∧ ((s.regHere (code.toNat * 0x10000 + 0xFF4)).isSome = true) ∧ (be ≠ 15) ∧ (be ≠ 0) ∧ (s.resp.length = 3) ∧ (tellKey k = false))
    ∧ (let s : State := State.reset; let g : Agent := .mgmt; let code : BitVec 8 := 0x05; let be : BitVec 4 := 0; let data : Word := 3; let k : Nat := 0x480FF0; (s.powered = true) ∧ (s.holds g = false) ∧ ((s.regHere (code.toNat * 0x10000 + 0xFF4)).isSome = true) ∧ (be ≠ 15) ∧ (tellKey k = false)) := by
  decide +kernel

/-- States and operands that meet the conditions of each clause of AbsentBlocksOfTheL0. -/
theorem wit_AbsentBlocksOfTheL0 :
    (let s : State := { State.reset with variant := .l0, resp := [1, 2, 3] }; let g : Agent := .portB; let off : BitVec 24 := 0x310000; let be : BitVec 4 := 15; (s.powered = true) ∧ (s.holds g = false) ∧ (s.variant = .l0) ∧ ((off.toNat / 0x10000 = 0x30 ∨ off.toNat / 0x10000 = 0x31)) ∧ (s.resp.length = 3))
    ∧ (let s : State := { State.reset with variant := .l0 }; let g : Agent := .portB; let off : BitVec 24 := 0x300100; let be : BitVec 4 := 15; let data : Word := 0x80000000; let k : Nat := 0x300100; (s.powered = true) ∧ (s.holds g = false) ∧ (s.variant = .l0) ∧ ((off.toNat / 0x10000 = 0x30 ∨ off.toNat / 0x10000 = 0x31)) ∧ (tellKey k = false)) := by
  decide +kernel

/-- A command of the family that answers a next state. -/
theorem wit_ClockFrames :
    (reach (.applyHold .portA true)).family = .clock ∧ (match exec (.applyHold .portA true) State.reset with | .next _ => true | _ => false) = true := by decide +kernel

/-- A command of the family that answers a next state. -/
theorem wit_NetworkFrames :
    (reach (.ringCheckTimeout .a)).family = .network ∧ (match exec (.ringCheckTimeout .a) State.reset with | .next _ => true | _ => false) = true := by decide +kernel

/-- A command of the family that answers a next state. -/
theorem wit_AudioFrames :
    (reach (.coefSwapCancel .portA)).family = .audio ∧ (match exec (.coefSwapCancel .portA) State.reset with | .next _ => true | _ => false) = true := by decide +kernel

/-- A command of the family that answers a next state. -/
theorem wit_PowerAndDutyFrames :
    (reach (.lineStale 7)).family = .power ∧ (match exec (.lineStale 7) State.reset with | .next _ => true | _ => false) = true := by decide +kernel

/-- A command of the family that answers a next state. -/
theorem wit_PlatformFrames :
    (reach (.repairCopyDone)).family = .platform ∧ (match exec (.repairCopyDone) State.reset with | .next _ => true | _ => false) = true := by decide +kernel

/-- A command of the family that answers a next state. -/
theorem wit_HostFrames :
    (reach (.unlockExpire .a)).family = .host ∧ (match exec (.unlockExpire .a) State.reset with | .next _ => true | _ => false) = true := by decide +kernel

/-- A command of the family that answers a next state. -/
theorem wit_BroadFrames :
    (reach (.registerWrite .portA 0x24 15 0 .plain)).family = .broad ∧ (match exec (.registerWrite .portA 0x24 15 0 .plain) State.reset with | .next _ => true | _ => false) = true := by decide +kernel
/-! ### Ill-formed commands, one for each check -/

/-- Operands of the commands below, as plain as they go. -/
def aFrame : Frame :=
  { dst := 0, src := 0, vlan := none, etype := 0x0800, sub := 0, len := 64, hsr := none, prp := none, rtag := none, udp := none,
    corr := none, body := [] }

def aPacket : RtpPacket :=
  { src := 0, dst := 0, port := 5004, vid := 0, rtag := none, octets := [0x80, 98, 0, 0, 0, 0, 0, 0, 0, 0, 0, 0] }

def noPhase : List Int := List.replicate 8 0

theorem test_wf_tickStart : Instr.wf (.tickStart ⟨[], [], [], [], List.replicate 3 0, [], false⟩) = false
    ∧ Instr.wf (.tickStart ⟨[], [], [], [], [], [], false⟩) = true := by decide +kernel
theorem test_wf_brimStart : Instr.wf (.brimStart ⟨[], [], none, List.replicate 10 0⟩) = false := by decide +kernel
theorem test_wf_refActivityLoss : Instr.wf (.refActivityLoss 0 []) = false
    ∧ Instr.wf (.refActivityLoss 0 noPhase) = true := by decide +kernel
theorem test_wf_refGlitch : Instr.wf (.refGlitch 7 []) = false := by decide +kernel
theorem test_wf_refEvaluation : Instr.wf (.refEvaluation ⟨[], List.replicate 5 none, noPhase, 0, 0, []⟩) = false
    ∧ Instr.wf (.refEvaluation ⟨[none, none, none], [], noPhase, 0, 0, []⟩) = false
    ∧ Instr.wf (.refEvaluation ⟨[none, none, none], List.replicate 5 none, [], 0, 0, []⟩) = false := by decide +kernel
theorem test_wf_waitToRestoreExpire : Instr.wf (.waitToRestoreExpire 0 [1]) = false := by decide +kernel
theorem test_wf_frameReceive :
    Instr.wf (.frameReceive .a { aFrame with dst := 2 ^ 48 } ⟨true, false, false, none⟩) = false
    ∧ Instr.wf (.frameReceive .a { aFrame with vlan := some (8, 0) } ⟨true, false, false, none⟩) = false
    ∧ Instr.wf (.frameReceive .a { aFrame with udp := some (0, 0, 65536) } ⟨true, false, false, none⟩) = false
    ∧ Instr.wf (.frameReceive .a aFrame ⟨true, false, false, none⟩) = true := by decide +kernel
theorem test_wf_nodeAnnounceReceive : Instr.wf (.nodeAnnounceReceive .a ⟨1, 2 ^ 48, false, false, false, 0, 1⟩) = false := by
  decide +kernel
theorem test_wf_dupEntryForget : Instr.wf (.dupEntryForget 0 (2 ^ 48)) = false := by decide +kernel
theorem test_wf_streamPacketReceive : Instr.wf (.streamPacketReceive .a { aPacket with vid := 4096 }) = false
    ∧ Instr.wf (.streamPacketReceive .a { aPacket with rtag := some 65536 }) = false
    ∧ Instr.wf (.streamPacketReceive .a aPacket) = true := by decide +kernel
theorem test_wf_aes3BlockEnd : Instr.wf (.aes3BlockEnd 0 ⟨[], [], [], [], true⟩) = false := by decide +kernel
theorem test_wf_trigSample : Instr.wf (.trigSample []) = false := by decide +kernel
theorem test_wf_laneOscCheck : Instr.wf (.laneOscCheck [1, 2]) = false := by decide +kernel
theorem test_wf_modbusRequest : Instr.wf (.modbusRequest ⟨List.replicate 257 0, 0⟩) = false := by decide +kernel
theorem test_wf_attestComplete :
    Instr.wf (.attestComplete ⟨false, true, true, true, true, true, List.replicate 65 0⟩) = false := by decide +kernel
theorem test_wf_hostFrameTransmit : Instr.wf (.hostFrameTransmit .a 0 { aFrame with src := 2 ^ 48 }) = false := by decide +kernel

/-! ### Worked examples of the spec, one step each -/

/-- The state after one command. -/
def one (c : Instr) (s : State) : State := match exec c s with
  | .next t => t
  | _ => s

/-- A state at a given counter and tick. -/
def atNs (counter tick : Nat) (s : State) : State :=
  { s with time := { s.time with counter := BitVec.ofNat 64 counter, tickStart := BitVec.ofNat 64 counter,
                                 tick := BitVec.ofNat 32 tick, now := counter } }

/-- A write of a whole register. -/
def write (off data : Nat) : Instr := .registerWrite .portA (BitVec.ofNat 24 off) 15 (BitVec.ofNat 32 data) .plain

/-- Ch. 01, worked example, steps 2 and 3: at tick 0x0A3F_1C20 an apply for 0x0A3F_1C48 is armed and not missed (R22). -/
theorem test_apply_arm_at_tamsvik :
    let s := one (.applyArm .portA) (atNs (0x0A3F1C20 * 125000) 0x0A3F1C20 (st [(Fld.TOP_APPLY_TICK_BRIM_TICK, 0x0A3F1C48)]))
    s.on Fld.TOP_APPLY_STATUS_ARMED = true ∧ s.on Fld.TOP_APPLY_STATUS_MISSED = false := by decide +kernel

/-- Ch. 01, step 6: the brim of that tick applies and leaves its number in LAST_BRIM. -/
theorem test_apply_brim_at_tamsvik :
    let s := one (.brimStart ⟨[], [], none, []⟩) (atNs (0x0A3F1C48 * 125000) 0x0A3F1C48
      { st [(Fld.TOP_APPLY_TICK_BRIM_TICK, 0x0A3F1C48), (Fld.TOP_APPLY_STATUS_ARMED, 1)] with
        shadow := (one (write 0x300164 0x003207D0) State.reset).shadow })
    s.get Fld.TOP_APPLY_LAST_LAST_BRIM = 0x0A3F1C48 ∧ s.on Fld.TOP_APPLY_STATUS_ARMED = false := by decide +kernel

/-- Ch. 02, worked examples: the step of F1-2 at a tick boundary of 41.25 s loads 1,760,000,000 s and 80 µs (R64). -/
theorem test_step_of_f1_2 :
    (one .ptpStep (atNs (329999 * 125000) 329999
      { State.reset with time := { TimeSt.reset with stepDelta := some 1759999958750080000 } })).time.counter = 1760000000000080000 := by decide +kernel

/-- Ch. 04, worked example: the first PULSE0 after the step of F1-2 falls 750.08 ms past a whole second: ERR_NS is
−249,920,000 ns (R117). -/
theorem test_pulse_error_after_step :
    (one (.pulseEmit 0) (atNs 1760000000750080000 0 { State.reset with syn := { SynSt.reset with
      trains := SynSt.reset.trains.set 0 { (State.reset.train 0) with run := true, period := 1000000000 } } })).getS
      (Fld.PULSE_ERR_ERR_NS 0) = -249920000 := by decide +kernel

/-- Ch. 09, worked example: with 792, 1,206 and 1,611 kHz protected and 400 kHz preferred the search takes 405 kHz, 9 kHz clear
(R264). -/
theorem test_frequency_plan_at_tamsvik :
    planSearch [792, 1206, 1611] 400 = (405, false) ∧ planDist [792, 1206, 1611] 405 = 9 ∧ planDist [792, 1206, 1611] 400 = 6 := by
  decide +kernel

/-- Ch. 17, worked example: AMP_CH3_CFG takes 0x8502_8008 as EN, RETRY_N 5, RETRY_S 10 and ILIM 8. -/
theorem test_amp_ch3_cfg_write :
    let s := one (write 0x300160 0x05028008) State.reset
    s.get (Fld.AMP_CH_CFG_RETRY_N 3) = 5 ∧ s.get (Fld.AMP_CH_CFG_RETRY_S 3) = 10 ∧ s.get (Fld.AMP_CH_CFG_ILIM 3) = 8 := by
  decide +kernel

/-- Ch. 17: AMP_CH3_LEVEL keeps 0x0032_07D0, 50 W and 20.00 V, in its shadow until the brim, and reads it back (R23). -/
theorem test_amp_ch3_level_write :
    let s := one (write 0x300164 0x003207D0) State.reset
    s.readReg .portA 0x300164 = 0x003207D0 ∧ s.get (Fld.AMP_CH_LEVEL_FS_VPK 3) = 4000 ∧ (s.readReg .portA 0x48).getLsbD 0 = true := by
  decide +kernel

/-- Ch. 14, worked example: CTL-A takes semaphore 4 under its token 0xA1. -/
theorem test_semaphore_acquire :
    let s := one (.semaphoreAcquire .a 4 0xA1 none) State.reset
    s.on (Fld.SEM_HELD 4) = true ∧ s.get (Fld.SEM_TOKEN 4) = 0xA1 ∧ s.on (Fld.SEM_WAIT_B 4) = false := by decide +kernel

/-- Ch. 14: CTL-B, which asks for it next, waits. -/
theorem test_semaphore_waits :
    let s := one (.semaphoreAcquire .b 4 0xB2 none) (st [(Fld.SEM_HELD 4, 1), (Fld.SEM_TOKEN 4, 0xA1), (Fld.SEM_OWNER 4, 0)])
    s.get (Fld.SEM_TOKEN 4) = 0xA1 ∧ s.on (Fld.SEM_WAIT_B 4) = true := by decide +kernel

/-- Ch. 16, worked example: CTL-B's right key opens its window, and CTL-A's wrong one opens none (R468). -/
theorem test_unlock_keys :
    (one (.unlockKey .b 0x7A5C) State.reset).unlocked .portB = true
    ∧ (one (.unlockKey .a 0x7A5D) State.reset).unlocked .portA = false := by decide +kernel

/-- R439, R440: the exchange RAM takes a word's octets from the lowest address up, those of the lanes enabled. -/
theorem test_exchange_lanes :
    (one (.exchangeWrite .hostA 0x10 5 0x44332211 none .ok) State.reset).mem.exch = [(0x10, 0x11), (0x12, 0x33)] := by
  decide +kernel

/-- R205: 24-bit code 0x400000 is 0.5, and −1.0 and above +1.0 − 2^-23 saturate as the spec says. -/
theorem test_samples :
    fromCode24 0x400000 = 0x3F000000 ∧ toCode24 0x3F800000 = (2 ^ 23 - 1, true) ∧ toCode24 0xBF800000 = (-(2 ^ 23), false) := by
  decide +kernel

/-- Ch. 02, worked example: the tick that begins at PTP time 1,760,000,000 s is number 0x4166_0000 (R43). -/
theorem test_tick_start :
    (one (.tickStart ⟨[], [], [], [], [], [], false⟩) (atNs (1760000000000000000 - 125000) 0x4165FFFF State.reset)).time.tick = 0x41660000 := by
  decide +kernel

/-- The queue: a step runs its front and leaves the rest; an empty queue leaves only time to pass. -/
theorem test_step_takes_the_front :
    (match step { State.reset with pending := [.unlockKey .b 0x7A5C, .logEntryWrite] } with
      | .next t => (t.pending, t.unlocked .portB)
      | _ => ([], false)) = ([.logEntryWrite], true) := by decide +kernel

/-! ### The standards that chapters 6, 5 and 13 cite, against their published vectors -/

/-- FIPS 197, C.3, and the GCM specification's test case 13 (R197). -/
theorem test_aes_gcm :
    aesEncrypt 0x000102030405060708090a0b0c0d0e0f101112131415161718191a1b1c1d1e1f 0x00112233445566778899aabbccddeeff
      = 0x8ea2b7ca516745bfeafc49904b496089
    ∧ gcmTag 0 (List.replicate 12 0) [] [] = 0x530f8afbc74536b9a963b4f1c4cb738b := by decide +kernel

/-- FIPS 180-4's example "abc" (R382). -/
theorem test_sha384 : ofOctets (sha384 [0x61, 0x62, 0x63])
    = 0xcb00753f45a35e8bb5a03d699ac65007272c32ab0eded1631a8b605a43ff5bed8086072ba1e7cc2358baeca134c825a7 := by decide +kernel

/-- RFC 6979, A.2.6, message "sample": the signature verifies, and that of another message does not (R382). -/
theorem test_ecdsa_p384 :
    let key := 4 :: beOctets 48 0xEC3A4E415B4E19A4568618029F427FA5DA9A8BC4AE92E02E06AAE5286B300C64DEF8F0EA9055866064A254515480BC13
      ++ beOctets 48 0x8015D9B72D7D57244EA8EF9AC0C621896708A59367F9DFB9F54CA84B3F1C9DB1288B231C3AE0D4FE7344FD2533264720
    let ok := fun m => ecdsaOk key m
      0x94EDBB92A5ECB8AAD4736E56C691916B3F88140666CE9FA73D64C4EA95AD133C81A648152E44ACF96E36DD1E80FABE46
      0x99EF4AEB15F178CEA1FE40DB2603138F130E740A19624526203B6351D0A3A94FA329C145786E679E7B82C71A38628AC8
    ok [0x73, 0x61, 0x6d, 0x70, 0x6c, 0x65] = true ∧ ok [0x73, 0x61, 0x6d, 0x70, 0x6c, 0x66] = false := by decide +kernel

/-- NIST SP 800-38B, D.3, example 10, and RFC 3394, 4.6: the ICV and the wrapped SAK of an MKPDU (R158). -/
theorem test_cmac_and_key_wrap :
    cmac 0x603deb1015ca71be2b73aef0857d77811f352c073b6108d72d9810a30914dff4 (beOctets 16 0x6bc1bee22e409f96e93d7e117393172a)
      = 0x28a7023f452e8f82bd4bf28d8c37c35c
    ∧ keyUnwrap 0x000102030405060708090A0B0C0D0E0F101112131415161718191A1B1C1D1E1F
        0x28C9F404C4B810F4CBCCB35CFB87F8263F5786E2D80ED326CBC7F0E71A99F43BFB988B9B7A02DD21
      = some 0x00112233445566778899AABBCCDDEEFF000102030405060708090A0B0C0D0E0F := by decide +kernel

end
end

section
/-! What no command reaches but those the rules name: the ordering code (R1), the queue, the OTP array (R373, R384) and
the exchange RAM (R439). Almost every command is an effect under `State.run`, which keeps all four; the others are
named one by one. -/

namespace Sys2Proof.Machine

/-- The ordering code, the queue, the OTP array and the exchange RAM stand as they did. -/
structure State.HoldsMost (s t : State) : Prop where
  variant : t.variant = s.variant
  pending : t.pending = s.pending
  otp : t.otp = s.otp
  exch : t.mem.exch = s.mem.exch

theorem State.exchByte_congr {s t : State} (h : t.mem.exch = s.mem.exch) (a : Nat) : t.exchByte a = s.exchByte a := by
  unfold State.exchByte; rw [h]

/-- Every command but the brim, the accesses of the exchange RAM and the loss and return of the supply is an effect
under `State.run`. -/
theorem exec_eq_run (c : Instr) (hb : ∀ b, c ≠ .brimStart b) (hx : touchesExch c = false) :
    ∃ f : State → State, ∀ s, exec c s = s.run f := by
  cases c
  case brimStart b => exact absurd rfl (hb b)
  case exchangeWrite | exchangeSet | exchangeClear | vinCtlLoss | powerValid => cases hx
  all_goals exact ⟨_, fun _ => rfl⟩

theorem State.run_holdsMost {s t : State} {f : State → State} (h : s.run f = .next t) : s.HoldsMost t := by
  unfold State.run at h
  split at h <;> cases h <;> exact ⟨rfl, rfl, rfl, rfl⟩

/-- An effect that may reach the exchange RAM. -/
theorem State.runExch_keeps {s t : State} {f : State → State} (h : s.runExch f = .next t) :
    t.variant = s.variant ∧ t.pending = s.pending ∧ t.otp = s.otp := by
  unfold State.runExch at h
  split at h <;> cases h <;> exact ⟨rfl, rfl, rfl⟩

/-- The effect of a brim, which may reach the OTP array. -/
theorem State.runBrim_keeps {s t : State} {f : State → State} (h : s.runBrim f = .next t) :
    t.variant = s.variant ∧ t.pending = s.pending ∧ t.mem.exch = s.mem.exch := by
  unfold State.runBrim at h
  split at h <;> cases h <;> exact ⟨rfl, rfl, rfl⟩

theorem State.Tells.logNote (s : State) (code sub org : Nat) (dw : List Nat) (h : code ≠ codeDiscard) :
    s.Tells (s.logNote code sub org dw) := by
  unfold State.logNote; rw [if_neg h]; exact .logPut _ _

@[simp] theorem State.offState_variant (s : State) : s.offState.variant = s.variant := rfl
@[simp] theorem State.offState_pending (s : State) : s.offState.pending = s.pending := rfl
@[simp] theorem State.offState_otp (s : State) : s.offState.otp = s.otp := rfl

/-- The return of the supply (R348) finds the ordering code and the OTP array as the module holds them. -/
theorem execPowerValid_keeps {v : BitVec 16} {s t : State} (h : execPowerValid v s = .next t) :
    t.variant = s.variant ∧ t.pending = s.pending ∧ t.otp = s.otp := by
  have e := Host.Outcome.next.inj h
  cases hc : !s.powered && decide (v.toNat ≥ 880)
  case false =>
    rw [State.when_off _ _ _ hc] at e
    exact e ▸ ⟨rfl, rfl, rfl⟩
  case true =>
    have ht := State.Tells.logNote (s.offState.put Fld.TOP_MODE_STATUS_MODE modeAttest) codeState 0 originPart
      [modeOff, modeAttest, 0, 0] (by decide)
    rw [State.when_on _ _ _ hc, State.showVin] at e
    rw [← e, State.put_variant, State.put_pending, State.put_otp, ht.variant_eq, ht.pending_eq, ht.otp_eq]
    exact ⟨rfl, rfl, rfl⟩

/-- The accesses of the exchange RAM and the loss and return of the supply keep what does not belong to them. -/
theorem exec_touchesExch_keeps {c : Instr} {s t : State} (hx : touchesExch c = true) (h : exec c s = .next t) :
    t.variant = s.variant ∧ t.pending = s.pending ∧ t.otp = s.otp := by
  cases c
  case exchangeWrite => exact State.runExch_keeps ((exec_exchangeWrite ..).symm.trans h)
  case exchangeSet => exact State.runExch_keeps ((exec_exchangeSet ..).symm.trans h)
  case exchangeClear => exact State.runExch_keeps ((exec_exchangeClear ..).symm.trans h)
  case vinCtlLoss => exact State.runExch_keeps ((exec_vinCtlLoss ..).symm.trans h)
  case powerValid => exact execPowerValid_keeps h
  all_goals cases hx

/-- Settles O50: the runner of each command keeps what the command does not reach. -/
theorem outOfReach : Obligations.OutOfReach := by
  intro c s t h
  by_cases hb : ∃ b, c = .brimStart b
  · obtain ⟨b, rfl⟩ := hb
    obtain ⟨hv, hp, he⟩ := State.runBrim_keeps h
    exact ⟨hv, hp, fun n => absurd rfl (n b), fun _ => State.exchByte_congr he⟩
  · cases hx : touchesExch c
    case true =>
      obtain ⟨hv, hp, ho⟩ := exec_touchesExch_keeps hx h
      exact ⟨hv, hp, fun _ => ho, fun e => absurd e (by decide)⟩
    case false =>
      obtain ⟨f, hf⟩ := exec_eq_run c (not_exists.mp hb) hx
      obtain ⟨hv, hp, ho, he⟩ := State.run_holdsMost ((hf s).symm.trans h)
      exact ⟨hv, hp, fun _ => ho, fun _ => State.exchByte_congr he⟩

end Sys2Proof.Machine
end

section
/-! What has been told stays told: no raise, vector, ring record or condition flag takes an entry from the log's intake,
lowers the count of drops or clears a bit of EVT_RAW (R474 to R480). A refused access (R459) is thus found in the log and
in EVT_RAW at the end of the command that made it. -/

namespace Sys2Proof.Machine

/-- The entries of the log's intake, the count of drops and the bits of EVT_RAW that stand in a state stand in another. -/
structure State.KeepsTold (s t : State) : Prop where
  intake : ∀ e ∈ s.log.intake, e ∈ t.log.intake
  dropped : s.log.dropped ≤ t.log.dropped
  raised : ∀ n < 64, s.on (Fld.evtRaw n) = true → t.on (Fld.evtRaw n) = true

theorem State.KeepsTold.refl (s : State) : s.KeepsTold s := ⟨fun _ h => h, Nat.le_refl _, fun _ _ h => h⟩

theorem State.KeepsTold.trans {s t u : State} (h : s.KeepsTold t) (g : t.KeepsTold u) : s.KeepsTold u :=
  ⟨fun e he => g.intake e (h.intake e he), Nat.le_trans h.dropped g.dropped, fun n hn hs => g.raised n hn (h.raised n hn hs)⟩

theorem State.KeepsTold.ite {s t u : State} (b : Prop) [Decidable b] (h : s.KeepsTold t) (g : s.KeepsTold u) :
    s.KeepsTold (if b then t else u) := by split <;> assumption

/-- A change of neither the log nor the registers. -/
theorem State.KeepsTold.quiet {s t : State} (hl : t.log = s.log) (hr : t.regs = s.regs) : s.KeepsTold t :=
  ⟨fun e he => by rw [hl]; exact he, Nat.le_of_eq (congrArg LogSt.dropped hl.symm), fun n _ h => by rw [State.on_of_regs hr]; exact h⟩

theorem evtRaw_addr (n : Nat) : (Fld.evtRaw n).addr = 0x010010 ∨ (Fld.evtRaw n).addr = 0x010014 := pairBit_addr _ _ n

/-- A register apart from the two words of EVT_RAW written. -/
theorem State.KeepsTold.put (s : State) (f : Fld) (v : Nat) (h : f.addr < 0x010010 ∨ 0x010014 < f.addr) :
    s.KeepsTold (s.put f v) := by
  refine ⟨fun _ he => he, Nat.le_refl _, fun n _ hn => ?_⟩
  have ha : f.addr ≠ (Fld.evtRaw n).addr := by rcases evtRaw_addr n with e | e <;> omega
  rw [State.on, State.get, State.rd_put_ne s f v _ ha]
  exact hn

theorem State.KeepsTold.flag (s : State) (f : Fld) (b : Bool) (h : f.addr < 0x010010 ∨ 0x010014 < f.addr) :
    s.KeepsTold (s.flag f b) := .put s f _ h

theorem State.KeepsTold.bump (s : State) (f : Fld) (n : Nat) (h : f.addr < 0x010010 ∨ 0x010014 < f.addr) :
    s.KeepsTold (s.bump f n) := by
  unfold State.bump; exact .ite _ (.refl s) (.put s f _ h)

/-- A bit of a pair of words behind EVT_RAW set. -/
theorem State.KeepsTold.flagPair (s : State) (lo hi n : Nat) (b : Bool) (hlo : 0x010014 < lo) (hhi : 0x010014 < hi) :
    s.KeepsTold (s.flag (pairBit lo hi n) b) :=
  .flag s _ b (.inr (by rcases pairBit_addr lo hi n with e | e <;> rw [e] <;> assumption))

theorem evtRaw_ok {n : Nat} (h : n < 64) : (Fld.evtRaw n).ok := by
  unfold Fld.evtRaw pairBit; split <;> exact ⟨Nat.le_refl _, by dsimp only; omega⟩

theorem evtRaw_bit (n : Nat) : (Fld.evtRaw n).hi = (Fld.evtRaw n).lo := by
  unfold Fld.evtRaw pairBit; split <;> rfl

/-- The bits of EVT_RAW of two sources are apart. -/
theorem evtRaw_apart {m n : Nat} (h : m ≠ n) : (Fld.evtRaw m).apart (Fld.evtRaw n) := by
  unfold Fld.evtRaw pairBit Fld.apart; split <;> split <;> dsimp only <;> omega

theorem State.on_evtRaw_flag (s : State) {n : Nat} (h : n < 64) : (s.flag (Fld.evtRaw n) true).on (Fld.evtRaw n) = true :=
  State.on_flag s _ true (evtRaw_ok h) (evtRaw_bit n)

/-- A source's bit of EVT_RAW set (R476). -/
theorem State.KeepsTold.flagRaw (s : State) {src : Nat} (h : src < 64) : s.KeepsTold (s.flag (Fld.evtRaw src) true) := by
  refine ⟨fun _ he => he, Nat.le_refl _, fun n _ hn => ?_⟩
  by_cases e : src = n
  · subst e; exact s.on_evtRaw_flag h
  · rw [State.on_flag_apart s _ _ true (evtRaw_ok h) (evtRaw_apart e)]; exact hn

/-! ### The log's intake -/

theorem State.KeepsTold.logPut (s : State) (e : LogEntry) : s.KeepsTold (s.logPut e) := by
  unfold State.logPut
  refine .ite _ (.trans ?_ (.put _ _ _ (by decide))) (.trans ?_ (.bump _ _ _ (by decide)))
  · exact ⟨fun _ h => List.mem_append_left _ h, Nat.le_refl _, fun _ _ h => h⟩
  · exact ⟨fun _ h => h, Nat.le_succ _, fun _ _ h => h⟩

theorem State.KeepsTold.note (s : State) (sub : Nat) (dw : List Nat) : s.KeepsTold (s.note sub dw) := by
  unfold State.note State.logNote
  rw [if_neg (by decide)]
  exact .logPut _ _

theorem State.KeepsTold.setFlag (s : State) (i : Nat) (c : Bool) : s.KeepsTold (s.setFlag i c) := by
  unfold State.setFlag
  exact .ite _ (.refl s) (.trans (.flag s _ _ (.inl (by show 0x20 < 0x010010; decide))) (.note _ _ _))

theorem State.KeepsTold.watchFlags (s : State) : s.KeepsTold s.watchFlags := by
  unfold State.watchFlags
  generalize s.flagConditions = l
  induction l generalizing s with
  | nil => exact .refl s
  | cons c l ih => exact .trans (.setFlag s c.1 c.2) (ih _)

/-! ### Vectors and ring records -/

theorem State.KeepsTold.emit (s : State) (o : Out) : s.KeepsTold (s.emit o) := .quiet rfl rfl

theorem State.KeepsTold.setPort (s : State) (p : Port) (x : PortSt) : s.KeepsTold (s.setPort p x) := by
  cases p <;> exact .quiet rfl rfl

theorem State.KeepsTold.setRing (s : State) (p : Port) (n : Nat) (r : Ring) : s.KeepsTold (s.setRing p n r) := .quiet rfl rfl

theorem State.KeepsTold.msixDue (s : State) (p : Port) (v : Nat) : s.KeepsTold (s.msixDue p v) := by
  unfold State.msixDue
  exact .ite _ (.refl s) (.ite _ (.refl s) (.ite _ (.emit s _) (.ite _ (.refl s) (.setPort s p _))))

theorem State.KeepsTold.ringVector (s : State) (p : Port) (n : Nat) : s.KeepsTold (s.ringVector p n) := by
  unfold State.ringVector
  exact .ite _ (.msixDue s p _) (.ite _ (.setRing s p n _) (.trans (.setRing s p n _) (.msixDue _ p _)))

/-- The counters of the indirect spaces stand behind every register. -/
theorem ind_addr (code w : Nat) : 0x010014 < (Fld.ind code w).addr := by
  show 0x010014 < indKey code w; unfold indKey indBase; omega

theorem State.KeepsTold.bumpInd (s : State) (code w n : Nat) : s.KeepsTold (s.bump (Fld.ind code w) n) :=
  .bump s _ n (.inr (ind_addr code w))

theorem State.KeepsTold.finishDesc (s : State) (p : Port) (n : Nat) (d : Desc) : s.KeepsTold (s.finishDesc p n d) := by
  have hc : 0x010014 < (Fld.HIF_R_ST_CONS p.num n).addr := by
    show 0x010014 < 0x04011C + p.num * 0x10000 + min n 64 * 0x20; omega
  unfold State.finishDesc
  dsimp only
  refine .ite _ (.trans ?_ (.ringVector _ p n)) ?_ <;>
  exact .trans (.trans (.trans (.trans (.setRing s p n _) (.emit _ _)) (.put _ _ _ (.inr hc))) (.emit _ _)) (.bumpInd _ _ _ _)

theorem State.KeepsTold.closeBuffer (s : State) (p : Port) (n : Nat) : s.KeepsTold (s.closeBuffer p n) := by
  unfold State.closeBuffer
  dsimp only
  split
  · exact .refl s
  · exact .trans (.trans (.emit s _) (.finishDesc _ p n _)) (.setRing _ p n _)

theorem State.KeepsTold.makeRoom (s : State) (p : Port) (n n2 : Nat) : s.KeepsTold (s.makeRoom p n n2) := by
  unfold State.makeRoom
  exact .ite _ (.closeBuffer s p n) (.refl s)

theorem State.KeepsTold.pushRecord (s : State) (p : Port) (n : Nat) (rec : List Word) :
    s.KeepsTold (s.pushRecord p n rec).1 := by
  unfold State.pushRecord
  have h1 := State.KeepsTold.makeRoom s p n rec.length
  generalize s.makeRoom p n rec.length = t at h1 ⊢
  dsimp only
  split
  · exact .trans h1 (.bumpInd _ _ _ _)
  · split
    · exact .trans (.trans h1 (.finishDesc _ p n _)) (.bumpInd _ _ _ _)
    · exact .trans (.trans h1 (.setRing _ p n _)) (.ite _ (.closeBuffer _ p n) (.refl _))

/-! ### Raising an event -/

/-- A port's latch of a source and a ring's error bit, which stand behind EVT_RAW, set (R410, R476). -/
theorem State.KeepsTold.flagLat (s : State) (p src : Nat) : s.KeepsTold (s.flag (Fld.evtLat p src) true) :=
  .flagPair s _ _ src true (by omega) (by omega)

theorem State.KeepsTold.flagErr (s : State) (p n : Nat) : s.KeepsTold (s.flag (Fld.ringErr p n) true) :=
  .flagPair s _ _ n true (by omega) (by omega)

theorem State.KeepsTold.deliver (s : State) (p : Port) (src seq : Nat) : s.KeepsTold (s.deliver p src seq).1 := by
  unfold State.deliver
  split
  · dsimp only
    refine .trans (.flagLat s p.num src) (.trans ?_ (.msixDue _ p src))
    split
    · exact .refl _
    · split
      · exact .trans (.pushRecord _ p _ _) (.flagErr _ _ _)
      · exact .pushRecord _ p _ _
  · exact .refl s

/-- The entry that a raise makes (R474, step 1) stays through the steps that follow. -/
theorem State.KeepsTold.raiseCore_entry (s : State) {src : Nat} (sub sev org : Nat) (dw : List Nat) (h : src < 64) :
    (s.logPut (s.mkEntry src sub sev org dw)).KeepsTold (s.raiseCore src sub sev org dw).1 := by
  unfold State.raiseCore
  dsimp only
  exact .trans (.trans (.trans (.trans (.ite _ (.put _ _ _ (by decide)) (.refl _)) (.flagRaw _ h)) (.bumpInd _ _ _ _))
    (.deliver _ .a src _)) (.deliver _ .b src _)

theorem State.KeepsTold.raiseCore (s : State) {src : Nat} (sub sev org : Nat) (dw : List Nat) (h : src < 64) :
    s.KeepsTold (s.raiseCore src sub sev org dw).1 :=
  .trans (.logPut s _) (.raiseCore_entry s sub sev org dw h)

/-- A raise sets its source's bit of EVT_RAW (R474, step 2). -/
theorem State.on_evtRaw_raiseCore (s : State) {src : Nat} (sub sev org : Nat) (dw : List Nat) (h : src < 64) :
    (s.raiseCore src sub sev org dw).1.on (Fld.evtRaw src) = true := by
  unfold State.raiseCore
  dsimp only
  exact (State.KeepsTold.trans (.trans (.bumpInd _ _ _ _) (.deliver _ .a src _)) (.deliver _ .b src _)).raised src h
    (State.on_evtRaw_flag _ h)

theorem State.KeepsTold.ringSummary (s : State) (p : Port) : s.KeepsTold (s.ringSummary p) := by
  unfold State.ringSummary
  exact .ite _ (.trans (.setPort s p _) (.raiseCore _ _ _ _ _ (by decide))) (.refl s)

/-- The summaries of event 54 (R410) leave what the raise has told. -/
theorem State.KeepsTold.raiseAs_core (s : State) (src sub sev org : Nat) (dw : List Nat) :
    (s.raiseCore src sub sev org dw).1.KeepsTold (s.raiseAs src sub sev org dw) := by
  unfold State.raiseAs
  dsimp only
  generalize s.raiseCore src sub sev org dw = r
  have ha : r.1.KeepsTold (if r.2.1 then r.1.ringSummary .a else r.1) := .ite _ (.ringSummary _ .a) (.refl _)
  exact .ite _ (.trans ha (.ringSummary _ .b)) ha

theorem State.on_evtRaw_raiseAs (s : State) {src : Nat} (sub sev org : Nat) (dw : List Nat) (h : src < 64) :
    (s.raiseAs src sub sev org dw).on (Fld.evtRaw src) = true :=
  (State.KeepsTold.raiseAs_core s src sub sev org dw).raised src h (s.on_evtRaw_raiseCore sub sev org dw h)

/-! ### A logged access -/

/-- What is logged stays logged. -/
theorem State.KeepsTold.loggedAs {s t u : State} {src org dw4 reason : Nat} (h : t.KeepsTold u)
    (hl : s.loggedAs t src org dw4 reason = true) : s.loggedAs u src org dw4 reason = true := by
  unfold State.loggedAs at hl ⊢
  split at hl
  case isTrue hr =>
    obtain ⟨e, he, hp⟩ := List.any_eq_true.mp hl
    rw [if_pos hr]
    exact List.any_eq_true.mpr ⟨e, h.intake e he, hp⟩
  case isFalse hr =>
    rw [if_neg hr]
    exact decide_eq_true (Nat.lt_of_lt_of_le (of_decide_eq_true hl) h.dropped)

/-- Whether an access is logged is judged by the log alone. -/
theorem State.loggedAs_congr {s t : State} (h : t.log = s.log) (u : State) (src org dw4 reason : Nat) :
    t.loggedAs u src org dw4 reason = s.loggedAs u src org dw4 reason := by
  unfold State.loggedAs State.logRoom; rw [h]

/-- The source and the origin in DW2 of an entry (R478). -/
theorem State.mkEntry_source (s : State) {code : Nat} (sub sev org : Nat) (dw : List Nat) (h : code < 256) :
    Word.field (s.mkEntry code sub sev org dw).d2 23 16 = code := by
  simp only [State.mkEntry, Word.field, BitVec.toNat_ofNat]; omega

theorem State.mkEntry_origin (s : State) (code sub sev : Nat) {org : Nat} (dw : List Nat) (h : org < 16) :
    Word.field (s.mkEntry code sub sev org dw).d2 11 8 = org := by
  simp only [State.mkEntry, Word.field, BitVec.toNat_ofNat]; omega

/-- The reason in DW6 of a refusal (R459). -/
theorem refusalWord_reason (be : Nat) {reason : Nat} (h : reason < 256) :
    Word.field (BitVec.ofNat 32 (refusalWord be reason)) 15 8 = reason := by
  simp only [refusalWord, Word.field, BitVec.toNat_ofNat]; omega

/-- An entry put into the intake is found there, or counted where the intake is full (R480). -/
theorem State.loggedAs_logPut (s : State) {e : LogEntry} {src org dw4 reason : Nat} (hs : Word.field e.d2 23 16 = src)
    (ho : Word.field e.d2 11 8 = org) (h4 : e.d4 = BitVec.ofNat 32 dw4) (h6 : Word.field e.d6 15 8 = reason) :
    s.loggedAs (s.logPut e) src org dw4 reason = true := by
  unfold State.loggedAs State.logPut
  by_cases hr : s.logRoom = true
  · simp [hr, State.wrapInc, hs, ho, h4, h6]
  · simp [hr]

/-- A raise with the detail words of a refusal is logged as one (R459, R474). -/
theorem State.loggedAs_raiseAs (s : State) {src org reason : Nat} (sub sev addr data be code : Nat) (hs : src < 64)
    (ho : org < 16) (hr : reason < 256) :
    s.loggedAs (s.raiseAs src sub sev org [addr, data, refusalWord be reason, code]) src org addr reason = true :=
  (State.KeepsTold.trans (.raiseCore_entry s sub sev org _ hs) (.raiseAs_core s src sub sev org _)).loggedAs
    (s.loggedAs_logPut (s.mkEntry_source sub sev org _ (by omega)) (s.mkEntry_origin src sub sev _ ho) rfl
      (refusalWord_reason be hr))

/-! ### A refused access -/

theorem who_origin_lt (g : Who) : g.origin < 16 := by cases g <;> decide

theorem agent_origin_ne_order (g : Agent) : g.who.origin ≠ originOrder := by cases g <;> decide

theorem State.countDiscard_log (s : State) (org : Nat) : (s.countDiscard org).log = s.log := by
  unfold State.countDiscard; split <;> rfl

/-- A refused access raises event 59 below reason 16 (R459). -/
theorem State.on_evtRaw_refuse (s : State) (g : Who) (sub addr data be code : Nat) {reason : Nat} (hr : reason < 16) :
    (s.refuse g sub addr data be reason code).on (Fld.evtRaw 59) = true := by
  unfold State.refuse; rw [if_pos hr]; exact State.on_evtRaw_raiseAs _ _ _ _ _ (by decide)

/-- A refused access is logged with its address and its origin (R459). -/
theorem State.loggedAs_refuse (s : State) (g : Who) (sub addr data be code : Nat) {reason : Nat} (hr : reason < 16) :
    s.loggedAs (s.refuse g sub addr data be reason code) 59 g.origin addr reason = true := by
  unfold State.refuse
  rw [if_pos hr, ← State.loggedAs_congr (s.countDiscard_log g.origin)]
  exact State.loggedAs_raiseAs _ _ _ _ _ _ _ (by decide) (who_origin_lt g) (by omega)

/-- An agent's refused access changes nothing but what telling reaches; an order's also counts its discards (R384). -/
theorem State.Tells.refuse (s : State) (g : Agent) (sub addr data be reason code : Nat) :
    s.Tells (s.refuse g.who sub addr data be reason code) := by
  unfold State.refuse State.countDiscard
  rw [if_neg (agent_origin_ne_order g)]
  exact .raiseAs s _ _ _ _ _

end Sys2Proof.Machine
end

section
/-! AMP and LINE of the -L0 (R3): no offset of theirs holds a register. -/

namespace Sys2Proof.Machine

theorem State.regHere_absent {s : State} {off : Nat} (hv : s.variant = .l0)
    (ho : off / 0x10000 = 0x30 ∨ off / 0x10000 = 0x31) : s.regHere off = none := by
  have ha : s.absent (off / 0x10000) = true := by
    rcases ho with h | h <;> simp [State.absent, State.isP8, hv, h]
  rw [State.regHere, if_pos ha]

/-- An undefined offset reads 0 (R3, R9). -/
theorem State.readReg_undefined (s : State) {off : Nat} (h : s.regHere off = none) (g : Who) : s.readReg g off = 0 := by
  rw [State.readReg, h]

/-- A read of an undefined offset is answered with 0 and has no side effect (R3, R9). -/
theorem State.busRead_undefined {s : State} {g : Agent} {off : Nat} (hh : s.holds g = false) (h : s.regHere off = none)
    (be : Nat) : s.busRead g off be = s.answer g.who 0 := by
  rw [State.busRead, if_neg (by rw [hh]; decide), State.doRead, h]

/-- A write to an undefined offset is refused with reason 3 (R3, R9, R459). -/
theorem State.busWrite_undefined {s : State} {g : Agent} {off : Nat} (hh : s.holds g = false) (h : s.regHere off = none)
    (be : Nat) (data : Word) : s.busWrite g off be data = s.refuse g.who (off / 0x10000) off data.toNat be 3 0 := by
  rw [State.busWrite, if_neg (by rw [hh]; decide), State.doWrite, h]

/-- An agent reads back what its read was answered with (R458). -/
theorem State.answer_resp (s : State) (g : Who) (w : Word) (h : s.resp.length = 3) :
    (s.answer g w).resp.getD g.num 0 = w := by
  have hn : g.num < s.resp.length := by rw [h]; cases g <;> decide
  simp [State.answer, hn]

/-- A plain read and a plain write request are the accesses of the bus (R457, R460). -/
theorem exec_clearOnRead_plain (g : Agent) (off : BitVec 24) (be : BitVec 4) (s : State) :
    exec (.clearOnRead g off be .plain) s = s.runF fun s => s.busRead g off.toNat be.toNat := rfl

theorem exec_registerWrite_plain (g : Agent) (off : BitVec 24) (be : BitVec 4) (data : Word) (s : State) :
    exec (.registerWrite g off be data .plain) s = s.runF fun s => s.busWrite g off.toNat be.toNat data := rfl

/-- A read of an undefined offset is answered with 0. -/
theorem clearOnRead_undefined {g : Agent} {off : BitVec 24} {s : State} (be : BitVec 4) (hp : s.powered = true)
    (hh : s.holds g = false) (hn : s.regHere off.toNat = none) (hl : s.resp.length = 3) :
    Answers (.clearOnRead g off be .plain) s fun t => t.resp.getD g.who.num 0 = 0 := by
  refine Answers.runF (exec_clearOnRead_plain g off be s) hp ?_
  rw [State.busRead_undefined hh hn, State.holdMost_resp, (State.Tells.watchFlags _).resp_eq]
  exact s.answer_resp g.who 0 hl

/-- A write to an undefined offset leaves what telling does not reach, and is told. -/
theorem registerWrite_undefined {g : Agent} {off : BitVec 24} {s : State} (be : BitVec 4) (data : Word)
    (hp : s.powered = true) (hh : s.holds g = false) (hn : s.regHere off.toNat = none) :
    Answers (.registerWrite g off be data .plain) s fun t =>
      s.KeepsRegs tellKey t ∧ t.shadow = s.shadow ∧ t.on (Fld.evtRaw 59) = true ∧
        s.loggedAs t 59 g.who.origin off.toNat 3 = true := by
  refine Answers.runF (exec_registerWrite_plain g off be data s) hp ?_
  rw [State.busWrite_undefined hh hn]
  have ht := State.Tells.refuse s g (off.toNat / 0x10000) off.toNat data.toNat be.toNat 3 0
  have h59 := s.on_evtRaw_refuse g.who (off.toNat / 0x10000) off.toNat data.toNat be.toNat 0 (show 3 < 16 by decide)
  have hlog := s.loggedAs_refuse g.who (off.toNat / 0x10000) off.toNat data.toNat be.toNat 0 (show 3 < 16 by decide)
  generalize s.refuse g.who (off.toNat / 0x10000) off.toNat data.toNat be.toNat 3 0 = t at ht h59 hlog ⊢
  have hw := State.KeepsTold.watchFlags t
  have htw := ht.trans (.watchFlags t)
  refine ⟨fun k hk => ?_, ?_, ?_, ?_⟩
  · rw [State.holdMost_rd]; exact htw.regs k hk
  · rw [State.holdMost_shadow]; exact htw.shadow_eq
  · rw [State.holdMost_on]; exact hw.raised 59 (by decide) h59
  · exact (hw.trans (.quiet (State.holdMost_log s _) (State.holdMost_regs s _))).loggedAs hlog

/-- Settles O53: an absent block has no register, so a read is answered with 0 and a write is refused and told. -/
theorem absentBlocksOfTheL0 : Obligations.AbsentBlocksOfTheL0 := by
  refine ⟨fun g off be s hp hh hv ho hl => ?_, fun g off be data k s hp hh hv ho hk => ?_⟩
  · have hn := State.regHere_absent hv ho
    exact (clearOnRead_undefined be hp hh hn hl).mono fun _ h => ⟨h, s.readReg_undefined hn g.who⟩
  · have hn := State.regHere_absent hv ho
    exact (registerWrite_undefined be data hp hh hn).mono fun _ ⟨hr, hrest⟩ => ⟨hr k hk, hrest⟩

end Sys2Proof.Machine
end

section
/-! Application control (R20 to R32): the hold bits, the hold limit, the arming of a brim and the misses that tell of a lost
schedule. Each register concerned lies outside what telling reaches, so it reads at the end of the command as it was left. -/

namespace Sys2Proof.Machine

/-! ### Holds -/

/-- The hold-limit timer stands beside the registers. -/
@[simp] theorem State.retimeHold_get (s : State) (f : Fld) : s.retimeHold.get f = s.get f := State.get_of_regs rfl f
@[simp] theorem State.retimeHold_on (s : State) (f : Fld) : s.retimeHold.on f = s.on f := State.on_of_regs rfl f

/-- Whether a hold stands depends on the registers alone. -/
theorem State.held_of_regs {s t : State} (h : t.regs = s.regs) : t.held = s.held := by
  unfold State.held
  rw [State.on_of_regs h, State.on_of_regs h]

/-- A port's hold bit written: it reads as written, and every field apart from it as before (R25). -/
theorem State.setHold_on {s : State} {g : Who} {f e : Fld} (b : Bool) (hg : holdField g = some f) (hf : f.ok)
    (hw : f.hi = f.lo) (ha : f.apart e) : (s.setHold g b).on f = b ∧ (s.setHold g b).on e = s.on e := by
  have hs : s.setHold g b = (s.flag f b).retimeHold := by unfold State.setHold; rw [hg]
  rw [hs, State.retimeHold_on, State.retimeHold_on]
  exact ⟨State.on_flag s f b hf hw, State.on_flag_apart s f e b hf ha⟩

theorem execApplyHold_bits {g : Agent} {f e : Fld} {s : State} (hold : Bool) (hp : s.powered = true)
    (hg : holdField g.who = some f) (hf : f.ok) (hw : f.hi = f.lo) (ha : f.apart e) :
    Answers (.applyHold g hold) s fun t => t.on f = hold ∧ t.on e = s.on e :=
  .run (exec_applyHold g hold s) hp (by
    rw [State.holdMost_on, State.holdMost_on]; exact State.setHold_on hold hg hf hw ha)

/-! ### The hold limit -/

/-- The release by HOLD_LIMIT leaves the limit. -/
theorem State.expireHolds_limit (s : State) :
    s.expireHolds.get Fld.TOP_APPLY_CTRL_HOLD_LIMIT = s.get Fld.TOP_APPLY_CTRL_HOLD_LIMIT := by
  unfold State.expireHolds
  rw [(State.Tells.raise _ 53 0 []).get_eq _ (by decide), State.get_flag_apart _ _ _ _ (by decide) (by decide),
    State.retimeHold_get, State.get_flag_apart _ _ _ _ (by decide) (by decide),
    State.get_flag_apart _ _ _ _ (by decide) (by decide)]

/-- The release by HOLD_LIMIT clears both hold bits and sets HOLD_EXPIRED (R32). -/
theorem State.expireHolds_releases (s : State) :
    s.expireHolds.held = false ∧ s.expireHolds.on Fld.TOP_APPLY_STATUS_HOLD_EXPIRED = true := by
  have ht := State.Tells.raise ((((s.flag Fld.TOP_APPLY_CTRL_HOLD_A false).flag Fld.TOP_APPLY_CTRL_HOLD_B
    false).retimeHold).flag Fld.TOP_APPLY_STATUS_HOLD_EXPIRED true) 53 0 []
  have ha : s.expireHolds.on Fld.TOP_APPLY_CTRL_HOLD_A = false := by
    unfold State.expireHolds
    rw [ht.on_eq _ (by decide), State.on_flag_apart _ _ _ _ (by decide) (by decide), State.retimeHold_on,
      State.on_flag_apart _ _ _ _ (by decide) (by decide), State.on_flag _ _ _ (by decide) rfl]
  have hb : s.expireHolds.on Fld.TOP_APPLY_CTRL_HOLD_B = false := by
    unfold State.expireHolds
    rw [ht.on_eq _ (by decide), State.on_flag_apart _ _ _ _ (by decide) (by decide), State.retimeHold_on,
      State.on_flag _ _ _ (by decide) rfl]
  refine ⟨by simp [State.held, ha, hb], ?_⟩
  unfold State.expireHolds
  rw [ht.on_eq _ (by decide), State.on_flag _ _ _ (by decide) rfl]

/-- HOLD_LIMIT reads as it was written, whether or not the write releases a standing hold at once (R32). -/
theorem State.writeHoldLimit_limit (s : State) {v : Nat} (hv : v < 256) :
    (s.writeHoldLimit v).get Fld.TOP_APPLY_CTRL_HOLD_LIMIT = v := by
  have hput : (s.put Fld.TOP_APPLY_CTRL_HOLD_LIMIT v).get Fld.TOP_APPLY_CTRL_HOLD_LIMIT = v :=
    (State.get_put s _ v (by decide)).trans (Nat.mod_eq_of_lt hv)
  unfold State.writeHoldLimit
  dsimp only
  split
  · rw [State.expireHolds_limit, hput]
  · exact hput

/-! ### Arming -/

/-- ARM arms where no application is armed and its brim is to come (R29). -/
theorem State.writeArm_arms {s : State} (g : Who) (ha : s.on Fld.TOP_APPLY_STATUS_ARMED = false)
    (hm : s.brimMissed (s.get Fld.TOP_APPLY_TICK_BRIM_TICK) = false) :
    (s.writeArm g).on Fld.TOP_APPLY_STATUS_ARMED = true := by
  simp only [State.writeArm, ha, hm, Bool.false_eq_true, if_false]
  exact State.on_flag _ _ _ (by decide) rfl

/-- A field of a whole word reads as the word written to it. -/
theorem State.get_put_word (s : State) (f : Fld) (w : Word) (hlo : f.lo = 0) (hhi : f.hi = 31) :
    (s.put f w.toNat).get f = w.toNat := by
  rw [State.get_put s f _ ⟨by omega, by omega⟩, hlo, hhi]
  exact Nat.mod_eq_of_lt w.isLt

/-- The field [31:0] of a word is the word. -/
theorem Word.field_whole (w : Word) : Word.field w 31 0 = w.toNat := by
  unfold Word.field
  rw [Nat.pow_zero, Nat.div_one]
  exact Nat.mod_eq_of_lt w.isLt

theorem State.rd_eq_of_get {s : State} {k : Nat} {w : Word} (h : s.get ⟨k, 31, 0⟩ = w.toNat) : s.rd k = w :=
  BitVec.eq_of_toNat_eq ((Word.field_whole _).symm.trans h)

/-- TOP_APPLY_TICK takes its value while nothing is armed (R26). -/
theorem State.writeApplyTick_takes {s : State} (g : Who) (tick : Word) (ha : s.on Fld.TOP_APPLY_STATUS_ARMED = false) :
    (s.writeApplyTick g tick.toNat).rd 0x44 = tick := by
  simp only [State.writeApplyTick, ha, Bool.false_eq_true, if_false]
  exact State.rd_eq_of_get (State.get_put_word s _ tick rfl rfl)

/-! ### Misses -/

/-- The sixteenth miss in a row sets SCHED_LOST (R20), which its log entry and the condition flags leave set. -/
theorem schedLost_sets {s : State} (hp : s.powered = true) (hm : s.time.misses ≥ 16)
    (hl : s.on Fld.CROWN_STATUS_SCHED_LOST = false) :
    Answers .schedLost s fun t => t.on Fld.CROWN_STATUS_SCHED_LOST = true := by
  refine .runF (exec_schedLost s) hp ?_
  rw [State.holdMost_on, (State.Tells.watchFlags _).on_eq _ (by decide), State.when_on _ _ _ (by simp [hm, hl]),
    (State.Tells.logNote _ _ _ _ _ (by decide)).on_eq _ (by decide)]
  exact State.on_flag _ _ _ (by decide) rfl

/-- Settles O2: each command's field reads at its end as the command's operation has left it. -/
theorem applicationControlCompletes : Obligations.ApplicationControlCompletes := by
  refine ⟨fun s hp hm hl => schedLost_sets hp hm hl,
    fun hold s hp => execApplyHold_bits hold hp rfl (by decide) rfl (by decide),
    fun hold s hp => execApplyHold_bits hold hp rfl (by decide) rfl (by decide),
    fun g limit s hp => ?limit, fun g s hp ha hm => ?arm, fun g s hp => ?disarm, fun g tick s hp ha => ?tick,
    fun s hp hh ho => ?expire⟩
  case limit =>
    exact .run (exec_applyHoldLimit g limit s) hp (by rw [State.holdMost_get]; exact s.writeHoldLimit_limit limit.isLt)
  case arm =>
    exact .run (exec_applyArm g s) hp (by rw [State.holdMost_on]; exact State.writeArm_arms g.who ha hm)
  case disarm =>
    exact .run (exec_applyDisarm g s) hp (by rw [State.holdMost_on]; exact State.on_flag s _ false (by decide) rfl)
  case tick =>
    exact .run (exec_applyTickWrite g tick s) hp (by rw [State.holdMost_rd]; exact State.writeApplyTick_takes g.who tick ha)
  case expire =>
    refine .run (exec_holdLimitExpire s) hp ?_
    rw [State.when_on _ _ _ (by rw [hh, ho]; rfl), State.held_of_regs (State.holdMost_regs s _), State.holdMost_on]
    exact s.expireHolds_releases

end Sys2Proof.Machine
end

section
/-! Coefficient and graph swaps (R29, R230 to R235): what arms a swap, what cancels it, and its tick. -/

namespace Sys2Proof.Machine

/-! ### Coefficient swaps -/

/-- Whether a swap touches an alarm-tagged job (R233) does not depend on DSP_COEF_CMD. -/
theorem State.dirtyAlarm_coefCmd (s : State) (b : Bool) :
    (s.flag Fld.DSP_COEF_CMD_AT_TICK b).dirtyAlarm = s.dirtyAlarm := by
  have hb : (s.flag Fld.DSP_COEF_CMD_AT_TICK b).actBank = s.actBank := by
    unfold State.actBank
    rw [State.on_flag_apart _ _ _ _ (by decide) (by decide), State.flag_dsp]
  unfold State.dirtyAlarm State.image State.dirtyInsts
  rw [hb]

/-- The mode does not depend on DSP_COEF_CMD. -/
theorem State.inAlarm_coefCmd (s : State) (b : Bool) :
    (s.flag Fld.DSP_COEF_CMD_AT_TICK b).inAlarm = s.inAlarm := by
  unfold State.inAlarm State.mode
  rw [State.get_flag_apart _ _ _ _ (by decide) (by decide)]

/-- SWAP arms a swap where none is armed and ALARM does not lock it, at its tick or at the next brim (R230,
R233). -/
theorem State.coefSwapCmd_arms {s : State} (g : Who) (atTick : Bool) (ha : s.on Fld.DSP_STATUS_COEF_ARMED = false)
    (hl : s.inAlarm = false ∨ s.dirtyAlarm = false) :
    (s.coefSwapCmd g atTick).on Fld.DSP_STATUS_COEF_ARMED = true := by
  have hopen : ((s.flag Fld.DSP_COEF_CMD_AT_TICK atTick).inAlarm && g ≠ .order &&
      (s.flag Fld.DSP_COEF_CMD_AT_TICK atTick).dirtyAlarm) = false := by
    rw [s.inAlarm_coefCmd, s.dirtyAlarm_coefCmd]
    rcases hl with h | h <;> simp [h]
  simp only [State.coefSwapCmd, ha, hopen, Bool.false_eq_true, if_false]
  exact State.on_flag _ _ _ (by decide) rfl

/-- DSP_COEF_TICK takes its value while no swap is armed (R235). -/
theorem State.writeCoefTick_takes {s : State} (g : Who) (tick : Word) (ha : s.on Fld.DSP_STATUS_COEF_ARMED = false) :
    (s.writeCoefTick g tick.toNat).get Fld.DSP_COEF_TICK_BRIM_TICK = tick.toNat := by
  simp only [State.writeCoefTick, ha, Bool.false_eq_true, if_false]
  exact State.get_put_word s _ tick rfl rfl

/-! ### Graph swaps -/

/-- SWAP arms a swap of the graph outside ALARM, where none is armed, the idle bank is valid and the brim is to come (R29,
R232). -/
theorem State.graphSwapCmd_arms {s : State} (g : Who) (ha : s.on Fld.DSP_STATUS_GRAPH_ARMED = false)
    (hl : s.inAlarm = false) (hv : s.on Fld.DSP_STATUS_IDLE_VALID = true)
    (hm : s.brimMissed (s.get Fld.DSP_GRAPH_TICK_BRIM_TICK) = false) :
    (s.graphSwapCmd g).on Fld.DSP_STATUS_GRAPH_ARMED = true := by
  simp only [State.graphSwapCmd, ha, hl, hv, hm, Bool.not_true, Bool.false_and, Bool.false_eq_true, if_false]
  exact State.on_flag _ _ _ (by decide) rfl

/-- DSP_GRAPH_TICK takes its value while no swap is armed (R235). -/
theorem State.writeGraphTick_takes {s : State} (g : Who) (tick : Word) (ha : s.on Fld.DSP_STATUS_GRAPH_ARMED = false) :
    (s.writeGraphTick g tick.toNat).get Fld.DSP_GRAPH_TICK_BRIM_TICK = tick.toNat := by
  simp only [State.writeGraphTick, ha, Bool.false_eq_true, if_false]
  exact State.get_put_word s _ tick rfl rfl

/-- Settles O16: each command's field reads at its end as the command's operation has left it. -/
theorem swapsComplete : Obligations.SwapsComplete := by
  refine ⟨fun g atTick s hp ha hl => ?coefArm, fun g s hp => ?coefCancel, fun g tick s hp ha => ?coefTick,
    fun g s hp ha hl hv hm => ?graphArm, fun g s hp => ?graphCancel, fun g tick s hp ha => ?graphTick⟩
  case coefArm =>
    exact .run (exec_coefSwapCmd g atTick s) hp (by rw [State.holdMost_on]; exact State.coefSwapCmd_arms g.who atTick ha hl)
  case coefCancel =>
    exact .run (exec_coefSwapCancel g s) hp (by
      rw [State.holdMost_on]; exact ⟨State.on_flag _ _ false (by decide) rfl, rfl⟩)
  case coefTick =>
    exact .run (exec_coefTickWrite g tick s) hp (by rw [State.holdMost_get]; exact State.writeCoefTick_takes g.who tick ha)
  case graphArm =>
    exact .run (exec_graphSwapArm g s) hp (by rw [State.holdMost_on]; exact State.graphSwapCmd_arms g.who ha hl hv hm)
  case graphCancel =>
    exact .run (exec_graphSwapCancel g s) hp (by rw [State.holdMost_on]; exact State.on_flag _ _ false (by decide) rfl)
  case graphTick =>
    exact .run (exec_graphTickWrite g tick s) hp (by rw [State.holdMost_get]; exact State.writeGraphTick_takes g.who tick ha)

end Sys2Proof.Machine
end

section
/-! A step that has fallen due is judged again as its boundary comes (R60): where the step mode forbids it, PTP_STEP gives it
up and the counter runs on. -/

namespace Sys2Proof.Machine

/-! ### SERVO leaves the counter -/

@[simp] theorem State.servoPut_time (s : State) (st : Nat) : (s.servoPut st).time = s.time := by
  unfold State.servoPut
  dsimp only
  split <;> rfl

theorem State.servoShow_counter (s : State) : s.servoShow.time.counter = s.time.counter := by
  unfold State.servoShow
  rw [State.servoPut_time]
  split <;> rfl

/-- A step that the step mode forbids is not taken (R60). -/
theorem ptpStep_forbidden {d : Int} {s : State} (hp : s.powered = true) (hd : s.time.stepDelta = some d)
    (ha : s.inAlarm = false) (hm : s.stepAllowed = false) :
    Answers .ptpStep s fun t => t.time.counter = s.time.counter := by
  refine .runF (exec_ptpStep s) hp ?_
  rw [State.holdMost_time, (State.Tells.watchFlags _).time_eq]
  simp only [hd, ha, hm, Bool.not_false, Bool.true_or, Bool.false_eq_true, if_false, if_true]
  exact State.servoShow_counter _

/-- A step of 37 ns due in MODE 2 of TIME_STEP_CFG, which forbids every step. -/
def forbiddenStep : State :=
  { State.reset with time := { TimeSt.reset with stepDelta := some 37 } }.put Fld.TIME_STEP_CFG_MODE 2

/-- Refutes O1: its clause of PTP_STEP has no premise that the step is still allowed. In MODE 2 the command leaves the counter at
0, where the clause has it loaded with the boundary plus the step. -/
theorem not_timeAdvances : ¬ Obligations.TimeAdvances := by
  intro ⟨_, _, hstep, _⟩
  have hp : forbiddenStep.powered = true := by decide +kernel
  have ha : forbiddenStep.inAlarm = false := by decide +kernel
  have hm : forbiddenStep.stepAllowed = false := by decide +kernel
  obtain ⟨t, ht, hload, _⟩ := hstep 37 forbiddenStep hp rfl ha rfl
  obtain ⟨u, hu, hkept⟩ := ptpStep_forbidden (d := 37) hp rfl ha hm
  obtain rfl : t = u := Host.Outcome.next.inj (ht.symm.trans hu)
  rw [hkept] at hload
  have hmoved : (forbiddenStep.time.counter.toNat : Int) ≠
      ((forbiddenStep.boundary : Int) + (37 + forbiddenStep.stepCarry)).toNat % 2 ^ 64 := by decide +kernel
  exact hmoved hload

end Sys2Proof.Machine
end

section
/-! The loss of the module's supply (R355) returns the whole register store to reset, and with it any word that the store holds
at a key of no block. The blocks that its reach names are those of the codes below 256. -/

namespace Sys2Proof.Machine

/-- In OFF every register but TOP_MODE_STATUS stands at reset (R348). -/
theorem State.offState_rd (s : State) {k : Nat} (h : Fld.TOP_MODE_STATUS_MODE.addr ≠ k) : s.offState.rd k = regReset k :=
  State.rd_put_ne _ _ _ k h

/-- Below 6.0 V the part goes to OFF (R355). -/
theorem vinCtlLoss_regs {v : BitVec 16} {s : State} (hp : s.powered = true) (hv : v.toNat < 600) :
    Answers (.vinCtlLoss v) s fun t => ∀ k, Fld.TOP_MODE_STATUS_MODE.addr ≠ k → t.rd k = regReset k := by
  refine ⟨_, (exec_vinCtlLoss v s).trans (State.runExch_on s _ hp), fun k hk => ?_⟩
  rw [State.when_on _ _ _ (decide_eq_true hv)]
  exact (State.rd_of_regs rfl k).trans (s.offState_rd hk)

/-- A state whose register store holds a word at the first key behind the indirect space of block 255. -/
def strayWord : State := State.reset.wr (indKey 256 0) 1

/-- Refutes O60: the loss of the supply clears a word that stands at the key of no block, which the frame, ranging over the keys
of every natural number, would have kept. -/
theorem not_broadFrames : ¬ Obligations.BroadFrames := by
  intro h
  have hp : strayWord.powered = true := by decide +kernel
  obtain ⟨t, ht, hreset⟩ := vinCtlLoss_regs (v := 0) hp (by decide)
  have hkept : t.rd (indKey 256 0) = strayWord.rd (indKey 256 0) := (h _ _ t rfl ht).1 _ (by decide)
  rw [hreset _ (by decide), strayWord, State.rd_wr_same] at hkept
  exact absurd hkept (by decide)

end Sys2Proof.Machine
end

section
/-! What a selection leaves (R82): whether a reference is qualified, the cause of its last disqualification, its wait to
restore, and the loop's temperature and frequency. -/

namespace Sys2Proof.Machine

/-! ### The registers of the references -/

/-- The address of a reference's status word. -/
def refStAddr (n : Nat) : Nat := 0x090104 + min n 8 * 0x20

theorem refStAddr_range (n : Nat) : 0x090104 ≤ refStAddr n ∧ refStAddr n ≤ 0x090204 := by
  unfold refStAddr; omega

/-- Telling reaches no register of REFS. -/
theorem tellKey_refs {k : Nat} (h : 0x090000 ≤ k) (h2 : k < 0x0A0000) : tellKey k = false := by
  have hc : keyCode k = 9 := keyCode_reg k 9 h h2 (by decide)
  have hk : k ≠ 0x20 := by omega
  simp [tellKey, hc, hk]

theorem tellKey_refSt (n : Nat) : tellKey (refStAddr n) = false := by
  obtain ⟨hlo, hhi⟩ := refStAddr_range n
  exact tellKey_refs (by omega) (by omega)

/-- A field reads as before where its word does. -/
theorem State.get_of_rd {s t : State} {f : Fld} (h : t.rd f.addr = s.rd f.addr) : t.get f = s.get f :=
  congrArg (fun w => Word.field w f.hi f.lo) h

theorem State.on_of_rd {s t : State} {f : Fld} (h : t.rd f.addr = s.rd f.addr) : t.on f = s.on f := by
  rw [State.on_def, State.on_def, State.get_of_rd h]

/-- A counter that does not stand still advances by one, and holds at its maximum (R465). -/
theorem State.get_bump (s : State) (f : Fld) (hok : f.ok) (hf : s.on (Fld.blkFreeze (keyCode f.addr)) = false) :
    (s.bump f 1).get f = min f.max (s.get f + 1) := by
  have hmax : f.max < 2 ^ (f.hi + 1 - f.lo) := Nat.sub_lt (Nat.two_pow_pos _) Nat.one_pos
  simp only [State.bump, hf, Bool.false_eq_true, if_false]
  rw [State.get_put _ _ _ hok]
  split
  · rw [Nat.mod_eq_of_lt hmax]; omega
  · rw [Nat.mod_eq_of_lt (by omega)]; omega

/-- The selector's components stand beside the registers. -/
@[simp] theorem State.on_withRefs (s : State) (r : RefsSt) (f : Fld) : ({ s with refs := r } : State).on f = s.on f :=
  State.on_of_regs rfl f

@[simp] theorem State.setRef_rd (s : State) (n : Nat) (r : RefOne) (k : Nat) : (s.setRef n r).rd k = s.rd k := rfl
@[simp] theorem State.setRef_get (s : State) (n : Nat) (r : RefOne) (f : Fld) : (s.setRef n r).get f = s.get f := rfl
@[simp] theorem State.setRef_on (s : State) (n : Nat) (r : RefOne) (f : Fld) : (s.setRef n r).on f = s.on f := rfl

/-- What is kept of a reference after one is replaced. -/
theorem State.refOne_setRef (s : State) (n m : Nat) (r : RefOne) :
    (s.setRef n r).refOne m = if n = m ∧ n < s.refs.refs.length then r else s.refOne m := by
  unfold State.refOne State.setRef
  by_cases h : n = m
  · subst h
    by_cases hl : n < s.refs.refs.length <;> simp [hl]
  · simp [h]

/-! ### The frame of a selection -/

/-- What the loop carries from one second to the next. -/
def RefsSt.loop (r : RefsSt) : Int × Int × Nat := (r.theta, r.loopFreq, r.loopAt)

/-- What a change of the selector and of the servo leaves of the references and of the loop. A window may fail, but none
begins. -/
structure State.SelKeeps (s t : State) : Prop where
  qual : ∀ n, t.refQual n = s.refQual n
  cause : ∀ n, t.get (Fld.REFS_ST_CAUSE n) = s.get (Fld.REFS_ST_CAUSE n)
  window : ∀ n, s.on (Fld.REFS_ST_QUALIFYING n) = false → t.on (Fld.REFS_ST_QUALIFYING n) = false
  wtr : ∀ n, (t.refOne n).wtr = (s.refOne n).wtr
  loop : t.refs.loop = s.refs.loop

theorem State.SelKeeps.refl (s : State) : s.SelKeeps s := ⟨fun _ => rfl, fun _ => rfl, fun _ h => h, fun _ => rfl, rfl⟩

theorem State.SelKeeps.trans {s t u : State} (h : s.SelKeeps t) (g : t.SelKeeps u) : s.SelKeeps u :=
  ⟨fun n => (g.qual n).trans (h.qual n), fun n => (g.cause n).trans (h.cause n), fun n hs => g.window n (h.window n hs),
    fun n => (g.wtr n).trans (h.wtr n), g.loop.trans h.loop⟩

theorem State.SelKeeps.ite {s t u : State} (b : Prop) [Decidable b] (h : s.SelKeeps t) (g : s.SelKeeps u) :
    s.SelKeeps (if b then t else u) := by split <;> assumption

/-- A change that reaches no status word, no reference and not the loop. -/
theorem State.SelKeeps.of_rd {s t : State} (hr : ∀ n, t.rd (refStAddr n) = s.rd (refStAddr n))
    (hw : t.refs.refs = s.refs.refs) (hl : t.refs.loop = s.refs.loop) : s.SelKeeps t :=
  ⟨fun n => State.on_of_rd (hr n), fun n => State.get_of_rd (hr n), fun n h => (State.on_of_rd (hr n)).trans h,
    fun n => by unfold State.refOne; rw [hw], hl⟩

theorem State.SelKeeps.time (s : State) (x : TimeSt) : s.SelKeeps { s with time := x } := .of_rd (fun _ => rfl) rfl rfl

theorem State.SelKeeps.refs (s : State) (r : RefsSt) (hw : r.refs = s.refs.refs) (hl : r.loop = s.refs.loop) :
    s.SelKeeps { s with refs := r } := .of_rd (fun _ => rfl) hw hl

theorem State.SelKeeps.tells {s t : State} (h : s.Tells t) : s.SelKeeps t :=
  .of_rd (fun n => h.regs _ (tellKey_refSt n)) (by rw [h.refs_eq]) (by rw [h.refs_eq])

/-- The end of a command that watches the condition flags. -/
theorem State.SelKeeps.finish (s t : State) : t.SelKeeps (s.holdMost t.watchFlags) :=
  .trans (.tells (.watchFlags t)) (.of_rd (fun _ => rfl) rfl rfl)

/-- A register below those of the single references written. -/
theorem State.SelKeeps.put (s : State) (f : Fld) (v : Nat) (h : f.addr < 0x090100) : s.SelKeeps (s.put f v) :=
  .of_rd (fun n => State.rd_put_ne s f v _ (by have := refStAddr_range n; omega)) rfl rfl

theorem State.SelKeeps.flag (s : State) (f : Fld) (b : Bool) (h : f.addr < 0x090100) : s.SelKeeps (s.flag f b) :=
  .put s f _ h

theorem State.SelKeeps.putS (s : State) (f : Fld) (z : Int) (h : f.addr < 0x090100) : s.SelKeeps (s.putS f z) :=
  .put s f _ h

theorem State.SelKeeps.flagActive (s : State) (n : Nat) (b : Bool) : s.SelKeeps (s.flag (Fld.REFS_ST_ACTIVE n) b) := by
  have hok : (Fld.REFS_ST_ACTIVE n).ok := ⟨Nat.le_refl _, by show 1 < 32; decide⟩
  refine ⟨fun m => ?_, fun m => ?_, fun m h => ?_, fun _ => rfl, rfl⟩
  · exact State.on_flag_apart s _ _ b hok (.inr (.inr (by show 0 < 1; decide)))
  · exact State.get_flag_apart s _ _ b hok (.inr (.inl (by show 1 < 12; decide)))
  · exact (State.on_flag_apart s _ _ b hok (.inr (.inl (by show 1 < 4; decide)))).trans h

/-- A window that fails leaves no other window running. -/
theorem State.failWindow_window (s : State) (n m : Nat) (h : s.on (Fld.REFS_ST_QUALIFYING m) = false) :
    (s.failWindow n).on (Fld.REFS_ST_QUALIFYING m) = false := by
  have hok : (Fld.REFS_ST_QUALIFYING n).ok := ⟨Nat.le_refl _, by show 4 < 32; decide⟩
  by_cases e : refStAddr n = refStAddr m
  · have hf : Fld.REFS_ST_QUALIFYING m = Fld.REFS_ST_QUALIFYING n := congrArg (fun a => (⟨a, 4, 4⟩ : Fld)) e.symm
    rw [hf]
    exact State.on_flag _ _ false hok rfl
  · have ha : (Fld.REFS_ST_QUALIFYING n).apart (Fld.REFS_ST_QUALIFYING m) := .inl e
    exact (State.on_flag_apart _ _ _ false hok ha).trans h

theorem State.failWindow_wtr (s : State) (n m : Nat) : ((s.failWindow n).refOne m).wtr = (s.refOne m).wtr := by
  show ((s.setRef n _).refOne m).wtr = _
  rw [State.refOne_setRef]
  split
  case isTrue h => rw [h.1]
  case isFalse => rfl

theorem State.SelKeeps.failWindow (s : State) (n : Nat) : s.SelKeeps (s.failWindow n) := by
  have hok : (Fld.REFS_ST_QUALIFYING n).ok := ⟨Nat.le_refl _, by show 4 < 32; decide⟩
  refine ⟨fun m => ?_, fun m => ?_, fun m h => s.failWindow_window n m h, fun m => s.failWindow_wtr n m, rfl⟩
  · exact State.on_flag_apart _ _ _ false hok (.inr (.inr (by show 0 < 4; decide)))
  · exact State.get_flag_apart _ _ _ false hok (.inr (.inl (by show 4 < 12; decide)))

/-! ### The servo -/

theorem State.SelKeeps.servoPut (s : State) (st : Nat) : s.SelKeeps (s.servoPut st) := by
  unfold State.servoPut
  have hput := State.SelKeeps.put s Fld.TIME_PTP_STATUS_SERVO st (by decide)
  exact .ite _ (hput.trans (.failWindow _ 0)) hput

theorem State.SelKeeps.servoShow (s : State) : s.SelKeeps s.servoShow := by
  unfold State.servoShow
  exact .trans (.ite _ (.time s _) (.refl s)) (.servoPut _ _)

theorem State.SelKeeps.servoWatch (s : State) : s.SelKeeps s.servoWatch := by
  unfold State.servoWatch
  exact .trans (.ite _ (.refl s) (.time s _)) (.servoShow _)

theorem State.SelKeeps.servoTest (s : State) (n : Nat) : s.SelKeeps (s.servoTest n) := .trans (.time s _) (.servoShow _)

theorem State.SelKeeps.servoJudge (s : State) (offset : Int) : s.SelKeeps (s.servoJudge offset) :=
  .trans (.time s _) (.servoTest _ _)

/-- A phase handed to the servo (R85). -/
theorem State.SelKeeps.servoHand (s : State) (ps : Int) : s.SelKeeps (s.servoHand ps) := by
  unfold State.servoHand
  exact .trans (.time s _) (.ite _ (.servoJudge _ _) (.refl _))

/-! ### The selector -/

theorem State.SelKeeps.dropActive (s : State) : s.SelKeeps s.dropActive := by
  unfold State.dropActive
  refine .trans ?_ (.flag _ _ false (by decide))
  split
  · exact .flagActive s _ false
  · exact .refl s

theorem State.SelKeeps.selState (s : State) (st old : Nat) : s.SelKeeps (s.selState st old) := by
  unfold State.selState
  exact .trans (.trans (.put s _ st (by decide)) (.tells (.raise _ 2 0x09 _))) (.servoWatch _)

theorem State.SelKeeps.goHoldover (s : State) (y : Int) : s.SelKeeps (s.goHoldover y) := by
  unfold State.goHoldover
  dsimp only
  refine .trans (.trans (.trans (.trans ?_ (.dropActive _)) (.put _ _ 0 (by decide))) (.selState _ _ _))
    (.tells (.raise _ 5 0x09 _))
  exact .refs s _ rfl rfl

theorem State.SelKeeps.enterHoldover (s : State) : s.SelKeeps s.enterHoldover := by
  unfold State.enterHoldover
  split
  · exact .ite _ (.goHoldover s _) (.trans (.dropActive s) (.selState _ _ _))
  · exact .goHoldover s _
  · exact .refl s

theorem State.SelKeeps.phaseMeasured (t : Nat) (s : State) (ps : Int) : s.SelKeeps (State.phaseMeasured t s ps) :=
  .refs s _ rfl rfl

/-- The phase of the new reference absorbed (R84). -/
theorem State.SelKeeps.absorb (s : State) (n : Nat) (ps : Int) : s.SelKeeps (s.absorb n ps) := by
  unfold State.absorb
  dsimp only
  refine .trans (.trans (.putS s Fld.REFS_PHASE_ABSORBED ps (by decide)) ?_) (.phaseMeasured _ _ _)
  exact .refs _ _ rfl rfl

theorem State.SelKeeps.setBw (s : State) (v : Nat) : s.SelKeeps (s.setBw v) := by
  unfold State.setBw State.showBw
  exact .trans (.refs s _ rfl rfl) (.refs _ _ rfl rfl)

/-- A reference named as the active one. -/
theorem State.SelKeeps.nameActive (s : State) (w : Nat) : s.SelKeeps (((s.put Fld.REFS_SEL_STATUS_ACTIVE w).flag
    Fld.REFS_SEL_STATUS_ACT_VALID true).flag (Fld.REFS_ST_ACTIVE w) true) :=
  .trans (.trans (.put s _ w (by decide)) (.flag _ _ true (by decide))) (.flagActive _ w true)

theorem State.SelKeeps.switchTo (s : State) (w : Nat) (phase : List Int) : s.SelKeeps (s.switchTo w phase) := by
  unfold State.switchTo
  have hand (u : State) (ps : Int) (h : s.SelKeeps u) : s.SelKeeps (if w = 0 then u.servoHand ps else u) :=
    .ite _ (h.trans (.servoHand u ps)) h
  refine hand _ _ (.trans ?_ (.selState _ 1 _))
  have hbw := State.SelKeeps.trans (.trans (.trans (.dropActive s) (.nameActive _ w))
    (.absorb _ w (s.phaseModulo w (phaseOf phase w)))) (.setBw _ (s.get Fld.REFS_LOOP_BW_ACQ))
  refine hbw.trans ?_
  dsimp only
  exact .ite _ (.refs _ _ rfl rfl) (.refs _ _ rfl rfl)

theorem State.SelKeeps.setHoldOff (s : State) (w : Nat) (b : Bool) : s.SelKeeps (s.setHoldOff w b) := by
  unfold State.setHoldOff
  exact .ite _ (.trans (.flag s _ true (by decide)) (.tells (.raise _ 4 0x09 _))) (.flag s _ b (by decide))

theorem State.SelKeeps.selectRef (s : State) (phase : List Int) : s.SelKeeps (s.selectRef phase) := by
  unfold State.selectRef
  dsimp only
  refine .ite _ (.refl s) (.ite _ (.enterHoldover s) (.ite _ (.flag s _ false (by decide)) (.ite _ (.setHoldOff s _ true)
    (.ite _ (.refl s) (.ite _ (.refl s) ?_)))))
  split
  · exact .trans (.setHoldOff s _ false) (.enterHoldover _)
  · exact .trans (.setHoldOff s _ false) (.switchTo _ _ phase)

end Sys2Proof.Machine
end

section
/-! A reference loses its qualification and gains it (R69 to R74), and its wait to restore ends (R82). What each command leaves
in the status word and in the reference stands through the selection and the telling that follow. -/

namespace Sys2Proof.Machine

/-! ### Disqualification -/

/-- The status word of a reference as its disqualification writes it (R69). -/
def State.unqualify (s : State) (n cause : Nat) : State :=
  ((((s.flag (Fld.REFS_ST_QUAL n) false).failWindow n).flag (Fld.REFS_ST_DISAGREE n) false).flag
    (Fld.REFS_ST_SOFT n) false).put (Fld.REFS_ST_CAUSE n) cause

/-- A disqualification writes the status word, gives up the wait to restore, counts, and raises event 2 where the reference was
qualified (R69, R97). -/
theorem State.disqualify_eq (s : State) (n cause : Nat) : ∃ r dw,
    s.disqualify n cause =
      if s.refQual n then (((s.unqualify n cause).setRef n r).bump (Fld.REFS_CNT_DQ n) 1).raise 2 0x09 dw
      else ((s.unqualify n cause).setRef n r).bump (Fld.REFS_CNT_DQ n) 1 := ⟨_, _, rfl⟩

theorem State.disqualify_rd (s : State) (n cause : Nat) :
    (s.disqualify n cause).rd (refStAddr n) = (s.unqualify n cause).rd (refStAddr n) := by
  have hne : (Fld.REFS_CNT_DQ n).addr ≠ refStAddr n := by
    show 0x090114 + min n 8 * 0x20 ≠ 0x090104 + min n 8 * 0x20; omega
  obtain ⟨r, dw, he⟩ := s.disqualify_eq n cause
  have hcount := State.rd_bump_ne ((s.unqualify n cause).setRef n r) _ 1 _ hne
  rw [State.setRef_rd] at hcount
  rw [he]
  split
  · exact ((State.Tells.raise _ 2 0x09 dw).regs _ (tellKey_refSt n)).trans hcount
  · exact hcount

/-- A disqualified reference is unqualified, in no window, with the cause kept (R69). -/
theorem State.disqualify_status (s : State) (n cause : Nat) (hc : cause < 16) :
    (s.disqualify n cause).refQual n = false ∧ (s.disqualify n cause).on (Fld.REFS_ST_QUALIFYING n) = false ∧
      (s.disqualify n cause).get (Fld.REFS_ST_CAUSE n) = cause := by
  refine ⟨(State.on_of_rd (s.disqualify_rd n cause)).trans ?_, (State.on_of_rd (s.disqualify_rd n cause)).trans ?_,
    (State.get_of_rd (s.disqualify_rd n cause)).trans ?_⟩ <;> unfold State.unqualify State.failWindow
  · rw [State.on_put_apart, State.on_flag_apart, State.on_flag_apart, State.on_flag_apart, State.setRef_on, State.on_flag]
    all_goals simp [Fld.ok, Fld.apart, Fld.REFS_ST_QUAL, Fld.REFS_ST_QUALIFYING, Fld.REFS_ST_DISAGREE, Fld.REFS_ST_SOFT,
      Fld.REFS_ST_CAUSE]
  · rw [State.on_put_apart, State.on_flag_apart, State.on_flag_apart, State.on_flag]
    all_goals simp [Fld.ok, Fld.apart, Fld.REFS_ST_QUALIFYING, Fld.REFS_ST_DISAGREE, Fld.REFS_ST_SOFT, Fld.REFS_ST_CAUSE]
  · exact (State.get_put _ _ _ ⟨by show 12 ≤ 15; decide, by show 15 < 32; decide⟩).trans (Nat.mod_eq_of_lt hc)

/-- REF_ACTIVITY_LOSS: the reference is disqualified with cause ACTIVITY (R70). -/
theorem refActivityLoss_disqualifies {n : Fin 8} {phase : List Int} {s : State} (hp : s.powered = true)
    (ha : ((s.refOne n).alive || s.refQual n || s.on (Fld.REFS_ST_QUALIFYING n)) = true) (ho : s.edgeOverdue n = true)
    (hu : s.refUsable n = true) :
    Answers (.refActivityLoss n phase) s fun t =>
      t.refQual n = false ∧ t.on (Fld.REFS_ST_QUALIFYING n) = false ∧ t.get (Fld.REFS_ST_CAUSE n) = causeActivity := by
  refine .runF (exec_refActivityLoss n phase s) hp ?_
  have hu0 : (s.setRef n { s.refOne n with alive := false }).refUsable n = true := hu
  rw [State.when_on _ _ _ (by rw [ha, ho]; rfl)]
  dsimp only
  rw [if_pos hu0]
  generalize s.setRef n { s.refOne n with alive := false } = s0
  obtain ⟨hq, hw, hc⟩ := s0.disqualify_status n causeActivity (by decide)
  generalize s0.disqualify n causeActivity = s1 at hq hw hc ⊢
  have htold : s1.SelKeeps (if n.val ≥ 3 then s1.raise 8 0x09 (s1.refDetail n causeActivity n) else s1) :=
    .ite _ (.tells (.raise s1 8 0x09 _)) (.refl s1)
  have hk := (htold.trans (.selectRef _ phase)).trans (.finish s _)
  exact ⟨(hk.qual n).trans hq, hk.window n hw, (hk.cause n).trans hc⟩

/-! ### A rejected edge -/

/-- REF_GLITCH: a first rejected edge is counted, and disqualifies nothing (R71). -/
theorem refGlitch_counts {n : Fin 8} {phase : List Int} {s : State} (hp : s.powered = true) (hn : n.val ≠ 0)
    (hg : (s.refOne n).glitches = []) (hf : s.on (Fld.blkFreeze 0x09) = false) :
    Answers (.refGlitch n phase) s fun t =>
      t.get (Fld.REFS_CNT_GLITCH n) = min 0xFFFF (s.get (Fld.REFS_CNT_GLITCH n) + 1) ∧ t.refQual n = s.refQual n := by
  have hcode : ∀ n : Fin 8, keyCode (Fld.REFS_CNT_GLITCH n).addr = 0x09 := by decide
  have htell : ∀ n : Fin 8, tellKey (Fld.REFS_CNT_GLITCH n).addr = false := by decide
  have hst : ∀ n : Fin 8, (Fld.REFS_CNT_GLITCH n).addr ≠ refStAddr n := by decide
  have hnone : ((s.bump (Fld.REFS_CNT_GLITCH n) 1).refOne n).glitches = [] := by
    rw [State.refOne, State.bump_refs]; exact hg
  refine .runF (exec_refGlitch n phase s) hp ?_
  rw [State.when_on _ _ _ (decide_eq_true hn)]
  simp only [hnone, List.any_nil, Bool.false_and, Bool.false_eq_true, if_false]
  have ht := State.Tells.watchFlags ((s.bump (Fld.REFS_CNT_GLITCH n) 1).setRef n
    { (s.bump (Fld.REFS_CNT_GLITCH n) 1).refOne n with glitches := [(s.bump (Fld.REFS_CNT_GLITCH n) 1).time.now] })
  constructor
  · rw [State.holdMost_get, ht.get_eq _ (htell n), State.setRef_get]
    exact State.get_bump s _ ⟨Nat.zero_le _, by show 15 < 32; decide⟩ (by rw [hcode n]; exact hf)
  · rw [State.refQual, State.holdMost_on, ht.on_eq _ (tellKey_refSt n), State.setRef_on]
    exact State.on_of_rd (State.rd_bump_ne s _ 1 _ (hst n))

/-! ### Qualification -/

/-- REF_QUALIFY: the reference leaves its window qualified (R74). -/
theorem refQualify_qualifies {n : Fin 8} {s : State} (hp : s.powered = true) (hu : s.refUsable n = true)
    (hw : s.on (Fld.REFS_ST_QUALIFYING n) = true) (hq : s.refQual n = false)
    (ht : s.time.now ≥ (s.refOne n).winAt + s.get Fld.REFS_QUAL_QWIN * 1000000000)
    (hs : n.val ≠ 0 ∨ (s.get Fld.TIME_PTP_STATUS_SERVO ≠ servoDisabled ∧
      s.get Fld.TIME_PTP_STATUS_SERVO ≠ servoStepPending)) :
    Answers (.refQualify n) s fun t => t.refQual n = true ∧ t.on (Fld.REFS_ST_QUALIFYING n) = false := by
  refine .runF (exec_refQualify n s) hp ?_
  rw [State.when_on _ _ _ (by simpa [hu, hw, hq, ht] using hs)]
  dsimp only
  have hon (r : RefOne) : ((((s.flag (Fld.REFS_ST_QUAL n) true).flag (Fld.REFS_ST_QUALIFYING n) false).setRef n r).start
      (.wtr n)).refQual n = true := by
    rw [State.refQual, State.start_on, State.setRef_on, State.on_flag_apart, State.on_flag] <;>
      simp [Fld.ok, Fld.apart, Fld.REFS_ST_QUAL, Fld.REFS_ST_QUALIFYING]
  have hoff (r : RefOne) : ((((s.flag (Fld.REFS_ST_QUAL n) true).flag (Fld.REFS_ST_QUALIFYING n) false).setRef n r).start
      (.wtr n)).on (Fld.REFS_ST_QUALIFYING n) = false := by
    rw [State.start_on, State.setRef_on, State.on_flag] <;> simp [Fld.ok, Fld.REFS_ST_QUALIFYING]
  have hk (u : State) (dw : List Nat) := (State.SelKeeps.tells (.raise u 2 0x09 dw)).trans (.finish s _)
  exact ⟨((hk _ _).qual n).trans (hon _), (hk _ _).window n (hoff _)⟩

/-! ### The wait to restore -/

/-- WAIT_TO_RESTORE_EXPIRE: the reference waits no longer (R82). -/
theorem waitToRestoreExpire_ends {n : Fin 8} {phase : List Int} {s : State} (hp : s.powered = true)
    (hw : (s.refOne n).wtr = true) (hr : s.ran (.wtr n) (s.get Fld.REFS_SEL_CTRL_WTR_S * 1000000000) = true) :
    Answers (.waitToRestoreExpire n phase) s fun t => (t.refOne n).wtr = false := by
  have hlen : (n : Nat) < s.refs.refs.length := by
    refine Nat.lt_of_not_le fun hge => ?_
    have hreset : s.refOne n = RefOne.reset := by
      rw [State.refOne, List.getD_eq_getElem?_getD, List.getElem?_eq_none hge, Option.getD_none]
    rw [hreset] at hw
    cases hw
  refine .runF (exec_waitToRestoreExpire n phase s) hp ?_
  rw [State.when_on _ _ _ (by rw [hw, hr]; rfl)]
  have hk := (State.SelKeeps.selectRef (s.setRef n { s.refOne n with wtr := false }) phase).trans (.finish s _)
  refine (hk.wtr n).trans ?_
  rw [State.refOne_setRef, if_pos ⟨rfl, hlen⟩]

/-- Settles O3: each command leaves its mark in the status word or in the reference, and no selection or telling undoes it. -/
theorem referenceQualificationCompletes : Obligations.ReferenceQualificationCompletes :=
  ⟨fun _ _ _ hp ha ho hu => refActivityLoss_disqualifies hp ha ho hu,
    fun _ _ _ hp hn hg hf => refGlitch_counts hp hn hg hf,
    fun _ _ hp hu hw hq ht hs => refQualify_qualifies hp hu hw hq ht hs,
    fun _ _ _ hp hw hr => waitToRestoreExpire_ends hp hw hr⟩

end Sys2Proof.Machine
end

section
/-! The holdover model learns, is saved and is reset (R90, R91, R94), and XO_IN fails (R95). The words of the models stand in
the indirect space of REFS, where neither the status registers of R94 nor telling reaches. -/

namespace Sys2Proof.Machine

/-! ### The words of the models -/

/-- The words of REFS' indirect space stand apart from every register. -/
theorem indKey_above (code w : Nat) : 0x100000000 ≤ indKey code w := by unfold indKey indBase; omega

theorem tellKey_model (w : Nat) : tellKey (indKey 9 w) = false := by
  have hc : keyCode (indKey 9 w) = 9 := keyCode_ind 9 w
  have hk : indKey 9 w ≠ 0x20 := by have := indKey_above 9 w; omega
  simp [tellKey, hc, hk]

/-- The status registers of R94 brought to the model leave every word but their own two. -/
theorem State.showModel_rd (s : State) (k : Nat) (h1 : 0x090030 ≠ k) (h2 : 0x090034 ≠ k) : s.showModel.rd k = s.rd k := by
  unfold State.showModel
  rw [State.rd_put_ne _ _ _ _ h2, State.rd_flag_ne _ _ _ _ h1, State.rd_flag_ne _ _ _ _ h1, State.rd_flag_ne _ _ _ _ h1,
    State.rd_flag_ne _ _ _ _ h1, State.rd_put_ne _ _ _ _ h1, State.rd_put_ne _ _ _ _ h1, State.rd_put_ne _ _ _ _ h1]

theorem State.showModel_word (s : State) (w : Nat) : s.showModel.rd (indKey 9 w) = s.rd (indKey 9 w) := by
  have := indKey_above 9 w
  exact s.showModel_rd _ (by omega) (by omega)

@[simp] theorem State.showModel_refs (s : State) : s.showModel.refs = s.refs := by
  unfold State.showModel
  rw [State.put_refs, State.flag_refs, State.flag_refs, State.flag_refs, State.flag_refs, State.put_refs, State.put_refs,
    State.put_refs]

@[simp] theorem State.showModel_time (s : State) : s.showModel.time = s.time := by
  unfold State.showModel
  rw [State.put_time, State.flag_time, State.flag_time, State.flag_time, State.flag_time, State.put_time, State.put_time,
    State.put_time]

@[simp] theorem State.setModel_time (s : State) (i : Nat) (m : HModel) : (s.setModel i m).time = s.time := rfl
@[simp] theorem State.setModel_rd (s : State) (i : Nat) (m : HModel) (k : Nat) : (s.setModel i m).rd k = s.rd k := rfl

/-! ### Learning -/

/-- HOLDOVER_LEARN_SAMPLE: the learned time advances by one sample, up to its maximum (R90). -/
theorem holdoverLearnSample_advances {s : State} (hp : s.powered = true) (hl : s.mayLearn = true)
    (hr : s.ran .learn 16000000000 = true) :
    Answers .holdoverLearnSample s fun t =>
      (t.rd (indKey 9 (8 * s.runningModel + 7))).toNat =
        min (2 ^ 32 - 1) ((s.rd (indKey 9 (8 * s.runningModel + 7))).toNat + 1) := by
  refine .runF (exec_holdoverLearnSample s) hp ?_
  have hi : (s.start .learn).runningModel = s.runningModel := rfl
  have hn := (s.rd (indKey 9 (8 * s.runningModel + 7))).isLt
  rw [State.when_on _ _ _ (by rw [hl, hr]; rfl), State.holdMost_rd, (State.Tells.watchFlags _).regs _ (tellKey_model _)]
  dsimp only
  rw [hi, State.start_rd, State.showModel_word, State.setModel_rd, State.rd_wr_same, BitVec.toNat_ofNat]
  split <;> omega

/-! ### Saving -/

/-- HOLDOVER_MODEL_SAVE: both models are in flash (R91). -/
theorem holdoverModelSave_saves {s : State} (hp : s.powered = true) (hl : s.mayLearn = true)
    (hr : s.ran .save 3600000000000 = true) :
    Answers .holdoverModelSave s fun t =>
      t.flash.hmodels.length = 2 ∧ t.flash.hmodels.map (fun h => h.model) = [s.model 0, s.model 1] := by
  refine .runF (exec_holdoverModelSave s) hp ?_
  rw [State.when_on _ _ _ (by rw [hl, hr]; rfl), State.holdMost_flash, (State.Tells.watchFlags _).flash_eq]
  exact ⟨rfl, rfl⟩

/-! ### Resetting -/

/-- Words of one value written: each reads as written. -/
theorem State.rd_foldl_wr_const (key : Nat → Nat) (w : Word) {k : Nat} :
    ∀ (l : List Nat) (s : State), (∃ a ∈ l, key a = k) ∨ s.rd k = w →
      (l.foldl (fun t a => t.wr (key a) w) s).rd k = w
  | [], _, h => h.resolve_left fun ⟨_, ha, _⟩ => nomatch ha
  | a :: l, s, h => by
    refine State.rd_foldl_wr_const key w l _ ?_
    by_cases ha : key a = k
    · exact .inr (ha ▸ s.rd_wr_same _ w)
    · refine h.imp (fun ⟨b, hb, hk⟩ => ⟨b, ?_, hk⟩) fun hs => (s.rd_wr_ne _ k w ha).trans hs
      exact (List.mem_cons.mp hb).resolve_left fun e => ha (e ▸ hk)

/-- A model cleared has all its words 0 (R94). -/
theorem State.clearModel_word (s : State) (i : Nat) (suspect : Bool) (w : Fin 8) :
    (s.clearModel i suspect).rd (indKey 9 (8 * i + w)) = 0 := by
  unfold State.clearModel
  rw [State.showModel_word, State.setModel_rd]
  exact State.rd_foldl_wr_const (fun w => indKey 9 (8 * i + w)) 0 _ s (.inl ⟨w, List.mem_range.mpr w.isLt, rfl⟩)

theorem State.clearModel_time (s : State) (i : Nat) (suspect : Bool) : (s.clearModel i suspect).time = s.time := by
  unfold State.clearModel
  rw [State.showModel_time, State.setModel_time]
  exact List.foldlRecOn (motive := fun (t : State) => t.time = s.time) _ _ rfl fun t ht _ _ => (t.wr_time _ _).trans ht

/-- A reset clears the running oscillator's words and leaves the unlocks (R94). -/
theorem State.resetModel_clears (s : State) (g : Who) :
    (∀ w : Fin 8, (s.resetModel g).rd (indKey 9 (8 * s.runningModel + w)) = 0) ∧ (s.resetModel g).time = s.time := by
  have hclear (u : State) (hi : u.runningModel = s.runningModel) (ht : u.time = s.time) :
      (∀ w : Fin 8, ((u.clearModel u.runningModel false).command g 0x090038 1).rd (indKey 9 (8 * s.runningModel + w)) = 0) ∧
        ((u.clearModel u.runningModel false).command g 0x090038 1).time = s.time := by
    have htold := State.Tells.command (u.clearModel u.runningModel false) g 0x090038 1
    refine ⟨fun w => ?_, htold.time_eq.trans ((u.clearModel_time _ _).trans ht)⟩
    rw [htold.regs _ (tellKey_model _), hi]
    exact u.clearModel_word _ false w
  unfold State.resetModel
  dsimp only
  split
  · exact hclear _ rfl rfl
  · exact hclear s rfl rfl

/-- An unlock that stands open to an agent closes with the write that it admits (R469). -/
theorem State.setUnlock_closes {s : State} {g : Agent} (hu : s.unlocked g.who = true) :
    (s.setUnlock g.who false).unlocked g.who = false := by
  cases g
  case portA | portB => rfl
  case mgmt => cases hu

theorem State.unlocked_congr {s t : State} (h : t.time = s.time) (g : Who) : t.unlocked g = s.unlocked g := by
  cases g <;> simp only [State.unlocked, h]

theorem State.setUnlock_runningModel (s : State) (g : Who) (b : Bool) :
    (s.setUnlock g b).runningModel = s.runningModel := by cases g <;> rfl

/-- HOLDOVER_MODEL_RESET: the running oscillator's words are cleared and the unlock is closed (R94, R469). -/
theorem holdoverModelReset_clears {g : Agent} {s : State} (hp : s.powered = true) (hu : s.unlocked g.who = true) :
    Answers (.holdoverModelReset g) s fun t =>
      (∀ w : Fin 8, t.rd (indKey 9 (8 * s.runningModel + w.val)) = 0) ∧ t.unlocked g.who = false := by
  refine .runF (exec_holdoverModelReset g s) hp ?_
  rw [State.keyed, if_pos hu]
  obtain ⟨hclear, htime⟩ := (s.setUnlock g.who false).resetModel_clears g.who
  rw [State.setUnlock_runningModel] at hclear
  generalize (s.setUnlock g.who false).resetModel g.who = t at hclear htime ⊢
  have ht := State.Tells.watchFlags t
  refine ⟨fun w => ?_, ?_⟩
  · rw [State.holdMost_rd, ht.regs _ (tellKey_model _)]; exact hclear w
  · rw [State.unlocked_congr (State.holdMost_time s _), State.unlocked_congr (ht.time_eq.trans htime)]
    exact State.setUnlock_closes hu

/-! ### XO_IN -/

/-- A change of the running oscillator shows in XO_RUN (R95). -/
theorem State.changeOscillator_run (s : State) (xo : Bool) (phase : Int) :
    (s.changeOscillator xo phase).on Fld.REFS_OSC_XO_RUN = xo := by
  have hrun : ((s.flag Fld.REFS_OSC_XO_RUN xo).putS Fld.REFS_PHASE_ABSORBED phase).on Fld.REFS_OSC_XO_RUN = xo :=
    (State.on_put_apart _ _ _ _ (by decide) (by decide)).trans (State.on_flag s _ xo (by decide) rfl)
  unfold State.changeOscillator
  rw [(State.Tells.note _ _ _).on_eq _ (by decide)]
  refine (State.on_of_rd (State.showModel_rd _ _ (by decide) (by decide))).trans ?_
  exact (State.on_withRefs _ _ _).trans hrun

/-- XO_IN_FAIL: the TCXO runs again, and the failure is kept (R95). -/
theorem xoInFail_ends {phase : Int} {s : State} (hp : s.powered = true) (hx : s.on Fld.REFS_OSC_XO_RUN = true) :
    Answers (.xoInFail phase) s fun t => t.on Fld.REFS_OSC_XO_RUN = false ∧ t.refs.xoFailed = true := by
  refine .runF (exec_xoInFail phase s) hp ?_
  rw [State.when_on _ _ _ hx, State.holdMost_on, (State.Tells.watchFlags _).on_eq _ (by decide), State.holdMost_refs,
    (State.Tells.watchFlags _).refs_eq]
  exact ⟨(State.on_of_regs rfl _).trans (s.changeOscillator_run false phase), rfl⟩

/-- Settles O5: each command leaves its words in the models or in the flash, which no telling reaches. -/
theorem holdoverModelCompletes : Obligations.HoldoverModelCompletes :=
  ⟨fun _ hp hl hr => holdoverLearnSample_advances hp hl hr, fun _ hp hl hr => holdoverModelSave_saves hp hl hr,
    fun _ _ hp hu => holdoverModelReset_clears hp hu, fun _ _ hp hx => xoInFail_ends hp hx⟩

end Sys2Proof.Machine
end

section
/-! The loop locks and loses its lock (R86), narrows (R88), loses its holdover (R93) and passes a second (R79, R80). -/

namespace Sys2Proof.Machine

/-! ### A change of the selector's state -/

/-- The selector's data apart from those of the single references. -/
def RefsSt.selector (r : RefsSt) : RefsSt := { r with refs := [] }

theorem State.servoPut_selector (s : State) (st : Nat) : (s.servoPut st).refs.selector = s.refs.selector := by
  unfold State.servoPut
  dsimp only
  split <;> rfl

theorem State.servoShow_selector (s : State) : s.servoShow.refs.selector = s.refs.selector := by
  unfold State.servoShow
  rw [State.servoPut_selector]
  split <;> rfl

theorem State.servoWatch_selector (s : State) : s.servoWatch.refs.selector = s.refs.selector := by
  unfold State.servoWatch
  rw [State.servoShow_selector]
  split <;> rfl

theorem State.selState_selector (s : State) (st old : Nat) : (s.selState st old).refs.selector = s.refs.selector := by
  unfold State.selState
  rw [State.servoWatch_selector, (State.Tells.raise _ 2 0x09 _).refs_eq, State.put_refs]

/-- The servo writes TIME_PTP_STATUS and, where its state bars REF0, that reference's window bit. -/
theorem State.servoPut_get (s : State) (st : Nat) (f : Fld) (h : 0x080058 ≠ f.addr) (h0 : 0x090104 ≠ f.addr) :
    (s.servoPut st).get f = s.get f := by
  have hput := State.get_of_rd (State.rd_put_ne s Fld.TIME_PTP_STATUS_SERVO st f.addr h)
  unfold State.servoPut
  dsimp only
  split
  · exact (State.get_of_rd (State.rd_flag_ne _ (Fld.REFS_ST_QUALIFYING 0) false _ h0)).trans hput
  · exact hput

theorem State.servoShow_get (s : State) (f : Fld) (h : 0x080058 ≠ f.addr) (h0 : 0x090104 ≠ f.addr) :
    s.servoShow.get f = s.get f := by
  unfold State.servoShow
  rw [State.servoPut_get _ _ f h h0]
  split <;> rfl

theorem State.servoWatch_get (s : State) (f : Fld) (h : 0x080058 ≠ f.addr) (h0 : 0x090104 ≠ f.addr) :
    s.servoWatch.get f = s.get f := by
  unfold State.servoWatch
  rw [State.servoShow_get _ f h h0]
  split <;> rfl

/-- The selector shows the state that it enters (R86). -/
theorem State.selState_state (s : State) {st : Nat} (old : Nat) (hst : st < 8) :
    (s.selState st old).get Fld.REFS_SEL_STATUS_STATE = st := by
  unfold State.selState
  rw [State.servoWatch_get _ _ (by decide) (by decide), (State.Tells.raise _ 2 0x09 _).get_eq _ (by decide)]
  exact (State.get_put s _ st (by decide)).trans (Nat.mod_eq_of_lt hst)

/-- What a command that ends in a state of the selector answers. -/
theorem State.selState_end (s u : State) {st : Nat} (old : Nat) (hst : st < 8) :
    (s.holdMost (u.selState st old).watchFlags).get Fld.REFS_SEL_STATUS_STATE = st ∧
      (s.holdMost (u.selState st old).watchFlags).refs.selector = u.refs.selector := by
  have ht := State.Tells.watchFlags (u.selState st old)
  rw [State.holdMost_get, State.holdMost_refs, ht.get_eq _ (by decide), ht.refs_eq]
  exact ⟨u.selState_state old hst, u.selState_selector st old⟩

/-! ### Locking -/

/-- REF_LOCK: ACQUIRING becomes LOCKED (R86). -/
theorem refLock_locks {s : State} (hp : s.powered = true) (hs : s.get Fld.REFS_SEL_STATUS_STATE = 1)
    (hn : s.heldFor s.refs.nearAt = true) (hd : s.domDown 2 = false) :
    Answers .refLock s fun t =>
      t.get Fld.REFS_SEL_STATUS_STATE = 2 ∧ t.refs.lockedReached = true ∧ t.refs.lockedSince = s.time.now := by
  refine .runF (exec_refLock s) hp ?_
  rw [State.when_on _ _ _ (by simp [hs, hn, hd])]
  dsimp only
  have hbw (b : Prop) [Decidable b] (u : State) (v : Nat) : (if b then u.setBw v else u).refs.lockedReached =
      u.refs.lockedReached ∧ (if b then u.setBw v else u).refs.lockedSince = u.refs.lockedSince := by
    split <;> exact ⟨rfl, rfl⟩
  obtain ⟨hstate, hsel⟩ := State.selState_end s _ (s.get Fld.REFS_SEL_STATUS_ACTIVE) (show 2 < 8 by decide)
  refine ⟨hstate, (congrArg RefsSt.lockedReached hsel).trans ?_, (congrArg RefsSt.lockedSince hsel).trans ?_⟩
  · exact (hbw _ _ _).1
  · exact (hbw _ _ _).2

/-- REF_LOCK_LOSS: LOCKED returns to ACQUIRING at BW_ACQ (R86). -/
theorem refLockLoss_acquires {s : State} (hp : s.powered = true) (hs : s.get Fld.REFS_SEL_STATUS_STATE = 2)
    (hf : s.heldFor s.refs.farAt = true) :
    Answers .refLockLoss s fun t =>
      t.get Fld.REFS_SEL_STATUS_STATE = 1 ∧ t.refs.bw = s.get Fld.REFS_LOOP_BW_ACQ * 16384 := by
  refine .runF (exec_refLockLoss s) hp ?_
  rw [State.when_on _ _ _ (by simp [hs, hf])]
  obtain ⟨hstate, hsel⟩ := State.selState_end s _ (s.get Fld.REFS_SEL_STATUS_ACTIVE) (show 1 < 8 by decide)
  exact ⟨hstate, congrArg RefsSt.bw hsel⟩

/-! ### Narrowing -/

theorem State.Tells.since_eq {s t : State} (h : s.Tells t) (x : Timer) : t.since x = s.since x :=
  (congrArg (fun u : State => u.since x) h.mute : _)

/-- BANDWIDTH_STEP: the bandwidth halves, down to BW_TRK (R88). -/
theorem bandwidthStep_halves {s : State} (hp : s.powered = true) (hs : s.get Fld.REFS_SEL_STATUS_STATE = 2)
    (hr : s.ran .bandwidth 2000000000 = true) :
    Answers .bandwidthStep s fun t =>
      t.refs.bw = max (s.refs.bw / 2) (s.get Fld.REFS_LOOP_BW_TRK * 16384) ∧ t.since .bandwidth = s.time.now := by
  refine .runF (exec_bandwidthStep s) hp ?_
  rw [State.when_on _ _ _ (by simp [hs, hr]), State.holdMost_refs, (State.Tells.watchFlags _).refs_eq]
  refine ⟨?_, ((State.Tells.watchFlags _).since_eq .bandwidth).trans (s.start_since .bandwidth)⟩
  show (if s.refs.bw / 2 < s.get Fld.REFS_LOOP_BW_TRK * 16384 then _ else _) = _
  split <;> omega

/-! ### The end of HOLDOVER -/

/-- HOLDOVER_VALIDITY_EXPIRE: HOLDOVER becomes LOST (R93). -/
theorem holdoverValidityExpire_loses {s : State} (hp : s.powered = true) (hs : s.get Fld.REFS_SEL_STATUS_STATE = 3)
    (hv : s.time.now ≥ s.refs.holdoverSince + s.validMinutes * 60000000000) :
    Answers .holdoverValidityExpire s fun t => t.get Fld.REFS_SEL_STATUS_STATE = 4 := by
  refine .runF (exec_holdoverValidityExpire s) hp ?_
  rw [State.when_on _ _ _ (by simp [hs, hv])]
  exact (State.selState_end s s _ (by decide)).1

end Sys2Proof.Machine
end

section
/-! A whole second (R79): the temperature comes with it and the loop's frequency moves (R80). Neither the measurements and
judgements of the references, nor the selection, nor the outputs' steering words reach the loop again. -/

namespace Sys2Proof.Machine

/-! ### What leaves the loop -/

@[simp] theorem State.setRef_loop (s : State) (n : Nat) (r : RefOne) : (s.setRef n r).refs.loop = s.refs.loop := rfl
@[simp] theorem State.failWindow_loop (s : State) (n : Nat) : (s.failWindow n).refs.loop = s.refs.loop := rfl

@[simp] theorem State.setModel_loop (s : State) (i : Nat) (m : HModel) : (s.setModel i m).refs.loop = s.refs.loop := rfl

theorem RefsSt.loop_disagreeOpen (r : RefsSt) (b : Bool) : ({ r with disagreeOpen := b } : RefsSt).loop = r.loop := rfl

theorem State.ite_loop {s t u : State} (b : Prop) [Decidable b] (ht : t.refs.loop = s.refs.loop)
    (hu : u.refs.loop = s.refs.loop) : (if b then t else u).refs.loop = s.refs.loop := by split <;> assumption

/-- A walk over references or outputs whose every step leaves the loop. -/
theorem State.foldl_loop {α : Type} (f : State → α → State) (h : ∀ s a, (f s a).refs.loop = s.refs.loop) (l : List α)
    (s : State) : (l.foldl f s).refs.loop = s.refs.loop :=
  List.foldlRecOn (motive := fun t => t.refs.loop = s.refs.loop) l f rfl fun t ht a _ => (h t a).trans ht

theorem State.Tells.loop_eq {s t : State} (h : s.Tells t) : t.refs.loop = s.refs.loop := congrArg RefsSt.loop h.refs_eq

theorem State.disqualify_loop (s : State) (n cause : Nat) : (s.disqualify n cause).refs.loop = s.refs.loop := by
  obtain ⟨r, dw, he⟩ := s.disqualify_eq n cause
  have hcount : (((s.unqualify n cause).setRef n r).bump (Fld.REFS_CNT_DQ n) 1).refs.loop = s.refs.loop := by
    rw [State.bump_refs, State.setRef_loop, State.unqualify, State.put_refs, State.flag_refs, State.flag_refs,
      State.failWindow_loop, State.flag_refs]
  rw [he]
  split
  · exact (State.Tells.raise _ 2 0x09 dw).loop_eq.trans hcount
  · exact hcount

theorem State.runWindow_loop (s : State) (n : Nat) : (s.runWindow n).refs.loop = s.refs.loop := by
  unfold State.runWindow; split <;> rfl

theorem State.resumeRef_loop (s : State) (n t : Nat) : (s.resumeRef n t).refs.loop = s.refs.loop := by
  unfold State.resumeRef; dsimp only; split <;> rfl

/-! ### Measuring and judging -/

theorem State.takeEdges_loop (s : State) (n : Nat) (x : Option (Nat × Nat)) :
    (s.takeEdges n x).1.refs.loop = s.refs.loop := by
  unfold State.takeEdges
  dsimp only
  split
  · rfl
  · exact State.resumeRef_loop _ _ _

theorem State.measureRef_loop (e : RefEval) (s : State) (n : Nat) : (State.measureRef e s n).1.refs.loop = s.refs.loop := by
  have hseen : (if n ≤ 2 then (s, if n = 0 && !s.enabled 0x08 then none else e.y1.getD n none)
      else s.takeEdges n (e.edges.getD (n - 3) none)).1.refs.loop = s.refs.loop := by
    split
    · rfl
    · exact s.takeEdges_loop n _
  unfold State.measureRef
  dsimp only
  generalize (if n ≤ 2 then (s, if n = 0 && !s.enabled 0x08 then none else e.y1.getD n none)
    else s.takeEdges n (e.edges.getD (n - 3) none)) = q at hseen ⊢
  split
  · exact hseen
  · dsimp only
    rw [State.putS_refs, State.putS_refs, State.putS_refs, State.setRef_loop]
    split
    · exact (State.resumeRef_loop _ _ _).trans hseen
    · exact hseen

theorem State.captureRef_loop (s : State) (n : Nat) (measured : Bool) :
    (s.captureRef n measured).refs.loop = s.refs.loop := by
  unfold State.captureRef
  exact State.ite_loop _ (State.ite_loop _ (s.disqualify_loop n causeCapture) rfl)
    (State.ite_loop _ rfl (State.ite_loop _ rfl (s.runWindow_loop n)))

theorem State.barRef_loop {s t : State} {n : Nat} (h : s.barRef n = some t) : t.refs.loop = s.refs.loop := by
  have hput (c : Nat) : (if s.refQual n || s.on (Fld.REFS_ST_QUALIFYING n) then s.disqualify n c
      else s.put (Fld.REFS_ST_CAUSE n) c).refs.loop = s.refs.loop := State.ite_loop _ (s.disqualify_loop n c) rfl
  unfold State.barRef at h
  dsimp only at h
  split at h
  · exact Option.some.inj h ▸ hput causeDisabled
  · split at h
    · exact Option.some.inj h ▸ hput causeConfig
    · cases h

theorem State.judgeRef_loop (measured : List Bool) (s : State) (n : Nat) :
    (State.judgeRef measured s n).refs.loop = s.refs.loop := by
  unfold State.judgeRef
  split
  case h_1 t ht => exact State.barRef_loop ht
  case h_2 => exact s.captureRef_loop n _

theorem State.evalRefs_loop (s : State) (e : RefEval) : (s.evalRefs e).refs.loop = s.refs.loop := by
  unfold State.evalRefs
  dsimp only
  refine (State.foldl_loop _ (State.judgeRef_loop _) _ _).trans ?_
  exact List.foldlRecOn (motive := fun x : State × List Bool => x.1.refs.loop = s.refs.loop) _ _ rfl
    fun x hx n _ => (State.measureRef_loop e x.1 n).trans hx

theorem State.showBw_loop (s : State) : s.showBw.refs.loop = s.refs.loop := rfl

/-! ### The pairwise test and the model test -/

theorem State.pairwise_loop (s : State) : s.pairwise.refs.loop = s.refs.loop := by
  have hout := State.foldl_loop (fun t n => t.disqualify n causeMajority) (fun t n => t.disqualify_loop n _) s.outliers s
  unfold State.pairwise
  dsimp only
  generalize s.outliers.foldl (fun t n => t.disqualify n causeMajority) s = s1 at hout ⊢
  rw [← hout]
  have hmark (p : Nat → Bool) (u : State) := State.foldl_loop (fun t n => t.flag (Fld.REFS_ST_DISAGREE n) (p n))
    (fun _ _ => rfl) (List.range 8) u
  split
  · exact (hmark (fun _ => false) _).trans (RefsSt.loop_disagreeOpen _ _)
  · split
    · split
      · exact (RefsSt.loop_disagreeOpen _ _).trans (hmark _ _)
      · split
        · exact (RefsSt.loop_disagreeOpen _ _).trans (hmark _ _)
        · exact (State.Tells.raise _ 4 0x09 _).loop_eq.trans ((RefsSt.loop_disagreeOpen _ _).trans (hmark _ _))
    · rfl

theorem State.clearModel_loop (s : State) (i : Nat) (suspect : Bool) :
    (s.clearModel i suspect).refs.loop = s.refs.loop := by
  unfold State.clearModel
  rw [State.showModel_refs, State.setModel_loop]
  exact State.foldl_loop (fun t w => t.wr (indKey 9 (8 * i + w)) 0) (fun _ _ => rfl) (List.range 8) s

/-- SOFT set on the active reference, or cleared (R75, R76). -/
theorem State.softMarked_loop (s : State) (a : Nat) (above below : Prop) [Decidable above] [Decidable below] (dw : List Nat) :
    (if above then (if s.on (Fld.REFS_ST_SOFT a) then s else (s.flag (Fld.REFS_ST_SOFT a) true).raise 3 0x09 dw)
      else if below then s.flag (Fld.REFS_ST_SOFT a) false else s).refs.loop = s.refs.loop :=
  State.ite_loop _ (State.ite_loop _ rfl (State.Tells.raise _ 3 0x09 dw).loop_eq) (State.ite_loop _ rfl rfl)

theorem State.modelTest_loop (s : State) : s.modelTest.refs.loop = s.refs.loop := by
  unfold State.modelTest
  dsimp only
  split
  · rfl
  · refine State.ite_loop _ rfl (State.ite_loop _ (State.ite_loop _ ((State.clearModel_loop _ _ true).trans ?_)
      ((State.disqualify_loop _ _ causeHardModel).trans ?_)) ?_)
    all_goals exact s.softMarked_loop _ _ _ _

/-! ### The outputs -/

theorem State.clampSyn_loop (room : Nat) (s : State) (n : Nat) : (State.clampSyn room s n).refs.loop = s.refs.loop := by
  have hset (w : Int) : (s.setWord n w).refs = s.refs := by unfold State.setWord; split <;> rfl
  unfold State.clampSyn
  dsimp only
  split
  · rfl
  · exact State.ite_loop _ ((State.Tells.note _ _ _).loop_eq.trans (congrArg RefsSt.loop (hset _)))
      (congrArg RefsSt.loop (hset _))

/-! ### The loop over a second -/

/-- A value brought toward another moves by no more than its step. -/
theorem natAbs_approach_sub_le (old want : Int) (step : Nat) : (approach old want step - old).natAbs ≤ step := by
  unfold approach; split
  · omega
  · split <;> omega

/-- The age words of the models written (R94). -/
theorem State.ageWords_keeps (s : State) (age : State → Nat → Word) :
    ((List.range 2).foldl (fun t i => t.wr (indKey 9 (8 * i + 6)) (age t i)) s).refs.loop = s.refs.loop ∧
      ((List.range 2).foldl (fun t i => t.wr (indKey 9 (8 * i + 6)) (age t i)) s).time = s.time ∧
      ((List.range 2).foldl (fun t i => t.wr (indKey 9 (8 * i + 6)) (age t i)) s).rd 0x09001C = s.rd 0x09001C := by
  have hne (i : Nat) : indKey 9 (8 * i + 6) ≠ 0x09001C := by have := indKey_above 9 (8 * i + 6); omega
  exact List.foldlRecOn
    (motive := fun t : State => t.refs.loop = s.refs.loop ∧ t.time = s.time ∧ t.rd 0x09001C = s.rd 0x09001C)
    _ _ ⟨rfl, rfl, rfl⟩ fun t ⟨hl, ht, hr⟩ i _ => ⟨hl, ht, (State.rd_wr_ne t _ _ _ (hne i)).trans hr⟩

/-- A whole second brings the temperature (R90), and neither moves the loop nor reaches SLEW. -/
theorem State.secondPasses_keeps (s : State) (e : RefEval) :
    (s.secondPasses e).refs.loop = (e.theta, s.refs.loopFreq, s.refs.loopAt) ∧ (s.secondPasses e).time = s.time ∧
      (s.secondPasses e).get Fld.REFS_SLEW_SLEW = s.get Fld.REFS_SLEW_SLEW := by
  let aged := s.refs.models.map fun m => ({ m with ageS := m.ageS + 1 } : HModel)
  obtain ⟨hl, ht, hr⟩ := State.ageWords_keeps { s with refs := { s.refs with theta := e.theta, models := aged } }
    fun t i => BitVec.ofNat 32 ((t.model i).ageS * 65536 / 86400)
  unfold State.secondPasses
  dsimp only
  generalize List.foldl _ _ _ = u at hl ht hr ⊢
  have hshow : u.showModel.rd 0x09001C = s.rd 0x09001C := (u.showModel_rd _ (by decide) (by decide)).trans hr
  have hput (v : Nat) := State.rd_put_ne u.showModel Fld.REFS_HOLDOVER_ELAPSED v 0x09001C (by decide)
  split
  · refine ⟨?_, ?_, State.get_of_rd ((hput _).trans hshow)⟩
    · rw [State.put_refs, State.showModel_refs]; exact hl
    · rw [State.put_time, State.showModel_time]; exact ht
  · refine ⟨?_, ?_, State.get_of_rd hshow⟩
    · rw [State.showModel_refs]; exact hl
    · rw [State.showModel_time]; exact ht

theorem State.loopPasses_loop (s : State) (e : RefEval) : (s.loopPasses e).refs.loop =
    (s.refs.theta, approach s.refs.loopFreq (s.loopWant e.loopFreq) s.slewRoom, s.time.now) := by
  unfold State.loopPasses
  dsimp only
  split
  · split
    · rfl
    · refine (State.foldl_loop _ (fun u _ => ?_) _ _).trans rfl
      exact (State.SelKeeps.phaseMeasured _ u _).loop
  · rfl

/-- REF_EVALUATION: the temperature is taken and the loop's frequency moves no faster than SLEW (R79, R80). -/
theorem refEvaluation_moves {e : RefEval} {s : State} (hp : s.powered = true) (hd : s.domDown 2 = false) :
    Answers (.refEvaluation e) s fun t =>
      t.refs.theta = e.theta ∧ (t.refs.loopFreq - s.refs.loopFreq).natAbs ≤ s.slewRoom ∧ t.refs.loopAt = s.time.now := by
  refine .runF (exec_refEvaluation e s) hp ?_
  rw [State.when_on _ _ _ (by rw [hd]; rfl), State.holdMost_refs, (State.Tells.watchFlags _).refs_eq]
  dsimp only
  obtain ⟨hsecond, htime, hslew⟩ := s.secondPasses_keeps e
  have hloop := (State.foldl_loop (State.clampSyn s.slewRoom) (State.clampSyn_loop s.slewRoom) (List.range 6) _).trans
    ((State.showBw_loop _).trans ((State.SelKeeps.selectRef _ e.phase).loop.trans ((State.modelTest_loop _).trans
      ((State.pairwise_loop _).trans (((s.secondPasses e).loopPasses e).evalRefs_loop e)))))
  rw [State.loopPasses_loop] at hloop
  simp only [RefsSt.loop, Prod.mk.injEq] at hsecond hloop
  obtain ⟨htheta, hfreq, hat⟩ := hsecond
  have hroom : (s.secondPasses e).slewRoom = s.slewRoom := by
    unfold State.slewRoom; rw [hslew, htime, hat]
  rw [hroom, htheta, hfreq, htime] at hloop
  obtain ⟨htheta', hfreq', hat'⟩ := hloop
  refine ⟨htheta', ?_, hat'⟩
  rw [hfreq']
  exact natAbs_approach_sub_le _ _ _

/-- Settles O4: a change of the selector's state shows in STATE and leaves its other data, and a second moves the loop within
SLEW. -/
theorem referenceLoopCompletes : Obligations.ReferenceLoopCompletes :=
  ⟨fun _ hp hs hn hd => refLock_locks hp hs hn hd, fun _ hp hs hf => refLockLoss_acquires hp hs hf,
    fun _ hp hs hr => bandwidthStep_halves hp hs hr, fun _ hp hs hv => holdoverValidityExpire_loses hp hs hv,
    fun _ _ hp hd => refEvaluation_moves hp hd⟩

end Sys2Proof.Machine
end

section
/-! A completed lock stands before a relock command (R107, R111): the command first brings the locks in progress up to date, and
an output that it finds locked keeps its lock and begins no search. -/

namespace Sys2Proof.Machine

/-- A walk over a list brings about at one of its entries what the other entries leave. -/
theorem foldl_reaches {α β : Type} (f : β → α → β) {I D : β → Prop} {k : α} (hI : ∀ t a, I t → I (f t a))
    (hD : ∀ t a, D t → D (f t a)) (hk : ∀ t, I t → D (f t k)) {l : List α} (hl : k ∈ l) {s : β} (hs : I s) :
    D (l.foldl f s) := by
  obtain ⟨l₁, l₂, rfl⟩ := List.append_of_mem hl
  rw [List.foldl_append, List.foldl_cons]
  have hbefore : I (l₁.foldl f s) := List.foldlRecOn l₁ f hs fun t ht a _ => hI t a ht
  exact List.foldlRecOn l₂ f (hk _ hbefore) fun t ht a _ => hD t a ht

/-! ### Locks in progress -/

/-- The word of a synthesizer's status. -/
def synStAddr (n : Nat) : Nat := 0x0A0108 + min n 6 * 0x20

/-- LOCK stands and SEARCH does not. -/
def State.synLocked (s : State) (n : Nat) : Prop := s.on (Fld.SYN_ST_LOCK n) = true ∧ s.on (Fld.SYN_ST_SEARCH n) = false

theorem State.synLocked_of_rd {s t : State} {n : Nat} (h : t.rd (synStAddr n) = s.rd (synStAddr n)) (hs : s.synLocked n) :
    t.synLocked n := by
  obtain ⟨hl, hw⟩ := hs
  exact ⟨(State.on_of_rd (f := Fld.SYN_ST_LOCK n) h).trans hl, (State.on_of_rd (f := Fld.SYN_ST_SEARCH n) h).trans hw⟩

/-- LOCK in place of SEARCH in a status word (R107). -/
theorem State.lockShown (s : State) (n : Nat) :
    ((s.flag (Fld.SYN_ST_SEARCH n) false).flag (Fld.SYN_ST_LOCK n) true).synLocked n := by
  have hs : (Fld.SYN_ST_SEARCH n).ok := ⟨Nat.le_refl _, show 3 < 32 by decide⟩
  have hl : (Fld.SYN_ST_LOCK n).ok := ⟨Nat.le_refl _, show 0 < 32 by decide⟩
  exact ⟨State.on_flag _ _ true hl rfl,
    (State.on_flag_apart _ _ (Fld.SYN_ST_SEARCH n) true hl (.inr (.inl (show 0 < 3 by decide)))).trans
      (State.on_flag _ _ false hs rfl)⟩

/-- BAND stands apart from LOCK and SEARCH. -/
theorem State.putBand_locked {s : State} {n : Nat} (j v : Nat) (h : s.synLocked n) :
    (s.put (Fld.SYN_ST_BAND j) v).synLocked n := by
  have hok : (Fld.SYN_ST_BAND j).ok := ⟨show 20 ≤ 23 by decide, show 23 < 32 by decide⟩
  obtain ⟨hl, hs⟩ := h
  exact ⟨(State.on_put_apart _ _ _ v hok (.inr (.inr (show 0 < 20 by decide)))).trans hl,
    (State.on_put_apart _ _ _ v hok (.inr (.inr (show 3 < 20 by decide)))).trans hs⟩

/-- Whichever lock is brought forward, an output that is locked stays so. -/
theorem State.lockProgress_keeps {s : State} {n : Nat} (j : Nat) (h : s.synLocked n) : (s.lockProgress j).synLocked n := by
  have hshown (u : State) (hu : u.synLocked n) :
      ((u.flag (Fld.SYN_ST_SEARCH j) false).flag (Fld.SYN_ST_LOCK j) true).synLocked n := by
    by_cases e : synStAddr j = synStAddr n
    · refine (congrArg (fun a => ((u.flag ⟨a, 3, 3⟩ false).flag ⟨a, 0, 0⟩ true).synLocked n) e).mpr ?_
      exact u.lockShown n
    · refine State.synLocked_of_rd ?_ hu
      rw [State.rd_flag_ne _ (Fld.SYN_ST_LOCK j) _ _ e, State.rd_flag_ne _ (Fld.SYN_ST_SEARCH j) _ _ e]
  unfold State.lockProgress
  split
  · dsimp only
    split
    · split
      · exact hshown _ (State.putBand_locked j _ h)
      · exact hshown _ h
    · split
      · exact State.putBand_locked j _ h
      · exact h
  · exact h

/-- A lock is complete 1,200 µs after it began (R107). -/
theorem State.lockProgress_completes {s : State} {n t : Nat} (ht : s.synStart n = some t) (hn : s.time.now ≥ t + 1200000) :
    (s.lockProgress n).synLocked n := by
  unfold State.lockProgress
  split
  case h_1 t' ht' =>
    obtain rfl : t = t' := Option.some.inj (ht.symm.trans ht')
    dsimp only
    split
    case isTrue => exact State.lockShown _ n
    case isFalse h => exact absurd hn h
  case h_2 hnone => exact nomatch ht.symm.trans hnone

/-- Neither the time nor the start of a lock changes as the locks are brought forward. -/
theorem State.lockProgress_beside (s : State) (j : Nat) :
    (s.lockProgress j).syn = s.syn ∧ (s.lockProgress j).time = s.time := by
  have hput (c : Prop) [Decidable c] (f : Fld) (v : Nat) :
      (if c then s.put f v else s).syn = s.syn ∧ (if c then s.put f v else s).time = s.time := by
    split <;> exact ⟨rfl, rfl⟩
  have hshown (c : Prop) [Decidable c] (u : State) (hu : u.syn = s.syn ∧ u.time = s.time) (f g : Fld) :
      (if c then (u.flag f false).flag g true else u).syn = s.syn ∧
        (if c then (u.flag f false).flag g true else u).time = s.time := by
    split <;> exact hu
  unfold State.lockProgress
  split
  · exact hshown _ _ (hput _ _ _) _ _
  · exact ⟨rfl, rfl⟩

/-- A phase step brought forward leaves the starts, the time and the status words. -/
theorem State.movePhase_beside (s : State) (j n : Nat) :
    (s.movePhase j).syn.start = s.syn.start ∧ (s.movePhase j).time = s.time ∧
      (s.movePhase j).rd (synStAddr n) = s.rd (synStAddr n) := by
  have hne : (Fld.SYN_PHST_LEFT_PS j).addr ≠ synStAddr n :=
    show 0x0A0110 + min j 6 * 0x20 ≠ 0x0A0108 + min n 6 * 0x20 by omega
  have hput (z : Int) : (s.putS (Fld.SYN_PHST_LEFT_PS j) z).rd (synStAddr n) = s.rd (synStAddr n) :=
    State.rd_put_ne _ _ _ _ hne
  unfold State.movePhase
  dsimp only
  split
  · exact ⟨rfl, rfl, rfl⟩
  · exact ⟨rfl, rfl, hput _⟩

/-- An output 1,200 µs into its lock is locked once the locks in progress are up to date (R107). -/
theorem State.synProgress_locked {s : State} {n t : Nat} (h : n < 6) (ht : s.synStart n = some t)
    (hn : s.time.now ≥ t + 1200000) : s.synProgress.synLocked n := by
  unfold State.synProgress
  refine foldl_reaches _ (I := fun u : State => u.syn.start = s.syn.start ∧ u.time = s.time)
    (D := fun u : State => u.synLocked n) (k := n) (fun u j ⟨hs, hu⟩ => ?_) (fun u j hu => ?_) (fun u ⟨hs, hu⟩ => ?_)
    (List.mem_range.mpr h) ⟨rfl, rfl⟩
  · obtain ⟨hs1, hu1⟩ := u.lockProgress_beside j
    obtain ⟨hs2, hu2, _⟩ := (u.lockProgress j).movePhase_beside j n
    exact ⟨hs2.trans ((congrArg SynSt.start hs1).trans hs), hu2.trans (hu1.trans hu)⟩
  · obtain ⟨_, _, hr⟩ := (u.lockProgress j).movePhase_beside j n
    exact State.synLocked_of_rd hr (State.lockProgress_keeps j hu)
  · obtain ⟨_, _, hr⟩ := (u.lockProgress n).movePhase_beside n n
    refine State.synLocked_of_rd hr (State.lockProgress_completes (t := t) ?_ (by rw [hu]; exact hn))
    rw [State.synStart, hs]
    exact ht

/-! ### A relock command -/

theorem State.searchSyn_rd (s : State) {n k : Nat} (h : synStAddr n ≠ k) : (s.searchSyn n).rd k = s.rd k :=
  State.rd_flag_ne s (Fld.SYN_ST_SEARCH n) _ k h

/-- A relock command leaves the status word of an output that is locked once the locks in progress are up to date. -/
theorem State.relockSyn_locked (s : State) (mask : Nat) {n : Nat} (h : s.synProgress.on (Fld.SYN_ST_LOCK n) = true) :
    (s.relockSyn mask).rd (synStAddr n) = s.synProgress.rd (synStAddr n) := by
  unfold State.relockSyn
  refine List.foldlRecOn (motive := fun t : State => t.rd (synStAddr n) = s.synProgress.rd (synStAddr n)) _ _ rfl
    fun t ht j _ => ?_
  split
  case isFalse => exact ht
  case isTrue hj =>
    have hne : synStAddr j ≠ synStAddr n := fun e => by
      have hlock : Fld.SYN_ST_LOCK j = Fld.SYN_ST_LOCK n := congrArg (fun a => (⟨a, 0, 0⟩ : Fld)) e
      rw [hlock, State.on_of_rd (f := Fld.SYN_ST_LOCK n) ht, h] at hj
      simp at hj
    rw [State.searchSyn_rd _ hne, State.rd_flag_ne _ (Fld.SYN_ST_STUCK j) _ _ hne,
      State.rd_flag_ne _ (Fld.SYN_ST_COASTING j) _ _ hne]
    exact ht

/-- Telling reaches no register of SYN. -/
theorem tellKey_syn {k : Nat} (h : 0x0A0000 ≤ k) (h2 : k < 0x0B0000) : tellKey k = false := by
  have hc : keyCode k = 10 := keyCode_reg k 10 h h2 (by decide)
  have hk : k ≠ 0x20 := by omega
  simp [tellKey, hc, hk]

/-- A field of SYN reads at the end of a command that watches the condition flags as the effect has left it. -/
theorem State.on_finish_syn (s t : State) {f : Fld} (h : 0x0A0000 ≤ f.addr) (h2 : f.addr < 0x0B0000) :
    (s.holdMost t.watchFlags).on f = t.on f := by
  rw [State.holdMost_on, (State.Tells.watchFlags t).on_eq f (tellKey_syn h h2)]

theorem State.get_finish_syn (s t : State) {f : Fld} (h : 0x0A0000 ≤ f.addr) (h2 : f.addr < 0x0B0000) :
    (s.holdMost t.watchFlags).get f = t.get f := by
  rw [State.holdMost_get, (State.Tells.watchFlags t).get_eq f (tellKey_syn h h2)]

/-- SYN_RELOCK_CMD: an output whose lock has completed begins no search (R107, R111). -/
theorem synRelockCmd_locked {g : Agent} {mask : BitVec 6} {n t : Nat} {s : State} (hp : s.powered = true) (h : n < 6)
    (ht : s.synStart n = some t) (hn : s.time.now ≥ t + 1200000) :
    Answers (.synRelockCmd g mask) s fun u => u.on (Fld.SYN_ST_SEARCH n) = false := by
  have hlocked := State.synProgress_locked h ht hn
  obtain ⟨_, hsearch⟩ := State.synLocked_of_rd (s.relockSyn_locked mask.toNat hlocked.1) hlocked
  refine .runF (exec_synRelockCmd g mask s) hp ?_
  rw [State.on_finish_syn s _ (show 0x0A0000 ≤ 0x0A0108 + min n 6 * 0x20 by omega)
    (show 0x0A0108 + min n 6 * 0x20 < 0x0B0000 by omega)]
  exact hsearch

/-- SYN5 enabled, its core PLL locked, 1,200 µs into its lock: R107 has it locked from this instant on, and its register, not
read since, still shows SEARCH. -/
def lockJustDone : State :=
  ((({ State.reset with time := { TimeSt.reset with now := 1200000 } }.flag (Fld.SYN_CFG_EN 5) true).flag
    (Fld.cpllLock (State.reset.synFromN 5)) true).flag (Fld.SYN_ST_SEARCH 5) true).setStart 5 (some 0)

/-- Refutes O6: its clause of SYN_RELOCK_CMD reads LOCK before the locks in progress are brought up to date. An output whose lock
has just completed is locked by R107 and is not searched again, where the clause has it search because its core PLL is locked. -/
theorem not_synthesizersComplete : ¬ Obligations.SynthesizersComplete := by
  intro ⟨_, _, _, _, _, _, _, hrelock⟩
  have hp : lockJustDone.powered = true := by decide +kernel
  have hmay : lockJustDone.mayLock 5 = true := by decide +kernel
  have hshown : lockJustDone.on (Fld.SYN_ST_LOCK 5) = false := by decide +kernel
  have hcore : lockJustDone.on (Fld.cpllLock (lockJustDone.synFromN 5)) = true := by decide +kernel
  obtain ⟨t, ht, hsearch, _⟩ := hrelock .portA 0x20 5 lockJustDone hp (by decide) (by decide) hmay hshown
  obtain ⟨u, hu, hidle⟩ := synRelockCmd_locked (g := .portA) (mask := 0x20) (n := 5) (t := 0) hp (by decide) rfl
    (by decide +kernel)
  obtain rfl : t = u := Host.Outcome.next.inj (ht.symm.trans hu)
  exact Bool.false_ne_true (hidle.symm.trans (hsearch.trans hcore))

end Sys2Proof.Machine
end

section
/-! Phase steps (R118) and pulse trains (R121, R122). -/

namespace Sys2Proof.Machine

/-! ### A phase step waits -/

/-- An entry put among entries of other keys is the one found at its key. -/
theorem Store.find_insert {α : Type} (k : Nat) (v : α) (m : List (Nat × α)) (free : ∀ x ∈ m, x.1 = k → False) :
    (Store.insert k v m).find? (fun x => x.1 = k) = some (k, v) := by
  induction m with
  | nil => simp [Store.insert]
  | cons x m ih =>
    obtain ⟨a, w⟩ := x
    have ha : a ≠ k := free (a, w) List.mem_cons_self
    rw [Store.insert]
    split
    · simp
    · rw [List.find?_cons_of_neg (by simpa using ha)]
      exact ih fun y hy => free y (List.mem_cons_of_mem _ hy)

/-- A word written to the shadow is the one last written to its register (R22). -/
theorem State.shadowWrite_lastWritten {s t : State} {k : Nat} {w : Word} (h : t.shadow = (s.shadowWrite k w).shadow) :
    t.lastWritten k = w := by
  have hf : t.shadow.find? (fun x => x.1 = k) = some (k, w) :=
    (congrArg (List.find? _) h).trans (Store.find_insert k w _ (Store.erase_free s.shadow k))
  unfold State.lastWritten
  rw [hf]

/-- SYN_PHASE_STEP: the step of SYN0, SYN4 or SYN5 waits in its shadow (R21, R22, R118). -/
theorem synPhaseStep_waits {g : Agent} {n : Fin 6} {ps : BitVec 16} {s : State} (hp : s.powered = true)
    (hn : n.val = 0 ∨ n.val = 4 ∨ n.val = 5) :
    Answers (.synPhaseStep g n ps) s fun t =>
      t.lastWritten (Fld.SYN_PHASE_STEP_PS n).addr = BitVec.ofNat 32 ps.toNat ∧
        t.rd (Fld.SYN_PHASE_STEP_PS n).addr = s.rd (Fld.SYN_PHASE_STEP_PS n).addr := by
  refine .runF (exec_synPhaseStep g n ps s) hp ?_
  rw [State.when_on _ _ _ (by simpa [or_assoc] using hn)]
  have ht := State.Tells.watchFlags (s.shadowWrite (Fld.SYN_PHASE_STEP_PS n).addr (BitVec.ofNat 32 ps.toNat))
  refine ⟨State.shadowWrite_lastWritten ((State.holdMost_shadow s _).trans ht.shadow_eq), ?_⟩
  rw [State.holdMost_rd]
  exact ht.regs _ (tellKey_syn (show 0x0A0000 ≤ 0x0A010C + min n.val 6 * 0x20 by omega)
    (show 0x0A010C + min n.val 6 * 0x20 < 0x0B0000 by omega))

/-! ### A phase step ends -/

/-- SYN_PHASE_STEP_DONE: with nothing left to step, BUSY clears (R118). -/
theorem synPhaseStepDone_ends {n : Fin 6} {s : State} (hp : s.powered = true) (hb : s.on (Fld.SYN_PHST_BUSY n) = true)
    (hl : s.on (Fld.SYN_ST_LOCK n) = true) (hz : (s.movePhase n).get (Fld.SYN_PHST_LEFT_PS n) = 0) :
    Answers (.synPhaseStepDone n) s fun t =>
      t.on (Fld.SYN_PHST_BUSY n) = false ∧ t.get (Fld.SYN_PHST_LEFT_PS n) = 0 := by
  have hok : (Fld.SYN_PHST_BUSY n).ok := ⟨Nat.le_refl _, show 16 < 32 by decide⟩
  have hlo : 0x0A0000 ≤ 0x0A0110 + min n.val 6 * 0x20 := by omega
  have hhi : 0x0A0110 + min n.val 6 * 0x20 < 0x0B0000 := by omega
  refine .runF (exec_synPhaseStepDone n s) hp ?_
  dsimp only
  rw [State.when_on _ _ _ (by simp [hb, hl, hz]), State.on_finish_syn s _ hlo hhi, State.get_finish_syn s _ hlo hhi]
  exact ⟨State.on_flag _ _ false hok rfl,
    (State.get_flag_apart _ _ _ _ hok (.inr (.inr (show 15 < 16 by decide)))).trans hz⟩

/-! ### The trains -/

/-- The train kept after one is replaced. -/
theorem State.train_setTrain (s : State) (j k : Nat) (x : PulseTrain) :
    (s.setTrain j x).train k = if j = k ∧ j < s.syn.trains.length then x else s.train k := by
  unfold State.train State.setTrain
  by_cases h : j = k
  · subst h
    by_cases hl : j < s.syn.trains.length <;> simp [hl]
  · simp [h]

/-- A train that runs is one of those kept: a train beyond them reads as one that stands. -/
theorem State.train_lt {s : State} {k : Nat} (h : (s.train k).run = true) : k < s.syn.trains.length := by
  refine Nat.lt_of_not_le fun hge => ?_
  have hreset : s.train k = PulseTrain.reset := by
    rw [State.train, List.getD_eq_getElem?_getD, List.getElem?_eq_none hge, Option.getD_none]
  rw [hreset] at h
  cases h

theorem State.train_of_syn {s t : State} (h : t.syn = s.syn) (k : Nat) : t.train k = s.train k := by
  unfold State.train; rw [h]

/-! ### A pulse -/

theorem pend_ok (k : Nat) : (Fld.PULSE_ST_REALIGN_PEND k).ok := ⟨Nat.le_refl _, show 0 < 32 by decide⟩

/-- The end of an emission: event 9 with the first pulse after a realignment, which is pending no longer (R122). -/
theorem State.pendEnd (s : State) (k : Nat) (dw : List Nat) :
    (if s.on (Fld.PULSE_ST_REALIGN_PEND k) then (s.flag (Fld.PULSE_ST_REALIGN_PEND k) false).raise 9 0x0A dw else s).on
        (Fld.PULSE_ST_REALIGN_PEND k) = false ∧
      (if s.on (Fld.PULSE_ST_REALIGN_PEND k) then (s.flag (Fld.PULSE_ST_REALIGN_PEND k) false).raise 9 0x0A dw
        else s).syn = s.syn := by
  split
  case isTrue =>
    have ht := State.Tells.raise (s.flag (Fld.PULSE_ST_REALIGN_PEND k) false) 9 0x0A dw
    rw [ht.syn_eq, ht.on_eq _ (tellKey_syn (show 0x0A0000 ≤ 0x0A020C + min k 3 * 0x10 by omega)
      (show 0x0A020C + min k 3 * 0x10 < 0x0B0000 by omega))]
    exact ⟨State.on_flag _ _ false (pend_ok k) rfl, State.flag_syn _ _ _⟩
  case isFalse h => exact ⟨Bool.eq_false_iff.mpr h, rfl⟩

/-- PULSE_EMIT: a pulse follows the last by the train's period, and no realignment is pending behind it (R121, R122). -/
theorem pulseEmit_follows {k : Fin 3} {l : Int} {s : State} (hp : s.powered = true) (hr : (s.train k).run = true)
    (hd : (s.train k).due = none) (hl : (s.train k).last = some l) :
    Answers (.pulseEmit k) s fun t =>
      (t.train k).last = some (l + (s.train k).period) ∧ t.on (Fld.PULSE_ST_REALIGN_PEND k) = false := by
  refine .runF (exec_pulseEmit k s) hp ?_
  rw [State.when_on _ _ _ hr]
  simp only [hd, hl]
  obtain ⟨hpend, hsyn⟩ := State.pendEnd (((((s.setTrain k _).emit _).putS (Fld.PULSE_ERR_ERR_NS k) _).flag
    (Fld.PULSE_ST_MISALIGNED k) _)) k [k]
  rw [State.on_finish_syn s _ (show 0x0A0000 ≤ 0x0A020C + min k.val 3 * 0x10 by omega)
      (show 0x0A020C + min k.val 3 * 0x10 < 0x0B0000 by omega),
    State.train_of_syn ((State.holdMost_syn s _).trans ((State.Tells.watchFlags _).syn_eq.trans hsyn))]
  refine ⟨?_, hpend⟩
  rw [State.train_of_syn ((State.flag_syn _ _ _).trans ((State.putS_syn _ _ _).trans (State.emit_syn _ _))),
    State.train_setTrain, if_pos ⟨rfl, State.train_lt hr⟩]

/-! ### A realignment -/

/-- A train aligned runs on with a pulse due; the others are left (R122). -/
theorem State.alignTrain_train (s : State) (j k : Nat) : ∃ x : PulseTrain, x.run = true ∧ x.due.isSome = true ∧
    (s.alignTrain j).train k = if j = k ∧ j < s.syn.trains.length then x else s.train k := by
  have hset (x : PulseTrain) : (if j = 2 then s.setTrain j x else (s.setTrain j x).flag (Fld.PULSE_ST_CFG_WAIT j)
      false).train k = if j = k ∧ j < s.syn.trains.length then x else s.train k := by
    refine (State.train_of_syn ?_ k).trans (s.train_setTrain j k x)
    split <;> rfl
  unfold State.alignTrain
  dsimp only
  refine ⟨_, ?run, ?due, hset _⟩
  case run | due => rfl

/-- An alignment writes CFG_WAIT alone. -/
theorem State.alignTrain_pend (s : State) (j k : Nat) :
    (s.alignTrain j).on (Fld.PULSE_ST_REALIGN_PEND k) = s.on (Fld.PULSE_ST_REALIGN_PEND k) := by
  have hok : (Fld.PULSE_ST_CFG_WAIT j).ok := ⟨Nat.le_refl _, show 2 < 32 by decide⟩
  unfold State.alignTrain
  dsimp only
  split
  · exact State.on_of_regs rfl _
  · exact (State.on_flag_apart _ _ _ false hok (.inr (.inr (show 0 < 2 by decide)))).trans (State.on_of_regs rfl _)

/-- A flag set leaves every bit of REALIGN_PEND that stands. -/
theorem State.pend_keeps (s : State) (j k : Nat) (h : s.on (Fld.PULSE_ST_REALIGN_PEND k) = true) :
    (s.flag (Fld.PULSE_ST_REALIGN_PEND j) true).on (Fld.PULSE_ST_REALIGN_PEND k) = true := by
  by_cases e : (Fld.PULSE_ST_REALIGN_PEND j).addr = (Fld.PULSE_ST_REALIGN_PEND k).addr
  · have hf : Fld.PULSE_ST_REALIGN_PEND k = Fld.PULSE_ST_REALIGN_PEND j := congrArg (fun a => (⟨a, 0, 0⟩ : Fld)) e.symm
    rw [hf]
    exact State.on_flag _ _ true (pend_ok j) rfl
  · exact (State.on_flag_apart _ _ _ true (pend_ok j) (.inl e)).trans h

/-- What a realignment leaves of a train (R122): its realignment pending and its first pulse due. -/
def State.realigned (s : State) (k : Nat) : Prop :=
  s.on (Fld.PULSE_ST_REALIGN_PEND k) = true ∧ (s.train k).due.isSome = true

/-- The realignment of one train leaves every train running that ran. -/
theorem State.alignTrain_run {s : State} {k : Nat} (j : Nat) (h : (s.train k).run = true) :
    ((s.alignTrain j).train k).run = true := by
  obtain ⟨x, hx, _, he⟩ := s.alignTrain_train j k
  rw [he]
  split
  · exact hx
  · exact h

theorem State.alignTrain_due {s : State} {k : Nat} (j : Nat) (h : (s.train k).due.isSome = true) :
    ((s.alignTrain j).train k).due.isSome = true := by
  obtain ⟨x, _, hx, he⟩ := s.alignTrain_train j k
  rw [he]
  split
  · exact hx
  · exact h

/-- REALIGN: a running train named by the mask is realigned, and no other train's realignment undoes it (R122). -/
theorem State.realign_realigned {s : State} {mask k : Nat} (hk : k < 3) (hm : mask.testBit k = true)
    (hr : (s.train k).run = true) : (s.realign mask).realigned k := by
  unfold State.realign
  refine foldl_reaches _ (I := fun t : State => (t.train k).run = true)
    (D := fun t : State => t.realigned k) (k := k)
    (fun t j ht => ?_) (fun t j ⟨hp, hd⟩ => ?_) (fun t ht => ?_) (List.mem_range.mpr hk) hr
  · split
    · exact State.alignTrain_run j ht
    · exact ht
  · split
    · exact ⟨State.pend_keeps _ j k ((t.alignTrain_pend j k).trans hp), State.alignTrain_due j hd⟩
    · exact ⟨hp, hd⟩
  · obtain ⟨x, _, hx, he⟩ := t.alignTrain_train k k
    rw [if_pos ⟨rfl, State.train_lt ht⟩] at he
    rw [Nat.testBit_eq_decide_div_mod_eq, decide_eq_true_eq] at hm
    rw [if_pos (by simp [hm, ht])]
    refine ⟨State.on_flag _ _ true (pend_ok k) rfl, ?_⟩
    rw [State.train_of_syn (State.flag_syn _ _ _), he]
    exact hx

/-- The transmitters that stop with the tick pulse (R252) leave the trains. -/
theorem State.aesTxOff_realigned {s : State} {k : Nat} (t : Nat) (h : s.realigned k) : (s.aesTxOff t).realigned k := by
  obtain ⟨hp, hd⟩ := h
  refine ⟨?_, hd⟩
  have hne : (Fld.LAP_AEST_ST_RUN t).addr ≠ (Fld.PULSE_ST_REALIGN_PEND k).addr :=
    show 0x280304 + min t 4 * 0x10 ≠ 0x0A020C + min k 3 * 0x10 by omega
  exact (State.on_of_rd (State.rd_flag_ne _ _ false _ hne)).trans hp

theorem State.pulseRealign_realigned {s : State} {mask k : Nat} (hk : k < 3) (hm : mask.testBit k = true)
    (hr : (s.train k).run = true) : (s.pulseRealign mask).realigned k := by
  unfold State.pulseRealign
  dsimp only
  split
  · exact List.foldlRecOn (motive := fun t : State => t.realigned k) _ _ (State.realign_realigned hk hm hr)
      fun _ ht j _ => State.aesTxOff_realigned j ht
  · exact State.realign_realigned hk hm hr

/-- PULSE_REALIGN: a running train has its pulse due and pending (R122). -/
theorem pulseRealign_pends {g : Agent} {mask : BitVec 3} {k : Fin 3} {s : State} (hp : s.powered = true)
    (hr : (s.train k).run = true) (hm : mask.getLsbD k = true) :
    Answers (.pulseRealign g mask) s fun t =>
      t.on (Fld.PULSE_ST_REALIGN_PEND k) = true ∧ (t.train k).due.isSome = true := by
  obtain ⟨hpend, hdue⟩ := State.pulseRealign_realigned (mask := mask.toNat) k.isLt hm hr
  refine .run (exec_pulseRealign g mask s) hp ⟨(State.holdMost_on s _ _).trans hpend, ?_⟩
  rw [State.train_of_syn (State.holdMost_syn s _)]
  exact hdue

/-- Settles O7: the step waits in its shadow and ends, and the trains move apart from one another. -/
theorem phaseAndPulsesComplete : Obligations.PhaseAndPulsesComplete :=
  ⟨fun _ _ _ _ hp hn => synPhaseStep_waits hp hn, fun _ _ hp hb hl hz => synPhaseStepDone_ends hp hb hl hz,
    fun _ _ _ hp hr hd hl => pulseEmit_follows hp hr hd hl, fun _ _ _ _ hp hr hm => pulseRealign_pends hp hr hm⟩

end Sys2Proof.Machine
end

section
/-! Frames. `State.Within B P s t` says of two states what a command's frame says of the states before and behind it: `t`
differs from `s` in the registers of the blocks `B`, in the components `P` and in what telling reaches, and in nothing
else. The lemmas carry it through one operation each, so that an operation built of others takes its frame from theirs. -/

namespace Sys2Proof.Machine

/-! ### Blocks of keys -/

theorem ind_mem {B : List Nat} {c : Nat} (h : c ∈ B) (w : Nat) : keyCode (indKey c w) ∈ B := by
  rwa [keyCode_ind]

/-- A row of a register array, whose index is held at the last row. -/
theorem row_mem {B : List Nat} {c : Nat} (h : c ∈ B) {b n m step : Nat} (h1 : c * 0x10000 ≤ b)
    (h2 : b + m * step < c * 0x10000 + 0x10000) (h3 : c < 256) : keyCode (b + min n m * step) ∈ B := by
  have hm : min n m * step ≤ m * step := Nat.mul_le_mul_right step (Nat.min_le_right n m)
  rwa [keyCode_reg _ c (by omega) (by omega) h3]

/-- A key some words on is that of the later word, where the block's indirect space does not end between them (R471). -/
theorem indKey_add {w i : Nat} (c : Nat) (h : w + i < 0x1000000) : indKey c w + i = indKey c (w + i) := by
  unfold indKey; omega

/-! ### The components -/

theorem Part.same_refl (x : Part) (s : State) : x.same s s := by
  cases x
  case tsq | net => exact ⟨rfl, rfl⟩
  all_goals rfl

theorem Part.same_trans {x : Part} {s t u : State} (h : x.same s t) (g : x.same t u) : x.same s u := by
  cases x
  case tsq | net =>
    obtain ⟨ha, hb⟩ := h
    obtain ⟨ga, gb⟩ := g
    exact ⟨ga.trans ha, gb.trans hb⟩
  all_goals exact Eq.trans g h

/-- Telling reaches no component. -/
theorem Part.same_mute (x : Part) (s t : State) : x.same s.mute t.mute ↔ x.same s t := by
  cases x <;> rfl

theorem Part.same_of_mute {s t : State} (h : t.mute = s.mute) (x : Part) : x.same s t := by
  rw [← Part.same_mute, h]
  exact x.same_refl _

/-- The exchange RAM stays as it was (R439), and with it a pool that has not changed. -/
theorem Part.same_holdMost {x : Part} {s t : State} (h : x.same s t) : x.same s (s.holdMost t) := by
  cases x
  case mem =>
    have hm : t.mem = s.mem := h
    show { t.mem with exch := s.mem.exch } = s.mem
    rw [hm]
  all_goals exact h

/-! ### What a step stays within -/

/-- Whether a state differs from another only in the registers of some blocks, in some components and in what telling
reaches. -/
structure State.Within (B : List Nat) (P : List Part) (s t : State) : Prop where
  regs : s.KeepsRegs (fun k => tellKey k || B.contains (keyCode k)) t
  parts : ∀ x, x ∉ P → x.same s t

/-- A command's frame is its reach. -/
theorem State.framed_iff {c : Instr} {s t : State} :
    s.Framed c t ↔ s.Within (reach c).blocks (reach c).parts t := by
  have hp : ∀ x, (reach c).parts.contains x = false ↔ x ∉ (reach c).parts :=
    fun x => by rw [← Bool.not_eq_true, List.contains_iff_mem]
  exact ⟨fun ⟨hr, hx⟩ => ⟨hr, fun x h => hx x ((hp x).mpr h)⟩, fun ⟨hr, hx⟩ => ⟨hr, fun x h => hx x ((hp x).mp h)⟩⟩

namespace State.Within

section
variable {B : List Nat} {P : List Part} {s t u : State}

theorem refl (s : State) : s.Within B P s := ⟨.refl _ s, fun x _ => x.same_refl s⟩

theorem trans (h : s.Within B P t) (g : t.Within B P u) : s.Within B P u :=
  ⟨h.regs.trans g.regs, fun x hx => Part.same_trans (h.parts x hx) (g.parts x hx)⟩

theorem ite (b : Prop) [Decidable b] (h : s.Within B P t) (g : s.Within B P u) : s.Within B P (if b then t else u) := by
  split <;> assumption

theorem foldl {α : Type} {f : State → α → State} (hf : ∀ t a, s.Within B P t → s.Within B P (f t a)) (l : List α)
    (h : s.Within B P t) : s.Within B P (l.foldl f t) :=
  List.foldlRecOn (motive := s.Within B P) l f h fun t ht a _ => hf t a ht

theorem when {f : State → State} (c : Bool) (h : s.Within B P (f s)) : s.Within B P (s.when c f) :=
  .ite _ h (.refl s)

/-- A command under `State.run` stays within what its effect stays within. -/
theorem run {f : State → State} (h : s.run f = .next t) (hf : s.Within B P (f s)) : s.Within B P t := by
  have hm : s.Within B P (s.holdMost (f s)) :=
    ⟨fun k hk => (State.holdMost_rd s _ k).trans (hf.regs k hk), fun x hx => Part.same_holdMost (hf.parts x hx)⟩
  cases Host.Outcome.next.inj h
  exact .ite _ hm (.refl s)

/-! ### Telling and registers -/

theorem tells (h : s.Within B P t) (g : t.Tells u) : s.Within B P u :=
  h.trans ⟨g.regs.mono fun _ hk => (Bool.or_eq_false_iff.mp hk).1, fun x _ => Part.same_of_mute g.mute x⟩

theorem raise (h : s.Within B P t) (src sub : Nat) (dw : List Nat) : s.Within B P (t.raise src sub dw) :=
  h.tells (.raise t src sub dw)

theorem note (h : s.Within B P t) (sub : Nat) (dw : List Nat) : s.Within B P (t.note sub dw) := h.tells (.note t sub dw)

theorem wr (h : s.Within B P t) {k : Nat} (hk : keyCode k ∈ B) (w : Word) : s.Within B P (t.wr k w) :=
  h.trans ⟨.wr _ t k w (Bool.or_eq_true_iff.mpr (.inr (List.contains_iff_mem.mpr hk))), fun x _ => Part.same_of_mute rfl x⟩

theorem put (h : s.Within B P t) {f : Fld} (hf : keyCode f.addr ∈ B) (v : Nat) : s.Within B P (t.put f v) := h.wr hf _

theorem flag (h : s.Within B P t) {f : Fld} (hf : keyCode f.addr ∈ B) (b : Bool) : s.Within B P (t.flag f b) := h.wr hf _

theorem wrapInc (h : s.Within B P t) {f : Fld} (hf : keyCode f.addr ∈ B) : s.Within B P (t.wrapInc f) := h.wr hf _

theorem bump (h : s.Within B P t) {f : Fld} (hf : keyCode f.addr ∈ B) (n : Nat) : s.Within B P (t.bump f n) := by
  unfold State.bump
  exact .ite _ h (h.put hf _)

/-! ### Components -/

/-- A change of components alone. -/
theorem change (h : s.Within B P t) (hr : u.regs = t.regs) (hp : ∀ x, x ∉ P → x.same t u) : s.Within B P u :=
  h.trans ⟨fun k _ => State.rd_of_regs hr k, hp⟩

theorem draw (h : s.Within B P t) (hp : .free ∈ P) : s.Within B P t.draw :=
  h.change rfl fun x hx => by cases x <;> simp_all [Part.same, State.draw]

theorem setNet (h : s.Within B P t) (hp : .net ∈ P) (p : Port) (x : NetOne) : s.Within B P (t.setNet p x) := by
  cases p <;> exact h.change rfl fun x hx => by cases x <;> simp_all [Part.same, State.setNet]

theorem setTsq (h : s.Within B P t) (hp : .tsq ∈ P) (p : Port) (l : List TsEntry) : s.Within B P (t.setTsq p l) := by
  cases p <;> exact h.change rfl fun x hx => by cases x <;> simp_all [Part.same, State.setTsq]

theorem rsw (h : s.Within B P t) (hp : .rsw ∈ P) (x : RswSt) : s.Within B P { t with rsw := x } :=
  h.change rfl fun x hx => by cases x <;> simp_all [Part.same]

theorem mem (h : s.Within B P t) (hp : .mem ∈ P) (x : MemSt) : s.Within B P { t with mem := x } :=
  h.change rfl fun x hx => by cases x <;> simp_all [Part.same]

theorem fab (h : s.Within B P t) (hp : .fab ∈ P) (x : FabSt) : s.Within B P { t with fab := x } :=
  h.change rfl fun x hx => by cases x <;> simp_all [Part.same]

theorem dsp (h : s.Within B P t) (hp : .dsp ∈ P) (x : DspSt) : s.Within B P { t with dsp := x } :=
  h.change rfl fun x hx => by cases x <;> simp_all [Part.same]

theorem strm (h : s.Within B P t) (hp : .strm ∈ P) (x : StrmSt) : s.Within B P { t with strm := x } :=
  h.change rfl fun x hx => by cases x <;> simp_all [Part.same]

theorem lap (h : s.Within B P t) (hp : .lap ∈ P) (x : LapSt) : s.Within B P { t with lap := x } :=
  h.change rfl fun x hx => by cases x <;> simp_all [Part.same]

end

end State.Within

end Sys2Proof.Machine
end

section
/-! What the stream engine's operations stay within: the block STRM and the engine's own component; a packet that takes
802.1CB recovery (R146) also reaches RSW and the two ports' limits (R150). -/

namespace Sys2Proof.Machine.State.Within

section
variable {B : List Nat} {P : List Part} {s t : State}

/-! ### Flows and limited events -/

theorem setRx (h : s.Within B P t) (hp : .strm ∈ P) (f : Nat) (x : RxFlow) : s.Within B P (t.setRx f x) :=
  h.strm hp _

theorem setTx (h : s.Within B P t) (hb : 0x18 ∈ B) (hp : .strm ∈ P) (f : Nat) (x : TxFlow) :
    s.Within B P (t.setTx f x) :=
  (h.strm hp _).put (ind_mem hb _) _

theorem flowEvent (h : s.Within B P t) (hp : .strm ∈ P) (ev key flow : Nat) (extra : List Nat) :
    s.Within B P (t.flowEvent ev key flow extra) := by
  unfold State.flowEvent
  exact .ite _ ((h.strm hp _).raise _ _ _) (h.strm hp _)

theorem event63 (h : s.Within B P t) (hp : .strm ∈ P) (key : Nat) (dw : List Nat) : s.Within B P (t.event63 key dw) := by
  unfold State.event63
  exact .ite _ ((h.strm hp _).raise _ _ _) (h.note _ _)

/-! ### Epochs and blocks -/

theorem setEpoch (h : s.Within B P t) (hb : 0x18 ∈ B) (hp : .strm ∈ P) (g e : Nat) : s.Within B P (t.setEpoch g e) :=
  ((h.strm hp _).put (ind_mem hb _) _).put (ind_mem hb _) _

theorem sealLow (h : s.Within B P t) (hp : .strm ∈ P) (g : Nat) : s.Within B P (t.sealLow g) :=
  foldl (fun _ _ hu => .ite _ ((hu.strm hp _).event63 hp _ _) hu) _ h

theorem reblock (h : s.Within B P t) (hb : 0x18 ∈ B) (hp : .strm ∈ P) (f : Nat) : s.Within B P (t.reblock f) := by
  unfold State.reblock
  dsimp only
  have hblock := h.put (f := Fld.txBlock f) (ind_mem hb _) (t.blocksOf f)
  have hkey (c : Prop) [Decidable c] (g : Nat) := ite c
    ((hblock.flag (f := Fld.sealNokey g) (ind_mem hb _) true).flowEvent hp 24 (128 + f) f [5]) hblock
  have hclosed (c : Prop) [Decidable c] (g : Nat) (x : TxFlow) (n : Nat) :=
    ((hkey c g).setTx hb hp f x).bump (f := Fld.txCnt f 3) (ind_mem hb _) n
  refine .ite _ h (.ite _ hblock (.ite _ ?_ ((hkey _ _).put (ind_mem hb _) _)))
  exact .ite _ (((hclosed _ _ _ _).put (ind_mem hb _) _).note _ _) (hclosed _ _ _ _)

theorem reblockAll (h : s.Within B P t) (hb : 0x18 ∈ B) (hp : .strm ∈ P) : s.Within B P t.reblockAll :=
  foldl (fun _ _ hu => hu.reblock hb hp _) _ (foldl (fun _ _ hu => .ite _ (hu.flag (ind_mem hb _) _) hu) _ h)

theorem nextEpoch (h : s.Within B P t) (hb : 0x18 ∈ B) (hp : .strm ∈ P) (g : Nat) : s.Within B P (t.nextEpoch g) :=
  ((h.setEpoch hb hp _ _).sealLow hp _).reblockAll hb hp

/-! ### Reception -/

theorem placeTick (h : s.Within B P t) (hb : 0x18 ∈ B) (hp : .strm ∈ P) (f x : Nat) (samples : List (List Word)) :
    s.Within B P (t.placeTick f x samples) := by
  unfold State.placeTick
  dsimp only
  have hcount (y : RxFlow) (w : Nat) := (h.setRx hp f y).bump (f := Fld.rxCnt f w) (ind_mem hb _) 1
  refine .ite _ (.ite _ (hcount _ _) ((hcount _ _).flowEvent hp _ _ _ _))
    (.ite _ (.ite _ (hcount _ _) ((hcount _ _).flowEvent hp _ _ _ _)) (.ite _ (hcount _ _) ?_))
  exact .ite _ ((h.setRx hp _ _).put (ind_mem hb _) _) (h.setRx hp _ _)

theorem takeSeq (h : s.Within B P t) (hb : 0x18 ∈ B) (hp : .strm ∈ P) (f seq : Nat) : s.Within B P (t.takeSeq f seq) := by
  unfold State.takeSeq
  dsimp only
  split
  · exact h.setRx hp _ _
  · exact .ite _ (h.setRx hp _ _) (.ite _ (h.bump (ind_mem hb _) _) (.ite _ (h.setRx hp _ _) (h.setRx hp _ _)))

theorem acceptPacket (h : s.Within B P t) (hb : 0x18 ∈ B) (hp : .strm ∈ P) (f : Nat) (k : RtpPacket) :
    s.Within B P (t.acceptPacket f k) := by
  unfold State.acceptPacket
  dsimp only
  have hcount (w : Nat) := h.bump (f := Fld.rxCnt f w) (ind_mem hb _) 1
  refine .ite _ (hcount 6) (.ite _ ((hcount 7).flowEvent hp _ _ _ _) ?_)
  exact foldl (fun _ _ hu => hu.placeTick hb hp _ _ _) _ ((hcount 0).takeSeq hb hp _ _)

theorem frerAnomaly (h : s.Within B P t) (hn : .net ∈ P) (p : Port) (k n : Nat) : s.Within B P (t.frerAnomaly p k n) := by
  unfold State.frerAnomaly
  exact .ite _ ((h.setNet hn p _).raise _ _ _) (h.setNet hn p _)

theorem frerPass (h : s.Within B P t) (hb : 0x12 ∈ B) (hn : .net ∈ P) (hr : .rsw ∈ P) (p : Port) (flow q : Nat) :
    s.Within B P (t.frerPass p flow q).1 := by
  have hrogue := (h.bump (f := Fld.rswCnt 2 7) (ind_mem hb _) 1).frerAnomaly hn p 2 1
  unfold State.frerPass
  dsimp only
  split
  · exact h.rsw hr _
  · split
    · split
      · exact hrogue
      · exact .ite _ (h.rsw hr _) (((h.rsw hr _).bump (ind_mem hb _) _).frerAnomaly hn _ _ _)
    · split
      · exact hrogue
      · split
        · exact h
        · exact h.rsw hr _

theorem streamPacket (h : s.Within B P t) (hb : 0x18 ∈ B) (hb' : 0x12 ∈ B) (hp : .strm ∈ P) (hn : .net ∈ P) (hr : .rsw ∈ P)
    (p : Option Port) (k : RtpPacket) : s.Within B P (t.streamPacket p k) := by
  unfold State.streamPacket
  dsimp only
  have hdrop := foldl (f := fun (t : State) f => t.bump (Fld.rxCnt f 8) 1)
    (fun _ _ hu => hu.bump (ind_mem hb _) _)
    (((List.range 128).filter fun f => t.rxFlowLive f && t.rxNames f k).filter fun f => !t.rxPasses f k) h
  split
  · exact hdrop
  · split
    · have hpass (q : Port) (f n : Nat) := hdrop.frerPass hb' hn hr q f n
      exact .ite _ (.ite _ ((hpass _ _ _).acceptPacket hb hp _ _) (hpass _ _ _)) (hdrop.acceptPacket hb hp _ _)
    · exact hdrop.acceptPacket hb hp _ _

/-! ### The commands -/

theorem streamPacketReceive {p : Port} {k : RtpPacket} (h : execStreamPacketReceive p k s = .next t) :
    s.Within [0x12, 0x18] [.net, .rsw, .strm] t :=
  run h (.when _ ((refl s).streamPacket (by decide) (by decide) (by decide) (by decide) (by decide) _ _))

theorem flowLost {flow : Fin 128} (h : execFlowLost flow s = .next t) : s.Within [0x18] [.strm] t :=
  run h (.when _ (((refl s).put (ind_mem (by decide) _) _).flowEvent (by decide) _ _ _ _))

theorem sealEpochAdvance {g : Fin 16} (h : execSealEpochAdvance g s = .next t) : s.Within [0x18] [.strm] t :=
  run h (.when _ ((refl s).nextEpoch (by decide) (by decide) _))

end

end Sys2Proof.Machine.State.Within
end

section
/-! What the cell pool, the rings and the transmit queues stay within (R165, R185, R405, R415, R444 to R448): the block MEM
and the pool; a host frame that completes may stop its ring, whose frames lose their owner and its timestamps theirs. -/

namespace Sys2Proof.Machine.State.Within

section
variable {B : List Nat} {P : List Part} {s t : State}

/-! ### The cell pool -/

/-- A bit of the three words of MEM that name a queue each (R448, R452). -/
theorem flagQueue (h : s.Within B P t) (hb : 0x48 ∈ B) (k q : Nat) (b : Bool) (hk : keyCode k = 0x48) :
    s.Within B P (t.flag ⟨k, q, q⟩ b) := h.flag (show keyCode k ∈ B by rwa [hk]) b

theorem settleQueue (h : s.Within B P t) (hb : 0x48 ∈ B) (q : Nat) : s.Within B P (t.settleQueue q) := by
  unfold State.settleQueue
  dsimp only
  have hpeak (c : Prop) [Decidable c] (v : Nat) := ite c (h.put (f := Fld.qPeak q) (ind_mem hb _) v) h
  have hover (c d : Prop) [Decidable c] [Decidable d] (v : Nat) :=
    ite d ((hpeak c v).flagQueue hb 0x480030 q false (by decide)) (hpeak c v)
  refine .ite _ ?off (.ite _ ?stands (.ite _ ?rises (hover _ _ _)))
  case off =>
    exact (((hover _ _ _).flagQueue hb 0x480024 q _ (by decide)).flagQueue hb 0x480028 q _ (by decide)).put (ind_mem hb _) _
  case stands => exact .ite _ ((hover _ _ _).flagQueue hb 0x480024 q _ (by decide)) (hover _ _ _)
  case rises =>
    have hcross (c d : Prop) [Decidable c] [Decidable d] (v : Nat) :=
      ((hover c d v).flagQueue hb 0x480024 q true (by decide)).bump (f := Fld.qCross q) (ind_mem hb _) 1
    exact .ite _ (hcross _ _ _) (((hcross _ _ _).flagQueue hb 0x480028 q _ (by decide)).raise _ _ _)

/-- The over-quota bit of a group stands in MEM or in a host port's block. -/
theorem gOver_key {g : Nat} {f : Fld} (hf : gOver g = some f) : f.addr = 0x480038 ∨ tellKey f.addr = true := by
  unfold gOver at hf
  split at hf
  · cases hf
    exact .inl rfl
  · split at hf
    · cases hf
      exact .inr (by decide)
    · split at hf
      · cases hf
        exact .inr (by decide)
      · cases hf

theorem settleGroup (h : s.Within B P t) (hb : 0x48 ∈ B) (g hyst : Nat) : s.Within B P (t.settleGroup g hyst) := by
  unfold State.settleGroup
  split
  case h_2 => exact h
  case h_1 f hf =>
    refine .ite _ ?_ h
    rcases gOver_key hf with hm | ht
    · exact h.flag (hm ▸ show keyCode 0x480038 ∈ B from hb) _
    · exact h.tells (.flag t _ _ ht)

theorem settlePool (h : s.Within B P t) (hb : 0x48 ∈ B) : s.Within B P t.settlePool := by
  unfold State.settlePool
  dsimp only
  have hqueues := foldl (f := State.settleQueue) (fun _ _ hu => hu.settleQueue hb _) (List.range 26) h
  have hgroups (a b c : Nat) := ((hqueues.settleGroup hb 0 a).settleGroup hb 2 b).settleGroup hb 3 c
  exact .ite _ ((hgroups _ _ _).put (show keyCode 0x480010 ∈ B from hb) _) (hgroups _ _ _)

theorem storeItem (h : s.Within B P t) (hb : 0x48 ∈ B) (hm : .mem ∈ P) (n : Nat) (held : List Nat) :
    s.Within B P (t.storeItem n held) := .ite _ h ((h.mem hm _).settlePool hb)

theorem releaseItem (h : s.Within B P t) (hb : 0x48 ∈ B) (hm : .mem ∈ P) (x q : Nat) :
    s.Within B P (t.releaseItem x q) := (h.mem hm _).settlePool hb

theorem refusedCell (h : s.Within B P t) (hb : 0x48 ∈ B) (q : Nat) : s.Within B P (t.refusedCell q) :=
  h.bump (ind_mem hb _) 1

/-! ### Rings -/

theorem ringCount (h : s.Within B P t) (p : Port) (n w : Nat) : s.Within B P (t.ringCount p n w) :=
  (h.tells (.bump t _ 1 (tellKey_ringCnt p n w))).tells (.ringError _ p n)

theorem noBuf (h : s.Within B P t) (p : Port) (n : Nat) : s.Within B P (t.noBuf p n) := by
  have hc := h.ringCount p n 2
  exact .ite _ ((hc.tells (.setPort _ p _)).raise _ _ _) hc

theorem dropHeld (h : s.Within B P t) (hb : 0x48 ∈ B) (hm : .mem ∈ P) (p : Port) (n : Nat) :
    s.Within B P (t.dropHeld p n) :=
  foldl (fun _ _ hu => (hu.releaseItem hb hm _ _).noBuf p n) _ (h.tells (.setPort t p _))

theorem orphanTx (h : s.Within B P t) (hq : .tsq ∈ P) (hn : .net ∈ P) (p : Port) (n : Nat) : s.Within B P (t.orphanTx p n) :=
  h.change rfl fun x hx => by cases x <;> simp_all [Part.same, State.orphanTx]

theorem fadePlay (h : s.Within B P t) (p : Port) (n : Nat) : s.Within B P (t.fadePlay p n) :=
  .ite _ h (h.tells (.quiet rfl rfl))

theorem stopRing (h : s.Within B P t) (hb : 0x48 ∈ B) (hm : .mem ∈ P) (hq : .tsq ∈ P) (hn : .net ∈ P) (p : Port)
    (n cause : Nat) : s.Within B P (t.stopRing p n cause) := by
  unfold State.stopRing
  dsimp only
  have hclosed (c : Prop) [Decidable c] := (ite c (h.tells (.closeBuffer t p n)) h).fadePlay p n
  have hbits (c : Prop) [Decidable c] := (((hclosed c).tells (.flag _ (Fld.HIF_R_CFG_EN p.num n) false
    (tellKey_ringSt p n 0x110 (by decide)))).tells (.flag _ (Fld.HIF_R_ST_RUN p.num n) false
    (tellKey_ringSt p n 0x11C (by decide)))).tells (.put _ (Fld.HIF_R_ST_CAUSE p.num n) cause
    (tellKey_ringSt p n 0x11C (by decide)))
  have hnote (c : Prop) [Decidable c] (r : Ring) := ((((hbits c).dropHeld hb hm p n).tells (.setRing _ p n r)).orphanTx hq hn
    p n).note (4 + p.num) [ringNo p n, cause]
  exact .ite _ h (.ite _ (hnote _ _) ((hnote _ _).tells (.ringError _ p n)))

/-! ### Frames that are given up -/

theorem drainTx (hq : .tsq ∈ P) (p : Port) (n : Nat) :
    ∀ (fuel : Nat) {t : State}, s.Within B P t → s.Within B P (State.drainTx p n fuel t)
  | 0, _, h => h
  | fuel + 1, t, h => by
    unfold State.drainTx
    dsimp only
    split
    · exact h
    · exact drainTx hq p n fuel ((((h.tells (.setRing t p n _)).tells (.finishDesc _ p n _)).setTsq hq .a _).setTsq hq .b _)

theorem txComplete (h : s.Within B P t) (hb : 0x48 ∈ B) (hm : .mem ∈ P) (hq : .tsq ∈ P) (hn : .net ∈ P) (x : HostTx)
    (status : Nat) (stamp : Option (Nat × Nat)) : s.Within B P (t.txComplete x status stamp) := by
  unfold State.txComplete State.stopIdle
  dsimp only
  have hring (r : Ring) := h.tells (.setRing t x.port x.ring r)
  have hstatus (r : Ring) (c : Prop) [Decidable c] := ite c (hring r) ((hring r).ringCount x.port x.ring 1)
  have hstamp (r : Ring) (c d : Prop) [Decidable c] [Decidable d] :=
    ite d ((hstatus r c).ringCount x.port x.ring 2) (hstatus r c)
  have hdrain (r : Ring) (c d : Prop) [Decidable c] [Decidable d] (n : Nat) := drainTx hq x.port x.ring n (hstamp r c d)
  exact .ite _ ((hdrain _ _ _ _).stopRing hb hm hq hn _ _ _) (hdrain _ _ _ _)

theorem dropFrame (h : s.Within B P t) (hb : 0x48 ∈ B) (hm : .mem ∈ P) (hq : .tsq ∈ P) (hn : .net ∈ P) (p : Port)
    (x : TxFrame) (status : Nat) : s.Within B P (t.dropFrame p x status) := by
  have hitem : s.Within B P (match x.item with
      | some i => t.releaseItem i (egressQueue p x.cls)
      | none => t) := by
    split
    · exact h.releaseItem hb hm _ _
    · exact h
  unfold State.dropFrame
  dsimp only
  split
  · exact hitem.txComplete hb hm hq hn _ _ _
  · exact hitem

/-! ### Frames that the part originates -/

theorem setDupTable (h : s.Within B P t) (hn : .net ∈ P) (hr : .rsw ∈ P) (k : Nat) (l : List DupEntry) :
    s.Within B P (t.setDupTable k l) :=
  .ite _ (h.setNet hn .a _) (.ite _ (h.setNet hn .b _) (h.rsw hr _))

theorem dupEnter (h : s.Within B P t) (hb : 0x12 ∈ B) (hn : .net ∈ P) (hr : .rsw ∈ P) (k : Nat) (p : Port) (src q : Nat) :
    s.Within B P (t.dupEnter k p src q).1 := by
  have htable (l : List DupEntry) := h.setDupTable hn hr k l
  exact .ite _ (((htable _).bump (ind_mem hb _) _).frerAnomaly hn _ _ _) (htable _)

theorem nextSeq (h : s.Within B P t) (hr : .rsw ∈ P) : s.Within B P t.nextSeq :=
  .ite _ (h.rsw hr _) (.ite _ (h.rsw hr _) h)

theorem accrueAll (h : s.Within B P t) (hn : .net ∈ P) (p : Port) : s.Within B P (t.accrueAll p) := by
  have haccrue {u : State} (hu : s.Within B P u) (c : Nat) : s.Within B P (u.accrue p c) :=
    .ite _ (hu.setNet hn p _) (.ite _ hu (hu.setNet hn p _))
  exact (haccrue (haccrue h 4) 5).setNet hn p _

theorem wakeLink (h : s.Within B P t) (hb : ∀ p : Port, 0x10 + p.num ∈ B) (hn : .net ∈ P) (p : Port) :
    s.Within B P (t.wakeLink p) := by
  have hkey : keyCode (0x100014 + p.num * 0x10000) = 0x10 + p.num := by
    cases p <;> decide
  exact .ite _ ((h.setNet hn p _).flag (show keyCode (0x100014 + p.num * 0x10000) ∈ B from hkey ▸ hb p) _) h

theorem queueFrame (h : s.Within B P t) (hb : ∀ p : Port, 0x10 + p.num ∈ B) (hn : .net ∈ P) (p : Port) (x : TxFrame) :
    s.Within B P (t.queueFrame p x) := ((h.accrueAll hn p).wakeLink hb hn p).setNet hn p _

theorem enqueue (h : s.Within B P t) (hb : ∀ p : Port, 0x10 + p.num ∈ B) (hb' : 0x48 ∈ B) (hm : .mem ∈ P) (hn : .net ∈ P)
    (cells : Nat) (pre : List Nat) (ps : List Port) (each : Port → TxFrame) :
    s.Within B P (t.enqueue cells pre ps each).1 := by
  unfold State.enqueue
  dsimp only
  have hrefused (l : List Nat) := foldl (f := State.refusedCell) (fun _ _ hu => hu.refusedCell hb' _) l h
  have hlost (l : List Port) := foldl (f := fun (t : State) p => t.refusedCell (egressQueue p (each p).cls))
    (fun _ _ hu => hu.refusedCell hb' _) l h
  split
  · exact hrefused _
  · split
    · exact hlost _
    · exact foldl (fun _ _ hu => hu.queueFrame hb hn _ _) _ ((hlost _).storeItem hb' hm _ _)

theorem originate (h : s.Within B P t) (hb : ∀ p : Port, 0x10 + p.num ∈ B) (hb' : 0x48 ∈ B) (hd : 0x12 ∈ B) (hm : .mem ∈ P)
    (hn : .net ∈ P) (hr : .rsw ∈ P) (f : Frame) (cls : Nat) (pre : List Nat) (ps : List Port) (mgmtStamp : Bool)
    (host : Port → Option HostTx) (flow : Option (Nat × Nat)) (oneStep : Bool) :
    s.Within B P (t.originate f cls pre ps mgmtStamp host flow oneStep).1 := by
  unfold State.originate
  dsimp only
  split
  · exact h
  · exact ((ite _ (foldl (fun _ _ hu => hu.dupEnter hd hn hr _ _ _ _) _ h) h).nextSeq hr).enqueue hb hb' hm hn _ _ _ _

/-! ### The commands -/

theorem streamPacketRelease {flow : Fin 128} (h : execStreamPacketRelease flow s = .next t) :
    s.Within [0x10, 0x11, 0x12, 0x18, 0x48] [.net, .rsw, .mem, .strm] t := by
  refine run h ?_
  dsimp only
  split
  · exact refl s
  · have htaken (x : TxFlow) := (refl s).setTx (B := [0x10, 0x11, 0x12, 0x18, 0x48]) (P := [.net, .rsw, .mem, .strm])
      (by decide) (by decide) flow.val x
    have hports (p : Port) : 0x10 + p.num ∈ [0x10, 0x11, 0x12, 0x18, 0x48] := by cases p <;> decide
    have hsent (x : TxFlow) := (htaken x).originate hports (by decide) (by decide) (by decide) (by decide) (by decide)
    refine .ite _ (refl s) (.ite _ ((htaken _).bump (ind_mem (by decide) _) _) (.ite _ (hsent _ ..) ?_))
    exact (hsent _ ..).bump (ind_mem (by decide) _) _

theorem txSchedMiss {p : Port} {flow : Fin 128} (h : execTxSchedMiss p flow s = .next t) :
    s.Within [0x18, 0x48] [.tsq, .net, .mem, .strm] t := by
  refine run h ?_
  dsimp only
  split
  · exact refl s
  · have hdropped (x : NetOne) := ((refl s).setNet (B := [0x18, 0x48]) (P := [.tsq, .net, .mem, .strm])
      (by decide) p x).dropFrame (by decide) (by decide) (by decide) (by decide) p
    exact .ite _ (refl s) (((hdropped _ _ _).bump (ind_mem (by decide) _) _).flowEvent (by decide) _ _ _ _)

end

end Sys2Proof.Machine.State.Within
end

section
/-! What the fabric and the processing graph stay within: each its own block and its own component (R207 to R236). -/

namespace Sys2Proof.Machine.State.Within

section
variable {B : List Nat} {P : List Part} {s t : State}

/-! ### The fabric -/

theorem gateEvent (h : s.Within B P t) (hp : .fab ∈ P) (c : Conn) (forced : Nat) : s.Within B P (t.gateEvent c forced) :=
  .ite _ ((h.fab hp _).raise _ _ _) (h.note _ _)

theorem feed (h : s.Within B P t) (hp : .fab ∈ P) (i : Nat) : s.Within B P (t.feed i) := .ite _ (h.fab hp _) h

theorem unfeed (h : s.Within B P t) (hp : .fab ∈ P) (i : Nat) : s.Within B P (t.unfeed i) := .ite _ h (h.fab hp _)

theorem zcTimeout {inp out : Fin 512} (h : execZcTimeout inp out s = .next t) : s.Within [0x20] [.fab] t := by
  refine run h ?_
  dsimp only
  split
  · exact refl s
  · exact (((refl s).fab (by decide) _).bump (by decide) _).gateEvent (by decide) _ _

/-! ### Swaps -/

/-- A write that an agent makes and that is refused is told (R459). -/
theorem refuseReg (h : s.Within B P t) (g : Agent) (off data reason : Nat) (code : Acc) :
    s.Within B P (t.refuseReg g.who off data reason code) := h.tells (.refuse t g _ _ _ _ _ _)

theorem coefSwapCmd {g : Agent} {atTick : Bool} (h : execCoefSwapCmd g atTick s = .next t) : s.Within [0x21] [.dsp] t := by
  refine run h ?_
  unfold State.coefSwapCmd
  dsimp only
  have hasked := (refl s).flag (B := [0x21]) (P := [.dsp]) (f := Fld.DSP_COEF_CMD_AT_TICK) (by decide) atTick
  have hmissed (c : Prop) [Decidable c] := ite c (hasked.flag (f := Fld.DSP_STATUS_COEF_MISSED) (by decide) true) hasked
  exact .ite _ ((refl s).tells (.command s _ _ _)) (.ite _ (hasked.refuseReg g _ _ _ _)
    (((hmissed _).dsp (by decide) _).flag (by decide) _))

theorem coefSwapCancel (g : Agent) (h : execCoefSwapCancel g s = .next t) : s.Within [0x21] [.dsp] t :=
  run h (((refl s).dsp (by decide) _).flag (by decide) _)

theorem coefTickWrite {g : Agent} {tick : Word} (h : execCoefTickWrite g tick s = .next t) : s.Within [0x21] [] t :=
  run h (.ite _ ((refl s).refuseReg g _ _ _ _) ((refl s).put (by decide) _))

theorem graphSwapArm {g : Agent} (h : execGraphSwapArm g s = .next t) : s.Within [0x21] [.dsp] t := by
  refine run h ?_
  have hinvalid : s.Within [0x21] [.dsp] (s.logNote codeDiscard 0x21 g.who.origin [0x210018, 1]) := by
    unfold State.logNote State.countDiscard
    rw [if_neg (agent_origin_ne_order g), ite_self]
    exact (refl s).tells (.logPut s _)
  exact .ite _ ((refl s).tells (.command s _ _ _)) (.ite _ ((refl s).refuseReg g _ _ _ _) (.ite _ hinvalid
    (.ite _ ((refl s).flag (by decide) _) (((refl s).dsp (by decide) _).flag (by decide) _))))

theorem graphSwapCancel (g : Agent) (h : execGraphSwapCancel g s = .next t) : s.Within [0x21] [.dsp] t :=
  run h (((refl s).dsp (by decide) _).flag (by decide) _)

theorem graphTickWrite {g : Agent} {tick : Word} (h : execGraphTickWrite g tick s = .next t) : s.Within [0x21] [] t :=
  run h (.ite _ ((refl s).refuseReg g _ _ _ _) ((refl s).put (by decide) _))

/-! ### Jobs and windows -/

theorem jobReenable (g : Agent) {job : BitVec 8} (h : execJobReenable g job s = .next t) : s.Within [0x21] [.dsp] t := by
  refine run h ?_
  have hjob := (refl s).put (B := [0x21]) (P := [.dsp]) (f := Fld.DSP_JOB_CMD_JOB) (by decide) job.toNat
  unfold State.reenable
  split
  · exact .ite _ hjob ((hjob.dsp (by decide) _).put (by decide) _)
  · exact hjob

theorem ansEvent (h : s.Within B P t) (hp : .dsp ∈ P) (i : Nat) (x : InstSt) : s.Within B P (t.ansEvent i x) :=
  .ite _ ((h.dsp hp _).raise _ _ _) h

theorem ansWindowEnd {inst : Fin 2048} (h : execAnsWindowEnd inst s = .next t) : s.Within [] [.dsp] t := by
  refine run h ?_
  dsimp only
  split
  · split
    · exact .ite _ (refl s) (.ite _ (((refl s).dsp (by decide) _).ansEvent (by decide) _ _) ((refl s).dsp (by decide) _))
    · exact refl s
  · exact refl s

end

end Sys2Proof.Machine.State.Within
end

section
/-! What the local audio ports stay within: the block LAP and the ports' own component, and the fabric where a port's slots
gain or lose their feed (R212, R237 to R251). -/

namespace Sys2Proof.Machine.State.Within

section
variable {B : List Nat} {P : List Part} {s t : State}

/-- The registers of a port, receiver or transmitter are a row of LAP's (R254). -/
theorem lap_mem (hb : 0x28 ∈ B) {b n step : Nat} (h1 : 0x280000 ≤ b) (h2 : b + 4 * step < 0x290000) :
    keyCode (b + min n 4 * step) ∈ B := row_mem hb h1 h2 (by decide)

/-! ### TDM ports -/

theorem setTdm (h : s.Within B P t) (hp : .lap ∈ P) (p : Nat) (x : TdmPort) : s.Within B P (t.setTdm p x) := h.lap hp _

theorem tdmState (h : s.Within B P t) (hb : 0x28 ∈ B) (p v : Nat) : s.Within B P (t.put (Fld.LAP_TDM_ST_STATE p) v) :=
  h.put (lap_mem (b := 0x28010C) hb (by decide) (by decide)) v

theorem showRate (h : s.Within B P t) (hb : 0x28 ∈ B) (p rate : Nat) : s.Within B P (t.showRate p rate) :=
  h.put (lap_mem (b := 0x28010C) hb (by decide) (by decide)) _

theorem clkEvent (h : s.Within B P t) (hp : .lap ∈ P) (p : Nat) : s.Within B P (t.clkEvent p) :=
  .ite _ ((h.setTdm hp _ _).raise _ _ _) h

theorem tdmRun (h : s.Within B P t) (hb : 0x28 ∈ B) (hp : .lap ∈ P) (hf : .fab ∈ P) (p : Nat) : s.Within B P (t.tdmRun p) :=
  foldl (fun _ _ hu => hu.feed hf _) _ ((h.setTdm hp _ _).tdmState hb p 2)

theorem tdmOff (h : s.Within B P t) (hb : 0x28 ∈ B) (hp : .lap ∈ P) (hf : .fab ∈ P) (p : Nat) : s.Within B P (t.tdmOff p) :=
  (((foldl (fun _ _ hu => hu.unfeed hf _) _ h).setTdm hp _ _).tdmState hb p 0).showRate hb p 0

theorem enterRetrack (h : s.Within B P t) (hb : 0x28 ∈ B) (hp : .lap ∈ P) (p : Nat) : s.Within B P (t.enterRetrack p) :=
  (h.setTdm hp _ _).tdmState hb p 4

theorem tdmStopComplete {p : Fin 4} (h : execTdmStopComplete p s = .next t) : s.Within [0x28] [.fab, .lap] t :=
  run h (.when _ ((refl s).tdmOff (by decide) (by decide) (by decide) _))

theorem tdmPrerollEnd {p : Fin 4} (h : execTdmPrerollEnd p s = .next t) : s.Within [] [.lap] t :=
  run h (.when _ ((refl s).setTdm (by decide) _ _))

theorem tdmSlaveLocked {p : Fin 4} {rate : Nat} (h : execTdmSlaveLocked p rate s = .next t) :
    s.Within [0x28] [.fab, .lap] t := by
  refine run h (.when _ ?_)
  have hshown (x : TdmPort) := ((refl s).setTdm (B := [0x28]) (P := [.fab, .lap]) (by decide) p x).showRate (by decide) p rate
  exact .ite _ ((((hshown _).setTdm (by decide) _ _).tdmState (by decide) _ _).clkEvent (by decide) _)
    (.ite _ (hshown _) ((hshown _).tdmRun (by decide) (by decide) (by decide) _))

theorem tdmClkLoss {p : Fin 4} (h : execTdmClkLoss p s = .next t) : s.Within [0x28] [.lap] t :=
  run h (.when _ (((((refl s).setTdm (by decide) _ _).tdmState (by decide) _ _).clkEvent (by decide) _).showRate
    (by decide) _ _))

theorem tdmClkHoldEnd {p : Fin 4} (h : execTdmClkHoldEnd p s = .next t) : s.Within [] [.lap] t :=
  run h (.when _ ((refl s).setTdm (by decide) _ _))

theorem tdmClkReturn {p : Fin 4} {rate : Nat} (h : execTdmClkReturn p rate s = .next t) : s.Within [0x28] [.lap] t := by
  refine run h (.when _ ?_)
  have hshown := (refl s).showRate (B := [0x28]) (P := [.lap]) (by decide) p rate
  exact .ite _ ((hshown.setTdm (by decide) _ _).tdmState (by decide) _ _) (hshown.enterRetrack (by decide) (by decide) _)

theorem tdmRetrack {p : Fin 4} {rate : Nat} (h : execTdmRetrack p rate s = .next t) : s.Within [0x28] [.lap] t :=
  run h (.when _ ((((refl s).showRate (by decide) _ _).enterRetrack (by decide) (by decide) _).clkEvent (by decide) _))

theorem tdmRetrackEnd {p : Fin 4} {rate : Nat} (h : execTdmRetrackEnd p rate s = .next t) :
    s.Within [0x28] [.fab, .lap] t :=
  run h (.when _ (foldl (fun _ _ hu => hu.feed (by decide) _) _
    ((((refl s).setTdm (by decide) _ _).showRate (by decide) _ _).tdmState (by decide) _ _)))

/-! ### AES3 receivers -/

theorem setAes (h : s.Within B P t) (hp : .lap ∈ P) (r : Nat) (x : AesRx) : s.Within B P (t.setAes r x) := h.lap hp _

/-- A field of a receiver's status word. -/
theorem aesPut (h : s.Within B P t) (hb : 0x28 ∈ B) (r hi lo v : Nat) :
    s.Within B P (t.put ⟨0x280204 + min r 4 * 0x20, hi, lo⟩ v) :=
  h.put (lap_mem hb (by decide) (by decide)) v

theorem aesFlag (h : s.Within B P t) (hb : 0x28 ∈ B) (r i : Nat) (b : Bool) :
    s.Within B P (t.flag ⟨0x280204 + min r 4 * 0x20, i, i⟩ b) := h.aesPut hb r i i _

theorem lockEvent (h : s.Within B P t) (hp : .lap ∈ P) (r : Nat) : s.Within B P (t.lockEvent r) :=
  .ite _ ((h.setAes hp _ _).raise _ _ _) h

theorem aes3Lock {r : Fin 4} {rate : Nat} (h : execAes3Lock r rate s = .next t) : s.Within [0x28] [.lap] t := by
  refine run h (.when _ ?_)
  have hlock (x : AesRx) := ((refl s).setAes (B := [0x28]) (P := [.lap]) (by decide) r x).aesFlag (by decide) r 0 true
  exact (((hlock _).aesPut (by decide) r 7 4 _).aesFlag (by decide) r 13 _).lockEvent (by decide) _

theorem aes3Unlock {r : Fin 4} (h : execAes3Unlock r s = .next t) : s.Within [0x28] [.lap] t := by
  refine run h (.when _ ?_)
  have hlock (x : AesRx) := ((refl s).setAes (B := [0x28]) (P := [.lap]) (by decide) r x).aesFlag (by decide) r 0 false
  have hstatus (x : AesRx) := (((hlock x).aesPut (by decide) r 7 4 0).aesFlag (by decide) r 13 false).aesPut (by decide) r 11 10 0
  exact ((hstatus _).bump (f := Fld.LAP_AESR_CNT_UNLOCKS r)
    (lap_mem (b := 0x280214) (by decide) (by decide) (by decide)) 1).lockEvent (by decide) _

theorem aes3Retrack {r : Fin 4} {rate : Nat} (h : execAes3Retrack r rate s = .next t) : s.Within [0x28] [.lap] t :=
  run h (.when _ (((((refl s).setAes (by decide) _ _).aesFlag (by decide) r 13 true).aesPut (by decide) r 7 4 _).lockEvent
    (by decide) _))

theorem aes3RetrackEnd {r : Fin 4} {rate : Nat} (h : execAes3RetrackEnd r rate s = .next t) : s.Within [0x28] [.lap] t :=
  run h (.when _ ((((refl s).setAes (by decide) _ _).aesFlag (by decide) r 13 false).aesPut (by decide) r 7 4 _))

theorem aes3ValidityMute {r : Fin 4} {c : Fin 2} (h : execAes3ValidityMute r c s = .next t) : s.Within [0x28] [.lap] t :=
  run h (.when _ (((refl s).setAes (by decide) _ _).aesFlag (by decide) r (10 + c) true))

theorem aes3ValidityUnmute {r : Fin 4} {c : Fin 2} (h : execAes3ValidityUnmute r c s = .next t) :
    s.Within [0x28] [.lap] t :=
  run h (.when _ (((refl s).setAes (by decide) _ _).aesFlag (by decide) r (10 + c) false))

/-! ### The blocks of a receiver -/

/-- Words written in a row of a block's indirect space. -/
theorem wrList {c : Nat} (hb : c ∈ B) : ∀ (l : List Word) {t : State} {w : Nat}, w + l.length < 0x1000000 →
    s.Within B P t → s.Within B P (t.wrList (indKey c w) l)
  | [], _, _, _, h => h
  | x :: l, t, w, hw, h => by
    rw [List.length_cons] at hw
    unfold State.wrList
    rw [indKey_add c (show w + 1 < 0x1000000 by omega)]
    exact wrList hb l (by omega) (h.wr (ind_mem hb w) x)

/-- The words of a receiver's block, two lists of six for a kind of octets. -/
theorem aesBlock (h : s.Within B P t) (hb : 0x28 ∈ B) (r : Fin 4) {i : Nat} (hi : i ≤ 12) (a b : List Word) :
    s.Within B P (t.wrList (aesRxKey r i) (six a ++ six b)) := by
  have hr := r.isLt
  have hl : (six a ++ six b).length = 12 := by simp [six]
  exact wrList hb _ (by omega) h

theorem storeCs (h : s.Within B P t) (hb : 0x28 ∈ B) (hp : .lap ∈ P) (r : Fin 4) (a b : List Word) :
    s.Within B P (t.storeCs r (six a ++ six b)) := by
  have hstored (x : AesRx) (v : Bool) := ((h.aesBlock hb r (Nat.zero_le 12) a b).setAes hp r x).aesFlag hb r 9 v
  unfold State.storeCs
  dsimp only
  exact .ite _ (.ite _ (((hstored _ _).setAes hp _ _).raise _ _ _) ((hstored _ _).note _ _)) (hstored _ _)

theorem zStamp (h : s.Within B P t) (hb : 0x28 ∈ B) (hf : .free ∈ P) (r : Nat) : s.Within B P (t.zStamp r) := by
  have hrow {b : Nat} (h1 : 0x280000 ≤ b) (h2 : b + 4 * 0x20 < 0x290000) : keyCode (b + min r 4 * 0x20) ∈ B :=
    lap_mem hb h1 h2
  exact .ite _ h (((((h.draw hf).put (f := Fld.LAP_AESR_TS_HI_NS_HI r) (hrow (b := 0x280208) (by decide) (by decide)) _).put
    (f := Fld.LAP_AESR_TS_LO_NS_LO r) (hrow (b := 0x28020C) (by decide) (by decide)) _).put
    (f := Fld.LAP_AESR_TICK_TICK r) (hrow (b := 0x280210) (by decide) (by decide)) _).aesPut hb r 17 16 _)

theorem aes3BlockEnd {r : Fin 4} {b : AesBlock} (h : execAes3BlockEnd r b s = .next t) :
    s.Within [0x28] [.free, .lap] t := by
  refine run h (.when _ ?_)
  dsimp only
  have hb : 0x28 ∈ [0x28] := by decide
  have hp : Part.lap ∈ [Part.free, .lap] := by decide
  have huser (v : Bool) := ((refl s).aesBlock (P := [.free, .lap]) hb r (Nat.le_refl 12) b.userA b.userB).aesFlag hb r 8 v
  have hcrc (v w : Bool) := (huser v).aesFlag hb r 12 w
  have hcs (v w : Bool) := (hcrc v w).storeCs hb hp r b.csA b.csB
  have hstatus (c d e : Prop) [Decidable c] [Decidable d] [Decidable e] (v : Bool) :=
    ite c (ite d (hcs v false) (hcrc v true)) (ite e (hcs v false) (hcrc v false))
  exact (((hstatus _ _ _ _).setAes hp r _).zStamp hb (by decide) r).aesPut hb r 31 28 _

/-! ### AES3 transmitters -/

theorem setAesTx (h : s.Within B P t) (hp : .lap ∈ P) (n : Nat) (x : AesTx) : s.Within B P (t.setAesTx n x) := h.lap hp _

/-- RUN of a transmitter (R255). -/
theorem aesTxFlag (h : s.Within B P t) (hb : 0x28 ∈ B) (n : Nat) (b : Bool) :
    s.Within B P (t.flag (Fld.LAP_AEST_ST_RUN n) b) :=
  h.flag (lap_mem (b := 0x280304) hb (by decide) (by decide)) b

theorem aes3TxStop {n : Fin 4} (h : execAes3TxStop n s = .next t) : s.Within [0x28] [.lap] t :=
  run h (.when _ (((refl s).setAesTx (by decide) _ _).aesTxFlag (by decide) _ _))

theorem aes3TxStart {n : Fin 4} (h : execAes3TxStart n s = .next t) : s.Within [0x28] [.lap] t :=
  run h (.when _ (((((refl s).setAesTx (by decide) _ _).aesTxFlag (by decide) _ _).setAesTx (by decide) _ _).lap
    (by decide) _))

end

end Sys2Proof.Machine.State.Within

namespace Sys2Proof.Machine

/-- Settles O56: each command of the audio path stays within its reach. -/
theorem audioFrames : Obligations.AudioFrames := by
  intro c s t hc h
  rw [State.framed_iff]
  cases c
  case streamPacketReceive => exact .streamPacketReceive h
  case flowLost => exact .flowLost h
  case streamPacketRelease => exact .streamPacketRelease h
  case txSchedMiss => exact .txSchedMiss h
  case sealEpochAdvance => exact .sealEpochAdvance h
  case zcTimeout => exact .zcTimeout h
  case coefSwapCmd => exact .coefSwapCmd h
  case coefSwapCancel g => exact .coefSwapCancel g h
  case coefTickWrite => exact .coefTickWrite h
  case graphSwapArm => exact .graphSwapArm h
  case graphSwapCancel g => exact .graphSwapCancel g h
  case graphTickWrite => exact .graphTickWrite h
  case jobReenable g _ => exact .jobReenable g h
  case ansWindowEnd => exact .ansWindowEnd h
  case tdmSlaveLocked => exact .tdmSlaveLocked h
  case tdmPrerollEnd => exact .tdmPrerollEnd h
  case tdmClkLoss => exact .tdmClkLoss h
  case tdmClkHoldEnd => exact .tdmClkHoldEnd h
  case tdmClkReturn => exact .tdmClkReturn h
  case tdmRetrack => exact .tdmRetrack h
  case tdmRetrackEnd => exact .tdmRetrackEnd h
  case tdmStopComplete => exact .tdmStopComplete h
  case aes3Lock => exact .aes3Lock h
  case aes3Unlock => exact .aes3Unlock h
  case aes3BlockEnd => exact .aes3BlockEnd h
  case aes3ValidityMute => exact .aes3ValidityMute h
  case aes3ValidityUnmute => exact .aes3ValidityUnmute h
  case aes3TxStart => exact .aes3TxStart h
  case aes3TxStop => exact .aes3TxStop h
  case aes3Retrack => exact .aes3Retrack h
  case aes3RetrackEnd => exact .aes3RetrackEnd h
  all_goals cases hc

end Sys2Proof.Machine
end

section
/-! The gate gives up on a connection (R210), a disabled job starts afresh (R224) and a window of an ANS instance ends (R227,
R228). -/

namespace Sys2Proof.Machine

/-! ### The gate -/

/-- Event 29, raised or logged alone, leaves the connections. -/
theorem State.gateEvent_conns (s : State) (c : Conn) (forced : Nat) : (s.gateEvent c forced).fab.conns = s.fab.conns := by
  unfold State.gateEvent
  split
  · rw [(State.Tells.raise _ 29 0x20 _).fab_eq]
  · rw [(State.Tells.note s 0x20 _).fab_eq]

/-- A connection at the end of its timeout ramps over 1 ms: open to its gain, or closed from the gain it has (R210). -/
theorem State.expired_of_overdue {s : State} {c : Conn} (h : s.overdue c = true) :
    s.expired c = if c.st = .opening then { c with st := .open, ramp := ⟨0, c.gain, 0, s.msSamples⟩ }
      else { c with st := if c.st = .closing then .fading else .parkFading, ramp := ⟨c.ramp.value, 0, 0, s.msSamples⟩ } := by
  have hst : c.st = .opening ∨ c.st = .closing ∨ c.st = .parking := by
    simpa [State.overdue, or_assoc] using (Bool.and_eq_true_iff.mp h).1
  rcases hst with e | e | e <;> simp [State.expired, e, State.ramp1ms]

/-- ZC_TIMEOUT changes the connection that it finds overdue and no other (R210). -/
theorem zcTimeout_expires {i o : Fin 512} {c : Conn} {s : State} (hp : s.powered = true)
    (hc : s.fab.conns.find? (fun x => x.inp = i.val && x.out = o.val && s.overdue x) = some c) :
    Answers (.zcTimeout i o) s fun t => t.fab.conns = s.fab.conns.map fun x => if x = c then s.expired c else x :=
  .run (exec_zcTimeout i o s) hp (by
    rw [State.holdMost_fab, hc]
    dsimp only
    rw [State.gateEvent_conns, State.bump_fab])

/-! ### A disabled job -/

/-- The active bank does not depend on DSP_JOB_CMD. -/
theorem State.image_putJob (s : State) (n : Nat) : (s.put Fld.DSP_JOB_CMD_JOB n).image = s.image := by
  unfold State.image State.actBank
  rw [State.on_put_apart _ _ _ _ (by decide) (by decide), State.put_dsp]

/-- A job that is re-enabled starts with no overruns and ramps in (R224). -/
theorem State.reenable_fresh {s : State} {j : Nat} {g : GImage} {x : JobSt} (hg : s.image = some g)
    (hx : s.dsp.jobs[j]? = some x) (hd : x.disabled = true) :
    (s.reenable j).dsp.jobs[j]? = some { JobSt.fresh with rampIn := true } := by
  have hj : j < s.dsp.jobs.length := (List.getElem?_eq_some_iff.mp hx).1
  simp only [State.reenable, hg, hx, hd, Bool.not_true, Bool.false_eq_true, if_false]
  exact List.getElem?_set_self hj

/-- Re-enabling a job writes DSP_OVR_DISABLED alone of the registers. -/
theorem State.reenable_get (s : State) (j : Nat) {f : Fld} (hf : Fld.DSP_OVR_DISABLED.apart f) :
    (s.reenable j).get f = s.get f := by
  unfold State.reenable
  split
  · split
    · rfl
    · exact State.get_put_apart _ _ f _ (by decide) hf
  · rfl

/-! ### An ANS window -/

/-- Event 31 leaves the instances. -/
theorem State.ansEvent_insts (s : State) (i : Nat) (x : InstSt) : (s.ansEvent i x).dsp.insts = s.dsp.insts := by
  unfold State.ansEvent
  split
  · rw [(State.Tells.raise _ 31 0x21 _).dsp_eq]
  · rfl

/-- The window of an ANS instance that has lasted WIN_S ends with its two sums and its length at zero (R228). -/
theorem ansWindowEnd_clears {inst : Fin 2048} {b : GBank} {i : GInst} {x : InstSt} {s : State} (hp : s.powered = true)
    (hb : s.actBank = some b) (hx : s.dsp.insts[inst.val]? = some x) (hi : b.img.insts[inst.val]? = some i) (hty : i.ty = 6)
    (hn : x.nums ≠ []) (hw : s.ansWindow ((b.act.drop i.base).take i.size) ≤ (x.nums.getD 7 0).toNat)
    (hr : s.graphRuns = true) :
    Answers (.ansWindowEnd inst) s fun t =>
      (t.dsp.insts[inst.val]?).map (fun y => (y.nums.drop 5).take 3) = some [0, 0, 0] := by
  have hlt : inst.val < s.dsp.insts.length := (List.getElem?_eq_some_iff.mp hx).1
  have hends : ¬ ((i.ty ≠ 6 || x.nums = [] || !s.graphRuns ||
      (x.nums.getD 7 0).toNat < s.ansWindow ((b.act.drop i.base).take i.size)) = true) := by
    simp only [hty, hn, hr]; simpa using hw
  refine .run (exec_ansWindowEnd inst s) hp ?_
  rw [State.holdMost_dsp, hb, hx]
  dsimp only
  rw [hi]
  dsimp only
  rw [if_neg hends]
  split
  · rw [State.ansEvent_insts]
    simp [hlt]
  · simp [hlt]

/-- Settles O15: the gate's connection, the job and the window are each left as their command's operation leaves them. -/
theorem gateAndJobsComplete : Obligations.GateAndJobsComplete := by
  refine ⟨fun i o c s hp hc => ?gate, fun g job im x s hp him hx hd => ?job,
    fun inst b i x s hp hb hx hi hty hn hw hr => ansWindowEnd_clears hp hb hx hi hty hn hw hr⟩
  case gate =>
    have hfound := List.find?_some hc
    have hdue : s.overdue c = true := (Bool.and_eq_true_iff.mp hfound).2
    exact State.expired_of_overdue hdue ▸ zcTimeout_expires hp hc
  case job =>
    refine .run (exec_jobReenable g job s) hp ⟨?_, ?_⟩
    · rw [State.holdMost_dsp]
      exact State.reenable_fresh (by rw [State.image_putJob, him]) hx hd
    · rw [State.holdMost_get, State.reenable_get _ _ (by decide), State.get_put _ _ _ (by decide)]
      exact Nat.mod_eq_of_lt job.isLt

end Sys2Proof.Machine
end

section
/-! What the command at the head of a ring is judged by (R412): the OTP array, the mode, the rings' settings and, in a ring of
another type than EVTQ, the descriptors given. No raise reaches any of it (R474), for the records of events go to the
EVTQ ring alone (R420). -/

namespace Sys2Proof.Machine

/-! ### Rings -/

theorem port_num_inj {p q : Port} : p.num = q.num → p = q := by cases p <;> cases q <;> decide

/-- The number of a ring among both ports' names its port and it (R404). -/
theorem ringNo_inj {p q : Port} {n m : Nat} (hn : n < 64) (hm : m < 64) (h : ringNo p n = ringNo q m) : p = q ∧ n = m := by
  unfold ringNo at h
  exact ⟨port_num_inj (by omega), by omega⟩

/-- Reading a ring after a write of a ring. -/
theorem State.ring_setRing (s : State) (p q : Port) (n m : Nat) (r : Ring) :
    (s.setRing p n r).ring q m = if ringNo p n = ringNo q m then r else s.ring q m := Store.get_set _ _ _ _ _

@[simp] theorem State.ring_setRing_same (s : State) (p : Port) (n : Nat) (r : Ring) : (s.setRing p n r).ring p n = r := by
  rw [State.ring_setRing, if_pos rfl]

@[simp] theorem State.ring_setPort (s : State) (p q : Port) (x : PortSt) (n : Nat) : (s.setPort p x).ring q n = s.ring q n := by
  cases p <;> rfl

/-- Reading a ring depends on the host ports alone. -/
theorem State.ring_of_host {s t : State} (h : t.host = s.host) (p : Port) (n : Nat) : t.ring p n = s.ring p n := by
  unfold State.ring
  rw [h]

/-- The ring that a search finds has the type that is sought. -/
theorem State.findRing_type {s : State} {p : Port} {ty n : Nat} (h : s.findRing p ty = some n) : s.ringType p n = ty := by
  have hf := List.find?_some h
  exact of_decide_eq_true (Bool.and_eq_true_iff.mp hf).2

/-! ### The keys -/

/-- The keys of the mode (R366) and, with some others, of the rings' settings (R405), which no raise reaches. -/
def settingKey (k : Nat) : Bool := k = 0x20 || ((k / 0x10000 = 4 || k / 0x10000 = 5) && k % 0x20 = 0x10)

theorem settingKey_ringCfg (p : Port) (n : Nat) : settingKey (Fld.HIF_R_CFG_TYPE p.num n).addr = true := by
  show settingKey (0x040110 + p.num * 0x10000 + min n 64 * 0x20) = true
  have := port_num_lt p
  simp only [settingKey, Bool.or_eq_true, Bool.and_eq_true, decide_eq_true_eq]
  omega

/-- The register of a ring's progress (R406), the words of the indirect spaces and a pair of words of other keys are no settings. -/
theorem settingKey_ringSt (p : Port) (n : Nat) : settingKey (Fld.HIF_R_ST_CONS p.num n).addr = false := by
  show settingKey (0x04011C + p.num * 0x10000 + min n 64 * 0x20) = false
  simp only [settingKey, Bool.or_eq_false_iff, Bool.and_eq_false_iff, decide_eq_false_iff_not]
  omega

theorem settingKey_behind {k : Nat} (h : 0x60000 ≤ k) : settingKey k = false := by
  simp only [settingKey, Bool.or_eq_false_iff, Bool.and_eq_false_iff, decide_eq_false_iff_not]
  omega

theorem settingKey_ind (c w : Nat) : settingKey (indKey c w) = false :=
  settingKey_behind (by have := indKey_above c w; omega)

theorem settingKey_pairBit (lo hi n : Nat) (h : settingKey lo = false) (h2 : settingKey hi = false) :
    settingKey (pairBit lo hi n).addr = false := by
  rcases pairBit_addr lo hi n with e | e <;> rw [e] <;> assumption

/-! ### What every operation keeps -/

/-- Whether what commands are judged by stands as before: the OTP array, the settings, and the descriptors given to the rings of
another type than EVTQ. -/
structure State.KeepsCommands (s t : State) : Prop where
  otp : t.otp = s.otp
  settings : s.KeepsRegs (fun k => !settingKey k) t
  given : ∀ p n, n < 64 → s.ringType p n ≠ 6 → (t.ring p n).given = (s.ring p n).given

namespace State.KeepsCommands

section
variable {s t u : State}

theorem ringType (h : s.KeepsCommands t) (p : Port) (n : Nat) : t.ringType p n = s.ringType p n :=
  h.settings.get _ (by rw [settingKey_ringCfg]; rfl)

theorem inAlarm (h : s.KeepsCommands t) : t.inAlarm = s.inAlarm := by
  unfold State.inAlarm State.mode
  rw [h.settings.get _ (by decide)]

theorem refl (s : State) : s.KeepsCommands s := ⟨rfl, .refl _ s, fun _ _ _ _ => rfl⟩

theorem trans (h : s.KeepsCommands t) (g : t.KeepsCommands u) : s.KeepsCommands u :=
  ⟨g.otp.trans h.otp, h.settings.trans g.settings,
    fun p n hn ht => (g.given p n hn (by rwa [h.ringType])).trans (h.given p n hn ht)⟩

theorem ite (b : Prop) [Decidable b] (h : s.KeepsCommands t) (g : s.KeepsCommands u) : s.KeepsCommands (if b then t else u) := by
  split <;> assumption

theorem foldl {α : Type} {f : State → α → State} (hf : ∀ t a, s.KeepsCommands t → s.KeepsCommands (f t a)) (l : List α)
    (h : s.KeepsCommands t) : s.KeepsCommands (l.foldl f t) :=
  List.foldlRecOn (motive := s.KeepsCommands) l f h fun t ht a _ => hf t a ht

theorem put (h : s.KeepsCommands t) {f : Fld} (hf : settingKey f.addr = false) (v : Nat) : s.KeepsCommands (t.put f v) :=
  h.trans ⟨rfl, .put _ t f v (by rw [hf]; rfl), fun _ _ _ _ => rfl⟩

theorem flag (h : s.KeepsCommands t) {f : Fld} (hf : settingKey f.addr = false) (b : Bool) : s.KeepsCommands (t.flag f b) :=
  h.put hf _

theorem bump (h : s.KeepsCommands t) {f : Fld} (hf : settingKey f.addr = false) (n : Nat) : s.KeepsCommands (t.bump f n) := by
  unfold State.bump
  exact .ite _ h (h.put hf _)

/-- A change of neither the registers, the host ports nor the OTP array. -/
theorem quiet (h : s.KeepsCommands t) (ho : u.otp = t.otp) (hr : u.regs = t.regs) (hh : u.host = t.host) :
    s.KeepsCommands u :=
  h.trans ⟨ho, fun k _ => State.rd_of_regs hr k, fun p n _ _ => by rw [State.ring_of_host hh]⟩

theorem mem (h : s.KeepsCommands t) (x : MemSt) : s.KeepsCommands { t with mem := x } := h.quiet rfl rfl rfl

theorem log (h : s.KeepsCommands t) (x : LogSt) : s.KeepsCommands { t with log := x } := h.quiet rfl rfl rfl

theorem emit (h : s.KeepsCommands t) (o : Out) : s.KeepsCommands (t.emit o) := h.quiet rfl rfl rfl

theorem setPort (h : s.KeepsCommands t) (p : Port) (x : PortSt) : s.KeepsCommands (t.setPort p x) :=
  h.trans ⟨State.setPort_otp t p x, fun k _ => State.rd_of_regs (State.setPort_regs t p x) k,
    fun q n _ _ => by rw [State.ring_setPort]⟩

/-- A ring that keeps its descriptors. -/
theorem setRing (h : s.KeepsCommands t) (p : Port) (n : Nat) {r : Ring} (hr : r.given = (t.ring p n).given) :
    s.KeepsCommands (t.setRing p n r) := by
  refine h.trans ⟨rfl, fun _ _ => rfl, fun q m _ _ => ?_⟩
  rw [State.ring_setRing]
  split
  case isTrue e => rw [hr, State.ring, State.ring, e]
  case isFalse => rfl

/-- An EVTQ ring. -/
theorem setEventRing (h : s.KeepsCommands t) {p : Port} {n : Nat} (hn : n < 64) (ht : t.ringType p n = 6) (r : Ring) :
    s.KeepsCommands (t.setRing p n r) := by
  refine h.trans ⟨rfl, fun _ _ => rfl, fun q m hm hq => ?_⟩
  rw [State.ring_setRing, if_neg]
  intro e
  obtain ⟨rfl, rfl⟩ := ringNo_inj hn hm e
  exact hq ht

/-! ### Vectors and ring records -/

theorem logPut (h : s.KeepsCommands t) (e : LogEntry) : s.KeepsCommands (t.logPut e) := by
  unfold State.logPut
  exact .ite _ ((h.log _).put (f := Fld.LOG_COUNT_COUNT) (by decide) _) ((h.log _).bump (by decide) _)

theorem msixDue (h : s.KeepsCommands t) (p : Port) (v : Nat) : s.KeepsCommands (t.msixDue p v) := by
  unfold State.msixDue
  exact .ite _ h (.ite _ h (.ite _ (h.emit _) (.ite _ h (h.setPort p _))))

theorem ringVector (h : s.KeepsCommands t) (p : Port) (n : Nat) : s.KeepsCommands (t.ringVector p n) := by
  unfold State.ringVector
  have hring {r : Ring} (hr : r.given = (t.ring p n).given) := h.setRing p n hr
  exact .ite _ (h.msixDue p _) (.ite _ (hring (r := { t.ring p n with modDue := true }) rfl)
    ((hring (r := { t.ring p n with modOpen := true, windowAt := t.time.now }) rfl).msixDue p _))

theorem finishDesc (h : s.KeepsCommands t) {p : Port} {n : Nat} (hn : n < 64) (ht : t.ringType p n = 6) (d : Desc) :
    s.KeepsCommands (t.finishDesc p n d) := by
  unfold State.finishDesc
  dsimp only
  have htaken := h.setEventRing hn ht { t.ring p n with given := (t.ring p n).given.drop 1 }
  have hwritten (c a c' b : Nat) := (((htaken.emit (.desc p n c a d)).put (settingKey_ringSt p n) c').emit
    (.writeBack p n c' b)).bump (f := Fld.ringCnt p.num n 0) (settingKey_ind _ _) 1
  exact .ite _ ((hwritten _ _ _ _).ringVector p n) (hwritten _ _ _ _)

theorem closeBuffer (h : s.KeepsCommands t) {p : Port} {n : Nat} (hn : n < 64) (ht : t.ringType p n = 6) :
    s.KeepsCommands (t.closeBuffer p n) := by
  unfold State.closeBuffer
  dsimp only
  split
  · exact h
  · exact ((h.emit _).finishDesc hn ht _).setRing p n rfl

theorem makeRoom (h : s.KeepsCommands t) {p : Port} {n : Nat} (hn : n < 64) (ht : t.ringType p n = 6) (n2 : Nat) :
    s.KeepsCommands (t.makeRoom p n n2) := .ite _ (h.closeBuffer hn ht) h

theorem pushRecord (h : s.KeepsCommands t) {p : Port} {n : Nat} (hn : n < 64) (ht : t.ringType p n = 6) (rec : List Word) :
    s.KeepsCommands (t.pushRecord p n rec).1 := by
  have hroom := h.makeRoom hn ht rec.length
  have htype : (t.makeRoom p n rec.length).ringType p n = 6 := by rw [hroom.ringType, ← h.ringType, ht]
  unfold State.pushRecord
  dsimp only
  split
  · exact hroom.bump (settingKey_ind _ _) 1
  · split
    · exact (hroom.finishDesc hn htype _).bump (settingKey_ind _ _) 1
    · have hrec := hroom.setEventRing hn htype
      exact .ite _ ((hrec _).closeBuffer hn htype) (hrec _)

/-! ### Raising an event -/

theorem deliver (h : s.KeepsCommands t) (p : Port) (src seq : Nat) : s.KeepsCommands (t.deliver p src seq).1 := by
  unfold State.deliver
  split
  · have hlat := h.flag (f := Fld.evtLat p.num src)
      (settingKey_pairBit _ _ _ (by cases p <;> decide) (by cases p <;> decide)) true
    refine .msixDue ?_ p src
    split
    · exact hlat
    case h_2 n hf =>
      have hrec := hlat.pushRecord (State.findRing_lt hf) (State.findRing_type hf)
      dsimp only
      split
      · exact (hrec _).flag (settingKey_pairBit _ _ _ (by cases p <;> decide) (by cases p <;> decide)) _
      · exact hrec _
  · exact h

theorem raiseCore (h : s.KeepsCommands t) (src sub sev org : Nat) (dw : List Nat) :
    s.KeepsCommands (t.raiseCore src sub sev org dw).1 := by
  have hentry := h.logPut (t.mkEntry src sub sev org dw)
  have hraw (c : Prop) [Decidable c] (v : Nat) := (((ite c (hentry.put (f := Fld.EVT_LAST_SEQ) (by decide) v) hentry).flag
    (f := Fld.evtRaw src) (settingKey_pairBit _ _ _ (by decide) (by decide)) true).bump (f := Fld.ind 1 src)
    (settingKey_ind _ _) 1)
  exact ((hraw _ _).deliver .a src _).deliver .b src _

theorem ringSummary (h : s.KeepsCommands t) (p : Port) : s.KeepsCommands (t.ringSummary p) :=
  .ite _ ((h.setPort p _).raiseCore _ _ _ _ _) h

theorem raise (h : s.KeepsCommands t) (src sub : Nat) (dw : List Nat) : s.KeepsCommands (t.raise src sub dw) := by
  have hcore := h.raiseCore src sub (severityOf src) originPart dw
  have ha (c : Prop) [Decidable c] := ite c (hcore.ringSummary .a) hcore
  exact .ite _ ((ha _).ringSummary .b) (ha _)

/-! ### The cell pool -/

theorem settleQueue (h : s.KeepsCommands t) (q : Nat) : s.KeepsCommands (t.settleQueue q) := by
  unfold State.settleQueue
  dsimp only
  have hpeak (c : Prop) [Decidable c] (v : Nat) := ite c (h.put (f := Fld.qPeak q) (settingKey_ind _ _) v) h
  have hover (c d : Prop) [Decidable c] [Decidable d] (v : Nat) :=
    ite d ((hpeak c v).flag (f := Fld.qOver q) (by show settingKey 0x480030 = false; decide) false) (hpeak c v)
  have hlevel (c d : Prop) [Decidable c] [Decidable d] (v : Nat) (b : Bool) :=
    (hover c d v).flag (f := Fld.qLevel q) (by show settingKey 0x480024 = false; decide) b
  have hsticky : settingKey (Fld.qSticky q).addr = false := by show settingKey 0x480028 = false; decide
  have hcross (c d : Prop) [Decidable c] [Decidable d] (v : Nat) :=
    (hlevel c d v true).bump (f := Fld.qCross q) (settingKey_ind _ _) 1
  exact .ite _ (((hlevel _ _ _ _).flag hsticky _).put (settingKey_ind _ _) _) (.ite _ (.ite _ (hlevel _ _ _ _) (hover _ _ _))
    (.ite _ (.ite _ (hcross _ _ _) (((hcross _ _ _).flag hsticky _).raise _ _ _)) (hover _ _ _)))

/-- The over-quota bit of a group is no setting (R448, R422). -/
theorem settingKey_gOver {g : Nat} {f : Fld} (hf : gOver g = some f) : settingKey f.addr = false := by
  unfold gOver at hf
  split at hf
  · cases hf
    decide
  · split at hf
    · cases hf
      decide
    · split at hf
      · cases hf
        decide
      · cases hf

theorem settleGroup (h : s.KeepsCommands t) (g hyst : Nat) : s.KeepsCommands (t.settleGroup g hyst) := by
  unfold State.settleGroup
  split
  case h_1 hf => exact .ite _ (h.flag (settingKey_gOver hf) _) h
  case h_2 => exact h

theorem settlePool (h : s.KeepsCommands t) : s.KeepsCommands t.settlePool := by
  unfold State.settlePool
  dsimp only
  have hqueues := foldl (f := State.settleQueue) (fun _ _ hu => hu.settleQueue _) (List.range 26) h
  have hgroups (a b c : Nat) := ((hqueues.settleGroup 0 a).settleGroup 2 b).settleGroup 3 c
  exact .ite _ ((hgroups _ _ _).put (by decide) _) (hgroups _ _ _)

theorem storeItem (h : s.KeepsCommands t) (n : Nat) (held : List Nat) : s.KeepsCommands (t.storeItem n held) :=
  .ite _ h (h.mem _).settlePool

end

end State.KeepsCommands

end Sys2Proof.Machine
end

section
/-! The end of a command (R413, R414): its descriptors go back, it completes, and the ring goes on to the next. All of it is
telling. -/

namespace Sys2Proof.Machine.State.Tells

theorem ringCount (s : State) (p : Port) (n w : Nat) : s.Tells (s.ringCount p n w) :=
  .trans (.bump s _ 1 (tellKey_ringCnt p n w)) (.ringError _ p n)

theorem returnDescs (p : Port) (ring : Nat) : ∀ (n : Nat) (s : State), s.Tells (State.returnDescs p ring n s)
  | 0, s => .refl s
  | n + 1, s => by
    unfold State.returnDescs
    split
    · exact .refl s
    · exact .trans (.finishDesc s p ring _) (returnDescs p ring n _)

theorem serveCpl (p : Port) (n : Nat) : ∀ (fuel : Nat) (s : State), s.Tells (State.serveCpl p n fuel s)
  | 0, s => .refl s
  | fuel + 1, s => by
    unfold State.serveCpl
    refine .ite _ (.refl s) ?_
    split
    · exact .refl s
    · exact .trans (.trans (.setPort s p _) (.finishDesc _ p n _)) (serveCpl p n fuel _)

theorem completeCmd (s : State) (p : Port) (ring index : Nat) (cookie : Word) (cpl op result det discarded : Nat) :
    s.Tells (s.completeCmd p ring index cookie cpl op result det discarded) := by
  unfold State.completeCmd
  dsimp only
  have hcounted (c : Prop) [Decidable c] := State.Tells.ite c (.refl s) (ringCount s p ring 1)
  exact .ite _ (hcounted _) (.trans (.trans (hcounted _) (.setPort _ p _)) (serveCpl p cpl _ _))

theorem endChain (s : State) (p : Port) (ring n result det discarded : Nat) :
    s.Tells (s.endChain p ring n result det discarded) :=
  .trans (returnDescs p ring n s) (completeCmd _ p ring _ _ _ _ _ _ _)

theorem sweepCmd (p : Port) (ring : Nat) : ∀ (fuel : Nat) (s : State), s.Tells (State.sweepCmd p ring fuel s)
  | 0, s => .refl s
  | fuel + 1, s => by
    have hchain {t : State} (h : s.Tells t) (n result : Nat) :
        s.Tells (State.sweepCmd p ring fuel (t.endChain p ring n result 0 0)) :=
      .trans h (.trans (endChain t p ring n result 0 0) (sweepCmd p ring fuel _))
    have hlong (op n : Nat) : s.Tells (s.msgTooLong op p ring n) := .ite _ (.note s _ _) (.refl s)
    unfold State.sweepCmd
    refine .ite _ (.refl s) ?_
    split
    · exact .refl s
    · exact hchain (.refl s) _ _
    · exact .ite _ (hchain (.refl s) _ _) (.ite _ (hchain (hlong _ _) _ _) (.refl s))

theorem endCmd (s : State) (p : Port) (ring n result det : Nat) : s.Tells (s.endCmd p ring n result det) :=
  .trans (endChain s p ring n result det 0) (sweepCmd p ring _ _)

end Sys2Proof.Machine.State.Tells
end

section
/-! A NOP hands its descriptors back and completes (R412 to R414). -/

namespace Sys2Proof.Machine

/-! ### The head of a ring -/

/-- A command at the head of a ring says that the ring is of type CMD, and is the first of its descriptors (R412). -/
theorem State.headCmd_some {s : State} {p : Port} {ring op n : Nat} {d : Desc} (h : s.headCmd p ring op = some (n, d)) :
    s.ringType p ring = 0 ∧ d.dw7.toNat % 65536 = op ∧ ∃ l, (s.ring p ring).given = d :: l := by
  unfold State.headCmd at h
  split at h
  · cases h
  case isFalse hmoves =>
    split at h
    case h_1 d' l _ hg =>
      split at h
      · rename_i hop
        cases h
        exact ⟨(by simpa using hmoves : s.ringMoves p ring = true ∧ s.ringType p ring = 0).2, hop, l, hg⟩
      · cases h
    · cases h

/-! ### Descriptors that go back -/

/-- A vector that becomes due is sent, waits in the pending bits, or comes to nothing (R475). -/
theorem State.msixDue_cases (s : State) (p : Port) (v : Nat) :
    s.msixDue p v = s ∨ s.msixDue p v = s.emit (.msix p v) ∨
      s.msixDue p v = s.setPort p { s.portSt p with vpend := (s.portSt p).vpend ++ [v] } := by
  unfold State.msixDue
  dsimp only
  split
  · exact .inl rfl
  · split
    · exact .inl rfl
    · split
      · exact .inr (.inl rfl)
      · split
        · exact .inl rfl
        · exact .inr (.inr rfl)

@[simp] theorem State.msixDue_regs (s : State) (p : Port) (v : Nat) : (s.msixDue p v).regs = s.regs := by
  rcases s.msixDue_cases p v with e | e | e <;> rw [e]
  · rfl
  · exact s.setPort_regs p _

@[simp] theorem State.msixDue_ring (s : State) (p q : Port) (v n : Nat) : (s.msixDue p v).ring q n = s.ring q n := by
  rcases s.msixDue_cases p v with e | e | e <;> rw [e]
  · rfl
  · exact s.ring_setPort p q _ n

@[simp] theorem State.msixDue_waiting (s : State) (p : Port) (v : Nat) :
    ((s.msixDue p v).portSt p).waiting = (s.portSt p).waiting := by
  rcases s.msixDue_cases p v with e | e | e <;> rw [e]
  · rfl
  · cases p <;> rfl

@[simp] theorem State.portSt_setRing (s : State) (p q : Port) (n : Nat) (r : Ring) : (s.setRing p n r).portSt q = s.portSt q := by
  cases q <;> rfl

/-- The vector of a ring becomes due, or waits for the end of its window; the ring keeps its descriptors (R408). -/
theorem State.ringVector_cases (s : State) (p : Port) (n : Nat) :
    s.ringVector p n = s.msixDue p (64 + n) ∨ ∃ r, r.given = (s.ring p n).given ∧
      (s.ringVector p n = s.setRing p n r ∨ s.ringVector p n = (s.setRing p n r).msixDue p (64 + n)) := by
  unfold State.ringVector
  split
  · exact .inl rfl
  · split
    · exact .inr ⟨{ s.ring p n with modDue := true }, rfl, .inl rfl⟩
    · exact .inr ⟨{ s.ring p n with modOpen := true, windowAt := s.time.now }, rfl, .inr rfl⟩

@[simp] theorem State.ringVector_regs (s : State) (p : Port) (n : Nat) : (s.ringVector p n).regs = s.regs := by
  rcases s.ringVector_cases p n with e | ⟨r, -, e | e⟩ <;> rw [e]
  · exact s.msixDue_regs p _
  · rfl
  · exact (s.setRing p n r).msixDue_regs p _

@[simp] theorem State.ringVector_given (s : State) (p : Port) (n : Nat) :
    ((s.ringVector p n).ring p n).given = (s.ring p n).given := by
  rcases s.ringVector_cases p n with e | ⟨r, hr, e | e⟩ <;> rw [e]
  · rw [State.msixDue_ring]
  · rw [State.ring_setRing_same, hr]
  · rw [State.msixDue_ring, State.ring_setRing_same, hr]

@[simp] theorem State.ringVector_waiting (s : State) (p : Port) (n : Nat) :
    ((s.ringVector p n).portSt p).waiting = (s.portSt p).waiting := by
  rcases s.ringVector_cases p n with e | ⟨r, -, e | e⟩ <;> rw [e]
  · exact s.msixDue_waiting p _
  · rw [State.portSt_setRing]
  · rw [State.msixDue_waiting, State.portSt_setRing]

/-- The host ports depend on neither the registers nor what has been sent. -/
theorem State.portSt_of_host {s t : State} (h : t.host = s.host) (p : Port) : t.portSt p = s.portSt p := by
  cases p <;> simp only [State.portSt, h]

/-- A ring whose oldest descriptor has been written and counted, its vector still to come (R406). -/
def State.descWritten (s : State) (p : Port) (n : Nat) (d : Desc) : State :=
  let cons := s.get (Fld.HIF_R_ST_CONS p.num n)
  (((((s.setRing p n { s.ring p n with given := (s.ring p n).given.drop 1 }).emit
    (.desc p n cons (s.descAddr p n cons) d)).put (Fld.HIF_R_ST_CONS p.num n) ((cons + 1) % 65536)).emit
    (.writeBack p n ((cons + 1) % 65536) (s.backAddr p n))).bump (Fld.ringCnt p.num n 0) 1)

theorem State.finishDesc_eq (s : State) (p : Port) (n : Nat) (d : Desc) : s.finishDesc p n d =
    if ((s.ring p n).given.headD d).has flagInt then (s.descWritten p n d).ringVector p n else s.descWritten p n d := rfl

@[simp] theorem State.descWritten_given (s : State) (p : Port) (n : Nat) (d : Desc) :
    ((s.descWritten p n d).ring p n).given = (s.ring p n).given.drop 1 := by
  unfold State.descWritten
  rw [State.ring_of_host (State.bump_host _ _ _)]
  exact congrArg Ring.given (s.ring_setRing_same p n _)

@[simp] theorem State.descWritten_waiting (s : State) (p : Port) (n : Nat) (d : Desc) :
    ((s.descWritten p n d).portSt p).waiting = (s.portSt p).waiting := by
  unfold State.descWritten
  rw [State.portSt_of_host (State.bump_host _ _ _)]
  exact congrArg PortSt.waiting (s.portSt_setRing p p n _)

/-- A counter advanced leaves the fields of every other word. -/
theorem State.get_bump_ne (s : State) {f g : Fld} (n : Nat) (h : f.addr ≠ g.addr) : (s.bump f n).get g = s.get g := by
  unfold State.get
  rw [s.rd_bump_ne f n _ h]

/-- The counters of the rings lie behind every register of BAR0. -/
theorem ringCnt_ne {k : Nat} (p : Port) (n w : Nat) (hk : k < 0x100000000) : (Fld.ringCnt p.num n w).addr ≠ k := by
  have : 0x100000000 ≤ (Fld.ringCnt p.num n w).addr := indKey_above _ _
  omega

/-- A completed descriptor moves the ring's index and a counter, and no other register (R406). -/
theorem State.descWritten_get (s : State) (p : Port) (n : Nat) (d : Desc) {f : Fld} (hk : f.addr < 0x100000000)
    (hf : (Fld.HIF_R_ST_CONS p.num n).apart f) : (s.descWritten p n d).get f = s.get f := by
  have hok : (Fld.HIF_R_ST_CONS p.num n).ok := ⟨Nat.zero_le _, show 15 < 32 by decide⟩
  unfold State.descWritten
  dsimp only
  rw [State.get_bump_ne _ 1 (ringCnt_ne p n 0 hk), State.get_of_regs (State.emit_regs _ _), State.get_put_apart _ _ _ _ hok hf,
    State.get_of_regs (State.emit_regs _ _), State.get_of_regs (State.setRing_regs _ _ _ _)]

theorem State.finishDesc_given (s : State) (p : Port) (n : Nat) (d : Desc) :
    ((s.finishDesc p n d).ring p n).given = (s.ring p n).given.drop 1 := by
  rw [State.finishDesc_eq]
  split <;> simp

theorem State.finishDesc_waiting (s : State) (p : Port) (n : Nat) (d : Desc) :
    ((s.finishDesc p n d).portSt p).waiting = (s.portSt p).waiting := by
  rw [State.finishDesc_eq]
  split <;> simp

theorem State.finishDesc_get (s : State) (p : Port) (n : Nat) (d : Desc) {f : Fld} (hk : f.addr < 0x100000000)
    (hf : (Fld.HIF_R_ST_CONS p.num n).apart f) : (s.finishDesc p n d).get f = s.get f := by
  rw [State.finishDesc_eq]
  split
  · rw [State.get_of_regs (State.ringVector_regs _ p n), s.descWritten_get p n d hk hf]
  · exact s.descWritten_get p n d hk hf

/-- The first descriptors of a ring go back, and the others stay given. -/
theorem State.returnDescs_given (p : Port) (ring : Nat) (n : Nat) (s : State) :
    ((State.returnDescs p ring n s).ring p ring).given = (s.ring p ring).given.drop n := by
  induction n generalizing s with
  | zero => rfl
  | succ n ih =>
    unfold State.returnDescs
    split
    case h_1 h => rw [h, List.drop_nil]
    case h_2 h => rw [ih, State.finishDesc_given, List.drop_drop, Nat.add_comm]

theorem State.returnDescs_waiting (p : Port) (ring : Nat) (n : Nat) (s : State) :
    ((State.returnDescs p ring n s).portSt p).waiting = (s.portSt p).waiting := by
  induction n generalizing s with
  | zero => rfl
  | succ n ih =>
    unfold State.returnDescs
    split
    · rfl
    · rw [ih, State.finishDesc_waiting]

theorem State.returnDescs_get (p : Port) (ring : Nat) (n : Nat) (s : State) {f : Fld} (hk : f.addr < 0x100000000)
    (hf : (Fld.HIF_R_ST_CONS p.num ring).apart f) : (State.returnDescs p ring n s).get f = s.get f := by
  induction n generalizing s with
  | zero => rfl
  | succ n ih =>
    unfold State.returnDescs
    split
    · rfl
    · rw [ih, s.finishDesc_get p ring _ hk hf]

/-- Neither the state of a port nor whether a ring moves depends on how far a ring has come (R406). -/
theorem State.returnDescs_portLost (p : Port) (ring : Nat) (n : Nat) (s : State) :
    (State.returnDescs p ring n s).portLost p = s.portLost p := by
  unfold State.portLost
  rw [State.returnDescs_get]
  · show 0x040018 + p.num * 0x10000 < 0x100000000
    have := port_num_lt p
    omega
  · left
    show 0x04011C + p.num * 0x10000 + min ring 64 * 0x20 ≠ 0x040018 + p.num * 0x10000
    omega

theorem State.returnDescs_ringMoves (p : Port) (ring : Nat) (n m : Nat) (s : State) :
    (State.returnDescs p ring n s).ringMoves p m = s.ringMoves p m := by
  have := port_num_lt p
  have hrun : (State.returnDescs p ring n s).get (Fld.HIF_R_ST_RUN p.num m) = s.get (Fld.HIF_R_ST_RUN p.num m) := by
    refine s.returnDescs_get p ring n ?_ (.inr (.inl (show 15 < 31 by decide)))
    show 0x04011C + p.num * 0x10000 + min m 64 * 0x20 < 0x100000000
    omega
  have hbme : (State.returnDescs p ring n s).get (Fld.HIF_PORT_ST_BME p.num) = s.get (Fld.HIF_PORT_ST_BME p.num) := by
    refine s.returnDescs_get p ring n ?_ (.inl ?_)
    · show 0x040018 + p.num * 0x10000 < 0x100000000
      omega
    · show 0x04011C + p.num * 0x10000 + min ring 64 * 0x20 ≠ 0x040018 + p.num * 0x10000
      omega
  unfold State.ringMoves State.ringRuns State.on
  rw [hrun, hbme]

/-! ### Completion -/

/-- A CPL ring that does not move takes no completion (R413). -/
theorem State.serveCpl_still {s : State} {p : Port} {n : Nat} (h : s.ringMoves p n = false) (fuel : Nat) :
    State.serveCpl p n fuel s = s := by
  cases fuel with
  | zero => rfl
  | succ fuel => simp [State.serveCpl, h]

/-- A command applied while its port is there and its CPL ring does not move leaves its completion waiting (R413, R414). -/
theorem State.completeCmd_waits {s : State} {p : Port} {cpl : Nat} (hl : s.portLost p = false)
    (hm : s.ringMoves p cpl = false) (ring index : Nat) (cookie : Word) (op det discarded : Nat) :
    s.completeCmd p ring index cookie cpl op resApplied det discarded = s.setPort p { s.portSt p with
      waiting := (s.portSt p).waiting ++ [⟨cpl, s.cplDesc ring index cookie op resApplied det discarded⟩] } := by
  have hmoves (x : PortSt) : (s.setPort p x).ringMoves p cpl = false := by
    rw [← hm]
    cases p <;> rfl
  simp only [State.completeCmd, decide_true, Bool.true_or, if_true, hl, Bool.false_eq_true, if_false, State.serveCpls]
  exact State.serveCpl_still (hmoves _) _

/-- A ring without a descriptor has no chain to sweep. -/
theorem State.sweep_empty {s : State} {p : Port} {ring : Nat} (h : (s.ring p ring).given = []) : s.sweep p ring = s := by
  unfold State.sweep State.sweepCmd
  rw [h]
  split <;> rfl

@[simp] theorem State.portSt_setPort (s : State) (p : Port) (x : PortSt) : (s.setPort p x).portSt p = x := by
  cases p <;> rfl

/-- Where its port is there and its CPL ring does not move, the end of an applied command hands its descriptors back and leaves
its completion waiting (R413, R414). -/
theorem State.endChain_waits {s : State} {p : Port} {ring : Nat} {d : Desc} {l : List Desc}
    (hg : (s.ring p ring).given = d :: l) (hl : s.portLost p = false) (hm : s.ringMoves p (s.cplOf p ring) = false) (n : Nat) :
    s.endChain p ring n resApplied 0 0 = (State.returnDescs p ring n s).setPort p { (State.returnDescs p ring n s).portSt p with
      waiting := (s.portSt p).waiting ++ [⟨s.cplOf p ring, s.cplDesc ring (s.get (Fld.HIF_R_ST_CONS p.num ring)) d.cookie
        (d.dw7.toNat % 65536) resApplied 0 0⟩] } := by
  unfold State.endChain
  dsimp only
  rw [State.completeCmd_waits (by rw [State.returnDescs_portLost, hl]) (by rw [State.returnDescs_ringMoves, hm]), hg,
    State.returnDescs_waiting]
  unfold State.cplDesc
  rw [(State.Tells.returnDescs p ring n s).time_eq]
  rfl

/-- NOP hands its descriptors back and leaves its completion waiting where its CPL ring does not move (R412, R413). -/
theorem nop_completes {p : Port} {ring : Fin 64} {n : Nat} {d : Desc} {s : State} (hp : s.powered = true)
    (hh : s.headCmd p ring opNop = some (n, d)) (hn : (s.ring p ring).given.length = n) (hl : s.portLost p = false)
    (hm : s.ringMoves p (s.cplOf p ring) = false) :
    Answers (.nop p ring) s fun t =>
      (t.ring p ring).given = [] ∧ (t.portSt p).waiting = (s.portSt p).waiting ++ [⟨s.cplOf p ring, s.cplDesc ring
      (s.get (Fld.HIF_R_ST_CONS p.num ring)) d.cookie opNop resApplied 0 0⟩] := by
  obtain ⟨-, hop, l, hg⟩ := State.headCmd_some hh
  have hend := State.endChain_waits hg hl hm n
  have hgiven : ((s.endChain p ring n resApplied 0 0).ring p ring).given = [] := by
    rw [hend, State.ring_setPort, State.returnDescs_given, ← hn, List.drop_length]
  refine .run (exec_nop p ring s) hp ?_
  rw [State.ring_of_host (State.holdMost_host _ _), State.portSt_of_host (State.holdMost_host _ _), hh]
  dsimp only
  unfold State.endCmd
  rw [State.sweep_empty hgiven, ← hop]
  exact ⟨hgiven, by rw [hend, State.portSt_setPort]⟩

end Sys2Proof.Machine
end

section
/-! A firmware image, a graph and a message are stored (R231, R322, R362, R391), and a message is deleted. The data of a command
that stores stand in the cell pool from its fetch to its handover (R413, R421): neither reaches what the image is judged by. -/

namespace Sys2Proof.Machine

/-! ### A command's data in the pool -/

/-- The state in which a command's data have found their cells (R446). -/
def State.fetched (s : State) (p : Port) (ring n : Nat) : State := s.storeItem (s.cmdCells p ring n) [cmdQueue p]

theorem State.fetched_within (s : State) (p : Port) (ring n : Nat) : s.Within [0x48] [.mem] (s.fetched p ring n) :=
  (Within.refl s).storeItem (by decide) (by decide) _ _

theorem State.fetched_keeps (s : State) (p : Port) (ring n : Nat) : s.KeepsCommands (s.fetched p ring n) :=
  (KeepsCommands.refl s).storeItem _ _

/-- The fetch leaves the payload of a ring of another type than EVTQ. -/
theorem State.payload_fetched {s : State} {p : Port} {ring : Fin 64} (h : s.ringType p ring = 0) (n : Nat) :
    (s.fetched p ring n).payload p ring n = s.payload p ring n := by
  unfold State.payload
  rw [(s.fetched_keeps p ring n).given p ring ring.isLt (by rw [h]; decide)]

/-- A command whose data find their cells leaves what it has done at its end, but for telling and the pool. -/
theorem State.staged_within {s u : State} {p : Port} {ring n result det : Nat} {f : State → State}
    (hf : s.cmdFits p ring n = true) (hu : f (s.fetched p ring n) = u.endCmd p ring n result det) :
    u.Within [0x48] [.mem] (s.staged p ring n f) := by
  unfold State.staged
  rw [hf]
  show u.Within _ _ ((f (s.fetched p ring n)).releaseItem _ _)
  rw [hu]
  exact ((Within.refl u).tells (.endCmd u p ring n result det)).releaseItem (by decide) (by decide) _ _

/-! ### What signatures are judged by -/

/-- The signers that count, and what the life cycle asks for, stand in the OTP array (R374, R386, R391). -/
theorem State.siteSigned_of_otp {s t : State} (h : t.otp = s.otp) (l : List Nat) : t.siteSigned l = s.siteSigned l := by
  unfold State.siteSigned State.rootKey
  rw [h]

theorem State.siteImages_of_otp {s t : State} (h : t.otp = s.otp) : t.siteImages = s.siteImages := by
  unfold State.siteImages
  rw [h]

theorem State.fwRule_of_otp {s t : State} (h : t.otp = s.otp) (l : List Nat) :
    t.fwRule (t.fwCheck l) = s.fwRule (s.fwCheck l) := by
  unfold State.fwRule State.fwCheck State.factorySigned
  rw [State.siteSigned_of_otp h, h]

/-! ### Firmware -/

/-- A firmware image with the signatures that the life cycle asks for, and no older than the oldest admitted, goes to the bank
that is not running (R362, R391). -/
theorem State.storeFw_stores {s : State} {v : BitVec 16} {l : List Nat} (hr : s.fwRule (s.fwCheck l) = true)
    (hv : s.get Fld.CERK_FW_MIN_MIN_VER ≤ v.toNat) :
    (s.storeFw (some v) l).1.flash.fw = s.flash.fw.set (1 - s.get Fld.PLAT_FW_ST_ACT_BANK) (some ⟨v.toNat, some l⟩) := by
  simp only [State.storeFw, hr, Bool.not_true, Bool.false_eq_true, if_false, if_neg (Nat.not_lt.mpr hv)]
  rfl

/-- FW_IMAGE (R362): nothing between its fetch and its end touches the bank that it has stored. -/
theorem fwImage_stores {p : Port} {ring : Fin 64} {v : BitVec 16} {n : Nat} {d : Desc} {s : State} (hp : s.powered = true)
    (hh : s.headCmd p ring opFw = some (n, d)) (hd : s.domDown domCerk = false) (hf : s.cmdFits p ring n = true)
    (ha : s.inAlarm = false) (hv : s.get Fld.CERK_FW_MIN_MIN_VER ≤ v.toNat)
    (hr : s.fwRule (s.fwCheck (s.payload p ring n)) = true) :
    Answers (.fwImage p ring (some v)) s fun t =>
      t.flash.fw = s.flash.fw.set (1 - s.get Fld.PLAT_FW_ST_ACT_BANK) (some ⟨v.toNat, some (s.payload p ring n)⟩) := by
  obtain ⟨ht, -, -⟩ := State.headCmd_some hh
  have hin := s.fetched_within p ring n
  have hkept := s.fetched_keeps p ring n
  have hstored := State.storeFw_stores (s := s.fetched p ring n) (v := v) (l := s.payload p ring n)
    (by rw [State.fwRule_of_otp hkept.otp, hr]) (by rw [hin.regs.get _ (by decide)]; exact hv)
  rw [hin.parts .flash (by decide), hin.regs.get _ (by decide)] at hstored
  refine .run (exec_fwImage p ring (some v) s) hp ?_
  rw [State.holdMost_flash, hh]
  dsimp only
  rw [hd, ha, if_neg Bool.false_ne_true, if_neg Bool.false_ne_true, ← hstored, ← State.payload_fetched ht]
  exact congrArg FlashSt.fw ((State.staged_within hf rfl).parts .flash (by decide))

/-! ### Graphs -/

/-- The idle bank depends on the graph and on which bank is active. -/
theorem State.idleBank_congr {s t : State} (hd : t.dsp = s.dsp) (ha : t.on Fld.DSP_STATUS_ACT_BANK = s.on Fld.DSP_STATUS_ACT_BANK) :
    t.idleBank = s.idleBank := by
  unfold State.idleBank
  rw [hd, ha]

@[simp] theorem State.holdMost_idleBank (s t : State) : (s.holdMost t).idleBank = t.idleBank := rfl

@[simp] theorem State.setIdleBank_regs (s : State) (b : Option GBank) : (s.setIdleBank b).regs = s.regs := by
  unfold State.setIdleBank
  split <;> rfl

@[simp] theorem State.idleBank_setIdleBank (s : State) (b : Option GBank) : (s.setIdleBank b).idleBank = b := by
  unfold State.idleBank
  rw [State.on_of_regs (s.setIdleBank_regs b)]
  unfold State.setIdleBank
  split <;> rfl

/-- Admission depends on the limit and the media rate alone (R220). -/
theorem State.admission_congr {s t : State} (hl : t.get Fld.DSP_CFG_ADMIT_PCT = s.get Fld.DSP_CFG_ADMIT_PCT)
    (hr : t.get Fld.FAB_CFG_RATE = s.get Fld.FAB_CFG_RATE) (g : GImage) : t.admission g = s.admission g := by
  unfold State.admission
  rw [hl, hr]

theorem State.admission_unloaded (s : State) (g : GImage) :
    (s.flag Fld.DSP_STATUS_IDLE_VALID false).admission g = s.admission g :=
  State.admission_congr (State.get_flag_apart _ _ _ _ (by decide) (by decide))
    (State.get_flag_apart _ _ _ _ (by decide) (by decide)) g

/-- What a load with result 1 leaves: the image in the idle bank, valid, and its result (R231). -/
def State.graphLoaded (s : State) (g : GImage) (l : List Nat) : State :=
  ((((s.flag Fld.DSP_STATUS_IDLE_VALID false).put Fld.DSP_STATUS_LOAD_RESULT 1).setIdleBank
    (some ⟨g, g.params, g.params, [], l⟩)).flag Fld.DSP_STATUS_IDLE_VALID true)

/-- A verified image loads with result 1 where no swap is armed and it is admitted (R231). -/
theorem State.loadGraph_admitted {s : State} {g : GImage} {l : List Nat} (ha : s.on Fld.DSP_STATUS_GRAPH_ARMED = false)
    (hh : g.header = true) (hg : s.admission g = 1) : s.loadGraph g l true = (s.graphLoaded g l, 1) := by
  simp only [State.loadGraph, ha, hh, State.admission_unloaded, hg, Bool.not_true, Bool.false_eq_true, if_false, if_true]
  rfl

/-- A verified image's code where no swap is armed (R231). -/
theorem State.loadGraph_code {s : State} {g : GImage} {l : List Nat} (ha : s.on Fld.DSP_STATUS_GRAPH_ARMED = false) :
    (s.loadGraph g l true).2 = if !g.header then 10 else s.admission g := by
  simp only [State.loadGraph, ha, Bool.not_true, Bool.false_eq_true, if_false, State.admission_unloaded]
  generalize (if (!g.header) = true then 10 else s.admission g) = r
  split
  case isTrue h => exact h.symm
  case isFalse => rfl

/-- Result 1 says that no swap is armed and that the image is admitted (R231). -/
theorem State.admitted_of_loadGraph {s : State} {g : GImage} {l : List Nat} (h : (s.loadGraph g l true).2 = 1) :
    s.on Fld.DSP_STATUS_GRAPH_ARMED = false ∧ g.header = true ∧ s.admission g = 1 := by
  by_cases ha : s.on Fld.DSP_STATUS_GRAPH_ARMED = true
  · rw [State.loadGraph, if_pos ha] at h
    cases h
  · rw [State.loadGraph_code (by simpa using ha)] at h
    split at h
    · cases h
    case isFalse hh => exact ⟨by simpa using ha, by simpa using hh, h⟩

theorem State.graphLoaded_valid (s : State) (g : GImage) (l : List Nat) :
    (s.graphLoaded g l).on Fld.DSP_STATUS_IDLE_VALID = true := State.on_flag _ _ _ (by decide) rfl

theorem State.graphLoaded_result (s : State) (g : GImage) (l : List Nat) :
    (s.graphLoaded g l).get Fld.DSP_STATUS_LOAD_RESULT = 1 := by
  unfold State.graphLoaded
  rw [State.get_flag_apart _ _ _ _ (by decide) (by decide), State.get_of_regs (State.setIdleBank_regs _ _),
    State.get_put _ _ _ (by decide)]
  rfl

theorem State.graphLoaded_idleBank (s : State) (g : GImage) (l : List Nat) :
    (s.graphLoaded g l).idleBank = some ⟨g, g.params, g.params, [], l⟩ := by
  unfold State.graphLoaded
  rw [State.idleBank_congr (State.flag_dsp _ _ _) (State.on_flag_apart _ _ _ _ (by decide) (by decide)),
    State.idleBank_setIdleBank]

/-- GRAPH_IMAGE (R231): what admits the image before its data are fetched admits it then. -/
theorem graphImage_loads {p : Port} {ring : Fin 64} {img : GImage} {n : Nat} {d : Desc} {s : State} (hp : s.powered = true)
    (hh : s.headCmd p ring opGraph = some (n, d)) (hd : s.domDown domCerk = false) (hf : s.cmdFits p ring n = true)
    (hi : s.siteImages = true) (hl : (s.loadGraph img (s.payload p ring n) true).2 = 1)
    (hs : s.siteSigned (s.payload p ring n) = true) :
    Answers (.graphImage p ring img d.cookie) s fun t =>
      t.on Fld.DSP_STATUS_IDLE_VALID = true ∧ t.idleBank = some ⟨img, img.params, img.params, [], s.payload p ring n⟩ ∧
      t.get Fld.DSP_STATUS_LOAD_RESULT = 1 := by
  obtain ⟨ht, -, -⟩ := State.headCmd_some hh
  obtain ⟨harmed, hheader, hadm⟩ := State.admitted_of_loadGraph hl
  have hin := s.fetched_within p ring n
  have hotp := (s.fetched_keeps p ring n).otp
  have hstore : (s.fetched p ring n).storeGraph img ((s.fetched p ring n).payload p ring n) =
      ((s.fetched p ring n).graphLoaded img (s.payload p ring n), resApplied, 0) := by
    unfold State.storeGraph
    rw [State.payload_fetched ht, State.siteSigned_of_otp hotp, State.siteImages_of_otp hotp, hs, hi, Bool.and_true,
      State.loadGraph_admitted (by rw [hin.regs.on _ (by decide), harmed]) hheader
        (by rw [State.admission_congr (hin.regs.get _ (by decide)) (hin.regs.get _ (by decide)), hadm])]
    exact if_pos rfl
  have hleft : ∀ t, ((s.fetched p ring n).graphLoaded img (s.payload p ring n)).Within [0x48] [.mem] t →
      t.on Fld.DSP_STATUS_IDLE_VALID = true ∧ t.idleBank = some ⟨img, img.params, img.params, [], s.payload p ring n⟩ ∧
      t.get Fld.DSP_STATUS_LOAD_RESULT = 1 := fun t h => by
    rw [h.regs.on _ (by decide), h.regs.get _ (by decide),
      State.idleBank_congr (h.parts .dsp (by decide)) (h.regs.on _ (by decide))]
    exact ⟨State.graphLoaded_valid _ _ _, State.graphLoaded_idleBank _ _ _, State.graphLoaded_result _ _ _⟩
  refine .run (exec_graphImage p ring img d.cookie s) hp ?_
  rw [State.holdMost_on, State.holdMost_get, State.holdMost_idleBank, hh]
  dsimp only
  rw [hd, show cmdNamed d d.cookie = true from decide_eq_true rfl, if_neg (by decide)]
  exact hleft _ (State.staged_within (result := resApplied) (det := 0) hf (by rw [hstore]))

/-! ### Messages -/

/-- The words of the alarm table are reached by neither telling nor the pool. -/
theorem crownKey_apart (w : Nat) : (tellKey (indKey 0x38 w) || [0x48].contains (keyCode (indKey 0x38 w))) = false := by
  have h : indKey 0x38 w ≠ 0x20 := by have := indKey_above 0x38 w; omega
  unfold tellKey
  rw [keyCode_ind, decide_eq_false h]
  decide

/-- Whether the ALARM rule refuses a message depends on the mode, the active entries and the allowances (R322, R380). -/
theorem State.msgLocked_fetched (s : State) (p : Port) (ring n m : Nat) : (s.fetched p ring n).msgLocked m = s.msgLocked m := by
  have hin := s.fetched_within p ring n
  have hword (e i : Nat) : (s.fetched p ring n).entryWord e i = s.entryWord e i := hin.regs _ (crownKey_apart _)
  unfold State.msgLocked State.msgNamed State.entryOn State.entries State.entryA State.entryB
  rw [(s.fetched_keeps p ring n).inAlarm, hin.parts .cerk (by decide), hin.regs.get _ (by decide)]
  simp only [hword]

/-- A message stored in the place of the one of its number (R322). -/
def State.withMessage (s : State) (m : MsgRec) : State :=
  { s with flash := { s.flash with msgs := s.flash.msgs.filter (·.num ≠ m.num) ++ [m] } }

/-- A signed message for which there is room replaces the one of its number (R322, R391). -/
theorem State.storeMsg_stores {s : State} {l : List Nat} (hs : s.siteSigned l = true) (hi : s.siteImages = true)
    (hroom : sumOf ((s.flash.msgs.filter (·.num ≠ (msgOf l).num)).map fun x => msgOctets x.samples.length) +
      msgOctets (msgOf l).samples.length ≤ 8388608) :
    s.storeMsg l = (s.withMessage (msgOf l), resApplied) := by
  simp only [State.storeMsg, hs, hi, Bool.and_true, Bool.not_true, Bool.false_eq_true, if_false]
  exact if_neg (Nat.not_lt.mpr hroom)

/-- MSG_IMAGE (R322). -/
theorem msgImage_stores {p : Port} {ring : Fin 64} {n : Nat} {d : Desc} {s : State} (hp : s.powered = true)
    (hh : s.headCmd p ring opMsg = some (n, d)) (hd : s.domDown domCerk = false) (hf : s.cmdFits p ring n = true)
    (hform : msgForm (s.payload p ring n) = true) (hlock : s.msgLocked (msgOf (s.payload p ring n)).num = false)
    (hi : s.siteImages = true)
    (hroom : sumOf ((s.flash.msgs.filter (·.num ≠ (msgOf (s.payload p ring n)).num)).map fun x => msgOctets x.samples.length) +
      msgOctets (msgOf (s.payload p ring n)).samples.length ≤ 8388608)
    (hs : s.siteSigned (s.payload p ring n) = true) :
    Answers (.msgImage p ring d.cookie) s fun t =>
      t.flash.msgs = s.flash.msgs.filter (·.num ≠ (msgOf (s.payload p ring n)).num) ++ [msgOf (s.payload p ring n)] := by
  have hotp := (s.fetched_keeps p ring n).otp
  have hflash : (s.fetched p ring n).flash = s.flash := (s.fetched_within p ring n).parts .flash (by decide)
  have hstore := State.storeMsg_stores (s := s.fetched p ring n) (l := s.payload p ring n)
    (by rw [State.siteSigned_of_otp hotp, hs]) (by rw [State.siteImages_of_otp hotp, hi]) (by rw [hflash]; exact hroom)
  have hlocked : (s.fetched p ring n).msgLocked ((s.payload p ring n).getD 5 0) = false := by
    rw [State.msgLocked_fetched]
    exact hlock
  refine .run (exec_msgImage p ring d.cookie s) hp ?_
  rw [State.holdMost_flash, hh]
  dsimp only
  rw [hd, show cmdNamed d d.cookie = true from decide_eq_true rfl, if_neg (by decide)]
  have hleft : ∀ t, ((s.fetched p ring n).withMessage (msgOf (s.payload p ring n))).Within [0x48] [.mem] t → t.flash.msgs =
      s.flash.msgs.filter (·.num ≠ (msgOf (s.payload p ring n)).num) ++ [msgOf (s.payload p ring n)] := fun t h => by
    rw [h.parts .flash (by decide), ← hflash]
    rfl
  exact hleft _ (State.staged_within (result := resApplied) (det := 0) hf
    (by simp only [hform, hlocked, hstore, Bool.not_true, Bool.false_eq_true, if_false]))

/-- MSG_DELETE removes the message that its descriptor names (R412). -/
theorem msgDelete_removes {p : Port} {ring : Fin 64} {n : Nat} {d : Desc} {s : State} (hp : s.powered = true)
    (hh : s.headCmd p ring opDelete = some (n, d)) (hl : s.msgLocked (d.spec % 64) = false) :
    Answers (.msgDelete p ring) s fun t => t.flash.msgs = s.flash.msgs.filter (·.num ≠ d.spec % 64) := by
  refine .run (exec_msgDelete p ring s) hp ?_
  rw [State.holdMost_flash, hh]
  dsimp only
  rw [hl, if_neg Bool.false_ne_true, (State.Tells.endCmd _ p ring n resApplied 0).flash_eq]

/-- Settles O36: each image is stored as its operation stores it, MSG_DELETE removes its message, and a NOP completes. -/
theorem imagesComplete : Obligations.ImagesComplete :=
  ⟨fun _ _ _ _ _ _ hp hh hd hf ha hv hr => fwImage_stores hp hh hd hf ha hv hr,
    fun _ _ _ _ _ _ hp hh hd hf hi hl hs => graphImage_loads hp hh hd hf hi hl hs,
    fun _ _ _ _ _ _ hp hh hd hf hform hm hlock hi hroom hs =>
      hm ▸ msgImage_stores hp hh hd hf hform (hm ▸ hlock) hi (hm ▸ hroom) hs,
    fun _ _ _ _ _ hp hh hl => msgDelete_removes hp hh hl,
    fun _ _ _ _ _ hp hh hn hl hm => nop_completes hp hh hn hl hm⟩

end Sys2Proof.Machine
end

section
/-! TDM ports (R240, R243, R245). A port's state stands in a field of its status word, which its event and the feeds of its
slots leave; what else a command leaves of the port stands beside the registers. -/

namespace Sys2Proof.Machine

/-! ### The registers of LAP -/

/-- Telling reaches no register of LAP. -/
theorem tellKey_lap {k : Nat} (h : 0x280000 ≤ k) (h2 : k < 0x290000) : tellKey k = false := by
  have hc : keyCode k = 0x28 := keyCode_reg k 0x28 h h2 (by decide)
  have hk : k ≠ 0x20 := by omega
  simp [tellKey, hc, hk]

/-- The registers of a port, receiver or transmitter are a row of LAP's (R254). -/
theorem tellKey_lapRow {b n step : Nat} (h1 : 0x280000 ≤ b) (h2 : b + 4 * step < 0x290000) :
    tellKey (b + min n 4 * step) = false := by
  have hm : min n 4 * step ≤ 4 * step := Nat.mul_le_mul_right step (Nat.min_le_right n 4)
  exact tellKey_lap (by omega) (by omega)

/-- What stays within components alone leaves every field that telling does not reach. -/
theorem State.Within.get_eq {P : List Part} {s t : State} (h : s.Within [] P t) {f : Fld} (hf : tellKey f.addr = false) :
    t.get f = s.get f := h.regs.get f (Bool.or_eq_false_iff.mpr ⟨hf, rfl⟩)

/-! ### A port and its status word -/

/-- The status word of a TDM port (R254). -/
def tdmStAddr (p : Nat) : Nat := 0x28010C + min p 4 * 0x20

theorem tellKey_tdmSt (p : Nat) : tellKey (tdmStAddr p) = false := tellKey_lapRow (by decide) (by decide)

theorem State.tdmSt_put (s : State) (p : Nat) {v : Nat} (hv : v < 8) : (s.put (Fld.LAP_TDM_ST_STATE p) v).tdmSt p = v :=
  (State.get_put s _ v ⟨Nat.zero_le 2, show 2 < 32 by decide⟩).trans (Nat.mod_eq_of_lt hv)

/-- RATE_HZ stands apart from STATE. -/
@[simp] theorem State.tdmSt_showRate (s : State) (p rate : Nat) : (s.showRate p rate).tdmSt p = s.tdmSt p :=
  State.get_put_apart s (Fld.LAP_TDM_ST_RATE_HZ p) _ _ ⟨show 8 ≤ 25 by decide, show 25 < 32 by decide⟩
    (.inr (.inr (show 2 < 8 by decide)))

/-- A port without a clock shows no rate (R243). -/
theorem State.showRate_zero (s : State) (p : Nat) : (s.showRate p 0).get (Fld.LAP_TDM_ST_RATE_HZ p) = 0 :=
  State.get_put s _ _ ⟨show 8 ≤ 25 by decide, show 25 < 32 by decide⟩

@[simp] theorem State.tdmSt_setTdm (s : State) (p q : Nat) (x : TdmPort) : (s.setTdm p x).tdmSt q = s.tdmSt q := rfl
@[simp] theorem State.tdmSt_holdMost (s t : State) (p : Nat) : (s.holdMost t).tdmSt p = t.tdmSt p := State.holdMost_get s t _

/-- The port kept after one is replaced. -/
theorem State.tdm_setTdm (s : State) (p q : Nat) (x : TdmPort) :
    (s.setTdm p x).tdm q = if p = q ∧ p < s.lap.tdm.length then x else s.tdm q := by
  unfold State.tdm State.setTdm
  by_cases h : p = q
  · subst h
    by_cases hl : p < s.lap.tdm.length <;> simp [hl]
  · simp [h]

theorem State.tdm_setTdm_same {s : State} {p : Nat} (x : TdmPort) (h : p < s.lap.tdm.length) : (s.setTdm p x).tdm p = x := by
  rw [State.tdm_setTdm, if_pos ⟨rfl, h⟩]

@[simp] theorem State.setTdm_tdm_length (s : State) (p : Nat) (x : TdmPort) :
    (s.setTdm p x).lap.tdm.length = s.lap.tdm.length := List.length_set

theorem State.tdm_of_lap {s t : State} (h : t.lap = s.lap) (p : Nat) : t.tdm p = s.tdm p := by unfold State.tdm; rw [h]

@[simp] theorem State.tdm_put (s : State) (f : Fld) (v p : Nat) : (s.put f v).tdm p = s.tdm p := rfl
@[simp] theorem State.tdm_showRate (s : State) (p q rate : Nat) : (s.showRate p rate).tdm q = s.tdm q :=
  State.tdm_put s _ _ q
@[simp] theorem State.tdm_holdMost (s t : State) (p : Nat) : (s.holdMost t).tdm p = t.tdm p := rfl

@[simp] theorem State.showRate_lap (s : State) (p rate : Nat) : (s.showRate p rate).lap = s.lap := State.put_lap s _ _

/-- The samples of a millisecond follow the media rate, which no register of LAP holds. -/
theorem State.msSamples_showRate (s : State) (p rate : Nat) : (s.showRate p rate).msSamples = s.msSamples := by
  have hin := (State.Within.refl (B := [0x28]) (P := []) s).showRate (by decide) p rate
  unfold State.msSamples State.k
  rw [hin.regs.on Fld.FAB_CFG_RATE (by decide)]

/-! ### The event, the feeds and the operations -/

@[simp] theorem State.tdmSt_clkEvent (s : State) (p q : Nat) : (s.clkEvent p).tdmSt q = s.tdmSt q :=
  (State.Within.clkEvent (B := []) (P := [.lap]) (.refl s) (by decide) p).get_eq (f := Fld.LAP_TDM_ST_STATE q)
    (tellKey_tdmSt q)

/-- Event 32 leaves of a port all but the instant at which it was last raised (R243). -/
theorem State.clkEvent_tdm (s : State) (p : Nat) : ∃ e, (s.clkEvent p).tdm p = { s.tdm p with ev32 := e } := by
  unfold State.clkEvent
  dsimp only
  split
  case isTrue =>
    rw [State.tdm_of_lap (State.Tells.raise _ 32 0x28 _).lap_eq, State.tdm_setTdm]
    split
    · exact ⟨_, rfl⟩
    · exact ⟨_, rfl⟩
  case isFalse => exact ⟨_, rfl⟩

/-- Feeding slots reaches the fabric alone (R212). -/
theorem State.feeds_within (s : State) (p : Nat) (l : List Nat) :
    s.Within [] [.fab] (l.foldl (fun (t : State) n => t.feed (tdmIo p n)) s) :=
  .foldl (fun _ _ hu => hu.feed (by decide) _) l (.refl s)

theorem State.unfeeds_within (s : State) (p : Nat) (l : List Nat) :
    s.Within [] [.fab] (l.foldl (fun (t : State) n => t.unfeed (tdmIo p n)) s) :=
  .foldl (fun _ _ hu => hu.unfeed (by decide) _) l (.refl s)

@[simp] theorem State.tdmSt_feeds (s : State) (p q : Nat) (l : List Nat) :
    (l.foldl (fun (t : State) n => t.feed (tdmIo p n)) s).tdmSt q = s.tdmSt q :=
  (s.feeds_within p l).get_eq (f := Fld.LAP_TDM_ST_STATE q) (tellKey_tdmSt q)

@[simp] theorem State.tdm_feeds (s : State) (p q : Nat) (l : List Nat) :
    (l.foldl (fun (t : State) n => t.feed (tdmIo p n)) s).tdm q = s.tdm q :=
  State.tdm_of_lap ((s.feeds_within p l).parts .lap (by decide)) q

/-- A port that runs shows it and keeps the rate that it has locked (R243). -/
theorem State.tdmRun_runs {s : State} {p : Nat} (h : p < s.lap.tdm.length) :
    (s.tdmRun p).tdmSt p = 2 ∧ ((s.tdmRun p).tdm p).rate = (s.tdm p).rate := by
  unfold State.tdmRun
  dsimp only
  rw [State.tdmSt_feeds, State.tdm_feeds, State.tdm_put, State.tdm_setTdm_same _ h]
  exact ⟨State.tdmSt_put _ p (by decide), rfl⟩

/-- A port in OFF keeps nothing but the instant of its last event (R245, R253). -/
theorem State.tdmOff_off {s : State} {p : Nat} (h : p < s.lap.tdm.length) :
    (s.tdmOff p).tdmSt p = 0 ∧ (s.tdmOff p).tdm p = { TdmPort.reset with ev32 := (s.tdm p).ev32 } := by
  have hlap := (s.unfeeds_within p ((s.tdm p).rx ++ (s.tdm p).leaving)).parts .lap (by decide)
  unfold State.tdmOff
  dsimp only
  rw [State.tdmSt_showRate, State.tdm_showRate, State.tdm_put, State.tdm_setTdm_same _ (hlap.symm ▸ h)]
  exact ⟨State.tdmSt_put _ p (by decide), rfl⟩

/-- A port that retracks shows it, and its inputs ramp out unless they are silent already (R240, R243). -/
theorem State.enterRetrack_mutes {s : State} {p : Nat} (h : p < s.lap.tdm.length) :
    ((s.enterRetrack p).tdm p).inR =
      if (s.tdm p).inR.g1 = 0 then (s.tdm p).inR else ⟨(s.tdm p).inR.value, 0, 0, s.msSamples⟩ := by
  unfold State.enterRetrack
  rw [State.tdm_put, State.tdm_setTdm_same _ h]
  rfl

theorem State.enterRetrack_state (s : State) (p : Nat) : (s.enterRetrack p).tdmSt p = 4 := State.tdmSt_put _ p (by decide)

/-! ### The commands -/

section
variable {p : Fin 4} {rate : Nat} {s : State}

/-- The place of a port among the four. -/
theorem tdm_lt (h : s.lap.tdm.length = 4) : p.val < s.lap.tdm.length := Nat.lt_of_lt_of_eq p.isLt h.symm

/-- TDM_SLAVE_LOCKED (R239, R243): a slave that has measured frames of a rate that it may lock runs at that rate. -/
theorem tdmSlaveLocked_runs (hp : s.powered = true) (hr : s.lapRuns = true) (hs : s.tdmSt p = 1) (hm : s.tdmMaster p = false)
    (hc : s.tdmCompat p = false)
    (hrate : s.tdmAsync p = true ∧ portRate rate = true ∨ s.tdmAsync p = false ∧ withinPpm rate s.fsMilli 100 = true)
    (hb : (s.tdm p).bits.isSome = true) (hl : s.lap.tdm.length = 4) :
    Answers (.tdmSlaveLocked p rate) s fun t => t.tdmSt p = 2 ∧ (t.tdm p).rate = rate := by
  have hmay : (!s.tdmAsync p || portRate rate) = true := by rcases hrate with ⟨_, h⟩ | ⟨h, _⟩ <;> simp [h]
  have hfs : (!s.tdmAsync p && !withinPpm rate s.fsMilli 100) = false := by
    rcases hrate with ⟨h, _⟩ | ⟨_, h⟩ <;> simp [h]
  refine .run (exec_tdmSlaveLocked p rate s) hp ?_
  rw [State.tdmSt_holdMost, State.tdm_holdMost, State.when_on _ _ _ (by simp [hr, hs, hm, hb, hmay])]
  simp only [hfs, hc, Bool.false_eq_true, if_false]
  obtain ⟨hrun, hkept⟩ := State.tdmRun_runs (p := p)
    (s := (s.setTdm p { s.tdm p with rate := rate, since := some s.time.now }).showRate p rate)
    (Nat.lt_of_lt_of_eq (tdm_lt hl) (s.setTdm_tdm_length p _).symm)
  rw [State.tdm_showRate, State.tdm_setTdm_same _ (tdm_lt hl)] at hkept
  exact ⟨hrun, hkept⟩

/-- TDM_SLAVE_LOCKED off fs: a synchronous slave retracks (R240). -/
theorem tdmSlaveLocked_retracks (hp : s.powered = true) (hr : s.lapRuns = true) (hs : s.tdmSt p = 1)
    (hm : s.tdmMaster p = false) (ha : s.tdmAsync p = false) (hfs : withinPpm rate s.fsMilli 100 = false)
    (hb : (s.tdm p).bits.isSome = true) : Answers (.tdmSlaveLocked p rate) s fun t => t.tdmSt p = 4 := by
  refine .run (exec_tdmSlaveLocked p rate s) hp ?_
  rw [State.tdmSt_holdMost, State.when_on _ _ _ (by simp [hr, hs, hm, hb, ha])]
  simp only [ha, hfs, Bool.not_false, Bool.and_true, if_true]
  rw [State.tdmSt_clkEvent]
  exact State.tdmSt_put _ p (by decide)

/-- TDM_PREROLL_END (R243). -/
theorem tdmPrerollEnd_readies (hp : s.powered = true) (hs : s.tdmSt p = 1) (hc : s.tdmCompat p = true)
    (hz : s.tdmRate p ≠ 0) (hn : s.prerolled p = true) (hl : s.lap.tdm.length = 4) :
    Answers (.tdmPrerollEnd p) s fun t => (t.tdm p).ready = true := by
  refine .run (exec_tdmPrerollEnd p s) hp ?_
  rw [State.tdm_holdMost, State.when_on _ _ _ (by simp [hs, hc, hz, hn]), State.tdm_setTdm_same _ (tdm_lt hl)]

/-- TDM_CLK_LOSS (R243): the hold begins, and no rate is shown. -/
theorem tdmClkLoss_holds (hp : s.powered = true) (hs : s.tdmSt p = 2) (hm : s.tdmMaster p = false)
    (hl : s.lap.tdm.length = 4) :
    Answers (.tdmClkLoss p) s fun t =>
      t.tdmSt p = 3 ∧ (t.tdm p).hold = true ∧ t.get (Fld.LAP_TDM_ST_RATE_HZ p) = 0 := by
  refine .run (exec_tdmClkLoss p s) hp ?_
  rw [State.tdmSt_holdMost, State.tdm_holdMost, State.holdMost_get, State.when_on _ _ _ (by simp [hs, hm]),
    State.tdmSt_showRate, State.tdmSt_clkEvent, State.tdm_showRate]
  refine ⟨State.tdmSt_put _ p (by decide), ?_, State.showRate_zero _ p⟩
  obtain ⟨e, he⟩ := State.clkEvent_tdm
    ((s.setTdm p { s.tdm p with hold := true, gap := true, since := some s.time.now }).put (Fld.LAP_TDM_ST_STATE p) 3) p
  rw [he, State.tdm_put, State.tdm_setTdm_same _ (tdm_lt hl)]

/-- TDM_CLK_HOLD_END (R243): the inputs ramp out over 1 ms. -/
theorem tdmClkHoldEnd_ramps (hp : s.powered = true) (hs : s.tdmSt p = 3) (hh : (s.tdm p).hold = true)
    (h1 : s.held1ms p = true) (hl : s.lap.tdm.length = 4) :
    Answers (.tdmClkHoldEnd p) s fun t =>
      (t.tdm p).hold = false ∧ (t.tdm p).inR = ⟨(s.tdm p).inR.value, 0, 0, s.msSamples⟩ ∧ t.tdmSt p = 3 := by
  refine .run (exec_tdmClkHoldEnd p s) hp ?_
  rw [State.tdmSt_holdMost, State.tdm_holdMost, State.when_on _ _ _ (by simp [hs, hh, h1]), State.tdmSt_setTdm,
    State.tdm_setTdm_same _ (tdm_lt hl)]
  exact ⟨rfl, rfl, hs⟩

/-- TDM_CLK_RETURN (R243): the port runs on within the hold and 200 ppm, and retracks otherwise. -/
theorem tdmClkReturn_resumes (hp : s.powered = true) (hs : s.tdmSt p = 3) :
    Answers (.tdmClkReturn p rate) s fun t =>
      t.tdmSt p =
        (if (s.tdm p).hold = true ∧ s.held1ms p = false ∧ withinPpm rate (s.tdm p).rate 200 = true then 2 else 4) := by
  refine .run (exec_tdmClkReturn p rate s) hp ?_
  rw [State.tdmSt_holdMost, State.when_on _ _ _ (by simp [hs])]
  by_cases hon : (s.tdm p).hold = true ∧ s.held1ms p = false ∧ withinPpm rate (s.tdm p).rate 200 = true
  · obtain ⟨hh, h1, hw⟩ := hon
    simp only [hh, h1, hw, Bool.not_false, Bool.and_true, and_self, if_true]
    exact State.tdmSt_put _ p (by decide)
  · have hoff : ((s.tdm p).hold && !s.held1ms p && withinPpm rate (s.tdm p).rate 200) = false := by
      simpa [and_assoc] using hon
    simp only [hoff, hon, Bool.false_eq_true, if_false]
    exact State.enterRetrack_state _ p

/-- TDM_RETRACK (R240, R243). -/
theorem tdmRetrack_mutes (hp : s.powered = true) (hs : s.tdmSt p = 2) (hm : s.tdmMaster p = false)
    (hw : withinPpm rate (s.tdm p).rate 1000 = false ∨ s.misframed p = true ∨
      (s.tdmAsync p = false ∧ withinPpm rate s.fsMilli 100 = false)) (hl : s.lap.tdm.length = 4) :
    Answers (.tdmRetrack p rate) s fun t =>
      t.tdmSt p = 4 ∧
        (t.tdm p).inR = (if (s.tdm p).inR.g1 = 0 then (s.tdm p).inR else ⟨(s.tdm p).inR.value, 0, 0, s.msSamples⟩) := by
  refine .run (exec_tdmRetrack p rate s) hp ?_
  rw [State.tdmSt_holdMost, State.tdm_holdMost, State.when_on _ _ _ (by simpa [hs, hm, or_assoc] using hw),
    State.tdmSt_clkEvent]
  refine ⟨State.enterRetrack_state _ p, ?_⟩
  obtain ⟨e, he⟩ := State.clkEvent_tdm ((s.showRate p rate).enterRetrack p) p
  have hmuted := State.enterRetrack_mutes (s := s.showRate p rate) (tdm_lt (p := p) (by rw [State.showRate_lap, hl]))
  rw [State.tdm_showRate, State.msSamples_showRate] at hmuted
  rw [he]
  exact hmuted

/-- TDM_RETRACK_END (R243): the port runs at the rate, and its outputs ramp in. -/
theorem tdmRetrackEnd_runs (hp : s.powered = true) (hr : s.lapRuns = true) (hs : s.tdmSt p = 4)
    (hrate : if s.tdmAsync p = true then 32000000 ≤ rate ∧ rate ≤ 192000000 else withinPpm rate s.fsMilli 100 = true)
    (hl : s.lap.tdm.length = 4) :
    Answers (.tdmRetrackEnd p rate) s fun t =>
      t.tdmSt p = 2 ∧ (t.tdm p).rate = rate ∧ (t.tdm p).outR = ⟨0, 0x3F800000, 0, s.msSamples⟩ := by
  have hmay : (if s.tdmAsync p then portRate rate else withinPpm rate s.fsMilli 100) = true := by
    split at hrate
    case isTrue h => simpa [h, portRate] using hrate
    case isFalse h => simpa [h] using hrate
  refine .run (exec_tdmRetrackEnd p rate s) hp ?_
  rw [State.tdmSt_holdMost, State.tdm_holdMost, State.when_on _ _ _ (by simp [hr, hs, hmay])]
  dsimp only
  rw [State.tdmSt_feeds, State.tdm_feeds, State.tdm_put, State.tdm_showRate, State.tdm_setTdm_same _ (tdm_lt hl)]
  exact ⟨State.tdmSt_put _ p (by decide), rfl, rfl⟩

/-- TDM_STOP_COMPLETE (R245, R253): the port is OFF, with no slot and no ASRC channel left. -/
theorem tdmStopComplete_off (hp : s.powered = true) (hs : s.tdmSt p = 5) (hd : s.tdmStopped p = true)
    (hl : s.lap.tdm.length = 4) :
    Answers (.tdmStopComplete p) s fun t =>
      t.tdmSt p = 0 ∧ (t.tdm p).tx = [] ∧ (t.tdm p).asrcRx = [] ∧ (t.tdm p).asrcTx = [] := by
  obtain ⟨hoff, hleft⟩ := State.tdmOff_off (tdm_lt (p := p) hl)
  refine .run (exec_tdmStopComplete p s) hp ?_
  rw [State.tdmSt_holdMost, State.tdm_holdMost, State.when_on _ _ _ (by simp [hs, hd]), hleft]
  exact ⟨hoff, rfl, rfl, rfl⟩

end

/-- Settles O17: each command leaves its state in the port's status word and the rest in the port, and neither the event nor
the feeds undo it. -/
theorem tdmPortsComplete : Obligations.TdmPortsComplete :=
  ⟨fun _ _ _ hp hr hs hm ha hc hw hb hl => tdmSlaveLocked_runs hp hr hs hm hc (.inr ⟨ha, hw⟩) hb hl,
    fun _ _ _ hp hr hs hm ha hc hw hb hl => tdmSlaveLocked_runs hp hr hs hm hc (.inl ⟨ha, hw⟩) hb hl,
    fun _ _ _ hp hr hs hm ha hw hb => tdmSlaveLocked_retracks hp hr hs hm ha hw hb,
    fun _ _ hp hs hc hz hn hl => tdmPrerollEnd_readies hp hs hc hz hn hl,
    fun _ _ hp hs hm hl => tdmClkLoss_holds hp hs hm hl,
    fun _ _ hp hs hh h1 hl => tdmClkHoldEnd_ramps hp hs hh h1 hl,
    fun _ _ _ hp hs => tdmClkReturn_resumes hp hs,
    fun _ _ _ hp hs hm hw hl => tdmRetrack_mutes hp hs hm hw hl,
    fun _ _ _ hp hr hs hrate hl => tdmRetrackEnd_runs hp hr hs hrate hl,
    fun _ _ hp hs hd hl => tdmStopComplete_off hp hs hd hl⟩

end Sys2Proof.Machine
end

section
/-! AES3 receivers and transmitters (R247 to R252). What a command shows stands in the fields of one status word, which lie apart
from one another; what it keeps of the receiver or the transmitter stands beside the registers. -/

namespace Sys2Proof.Machine

/-! ### A receiver and its status word -/

/-- The status word of a receiver (R254). -/
def aesStAddr (r : Nat) : Nat := 0x280204 + min r 4 * 0x20

theorem tellKey_aesSt (r : Nat) : tellKey (aesStAddr r) = false := tellKey_lapRow (by decide) (by decide)

/-- The receiver kept after one is replaced. -/
theorem State.aes_setAes (s : State) (r q : Nat) (x : AesRx) :
    (s.setAes r x).aes q = if r = q ∧ r < s.lap.aes.length then x else s.aes q := by
  unfold State.aes State.setAes
  by_cases h : r = q
  · subst h
    by_cases hl : r < s.lap.aes.length <;> simp [hl]
  · simp [h]

theorem State.aes_setAes_same {s : State} {r : Nat} (x : AesRx) (h : r < s.lap.aes.length) : (s.setAes r x).aes r = x := by
  rw [State.aes_setAes, if_pos ⟨rfl, h⟩]

theorem State.aes_of_lap {s t : State} (h : t.lap = s.lap) (r : Nat) : t.aes r = s.aes r := by unfold State.aes; rw [h]

@[simp] theorem State.aes_put (s : State) (f : Fld) (v r : Nat) : (s.put f v).aes r = s.aes r := rfl
@[simp] theorem State.aes_flag (s : State) (f : Fld) (b : Bool) (r : Nat) : (s.flag f b).aes r = s.aes r := rfl
@[simp] theorem State.aes_bump (s : State) (f : Fld) (n r : Nat) : (s.bump f n).aes r = s.aes r :=
  State.aes_of_lap (s.bump_lap f n) r
@[simp] theorem State.aes_holdMost (s t : State) (r : Nat) : (s.holdMost t).aes r = t.aes r := rfl

/-- The seven rates of a receiver have the codes 1 to 7, and any other has the code 8 (R254). The function is unfolded before it is
applied: the kernel, asked whether `aesRate rate` is its own body, would compute with the rates of the table instead. -/
theorem aesRate_lt (rate : Nat) : aesRate rate < 16 := by
  suffices hall : ∀ f, f = aesRate → f rate < 16 from hall _ rfl
  intro f hf
  delta aesRate at hf
  subst hf
  dsimp only
  split
  case h_1 x hx =>
    have hmem := List.mem_of_find?_eq_some hx
    clear hx
    revert x
    decide
  case h_2 => decide

/-- LOCK, RATE and RETRACK as a receiver shows them. -/
def State.aesShows (s : State) (r : Nat) (lock : Bool) (rate : Nat) (retrack : Bool) : Prop :=
  s.on (Fld.LAP_AESR_ST_LOCK r) = lock ∧ s.get (Fld.LAP_AESR_ST_RATE r) = rate ∧ s.on (Fld.LAP_AESR_ST_RETRACK r) = retrack

section
variable {s : State} {r rate : Nat} {lock retrack : Bool}

theorem State.aesShows.putLock (h : s.aesShows r lock rate retrack) (b : Bool) :
    (s.flag (Fld.LAP_AESR_ST_LOCK r) b).aesShows r b rate retrack := by
  have hok : (Fld.LAP_AESR_ST_LOCK r).ok := ⟨Nat.le_refl 0, show 0 < 32 by decide⟩
  obtain ⟨_, hrate, hretrack⟩ := h
  exact ⟨State.on_flag s _ b hok rfl,
    (State.get_flag_apart s _ (Fld.LAP_AESR_ST_RATE r) b hok (.inr (.inl (show 0 < 4 by decide)))).trans hrate,
    (State.on_flag_apart s _ (Fld.LAP_AESR_ST_RETRACK r) b hok (.inr (.inl (show 0 < 13 by decide)))).trans hretrack⟩

theorem State.aesShows.putRate (h : s.aesShows r lock rate retrack) {v : Nat} (hv : v < 16) :
    (s.put (Fld.LAP_AESR_ST_RATE r) v).aesShows r lock v retrack := by
  have hok : (Fld.LAP_AESR_ST_RATE r).ok := ⟨show 4 ≤ 7 by decide, show 7 < 32 by decide⟩
  obtain ⟨hlock, _, hretrack⟩ := h
  exact ⟨(State.on_put_apart s _ _ v hok (.inr (.inr (show 0 < 4 by decide)))).trans hlock,
    (State.get_put s _ v hok).trans (Nat.mod_eq_of_lt hv),
    (State.on_put_apart s _ (Fld.LAP_AESR_ST_RETRACK r) v hok (.inr (.inl (show 7 < 13 by decide)))).trans hretrack⟩

theorem State.aesShows.putRetrack (h : s.aesShows r lock rate retrack) (b : Bool) :
    (s.flag (Fld.LAP_AESR_ST_RETRACK r) b).aesShows r lock rate b := by
  have hok : (Fld.LAP_AESR_ST_RETRACK r).ok := ⟨Nat.le_refl 13, show 13 < 32 by decide⟩
  obtain ⟨hlock, hrate, _⟩ := h
  exact ⟨(State.on_flag_apart s _ _ b hok (.inr (.inr (show 0 < 13 by decide)))).trans hlock,
    (State.get_flag_apart s _ _ b hok (.inr (.inr (show 7 < 13 by decide)))).trans hrate, State.on_flag s _ b hok rfl⟩

/-- VMUTED stands apart from LOCK, RATE and RETRACK. -/
theorem State.aesShows.putVmuted (h : s.aesShows r lock rate retrack) (v : Nat) :
    (s.put (Fld.LAP_AESR_ST_VMUTED r) v).aesShows r lock rate retrack := by
  have hok : (Fld.LAP_AESR_ST_VMUTED r).ok := ⟨show 10 ≤ 11 by decide, show 11 < 32 by decide⟩
  obtain ⟨hlock, hrate, hretrack⟩ := h
  exact ⟨(State.on_put_apart s _ _ v hok (.inr (.inr (show 0 < 10 by decide)))).trans hlock,
    (State.get_put_apart s _ _ v hok (.inr (.inr (show 7 < 10 by decide)))).trans hrate,
    (State.on_put_apart s _ (Fld.LAP_AESR_ST_RETRACK r) v hok (.inr (.inl (show 11 < 13 by decide)))).trans hretrack⟩

/-- What is shown is read from the status word alone. -/
theorem State.aesShows.of_rd {t : State} (h : s.aesShows r lock rate retrack) (hw : t.rd (aesStAddr r) = s.rd (aesStAddr r)) :
    t.aesShows r lock rate retrack := by
  obtain ⟨hlock, hrate, hretrack⟩ := h
  exact ⟨(State.on_of_rd (f := Fld.LAP_AESR_ST_LOCK r) hw).trans hlock,
    (State.get_of_rd (f := Fld.LAP_AESR_ST_RATE r) hw).trans hrate,
    (State.on_of_rd (f := Fld.LAP_AESR_ST_RETRACK r) hw).trans hretrack⟩

/-- What a receiver shows before a command. -/
theorem State.aesShows_self (s : State) (r : Nat) :
    s.aesShows r (s.on (Fld.LAP_AESR_ST_LOCK r)) (s.get (Fld.LAP_AESR_ST_RATE r)) (s.on (Fld.LAP_AESR_ST_RETRACK r)) :=
  ⟨rfl, rfl, rfl⟩

end

/-! ### Event 33 -/

theorem State.lockEvent_rd (s : State) (r : Nat) {k : Nat} (h : tellKey k = false) : (s.lockEvent r).rd k = s.rd k :=
  (State.Within.lockEvent (B := []) (P := [.lap]) (.refl s) (by decide) r).regs k (Bool.or_eq_false_iff.mpr ⟨h, rfl⟩)

/-- Event 33 leaves of a receiver all but the instant at which it was last raised (R247). -/
theorem State.lockEvent_aes (s : State) (r : Nat) : ∃ e, (s.lockEvent r).aes r = { s.aes r with ev33 := e } := by
  unfold State.lockEvent
  dsimp only
  split
  case isTrue =>
    rw [State.aes_of_lap (State.Tells.raise _ 33 0x28 _).lap_eq, State.aes_setAes]
    split
    · exact ⟨_, rfl⟩
    · exact ⟨_, rfl⟩
  case isFalse => exact ⟨_, rfl⟩

/-! ### Locking and retracking -/

section
variable {r : Fin 4} {rate : Nat} {s : State}

/-- The place of a receiver among the four. -/
theorem aes_lt (h : s.lap.aes.length = 4) : r.val < s.lap.aes.length := Nat.lt_of_lt_of_eq r.isLt h.symm

/-- AES3_LOCK (R247). -/
theorem aes3Lock_locks (hp : s.powered = true) (hr : s.lapRuns = true) (ho : (s.aes r).on = true)
    (hrate : portRate rate = true) (hk : s.on (Fld.LAP_AESR_ST_LOCK r) = false)
    (hsync : s.on (Fld.LAP_AESR_CFG_SYNC r) = true ∨ (s.aes r).asrc = true) (hl : s.lap.aes.length = 4) :
    Answers (.aes3Lock r rate) s fun t =>
      t.on (Fld.LAP_AESR_ST_LOCK r) = true ∧ t.get (Fld.LAP_AESR_ST_RATE r) = aesRate rate ∧
        t.on (Fld.LAP_AESR_ST_RETRACK r) = (s.on (Fld.LAP_AESR_CFG_SYNC r) && !withinPpm rate s.fsMilli 100) ∧
        (t.aes r).rate = rate := by
  have hfs : (s.on (Fld.LAP_AESR_CFG_SYNC r) && !withinPpm rate s.fsMilli 100) =
      !(!s.on (Fld.LAP_AESR_CFG_SYNC r) || withinPpm rate s.fsMilli 100) := by
    rw [Bool.not_or, Bool.not_not]
  refine .run (exec_aes3Lock r rate s) hp ?_
  rw [State.holdMost_on, State.holdMost_on, State.holdMost_get, State.aes_holdMost,
    State.when_on _ _ _ (by simpa [hr, ho, hk, hrate] using hsync), hfs]
  dsimp only
  generalize hu : ((State.flag _ (Fld.LAP_AESR_ST_LOCK r) true).put _ _).flag _ _ = u
  obtain ⟨e, he⟩ := u.lockEvent_aes r
  have hshown : u.aesShows r true (aesRate rate) (!(!s.on (Fld.LAP_AESR_CFG_SYNC r) || withinPpm rate s.fsMilli 100)) :=
    hu ▸ (((State.aesShows_self _ r).putLock true).putRate (aesRate_lt rate)).putRetrack _
  obtain ⟨hlock, hcode, hretrack⟩ := hshown.of_rd (u.lockEvent_rd r (tellKey_aesSt r))
  refine ⟨hlock, hcode, hretrack, ?_⟩
  rw [he, ← hu, State.aes_flag, State.aes_put, State.aes_flag, State.aes_setAes_same _ (aes_lt hl)]

/-- AES3_UNLOCK (R247). -/
theorem aes3Unlock_holds (hp : s.powered = true) (hk : s.on (Fld.LAP_AESR_ST_LOCK r) = true) (hl : s.lap.aes.length = 4)
    (hf : s.on (Fld.blkFreeze 0x28) = false) :
    Answers (.aes3Unlock r) s fun t =>
      t.on (Fld.LAP_AESR_ST_LOCK r) = false ∧ (t.aes r).hold = 8 ∧
        t.get (Fld.LAP_AESR_CNT_UNLOCKS r) = min (Fld.LAP_AESR_CNT_UNLOCKS r).max (s.get (Fld.LAP_AESR_CNT_UNLOCKS r) + 1) := by
  have hst : aesStAddr r ≠ (Fld.LAP_AESR_CNT_UNLOCKS r).addr :=
    show 0x280204 + min r.val 4 * 0x20 ≠ 0x280214 + min r.val 4 * 0x20 by omega
  have hctl : aesStAddr r ≠ (Fld.blkFreeze 0x28).addr :=
    show 0x280204 + min r.val 4 * 0x20 ≠ 0x280004 by omega
  have hcode : keyCode (Fld.LAP_AESR_CNT_UNLOCKS r).addr = 0x28 :=
    keyCode_reg (0x280214 + min r.val 4 * 0x20) _ (by omega) (by omega) (by decide)
  refine .run (exec_aes3Unlock r s) hp ?_
  rw [State.holdMost_on, State.holdMost_get, State.aes_holdMost, State.when_on _ _ _ hk]
  dsimp only
  generalize hu : (((State.flag _ (Fld.LAP_AESR_ST_LOCK r) false).put _ _).flag _ _).put (Fld.LAP_AESR_ST_VMUTED r) _ = u
  have hrd (k : Nat) (hne : aesStAddr r ≠ k) : u.rd k = s.rd k := by
    rw [← hu, State.rd_put_ne _ (Fld.LAP_AESR_ST_VMUTED r) _ _ hne, State.rd_flag_ne _ (Fld.LAP_AESR_ST_RETRACK r) _ _ hne,
      State.rd_put_ne _ (Fld.LAP_AESR_ST_RATE r) _ _ hne, State.rd_flag_ne _ (Fld.LAP_AESR_ST_LOCK r) _ _ hne]
    rfl
  have hshown : u.aesShows r false 0 false :=
    hu ▸ ((((State.aesShows_self _ r).putLock false).putRate (by decide)).putRetrack false).putVmuted 0
  obtain ⟨hlock, -, -⟩ := (hshown.of_rd (State.rd_bump_ne u (Fld.LAP_AESR_CNT_UNLOCKS r) 1 _ hst.symm)).of_rd
    (State.lockEvent_rd _ r (tellKey_aesSt r))
  obtain ⟨e, he⟩ := (u.bump (Fld.LAP_AESR_CNT_UNLOCKS r) 1).lockEvent_aes r
  refine ⟨hlock, ?_, ?_⟩
  · rw [he, State.aes_bump, ← hu, State.aes_put, State.aes_flag, State.aes_put, State.aes_flag,
      State.aes_setAes_same _ (aes_lt hl)]
  · rw [State.get_of_rd (State.lockEvent_rd _ r (tellKey_lapRow (b := 0x280214) (by decide) (by decide))),
      State.get_bump u _ ⟨Nat.zero_le 15, show 15 < 32 by decide⟩
        (by rw [hcode, State.on_of_rd (hrd _ hctl), hf]), State.get_of_rd (hrd _ hst)]

/-- AES3_RETRACK (R247). -/
theorem aes3Retrack_mutes (hp : s.powered = true) (hk : s.on (Fld.LAP_AESR_ST_LOCK r) = true)
    (ht : s.on (Fld.LAP_AESR_ST_RETRACK r) = false) (hw : withinPpm rate (s.aes r).rate 1000 = false)
    (hl : s.lap.aes.length = 4) :
    Answers (.aes3Retrack r rate) s fun t =>
      t.on (Fld.LAP_AESR_ST_RETRACK r) = true ∧ t.get (Fld.LAP_AESR_ST_RATE r) = aesRate rate ∧ (t.aes r).rate = rate := by
  refine .run (exec_aes3Retrack r rate s) hp ?_
  rw [State.holdMost_on, State.holdMost_get, State.aes_holdMost, State.when_on _ _ _ (by simp [hk, ht, hw])]
  dsimp only
  generalize hu : (State.flag _ (Fld.LAP_AESR_ST_RETRACK r) true).put _ _ = u
  have hshown : u.aesShows r (s.on (Fld.LAP_AESR_ST_LOCK r)) (aesRate rate) true :=
    hu ▸ ((State.aesShows_self _ r).putRetrack true).putRate (aesRate_lt rate)
  obtain ⟨-, hcode, hretrack⟩ := hshown.of_rd (u.lockEvent_rd r (tellKey_aesSt r))
  obtain ⟨e, he⟩ := u.lockEvent_aes r
  refine ⟨hretrack, hcode, ?_⟩
  rw [he, ← hu, State.aes_put, State.aes_flag, State.aes_setAes_same _ (aes_lt hl)]

/-- AES3_RETRACK_END (R247). -/
theorem aes3RetrackEnd_rampsIn (hp : s.powered = true) (ht : s.on (Fld.LAP_AESR_ST_RETRACK r) = true)
    (hfs : s.on (Fld.LAP_AESR_CFG_SYNC r) = false ∨ withinPpm rate s.fsMilli 100 = true) (hl : s.lap.aes.length = 4) :
    Answers (.aes3RetrackEnd r rate) s fun t =>
      t.on (Fld.LAP_AESR_ST_RETRACK r) = false ∧ (t.aes r).inR = ⟨(s.aes r).inR.value, 0x3F800000, 0, s.msSamples⟩ := by
  refine .run (exec_aes3RetrackEnd r rate s) hp ?_
  rw [State.holdMost_on, State.aes_holdMost, State.when_on _ _ _ (by simpa [ht] using hfs)]
  dsimp only
  obtain ⟨-, -, hretrack⟩ := ((State.aesShows_self (s.setAes r { s.aes r with
    rate := rate, inR := s.ramp1ms (s.aes r).inR.value fOne }) r).putRetrack false).putRate (aesRate_lt rate)
  refine ⟨hretrack, ?_⟩
  rw [State.aes_put, State.aes_flag, State.aes_setAes_same _ (aes_lt hl)]
  rfl

end

/-! ### Validity -/

theorem vmuted_ok (r : Nat) (c : Fin 2) : (Fld.vmuted r c).ok := ⟨Nat.le_refl _, show 10 + c.val < 32 by omega⟩

/-- AES3_VALIDITY_MUTE (R248). -/
theorem aes3ValidityMute_mutes {r : Fin 4} {c : Fin 2} {s : State} (hp : s.powered = true)
    (hk : s.on (Fld.LAP_AESR_ST_LOCK r) = true) (hv : s.on (Fld.LAP_AESR_CFG_VMUTE r) = true)
    (hm : s.on (Fld.vmuted r c) = false) (hn : 8 ≤ (s.aes r).vOne.getD c.val 0) :
    Answers (.aes3ValidityMute r c) s fun t => t.on (Fld.vmuted r c) = true := by
  refine .run (exec_aes3ValidityMute r c s) hp ?_
  rw [State.holdMost_on, State.when_on _ _ _ (by rw [hk, hv, hm]; simpa using hn)]
  exact State.on_flag _ _ true (vmuted_ok r c) rfl

/-- AES3_VALIDITY_UNMUTE (R248). -/
theorem aes3ValidityUnmute_unmutes {r : Fin 4} {c : Fin 2} {s : State} (hp : s.powered = true)
    (hm : s.on (Fld.vmuted r c) = true) (hn : 192 ≤ (s.aes r).vZero.getD c.val 0) :
    Answers (.aes3ValidityUnmute r c) s fun t => t.on (Fld.vmuted r c) = false := by
  refine .run (exec_aes3ValidityUnmute r c s) hp ?_
  rw [State.holdMost_on, State.when_on _ _ _ (by rw [hm]; simpa using hn)]
  exact State.on_flag _ _ false (vmuted_ok r c) rfl

/-! ### The blocks of a receiver -/

/-- What a block's words and its other marks leave until the next block's preamble is stamped (R249, R250): the block sequence, the
time, and whether the timestamp units are enabled. -/
structure State.AwaitsStamp (r : Nat) (s t : State) : Prop where
  seq : t.get (Fld.LAP_AESR_ST_BLK_SEQ r) = s.get (Fld.LAP_AESR_ST_BLK_SEQ r)
  time : t.time = s.time
  enabled : t.enabled 0x08 = s.enabled 0x08

namespace State.AwaitsStamp

variable {r : Nat} {s t u : State}

theorem refl (r : Nat) (s : State) : s.AwaitsStamp r s := ⟨rfl, rfl, rfl⟩

theorem trans (h : s.AwaitsStamp r t) (g : t.AwaitsStamp r u) : s.AwaitsStamp r u :=
  ⟨g.seq.trans h.seq, g.time.trans h.time, g.enabled.trans h.enabled⟩

theorem ite (c : Prop) [Decidable c] (h : s.AwaitsStamp r t) (g : s.AwaitsStamp r u) :
    s.AwaitsStamp r (if c then t else u) := by split <;> assumption

theorem tells (h : s.AwaitsStamp r t) (g : t.Tells u) : s.AwaitsStamp r u :=
  h.trans ⟨g.get_eq _ (tellKey_aesSt r), g.time_eq, g.on_eq _ (by decide)⟩

theorem setAes (h : s.AwaitsStamp r t) (x : AesRx) : s.AwaitsStamp r (t.setAes r x) := h.trans ⟨rfl, rfl, rfl⟩

/-- A field of the status word below the sequence. -/
theorem put (h : s.AwaitsStamp r t) {hi lo : Nat} (hlo : lo ≤ hi) (hhi : hi < 28) (v : Nat) :
    s.AwaitsStamp r (t.put ⟨aesStAddr r, hi, lo⟩ v) := by
  have hne : aesStAddr r ≠ (Fld.blkEn 0x08).addr := show 0x280204 + min r 4 * 0x20 ≠ 0x080004 by omega
  have hok : (⟨aesStAddr r, hi, lo⟩ : Fld).ok := ⟨hlo, show hi < 32 by omega⟩
  exact h.trans ⟨State.get_put_apart t _ _ v hok (.inr (.inl hhi)), rfl, State.on_put_apart t _ _ v hok (.inl hne)⟩

theorem flag (h : s.AwaitsStamp r t) {i : Nat} (hi : i < 28) (b : Bool) :
    s.AwaitsStamp r (t.flag ⟨aesStAddr r, i, i⟩ b) := h.put (Nat.le_refl i) hi _

/-- A word that is neither the status word nor the control word of the timestamp units. -/
theorem wr (h : s.AwaitsStamp r t) {k : Nat} (hst : k ≠ aesStAddr r) (hen : k ≠ 0x080004) (w : Word) :
    s.AwaitsStamp r (t.wr k w) :=
  h.trans ⟨State.get_of_rd (State.rd_wr_ne t k _ w hst), rfl, State.on_of_rd (State.rd_wr_ne t k _ w hen)⟩

/-- Words of the indirect spaces, which lie above every register (R471). -/
theorem wrList : ∀ (l : List Word) {t : State} {k : Nat}, 0x100000000 ≤ k → s.AwaitsStamp r t →
    s.AwaitsStamp r (t.wrList k l)
  | [], _, _, _, h => h
  | w :: l, _, k, hk, h => by
    have hst : k ≠ aesStAddr r := show k ≠ 0x280204 + min r 4 * 0x20 by omega
    unfold State.wrList
    exact wrList l (show 0x100000000 ≤ k + 1 by omega) (h.wr hst (by omega) w)

theorem storeCs (h : s.AwaitsStamp r t) (cs : List Word) : s.AwaitsStamp r (t.storeCs r cs) := by
  have hstored (x : AesRx) (b : Bool) := ((wrList cs (indKey_above 0x28 (0x20 * r + 0)) h).setAes x).flag (i := 9) (by decide) b
  unfold State.storeCs
  dsimp only
  exact .ite _ (.ite _ (((hstored _ _).setAes _).tells (.raise _ 34 0x28 _)) ((hstored _ _).tells (.note _ 0x28 _)))
    (hstored _ _)

end State.AwaitsStamp

/-- The stamp's words stand apart from the sequence, and its quarter nanoseconds too (R250). -/
theorem State.zStamp_seq (s : State) (r : Nat) :
    (s.zStamp r).get (Fld.LAP_AESR_ST_BLK_SEQ r) = s.get (Fld.LAP_AESR_ST_BLK_SEQ r) := by
  have hrow (f : Fld) (v : Nat) (t : State) (h : f.addr ≠ aesStAddr r) :
      (t.put f v).get (Fld.LAP_AESR_ST_BLK_SEQ r) = t.get (Fld.LAP_AESR_ST_BLK_SEQ r) :=
    State.get_of_rd (State.rd_put_ne t f v _ h)
  unfold State.zStamp
  split
  case isTrue => rfl
  case isFalse =>
    dsimp only
    refine ((State.AwaitsStamp.refl r _).put (hi := 17) (lo := 16) (by decide) (by decide) _).seq.trans ?_
    rw [hrow (Fld.LAP_AESR_TICK_TICK r) _ _ (show 0x280210 + min r 4 * 0x20 ≠ 0x280204 + min r 4 * 0x20 by omega),
      hrow (Fld.LAP_AESR_TS_LO_NS_LO r) _ _ (show 0x28020C + min r 4 * 0x20 ≠ 0x280204 + min r 4 * 0x20 by omega),
      hrow (Fld.LAP_AESR_TS_HI_NS_HI r) _ _ (show 0x280208 + min r 4 * 0x20 ≠ 0x280204 + min r 4 * 0x20 by omega)]
    rfl

/-- With the timestamp units enabled the tick in progress is recorded (R250). -/
theorem State.zStamp_tick {s : State} (r : Nat) (h : s.enabled 0x08 = true) :
    (s.zStamp r).rd (Fld.LAP_AESR_TICK_TICK r).addr = s.time.tick := by
  have hne : (Fld.LAP_AESR_ST_QNS r).addr ≠ (Fld.LAP_AESR_TICK_TICK r).addr :=
    show 0x280204 + min r 4 * 0x20 ≠ 0x280210 + min r 4 * 0x20 by omega
  unfold State.zStamp
  rw [if_neg (by simp [h])]
  dsimp only
  rw [State.rd_put_ne _ _ _ _ hne]
  exact State.rd_eq_of_get (State.get_put_word _ (Fld.LAP_AESR_TICK_TICK r) s.time.tick rfl rfl)

/-- AES3_BLOCK_END (R249, R250). -/
theorem aes3BlockEnd_stamps {r : Fin 4} {b : AesBlock} {s : State} (hp : s.powered = true)
    (hk : s.on (Fld.LAP_AESR_ST_LOCK r) = true) :
    Answers (.aes3BlockEnd r b) s fun t =>
      t.get (Fld.LAP_AESR_ST_BLK_SEQ r) = (s.get (Fld.LAP_AESR_ST_BLK_SEQ r) + 1) %
          2 ^ ((Fld.LAP_AESR_ST_BLK_SEQ r).hi + 1 - (Fld.LAP_AESR_ST_BLK_SEQ r).lo) ∧
        (s.enabled 0x08 = true → t.rd (Fld.LAP_AESR_TICK_TICK r).addr = s.time.tick) := by
  have hne : (Fld.LAP_AESR_ST_BLK_SEQ r).addr ≠ (Fld.LAP_AESR_TICK_TICK r).addr :=
    show 0x280204 + min r.val 4 * 0x20 ≠ 0x280210 + min r.val 4 * 0x20 by omega
  have huser (l : List Word) (v w : Bool) := (((State.AwaitsStamp.wrList l (indKey_above 0x28 (0x20 * r.val + 12))
    (.refl r.val s)).flag (i := 8) (by decide) v).flag (i := 12) (by decide) w)
  refine .run (exec_aes3BlockEnd r b s) hp ?_
  rw [State.holdMost_get, State.holdMost_rd, State.when_on _ _ _ hk]
  dsimp only
  generalize hu : State.setAes _ r.val _ = u
  have hw : s.AwaitsStamp r u := by
    rw [← hu]
    refine .setAes (.ite _ (.ite _ (.storeCs (huser _ _ _) _) (huser _ _ _)) (.ite _ (.storeCs (huser _ _ _) _) (huser _ _ _))) _
  refine ⟨?_, fun he => ?_⟩
  · refine (State.get_put _ _ _ ⟨show 28 ≤ 31 by decide, show 31 < 32 by decide⟩).trans ?_
    rw [State.zStamp_seq, hw.seq]
  · refine (State.rd_put_ne _ _ _ _ hne).trans ?_
    rw [State.zStamp_tick r.val (hw.enabled.trans he), hw.time]

/-! ### Transmitters -/

section
variable {n : Fin 4} {s : State}

theorem aesTxRun_ok (n : Nat) : (Fld.LAP_AEST_ST_RUN n).ok := ⟨Nat.le_refl 0, show 0 < 32 by decide⟩

theorem State.aesTx_setAesTx_same {s : State} {n : Nat} (x : AesTx) (h : n < s.lap.tx.length) :
    (s.setAesTx n x).aesTx n = x := by
  simp [State.aesTx, State.setAesTx, h]

/-- A tick's codes leave what a transmitter sends and since when (R251). -/
theorem State.aesOut_keeps (s : State) (n : Nat) (xrun : Bool) :
    (s.aesOut n xrun).1.words = (s.aesTx n).words ∧ (s.aesOut n xrun).1.since = (s.aesTx n).since := ⟨rfl, rfl⟩

/-- AES3_TX_START (R120, R251, R252). -/
theorem aes3TxStart_starts (hp : s.powered = true) (hr : s.lapRuns = true) (ha : s.audioOn = true) (he : s.aesTxOn n = true)
    (hn : s.on (Fld.LAP_AEST_ST_RUN n) = false) (hb : s.time.tick.toNat % s.blockTicks = 0)
    (hq : s.pulseBefore 2 ≥ s.lap.beganNow) (hd : s.on (Fld.PULSE_ST_REALIGN_PEND 2) = false) (hl : s.lap.tx.length = 4) :
    Answers (.aes3TxStart n) s fun t =>
      t.on (Fld.LAP_AEST_ST_RUN n) = true ∧ (t.aesTx n).words = s.aesWords n ∧
        (t.aesTx n).since = some (s.pulseBefore 2).toNat := by
  have hlt : n.val < s.lap.tx.length := Nat.lt_of_lt_of_eq n.isLt hl.symm
  refine .run (exec_aes3TxStart n s) hp ?_
  rw [State.holdMost_on, State.when_on _ _ _ (by simpa [hr, ha, he, hn, hb, hd] using hq)]
  dsimp only
  generalize hu : State.flag _ (Fld.LAP_AEST_ST_RUN n) true = u
  have hrun : u.on (Fld.LAP_AEST_ST_RUN n) = true := hu ▸ State.on_flag _ _ true (aesTxRun_ok n) rfl
  have htx : u.aesTx n = { AesTx.reset with since := some (s.pulseBefore 2).toNat, words := s.aesWords n } :=
    hu ▸ State.aesTx_setAesTx_same _ hlt
  have hkept : (u.setAesTx n (u.aesOut n false).1).aesTx n = (u.aesOut n false).1 :=
    State.aesTx_setAesTx_same _ (by rw [← hu]; simpa [State.setAesTx] using hlt)
  obtain ⟨hwords, hsince⟩ := u.aesOut_keeps n false
  exact ⟨hrun, (congrArg AesTx.words hkept).trans (hwords.trans (congrArg AesTx.words htx)),
    (congrArg AesTx.since hkept).trans (hsince.trans (congrArg AesTx.since htx))⟩

/-- AES3_TX_STOP (R251). -/
theorem aes3TxStop_stops (hp : s.powered = true) (hn : s.on (Fld.LAP_AEST_ST_RUN n) = true) (he : s.aesTxOn n = false)
    (hw : (s.aesTx n).words = []) : Answers (.aes3TxStop n) s fun t => t.on (Fld.LAP_AEST_ST_RUN n) = false := by
  refine .run (exec_aes3TxStop n s) hp ?_
  rw [State.holdMost_on, State.when_on _ _ _ (by simp [hn, he, hw])]
  exact State.on_flag _ _ false (aesTxRun_ok n) rfl

end

/-- Settles O18: what each command shows in a status word stays as shown, and what it keeps of the receiver or the transmitter
is left by the event and the telling. -/
theorem aes3PortsComplete : Obligations.Aes3PortsComplete :=
  ⟨fun _ _ _ hp hr ho hrate hk hsync hl => aes3Lock_locks hp hr ho hrate hk hsync hl,
    fun _ _ hp hk hl hf => aes3Unlock_holds hp hk hl hf,
    fun _ _ _ hp hk ht hw hl => aes3Retrack_mutes hp hk ht hw hl,
    fun _ _ _ hp ht hfs hl => aes3RetrackEnd_rampsIn hp ht hfs hl,
    fun _ _ _ hp hk hv hm hn => aes3ValidityMute_mutes hp hk hv hm hn,
    fun _ _ _ hp hm hn => aes3ValidityUnmute_unmutes hp hm hn,
    fun _ _ _ hp hk => aes3BlockEnd_stamps hp hk,
    fun _ _ hp hr ha he hn hb hq hd hl => aes3TxStart_starts hp hr ha he hn hb hq hd hl,
    fun _ _ hp hn he hw => aes3TxStop_stops hp hn he hw⟩

end Sys2Proof.Machine
end

section
/-! The test slots of the loudspeaker lines (R291 to R294, R304): what the next slot is and what it leaves, and that a line's
last valid test stands through the confirming of its class, its tracking and the next slot. -/

namespace Sys2Proof.Machine

/-! ### The registers of LINE -/

/-- Telling reaches no register of LINE. -/
theorem tellKey_line {k : Nat} (h : 0x310000 ≤ k) (h2 : k < 0x320000) : tellKey k = false := by
  have hc : keyCode k = 0x31 := keyCode_reg k 0x31 h h2 (by decide)
  have hk : k ≠ 0x20 := by omega
  simp [tellKey, hc, hk]

/-- The registers of a line are a row of LINE's (R306). -/
theorem tellKey_lineRow {b : Nat} (c : Nat) (h1 : 0x310000 ≤ b) (h2 : b < 0x31FF00) : tellKey (b + min c 8 * 0x20) = false :=
  tellKey_line (by omega) (by omega)

/-! ### The supervisor beside its registers -/

@[simp] theorem State.setLine_get (s : State) (c : Nat) (x : LineCh) (f : Fld) : (s.setLine c x).get f = s.get f := rfl
@[simp] theorem State.setLine_rd (s : State) (c : Nat) (x : LineCh) (k : Nat) : (s.setLine c x).rd k = s.rd k := rfl
@[simp] theorem State.setLine_on (s : State) (c : Nat) (x : LineCh) (f : Fld) : (s.setLine c x).on f = s.on f := rfl

/-- What is kept of a line after one is replaced. -/
theorem State.line1_setLine (s : State) (c d : Nat) (x : LineCh) :
    (s.setLine c x).line1 d = if c = d ∧ c < s.line.ch.length then x else s.line1 d := by
  unfold State.line1 State.setLine
  by_cases h : c = d
  · subst h
    by_cases hl : c < s.line.ch.length <;> simp [hl]
  · simp [h]

theorem State.line1_of_ch {s t : State} (h : t.line.ch = s.line.ch) (c : Nat) : t.line1 c = s.line1 c := by
  unfold State.line1; rw [h]

/-- Whether a line can be tested (R294, R304) is judged without the supervisor's queues. -/
theorem State.testable_withLine (s : State) (l : LineSt) : ({ s with line := l } : State).testable = s.testable := rfl

theorem State.routine_withLine (s : State) (l : LineSt) : ({ s with line := l } : State).routine = s.routine := rfl

/-- A supervisor that runs is that of a -P8. -/
theorem State.isP8_of_lineRuns {s : State} (h : s.lineRuns = true) : s.isP8 = true := by
  simp only [State.lineRuns, Bool.and_eq_true] at h
  obtain ⟨⟨⟨⟨hP8, -⟩, -⟩, -⟩, -⟩ := h
  exact hP8

theorem State.onP8_on {s : State} (g : Who) (off data : Nat) (f : State → State) (h : s.isP8 = true) :
    s.onP8 g off data f = f s := if_pos h

/-! ### The next slot -/

@[simp] theorem State.lineFlags_line (s : State) : s.lineFlags.line = s.line := by
  simp only [State.lineFlags, State.flag_line, State.put_line]

@[simp] theorem State.lineFlags_flash (s : State) : s.lineFlags.flash = s.flash := by
  simp only [State.lineFlags, State.flag_flash, State.put_flash]

/-- The queues show in LINE_STATUS alone (R305). -/
theorem State.lineFlags_rd (s : State) {k : Nat} (h : k ≠ 0x310020) : s.lineFlags.rd k = s.rd k := by
  unfold State.lineFlags
  dsimp only
  rw [State.rd_flag_ne _ Fld.LINE_STATUS_PAUSED _ _ h.symm, State.rd_flag_ne _ Fld.LINE_STATUS_WAKE_SWEEP _ _ h.symm,
    State.rd_flag_ne _ Fld.LINE_STATUS_CAL_BUSY _ _ h.symm, State.rd_put_ne _ Fld.LINE_STATUS_SLOT_CH _ _ h.symm,
    State.rd_flag_ne _ Fld.LINE_STATUS_SLOT_BUSY _ _ h.symm]

/-- The next slot moves the queues and shows them: the lines themselves and the calibrations that wait stay. -/
theorem State.nextSlot_eq (s : State) :
    ∃ l : LineSt, s.nextSlot = ({ s with line := l } : State).lineFlags ∧ l.ch = s.line.ch ∧ l.cal = s.line.cal := by
  unfold State.nextSlot
  dsimp only
  split
  case isTrue => exact ⟨_, rfl, rfl, rfl⟩
  case isFalse =>
    split
    case h_1 => exact ⟨_, rfl, rfl, rfl⟩
    case h_2 =>
      split
      case h_1 => exact ⟨_, rfl, rfl, rfl⟩
      case h_2 =>
        split
        case h_1 => exact ⟨_, rfl, rfl, rfl⟩
        case h_2 => split <;> exact ⟨_, rfl, rfl, rfl⟩

theorem State.nextSlot_cal (s : State) : s.nextSlot.line.cal = s.line.cal := by
  obtain ⟨l, he, -, hcal⟩ := s.nextSlot_eq
  rw [he]
  exact hcal

/-- No calibration runs where none waits (R302). -/
theorem State.calNow_none {s : State} (h : s.line.cal = []) : s.calNow = none := by
  unfold State.calNow; rw [h]; exact ite_self _

/-- No line waits for a wake sweep where none is left in it (R304). -/
theorem State.sweepLeft_nil {s : State} (h : s.line.sweep = []) : s.sweepLeft = [] := by
  unfold State.sweepLeft; rw [h]; rfl

section
variable {s : State} {c : Nat}

/-- With no calibration waiting, the first line asked for that can be tested has the next slot (R294). -/
theorem State.nextSlot_asked (hs : s.line.slot = none) (hc : s.line.cal = []) (hf : s.line.asked.find? s.testable = some c) :
    s.nextSlot.line.slot = some (c, .asked) := by
  simp only [State.nextSlot, hs, State.calNow_none hc, hf, Option.isSome_none, Bool.false_eq_true, if_false]
  rfl

/-- With nothing else waiting, the first line of the round that takes part in it has the next slot (R294). -/
theorem State.nextSlot_round (hs : s.line.slot = none) (hc : s.line.cal = []) (ha : s.line.asked = [])
    (hw : s.line.sweep = []) (hf : s.line.left.find? s.routine = some c) :
    s.nextSlot.line.slot = some (c, .round) ∧ s.nextSlot.line.inRound = true := by
  have hany : s.line.left.any s.routine = true :=
    List.any_eq_true.mpr ⟨c, List.mem_of_find?_eq_some hf, List.find?_some hf⟩
  simp only [State.nextSlot, hs, State.calNow_none hc, ha, State.sweepLeft_nil hw, hany, hf, List.find?_nil,
    Option.isSome_none, Bool.not_true, Bool.false_and, Bool.false_eq_true, if_false]
  exact ⟨rfl, rfl⟩

end

/-! ### A line's last valid test -/

/-- What a line shows and keeps of its last test, and its count of invalid ones. -/
structure State.KeepsTest (c : Nat) (s t : State) : Prop where
  zmeas : t.get (Fld.LINE_CH_ZMEAS_MAG c) = s.get (Fld.LINE_CH_ZMEAS_MAG c)
  stale : t.on (Fld.LINE_CH_ST_STALE c) = s.on (Fld.LINE_CH_ST_STALE c)
  tests : t.get (Fld.LINE_CH_CNT_TESTS c) = s.get (Fld.LINE_CH_CNT_TESTS c)
  invalid : t.get (Fld.LINE_CH_CNT_INVALID c) = s.get (Fld.LINE_CH_CNT_INVALID c)
  lastValid : (t.line1 c).lastValid = (s.line1 c).lastValid

namespace State.KeepsTest

variable {c : Nat} {s t u : State}

theorem refl (s : State) : s.KeepsTest c s := ⟨rfl, rfl, rfl, rfl, rfl⟩

theorem trans (h : s.KeepsTest c t) (g : t.KeepsTest c u) : s.KeepsTest c u :=
  ⟨g.zmeas.trans h.zmeas, g.stale.trans h.stale, g.tests.trans h.tests, g.invalid.trans h.invalid,
    g.lastValid.trans h.lastValid⟩

theorem ite (b : Prop) [Decidable b] (h : s.KeepsTest c t) (g : s.KeepsTest c u) :
    s.KeepsTest c (if b then t else u) := by split <;> assumption

theorem tells (h : s.Tells t) : s.KeepsTest c t :=
  ⟨h.get_eq _ (tellKey_lineRow c (by decide) (by decide)), h.on_eq _ (tellKey_lineRow c (by decide) (by decide)),
    h.get_eq _ (tellKey_lineRow c (by decide) (by decide)), h.get_eq _ (tellKey_lineRow c (by decide) (by decide)),
    by rw [State.line1_of_ch (congrArg LineSt.ch h.line_eq)]⟩

/-- A change of the queues alone. -/
theorem queues (s : State) {l : LineSt} (h : l.ch = s.line.ch) : s.KeepsTest c { s with line := l } :=
  ⟨rfl, rfl, rfl, rfl, by rw [State.line1_of_ch (s := s) h]⟩

/-- The line's other data replaced. -/
theorem setLine (s : State) {x : LineCh} (h : x.lastValid = (s.line1 c).lastValid) : s.KeepsTest c (s.setLine c x) := by
  refine ⟨rfl, rfl, rfl, rfl, ?_⟩
  rw [State.line1_setLine]
  split
  case isTrue => exact h
  case isFalse => rfl

/-- A field apart from those of the test. -/
theorem put (s : State) {f : Fld} (v : Nat) (hok : f.ok) (hz : f.apart (Fld.LINE_CH_ZMEAS_MAG c))
    (hs : f.apart (Fld.LINE_CH_ST_STALE c)) (ht : f.apart (Fld.LINE_CH_CNT_TESTS c))
    (hi : f.apart (Fld.LINE_CH_CNT_INVALID c)) : s.KeepsTest c (s.put f v) :=
  ⟨State.get_put_apart s f _ v hok hz, State.on_put_apart s f _ v hok hs, State.get_put_apart s f _ v hok ht,
    State.get_put_apart s f _ v hok hi, rfl⟩

/-- CLASS and DRIFT stand below STALE. -/
theorem putSt (s : State) {hi lo : Nat} (hlo : lo ≤ hi) (hhi : hi < 6) (v : Nat) :
    s.KeepsTest c (s.put ⟨0x310118 + min c 8 * 0x20, hi, lo⟩ v) :=
  put s v ⟨hlo, show hi < 32 by omega⟩ (.inl (show 0x310118 + min c 8 * 0x20 ≠ 0x310110 + min c 8 * 0x20 by omega))
    (.inr (.inl hhi)) (.inl (show 0x310118 + min c 8 * 0x20 ≠ 0x31011C + min c 8 * 0x20 by omega))
    (.inl (show 0x310118 + min c 8 * 0x20 ≠ 0x31011C + min c 8 * 0x20 by omega))

/-- FAULTS stands below the other counts. -/
theorem bumpFaults (s : State) (n : Nat) : s.KeepsTest c (s.bump (Fld.LINE_CH_CNT_FAULTS c) n) := by
  unfold State.bump
  exact ite _ (refl s) (put s _ ⟨show 0 ≤ 7 by decide, show 7 < 32 by decide⟩
    (.inl (show 0x31011C + min c 8 * 0x20 ≠ 0x310110 + min c 8 * 0x20 by omega))
    (.inl (show 0x31011C + min c 8 * 0x20 ≠ 0x310118 + min c 8 * 0x20 by omega))
    (.inr (.inl (show 7 < 16 by decide))) (.inr (.inl (show 7 < 8 by decide))))

/-- The tracked value has a word of its own. -/
theorem putTracked (s : State) (v : Nat) : s.KeepsTest c (s.put (Fld.LINE_CH_ZTRK_MAG c) v) :=
  put s v ⟨show 0 ≤ 23 by decide, show 23 < 32 by decide⟩
    (.inl (show 0x310114 + min c 8 * 0x20 ≠ 0x310110 + min c 8 * 0x20 by omega))
    (.inl (show 0x310114 + min c 8 * 0x20 ≠ 0x310118 + min c 8 * 0x20 by omega))
    (.inl (show 0x310114 + min c 8 * 0x20 ≠ 0x31011C + min c 8 * 0x20 by omega))
    (.inl (show 0x310114 + min c 8 * 0x20 ≠ 0x31011C + min c 8 * 0x20 by omega))

theorem lineFlags (s : State) : s.KeepsTest c s.lineFlags :=
  ⟨State.get_of_rd (s.lineFlags_rd (show 0x310110 + min c 8 * 0x20 ≠ 0x310020 by omega)),
    State.on_of_rd (s.lineFlags_rd (show 0x310118 + min c 8 * 0x20 ≠ 0x310020 by omega)),
    State.get_of_rd (s.lineFlags_rd (show 0x31011C + min c 8 * 0x20 ≠ 0x310020 by omega)),
    State.get_of_rd (s.lineFlags_rd (show 0x31011C + min c 8 * 0x20 ≠ 0x310020 by omega)),
    by rw [State.line1_of_ch (congrArg LineSt.ch s.lineFlags_line)]⟩

theorem nextSlot (s : State) : s.KeepsTest c s.nextSlot := by
  obtain ⟨l, he, hch, -⟩ := s.nextSlot_eq
  rw [he]
  exact .trans (queues s hch) (lineFlags _)

/-- The class of a line set (R297). -/
theorem setClass (s : State) (cls : Nat) (z : LineZ) : s.KeepsTest c (s.setClass c cls z) := by
  have hput : s.KeepsTest c (s.put (Fld.LINE_CH_ST_CLASS c) cls) := putSt s (by decide) (by decide) cls
  unfold State.setClass
  exact ite _ (refl s) (ite _ (ite _ hput (hput.trans (tells (.note _ 0x31 _))))
    ((hput.trans (bumpFaults _ 1)).trans (tells (.raise _ _ 0x31 _))))

theorem confirmClass (s : State) (cls : Nat) (z : LineZ) : s.KeepsTest c (s.confirmClass c cls z) := by
  have hset (p : Nat × Nat) : s.KeepsTest c (s.setLine c { s.line1 c with streak := p }) := setLine s rfl
  unfold State.confirmClass
  exact ite _ (.trans (hset _) (setClass _ cls z)) (hset _)

theorem judgeDrift (s : State) (z : LineZ) : s.KeepsTest c (s.judgeDrift c z) := by
  have hflag (u : State) (b : Bool) : u.KeepsTest c (u.flag (Fld.LINE_CH_ST_DRIFT c) b) := putSt u (by decide) (by decide) _
  unfold State.judgeDrift
  exact ite _ (.trans (.trans (putTracked s _) (hflag _ true)) (tells (.raise _ 45 0x31 _)))
    (ite _ (.trans (putTracked s _) (hflag _ false)) (putTracked s _))

theorem track (s : State) (z : LineZ) : s.KeepsTest c (s.track c z) := by
  have hset (w : LineZ) (n : Nat) : s.KeepsTest c (s.setLine c { s.line1 c with zt := w, moved := n }) := setLine s rfl
  unfold State.track
  exact .trans (hset _ _) (judgeDrift _ z)

end State.KeepsTest

end Sys2Proof.Machine
end

section
/-! Rounds, slots and the age of a line's test (R291 to R294). -/

namespace Sys2Proof.Machine

/-! ### A valid test -/

/-- What a valid test has measured, as its line's registers show it (R306). -/
def State.showTest (s : State) (c : Nat) (z : LineZ) : State :=
  (s.put (Fld.LINE_CH_ZMEAS_MAG c) (magReg z)).putS (Fld.LINE_CH_ZPH_MEAS_PH c) (angleOf z.re z.im)

/-- A line as a valid test marks it, before its class is confirmed (R293, R306). -/
def State.markTest (s : State) (c : Nat) (z : LineZ) : State :=
  (((s.showTest c z).bump (Fld.LINE_CH_CNT_TESTS c) 1).flag (Fld.LINE_CH_ST_STALE c) false).setLine c
    { (s.showTest c z).line1 c with lastValid := (s.showTest c z).time.now }

/-- The class and the tracked value follow upon the mark (R296, R297, R303). -/
theorem State.KeepsTest.goodTest (s : State) (c : Nat) (z : LineZ) : (s.markTest c z).KeepsTest c (s.goodTest c z) :=
  .trans (.confirmClass _ (s.lineClass c z) z) (.ite _ (.track _ z) (.refl _))

theorem magReg_lt (z : LineZ) : magReg z < 2 ^ 24 := by unfold magReg; omega

/-- The counters of a line are LINE's. -/
theorem keyCode_lineCnt (c : Nat) : keyCode (0x31011C + min c 8 * 0x20) = 0x31 :=
  keyCode_reg _ _ (by omega) (by omega) (by decide)

/-- A line's counter is in its own word, apart from BLK_CTRL (R305, R306). -/
theorem State.get_bump_line {s t : State} {c hi lo : Nat} (hlo : lo ≤ hi) (hhi : hi < 32)
    (hf : t.on (Fld.blkFreeze 0x31) = s.on (Fld.blkFreeze 0x31))
    (hr : t.rd (0x31011C + min c 8 * 0x20) = s.rd (0x31011C + min c 8 * 0x20))
    (hz : s.on (Fld.blkFreeze 0x31) = false) :
    (t.bump ⟨0x31011C + min c 8 * 0x20, hi, lo⟩ 1).get ⟨0x31011C + min c 8 * 0x20, hi, lo⟩ =
      min (Fld.max ⟨0x31011C + min c 8 * 0x20, hi, lo⟩) (s.get ⟨0x31011C + min c 8 * 0x20, hi, lo⟩ + 1) := by
  rw [State.get_bump t _ ⟨hlo, hhi⟩ (by rw [keyCode_lineCnt, hf, hz]), State.get_of_rd hr]

section
variable {s : State} {c : Nat} {z : LineZ}

theorem State.showTest_rd {k : Nat} (hz : 0x310110 + min c 8 * 0x20 ≠ k) (hp : 0x31010C + min c 8 * 0x20 ≠ k) :
    (s.showTest c z).rd k = s.rd k :=
  (State.rd_put_ne _ (Fld.LINE_CH_ZPH_MEAS_PH c) _ _ hp).trans (State.rd_put_ne s (Fld.LINE_CH_ZMEAS_MAG c) _ _ hz)

theorem State.showTest_zmeas : (s.showTest c z).get (Fld.LINE_CH_ZMEAS_MAG c) = magReg z :=
  (State.get_of_rd (f := Fld.LINE_CH_ZMEAS_MAG c) (State.rd_put_ne _ (Fld.LINE_CH_ZPH_MEAS_PH c) _ _
    (show 0x31010C + min c 8 * 0x20 ≠ 0x310110 + min c 8 * 0x20 by omega))).trans
  ((State.get_put _ _ _ ⟨show 0 ≤ 23 by decide, show 23 < 32 by decide⟩).trans (Nat.mod_eq_of_lt (magReg_lt z)))

@[simp] theorem State.showTest_line : (s.showTest c z).line = s.line := by
  rw [State.showTest, State.putS_line, State.put_line]

@[simp] theorem State.showTest_time : (s.showTest c z).time = s.time := by
  rw [State.showTest, State.putS_time, State.put_time]

theorem State.markTest_zmeas : (s.markTest c z).get (Fld.LINE_CH_ZMEAS_MAG c) = magReg z := by
  have hrd : (s.markTest c z).rd (0x310110 + min c 8 * 0x20) = (s.showTest c z).rd (0x310110 + min c 8 * 0x20) := by
    rw [State.markTest, State.setLine_rd,
      State.rd_flag_ne _ (Fld.LINE_CH_ST_STALE c) _ _ (show 0x310118 + min c 8 * 0x20 ≠ _ by omega),
      State.rd_bump_ne _ (Fld.LINE_CH_CNT_TESTS c) _ _ (show 0x31011C + min c 8 * 0x20 ≠ _ by omega)]
  exact (State.get_of_rd (f := Fld.LINE_CH_ZMEAS_MAG c) hrd).trans State.showTest_zmeas

theorem State.markTest_stale : (s.markTest c z).on (Fld.LINE_CH_ST_STALE c) = false :=
  (State.setLine_on _ c _ _).trans (State.on_flag _ _ false ⟨show 6 ≤ 6 by decide, show 6 < 32 by decide⟩ rfl)

theorem State.markTest_lastValid (h : c < s.line.ch.length) : ((s.markTest c z).line1 c).lastValid = s.time.now := by
  rw [State.markTest, State.line1_setLine, State.flag_line, State.bump_line, State.showTest_line, if_pos ⟨rfl, h⟩,
    State.showTest_time]

theorem State.markTest_tests (h : s.on (Fld.blkFreeze 0x31) = false) :
    (s.markTest c z).get (Fld.LINE_CH_CNT_TESTS c) =
      min (Fld.LINE_CH_CNT_TESTS c).max (s.get (Fld.LINE_CH_CNT_TESTS c) + 1) := by
  rw [State.markTest, State.setLine_get, State.get_flag_apart _ (Fld.LINE_CH_ST_STALE c) (Fld.LINE_CH_CNT_TESTS c) _
    ⟨show 6 ≤ 6 by decide, show 6 < 32 by decide⟩
    (.inl (show 0x310118 + min c 8 * 0x20 ≠ 0x31011C + min c 8 * 0x20 by omega))]
  exact State.get_bump_line (by decide) (by decide) (State.on_of_rd (State.showTest_rd
    (show _ ≠ 0x310004 by omega) (show _ ≠ 0x310004 by omega))) (State.showTest_rd (by omega) (by omega)) h

end

/-! ### The commands -/

section
variable {s : State}

/-- LINE_ROUND_START while a round runs (R294): the one that falls due waits. -/
theorem lineRoundStart_waits (hp : s.powered = true) (hr : s.lineRuns = true) (ha : s.audioOn = true)
    (ht : s.line.roundAt + s.roundNs ≤ s.time.now) (hi : s.line.inRound = true) :
    Answers .lineRoundStart s fun t => t.line.due = true := by
  refine .run (exec_lineRoundStart s) hp ?_
  rw [State.holdMost_line, State.when_on _ _ _ (by simp [hr, ha, ht])]
  dsimp only
  rw [if_pos hi]

/-- LINE_ROUND_START with nothing else waiting (R294): the first line that takes part is tested. -/
theorem lineRoundStart_begins {c : Nat} (hp : s.powered = true) (hr : s.lineRuns = true) (ha : s.audioOn = true)
    (ht : s.line.roundAt + s.roundNs ≤ s.time.now) (hi : s.line.inRound = false) (hs : s.line.slot = none)
    (hcal : s.line.cal = []) (hask : s.line.asked = []) (hsw : s.line.sweep = [])
    (hf : (List.range 8).find? s.routine = some c) :
    Answers .lineRoundStart s fun t => t.line.slot = some (c, .round) ∧ t.line.inRound = true := by
  refine .run (exec_lineRoundStart s) hp ?_
  rw [State.holdMost_line, State.when_on _ _ _ (by simp [hr, ha, ht])]
  dsimp only
  rw [if_neg (by simp [hi])]
  exact State.nextSlot_round hs hcal hask hsw (by rw [State.routine_withLine]; exact hf)

/-- LINE_TEST_NOW (R294): the first line asked for that can be tested has the slot. -/
theorem lineTestNow_opens {g : Agent} {mask : BitVec 8} {c : Nat} (hp : s.powered = true) (hr : s.lineRuns = true)
    (hs : s.line.slot = none) (hcal : s.line.cal = []) (hask : s.line.asked = [])
    (hf : (List.range 8).find? (fun d => mask.toNat.testBit d && s.testable d) = some c) :
    Answers (.lineTestNow g mask) s fun t => t.line.slot = some (c, .asked) := by
  refine .run (exec_lineTestNow g mask s) hp ?_
  rw [State.holdMost_line, State.onP8_on _ _ _ _ (State.isP8_of_lineRuns hr), State.testNow, if_neg (by simp [hr])]
  refine State.nextSlot_asked hs hcal ?_
  rw [State.testable_withLine]
  dsimp only
  rw [hask, List.nil_append, List.find?_filter, ← hf]
  congr 1
  funext d
  cases s.testable d <;> simp

/-- LINE_TEST_SLOT_END of a valid test (R292, R293). -/
theorem lineTestSlotEnd_shows {x : LineTest} {c : Fin 8} (hp : s.powered = true) (hs : s.line.slot = some (c.val, .round))
    (hd : s.slotDone = true) (hx : x.content = false)
    (hclip : (if x.eightOhms then s.line.clip94 else s.line.clip93) = false) (hb : s.line.bad = false)
    (ht : s.testable c = true) (hl : s.line.ch.length = 8) (hf : s.on (Fld.blkFreeze 0x31) = false) :
    Answers (.lineTestSlotEnd x) s fun t =>
      t.get (Fld.LINE_CH_ZMEAS_MAG c) = magReg (s.measuredZ c x.m) ∧ t.on (Fld.LINE_CH_ST_STALE c) = false ∧
        (t.line1 c).lastValid = s.time.now ∧ t.get (Fld.LINE_CH_CNT_TESTS c) =
          min (Fld.LINE_CH_CNT_TESTS c).max (s.get (Fld.LINE_CH_CNT_TESTS c) + 1) := by
  have hlt : c.val < s.dropSlot.line.ch.length := Nat.lt_of_lt_of_eq c.isLt hl.symm
  have hk := (State.KeepsTest.goodTest s.dropSlot c (s.measuredZ c x.m)).trans (.nextSlot _)
  refine .run (exec_lineTestSlotEnd x s) hp ?_
  simp only [hs, State.when_on _ _ _ hd, hx, hclip, hb, ht, Bool.not_false, Bool.and_self, if_true, reduceCtorEq, if_false]
  exact ⟨hk.zmeas.trans State.markTest_zmeas, hk.stale.trans State.markTest_stale,
    hk.lastValid.trans (State.markTest_lastValid hlt), hk.tests.trans (State.markTest_tests hf)⟩

/-- LINE_TEST_SLOT_END with content near the pilot (R293): the test counts as invalid. -/
theorem lineTestSlotEnd_counts {x : LineTest} {c : Fin 8} (hp : s.powered = true) (hs : s.line.slot = some (c.val, .round))
    (hd : s.slotDone = true) (hx : x.content = true) (hf : s.on (Fld.blkFreeze 0x31) = false) :
    Answers (.lineTestSlotEnd x) s fun t =>
      t.get (Fld.LINE_CH_CNT_INVALID c) =
          min (Fld.LINE_CH_CNT_INVALID c).max (s.get (Fld.LINE_CH_CNT_INVALID c) + 1) ∧
        t.get (Fld.LINE_CH_ZMEAS_MAG c) = s.get (Fld.LINE_CH_ZMEAS_MAG c) := by
  have hk := State.KeepsTest.nextSlot (c := c) (s.dropSlot.bump (Fld.LINE_CH_CNT_INVALID c) 1)
  refine .run (exec_lineTestSlotEnd x s) hp ?_
  simp only [hs, State.when_on _ _ _ hd, hx, Bool.not_true, Bool.false_and, Bool.false_eq_true, if_false, reduceCtorEq]
  exact ⟨hk.invalid.trans (State.get_bump_line (s := s) (by decide) (by decide) rfl rfl hf),
    hk.zmeas.trans (State.get_of_rd (State.rd_bump_ne s.dropSlot (Fld.LINE_CH_CNT_INVALID c) 1 _
      (show 0x31011C + min c.val 8 * 0x20 ≠ 0x310110 + min c.val 8 * 0x20 by omega)))⟩

/-- LINE_STALE (R293). -/
theorem lineStale_marks {c : Fin 8} (hp : s.powered = true) (h8 : s.isP8 = true)
    (ht : s.time.now ≥ (s.line1 c).lastValid + 3 * s.get Fld.LINE_CFG_TEST_S * 1000000000) :
    Answers (.lineStale c) s fun t => t.on (Fld.LINE_CH_ST_STALE c) = true := by
  refine .run (exec_lineStale c s) hp ?_
  rw [State.holdMost_on, State.when_on _ _ _ (by simpa [h8] using ht)]
  exact State.on_flag _ _ true ⟨show 6 ≤ 6 by decide, show 6 < 32 by decide⟩ rfl

end

/-- Settles O22: the next slot is that of the first line that waits, and what a test has shown stands through the slot that
follows it. -/
theorem lineTestsComplete : Obligations.LineTestsComplete :=
  ⟨fun _ hp hr ha ht hi => lineRoundStart_waits hp hr ha ht hi,
    fun _ _ hp hr ha ht hi hs hcal hask hsw hf => lineRoundStart_begins hp hr ha ht hi hs hcal hask hsw hf,
    fun _ _ _ _ hp hr hs hcal hask hf => lineTestNow_opens hp hr hs hcal hask hf,
    fun _ _ _ hp hs hd hx hclip hb ht hl hf => lineTestSlotEnd_shows hp hs hd hx hclip hb ht hl hf,
    fun _ _ _ hp hs hd hx hf => lineTestSlotEnd_counts hp hs hd hx hf,
    fun _ _ hp h8 ht => lineStale_marks hp h8 ht⟩

end Sys2Proof.Machine
end

section
/-! Earth faults are measured and located (R300, R301), and lines calibrated (R302). The fields of LINE_EF_ST lie apart from one
another in its word, which telling does not reach. -/

namespace Sys2Proof.Machine

/-! ### Earth faults -/

theorem risoOf_lt (a : Nat) : risoOf a < 2 ^ 16 := by unfold risoOf; split <;> omega

/-- The supervisor's queues stand beside the registers. -/
theorem State.get_withLine (s : State) (l : LineSt) (f : Fld) : ({ s with line := l } : State).get f = s.get f := rfl

theorem State.efStart_riso (s : State) : s.efStart.get Fld.LINE_EF_ST_RISO = s.get Fld.LINE_EF_ST_RISO := by
  unfold State.efStart State.efWide
  split
  case isTrue => rfl
  case isFalse =>
    dsimp only
    rw [State.get_flag_apart _ Fld.LINE_EF_ST_LOCATING _ _ (by decide) (by decide),
      State.get_flag_apart _ Fld.LINE_EF_ST_MODULE_WIDE _ _ (by decide) (by decide), State.get_withLine,
      State.get_flag_apart _ Fld.LINE_EF_ST_LOC_VALID _ _ (by decide) (by decide), State.get_withLine]

/-- A location that begins steps the lines that it can, and without one is MODULE_WIDE (R301). -/
theorem State.efStart_begins {s : State} (h : s.on Fld.LINE_EF_ST_LOCATING = false) :
    s.efStart.line.steps = s.efLines ∧ s.efStart.on Fld.LINE_EF_ST_LOCATING = !s.efLines.isEmpty ∧
      s.efStart.on Fld.LINE_EF_ST_MODULE_WIDE = s.efLines.isEmpty := by
  have hnil : decide (s.efLines = []) = s.efLines.isEmpty := by cases s.efLines <;> rfl
  unfold State.efStart State.efWide
  rw [if_neg (by simp [h]), ← hnil, ← decide_not]
  refine ⟨rfl, State.on_flag _ _ _ (by decide) rfl, ?_⟩
  exact (State.on_flag_apart _ _ _ _ (by decide) (by decide)).trans (State.on_flag _ _ _ (by decide) rfl)

section
variable {s : State} {a : Nat}

/-- EARTH_FAULT_MEASURE (R300): neither the fault nor the location that its onset starts changes what is shown. -/
theorem earthFaultMeasure_shows (hp : s.powered = true) (hr : s.lineRuns = true) (he : s.on Fld.LINE_EF_EN = true)
    (ht : s.line.efAt + 2000000000 ≤ s.time.now) :
    Answers (.earthFaultMeasure a) s fun t => t.get Fld.LINE_EF_ST_RISO = risoOf a := by
  refine .run (exec_earthFaultMeasure a s) hp ?_
  rw [State.holdMost_get, State.when_on _ _ _ (by simp [hr, he, ht])]
  dsimp only
  generalize hu : State.put _ Fld.LINE_EF_ST_RISO (risoOf a) = u
  have hriso : u.get Fld.LINE_EF_ST_RISO = risoOf a :=
    hu ▸ (State.get_put _ _ _ (by decide)).trans (Nat.mod_eq_of_lt (risoOf_lt a))
  have hfault (b : Bool) : (u.flag Fld.LINE_EF_ST_EARTH_FAULT b).get Fld.LINE_EF_ST_RISO = risoOf a :=
    (State.get_flag_apart u _ _ b (by decide) (by decide)).trans hriso
  refine iteInduction (motive := fun t : State => t.get Fld.LINE_EF_ST_RISO = risoOf a) (fun _ => ?_) fun _ =>
    iteInduction (motive := fun t : State => t.get Fld.LINE_EF_ST_RISO = risoOf a) (fun _ => ?_) fun _ => hriso
  · rw [State.efStart_riso, (State.Tells.raise _ 44 0x31 _).get_eq _ (by decide), hfault]
  · rw [(State.Tells.note _ 0x31 _).get_eq _ (by decide), hfault]

/-- EF_LOCATE (R301). -/
theorem efLocate_begins {g : Agent} (hp : s.powered = true) (hr : s.lineRuns = true) (he : s.on Fld.LINE_EF_EN = true)
    (hl : s.on Fld.LINE_EF_ST_LOCATING = false) :
    Answers (.efLocate g) s fun t =>
      t.line.steps = s.efLines ∧ t.on Fld.LINE_EF_ST_LOCATING = !s.efLines.isEmpty ∧
        t.on Fld.LINE_EF_ST_MODULE_WIDE = s.efLines.isEmpty := by
  refine .run (exec_efLocate g s) hp ?_
  rw [State.holdMost_line, State.holdMost_on, State.holdMost_on, State.onP8_on _ _ _ _ (State.isP8_of_lineRuns hr),
    State.efLocateCmd, if_pos (by simp [hr, he])]
  exact State.efStart_begins hl

/-- EF_LOCATE_STEP_END (R301): the step that shows the fault names its line. -/
theorem efLocateStepEnd_names {d : Int} {c : Nat} {rest : List Nat} (hp : s.powered = true)
    (hl : s.on Fld.LINE_EF_ST_LOCATING = true) (ht : s.line.stepAt + 4000000000 ≤ s.time.now)
    (hs : s.line.steps = c :: rest) (hc : s.efLines.contains c = true) (hd : 10 * d.natAbs ≥ 5000000 - a) :
    Answers (.efLocateStepEnd d a) s fun t =>
      t.get Fld.LINE_EF_ST_LOC = c ∧ t.on Fld.LINE_EF_ST_LOC_VALID = true ∧ t.on Fld.LINE_EF_ST_LOCATING = false := by
  have hlt : c < 8 := List.mem_range.mp (List.mem_filter.mp (List.contains_iff_mem.mp hc)).1
  refine .run (exec_efLocateStepEnd d a s) hp ?_
  rw [State.holdMost_get, State.holdMost_on, State.holdMost_on, State.when_on _ _ _ (by simp [hl, ht])]
  simp only [hs, hc, hd, decide_true, Bool.and_self, if_true]
  refine ⟨?_, ?_, State.on_flag _ _ false (by decide) rfl⟩
  · rw [State.get_flag_apart _ _ _ _ (by decide) (by decide), State.get_flag_apart _ _ _ _ (by decide) (by decide),
      State.get_put _ _ _ (by decide)]
    exact Nat.mod_eq_of_lt hlt
  · exact (State.on_flag_apart _ _ _ _ (by decide) (by decide)).trans (State.on_flag _ _ true (by decide) rfl)

end

/-! ### Calibration -/

/-- An entry without an event reaches nothing of the supervisor (R478). -/
theorem State.logNote_line (s : State) (code sub org : Nat) (dw : List Nat) :
    (s.logNote code sub org dw).line = s.line := by
  have hcount : (s.countDiscard org).line = s.line := by unfold State.countDiscard; split <;> rfl
  unfold State.logNote
  rw [(State.Tells.logPut _ _).line_eq]
  split
  · exact hcount
  · rfl

/-- A line that CAL names in MAINTENANCE, and that can be tested, is among the calibrations (R302). -/
theorem State.calCmd_joins {s : State} {mask c : Nat} (g : Who) (hb : mask.testBit c = true) (hc : c < 8)
    (hm : s.mode = modeMaintenance) (ht : s.testable c = true) : (s.calCmd g mask).line.cal.contains c = true := by
  have hmask : mask % 256 ≠ 0 := fun h0 => by
    have hbit := Nat.testBit_mod_two_pow mask 8 c
    rw [show mask % 2 ^ 8 = 0 from h0, hb, Nat.zero_testBit] at hbit
    simp [hc] at hbit
  unfold State.calCmd
  rw [if_neg hmask]
  dsimp only
  rw [State.nextSlot_cal]
  dsimp only
  rw [apply_ite State.line, State.logNote_line, State.flag_line, ite_self]
  by_cases hin : c ∈ s.line.cal
  · simp [hin]
  · simp [hb, hm, ht, hc, hin]

section
variable {s : State} {c : Fin 8}

/-- LINE_CAL (R302). -/
theorem lineCal_joins {g : Agent} {mask : BitVec 8} (hp : s.powered = true) (hr : s.lineRuns = true)
    (hm : s.mode = modeMaintenance) (hb : mask.getLsbD c = true) (ht : s.testable c = true) :
    Answers (.lineCal g mask) s fun t => t.line.cal.contains c.val = true := by
  refine .run (exec_lineCal g mask s) hp ?_
  rw [State.holdMost_line, State.onP8_on _ _ _ _ (State.isP8_of_lineRuns hr)]
  exact State.calCmd_joins g.who hb c.isLt hm ht

/-- LINE_CAL_STORED (R302): the reference has gone from those that wait to the flash. -/
theorem lineCalStored_stores (hp : s.powered = true) (hc : s.line.store.contains c.val = true) :
    Answers (.lineCalStored c) s fun t =>
      t.line.store.contains c.val = false ∧ t.flash.lines.head? = some (c.val, (s.line1 c).zref) := by
  refine .run (exec_lineCalStored c s) hp ?_
  rw [State.holdMost_line, State.holdMost_flash, State.when_on _ _ _ hc]
  dsimp only
  rw [State.lineFlags_line, State.lineFlags_flash, (State.Tells.note _ 0x31 _).line_eq, (State.Tells.note _ 0x31 _).flash_eq]
  exact ⟨by simp, rfl⟩

end

/-- Settles O23: what is measured and located stands in LINE_EF_ST, and the calibrations and the flash are left by the next
slot and the telling. -/
theorem earthAndCalibrationComplete : Obligations.EarthAndCalibrationComplete :=
  ⟨fun _ _ hp hr he ht => earthFaultMeasure_shows hp hr he ht,
    fun _ _ hp hr he hl => efLocate_begins hp hr he hl,
    fun _ _ _ _ _ hp hl ht hs hc hd => efLocateStepEnd_names hp hl ht hs hc hd,
    fun _ _ _ _ hp hr hm hb ht => lineCal_joins hp hr hm hb ht,
    fun _ _ hp hc => lineCalStored_stores hp hc⟩

end Sys2Proof.Machine
end
